-- ==== Sys2Proof/Word.lean ====
section
/-! DEFINITION. The plainest types: a byte, byte strings in both byte orders, and the sparse tables in which the
model holds every numbered unit (a bar, a lane, an object, a byte of DRAM). -/
namespace Sys2Proof

/-- One byte of a message, a table or a code page. -/
abbrev Byte := BitVec 8

/-- A byte string in the order of transmission or of rising address. -/
abbrev Bytes := List Byte

/-- The byte whose value is `n` modulo 256. -/
def byte (n : Nat) : Byte := BitVec.ofNat 8 n

/-- The number a little-endian byte string stands for (R9). -/
def leNat : Bytes → Nat
  | [] => 0
  | b :: bs => b.toNat + 256 * leNat bs

/-- `n` in `k` little-endian bytes (R9). -/
def leBytes : Nat → Nat → Bytes
  | 0, _ => []
  | k + 1, n => byte n :: leBytes k (n / 256)

/-- The number a big-endian byte string stands for (R35). -/
def beNat (bs : Bytes) : Nat := bs.foldl (fun a b => a * 256 + b.toNat) 0

/-- `n` in `k` big-endian bytes (R35). -/
def beBytes (k n : Nat) : Bytes := (leBytes k n).reverse

/-- `k` bytes of `bs` from offset `i`, padded with zero bytes where `bs` ends. -/
def slice (bs : Bytes) (i k : Nat) : Bytes :=
  let t := (bs.drop i).take k
  t ++ List.replicate (k - t.length) 0

/-- Bit `i` of a number. -/
def bit (n i : Nat) : Bool := n / 2 ^ i % 2 == 1

/-- Bits [hi:lo] of a number. -/
def bits (n hi lo : Nat) : Nat := n / 2 ^ lo % 2 ^ (hi + 1 - lo)

/-- A number with bit `i` set to `b`. -/
def setBit (n i : Nat) (b : Bool) : Nat :=
  if bit n i == b then n else if b then n + 2 ^ i else n - 2 ^ i

/-- The two's complement reading of a `w`-bit number. -/
def toSigned (w n : Nat) : Int :=
  let m := n % 2 ^ w
  if m < 2 ^ (w - 1) then (m : Int) else (m : Int) - (2 ^ w : Nat)

/-- The `w`-bit two's complement of an integer. -/
def ofSigned (w : Nat) (i : Int) : Nat := (i % ((2 ^ w : Nat) : Int)).toNat

/-- `x` held within `lo` and `hi`. -/
def clampInt (x lo hi : Int) : Int := if x < lo then lo else if hi < x then hi else x

/-- Quotient rounded up. -/
def ceilDiv (a b : Nat) : Nat := (a + b - 1) / b

/-- A table of numbered units: keys strictly rising; an unlisted key reads as the default its reader names. -/
abbrev Table (α : Type) := List (Nat × α)

/-- The entry of key `k`, or `d` where none is listed. -/
def Table.get {α : Type} (t : Table α) (d : α) (k : Nat) : α :=
  match t with
  | [] => d
  | (j, v) :: r => if j = k then v else Table.get r d k

/-- The entry of key `k`, when one is listed. -/
def Table.find? {α : Type} (t : Table α) (k : Nat) : Option α :=
  match t with
  | [] => none
  | (j, v) :: r => if j = k then some v else Table.find? r k

/-- `t` with key `k` holding `v`. -/
def Table.set {α : Type} (t : Table α) (k : Nat) (v : α) : Table α :=
  match t with
  | [] => [(k, v)]
  | (j, w) :: r => if j = k then (k, v) :: r else if k < j then (k, v) :: (j, w) :: r else (j, w) :: Table.set r k v

/-- `t` without key `k`. -/
def Table.erase {α : Type} (t : Table α) (k : Nat) : Table α :=
  match t with
  | [] => []
  | (j, w) :: r => if j = k then r else (j, w) :: Table.erase r k

/-- Every value of a table changed by `f`, which also sees the key. -/
def Table.mapVal {α : Type} (f : Nat → α → α) : Table α → Table α
  | [] => []
  | (j, w) :: r => (j, f j w) :: Table.mapVal f r

/-- The entries of a table that satisfy `p`. -/
def Table.keep {α : Type} (p : Nat → α → Bool) : Table α → Table α
  | [] => []
  | (j, w) :: r => if p j w then (j, w) :: Table.keep p r else Table.keep p r

/-- The keys of a table that satisfy `p`. -/
def Table.keysWhere {α : Type} (p : Nat → α → Bool) : Table α → List Nat
  | [] => []
  | (j, w) :: r => if p j w then j :: Table.keysWhere p r else Table.keysWhere p r

/-- The keys of a table rise strictly. -/
def Table.wf {α : Type} : Table α → Bool
  | [] => true
  | [_] => true
  | (j, _) :: (k, w) :: r => decide (j < k) && Table.wf ((k, w) :: r)

end Sys2Proof
end

