-- ==== Sys2Proof/Syntax.lean ====
section
/-! DEFINITION. The commands of the block: one constructor of `Instr` for each row of spec/opcode_table.json, with the
operands its rule gives it. A row that is a message carries the datagram as it arrives; a row that is a timer or a
pin event carries what the event brings. -/
namespace Sys2Proof

/-- The transport a message arrives on (R22, R40): codes 0 to 3 of the session table. -/
inductive Via where
  | fa | fb | mailbox | usb
deriving DecidableEq, Repr

/-- A COT message as it arrives: the port facts, the header of Table 2.2 field by field, payload and tag. -/
structure Dgram where
  via : Via
  /-- UDP port 34980 to 34982; for the mailbox and the service port 34980 (they carry service data only). -/
  udpPort : Nat
  /-- Source IPv4 address. -/
  src : Nat
  /-- The datagram arrived as IP fragments. -/
  fragments : Bool
  proto : Nat
  version : Nat
  typ : Nat
  session : Nat
  flags : Nat
  seq : Nat
  len : Nat
  reserved : Nat
  payload : Bytes
  /-- The 16 bytes after the payload when AUTH is 1. -/
  tag : Bytes
deriving DecidableEq, Repr

/-- What an encoder channel's input brings. -/
inductive EncInput where
  /-- An accepted A, B sample (R181). -/
  | ab (a b : Bool)
  /-- One step of the sin/cos interpolator (R185). -/
  | interp (up : Bool)
  /-- `n` samples of A, B and Z in a row as the pins hold them, before the glitch filter (R180, R182). -/
  | raw (a b z : Bool) (n : Nat)
  /-- One ADC sample of the sin/cos inputs, in codes (R185, R186). -/
  | adc (sin cos : Int)
deriving DecidableEq, Repr

/-- A sample of an encoder channel's A, B and Z (R180, R182). -/
structure EncLevels where
  a : Bool
  b : Bool
  z : Bool
deriving DecidableEq, Repr

/-- An accepted edge of a TIN input: its direction and its local instant, in 2.5 ns (R191, R346). -/
structure TinEdge where
  falling : Bool
  instant : Nat
deriving DecidableEq, Repr

/-- What the watchdog sees of a FIRE output, in 2.5 ns: for how long it is active, and the interval since the active edge before
(R218). -/
structure StrobeSeen where
  active : Nat
  since : Option Nat
deriving DecidableEq, Repr

/-- What 64 consecutive blocks of a lane show: how many carry an invalid sync header, and how many are control blocks of an unlisted
type (R233, R246, R247). -/
structure BlockRun where
  lane : Fin 80
  invalid : Nat
  unlisted : Nat
deriving DecidableEq, Repr

/-- What a PCIe request of the host asks (R106, R470). -/
inductive PcieReq where
  /-- A configuration request; an enumeration gives BAR0 its address. -/
  | config (bar0 : Option Nat)
  /-- A configuration read of the vendor and device ID. -/
  | readId
  /-- A read of a register, a window or a table of BAR0: offset and bytes (Table 4.1). -/
  | barRead (offset bytes : Nat)
  /-- A write of BAR0: offset and bytes (Table 4.1). -/
  | barWrite (offset : Nat) (data : Bytes)
deriving DecidableEq, Repr

/-- A DMA descriptor (Table 4.5). -/
structure Desc where
  hostAddr : Nat
  length : Nat
  op : Nat
  kind : Nat
  tag : Nat
  arg : Nat
deriving DecidableEq, Repr

/-- A tile frame header (Table 4.10). -/
structure FrameHdr where
  version : Nat
  kind : Nat
  flags : Nat
  tileId : Nat
  lines : Nat
  columns : Nat
  sampleBits : Nat
  channels : Nat
  reserved : Nat
  ulen : Nat
  clen : Nat
  crc : Nat
deriving DecidableEq, Repr

/-- Whose data a DRAM page holds: the rows of Table 15.4, which fix the reaction to POISON. -/
inductive PageUser where
  | free
  | frame (kind tileId : Nat)
  | checkpoint (bar : Nat)
  | historyState (tileId : Nat)
  | graphic (tileId : Nat)
  | prediction (bar rep : Nat)
  | cells (cam : Nat)
  | exported (cam frameNo : Nat)
  | encoderState (cam : Nat)
  | objectCopy (ctx : Option Nat) (index sub : Nat) (otherPoisoned : Bool)
  | warmState (slot : Nat)
deriving DecidableEq, Repr

/-- A requester of a DRAM page: whose data it reads, and the age of its request in ns when served (R356, R373). -/
structure PageAsk where
  user : PageUser
  age : Nat
deriving DecidableEq, Repr

/-- The fields of a twin IDENT (Table 16.4). -/
structure Ident where
  product : Nat
  revision : Nat
  firmware : Nat
  serial : Nat
  mode : Nat
  position : Nat
  state : Nat
  healthy : Bool
deriving DecidableEq, Repr

/-- The adoption values of R385 that a STATE page carries. -/
structure Adopt where
  repeatNo : Nat
  boundary : Nat
  contexts : List Nat
  fcCtx : Nat
  fcRepeat : Nat
  fcStatus : Nat
  keeperGen : Nat
  trimPpm : Int
  overspeedMask : Nat
  altMask : Nat
  epochs : List Nat
  camGens : List Nat
  ledTrims : List Nat
  acks : List Nat
  /-- Keeper trims, census maps and nozzle records: index of the table and its bytes (R311). -/
  tables : List (Nat × Bytes)
  /-- By context, the repeats scheduled under it up to `repeatNo` since its arm: V of the next (R138). -/
  counts : List (Nat × Nat) := []
deriving DecidableEq, Repr

/-- A mirrored decision (Table 16.5). -/
structure DecisionMsg where
  kind : Nat
  barMask : Nat
  repeatNo : Nat
  line : Nat
  value : Nat
  /-- Tables a keeper generation carries: index and contents (R310). -/
  data : List (Nat × Bytes) := []
deriving DecidableEq, Repr

/-- One lane's part of LANE_SYNC (Table 16.4). -/
structure LaneSyncEntry where
  /-- 8 times the bar plus the logical lane. -/
  lane : Nat
  rate : Nat
  marker : Nat
  departure : Nat
deriving DecidableEq, Repr

/-- Which reference clock input lost its edges (R452). -/
inductive RefClk where
  | sys | lane | pcie
deriving DecidableEq, Repr

/-- The commands. -/
inductive Instr where
  -- object transport and service data (chapter 02)
  | open_ (d : Dgram)
  | close (d : Dgram)
  | sessionIdleTimeout (sess : Nat)
  | expeditedDownload (d : Dgram)
  | segmentedDownloadInitiate (d : Dgram)
  | downloadSegment (d : Dgram)
  | uploadInitiate (d : Dgram)
  | uploadSegmentRequest (d : Dgram)
  | blockDownloadInitiate (d : Dgram)
  | blockSegment (d : Dgram)
  | blockDownloadEnd (d : Dgram)
  | blockUploadInitiate (d : Dgram)
  | blockUploadAcknowledge (d : Dgram)
  | sdoAbort (d : Dgram)
  | transferTimeout (sess : Nat)
  | objectWrite (sess index sub : Nat) (data : Bytes)
  | groupCommit (sess gg : Nat)
  | groupDiscard (sess gg : Nat)
  | keySlotWrite (sess : Nat) (slot : Fin 4) (key : Bytes)
  | ledgerSelect (sess rep : Nat)
  | logSelect (sess number : Nat)
  -- process data and events (chapters 02, 22)
  | pdOut (d : Dgram)
  | pdCycleInstant
  | pdLoss
  | flyingChangeRequest (counter ctx atRepeat : Nat)
  | cancelRequest (counter opId : Nat)
  | spoilRequest (counter rep : Nat)
  | spliceRequest (counter : Nat)
  | eventAck (d : Dgram)
  | eventResend (slot : Nat)
  -- contexts and printing (chapter 03)
  | arm (sess ctx : Nat)
  | armComplete (tileCrcFailed : Bool)
  | discard (sess ctx : Nat)
  | unarm (sess ctx : Nat)
  | release (sess ctx : Nat)
  | abort (sess ctx : Nat)
  | clone (sess source target : Nat)
  | start (sess : Nat)
  | stop (sess : Nat)
  | stopNow (sess : Nat)
  | stopNowTimeout
  | changeLock
  | renderLine (bar : Fin 8)
  | sendLinePacket (lane : Fin 72)
  -- ingress and job store (chapter 04)
  | mbH2dDoorbell (length : Nat) (d : Dgram)
  | mbD2hAck
  | qTailWrite (q : Fin 16) (tail : Nat)
  | queueEnable (q : Fin 16) (ringOrder : Nat) (irqEn : Bool)
  | queueDisable (q : Fin 16)
  | queueRestart (q : Fin 16)
  | putFrame (q : Fin 16) (desc : Desc) (hdr : FrameHdr) (payload : Bytes)
  | frameCheckDone (q : Fin 16)
  | frameCheckTimeout (q : Fin 16)
  | getExport (q : Fin 16) (desc : Desc)
  | freeFrame (q : Fin 16) (desc : Desc)
  | freeStream (q : Fin 16) (desc : Desc)
  | dmaTimeout (q : Fin 16) (desc : Desc)
  | dmaError (q : Fin 16) (desc : Desc)
  | exportResume (cam : Fin 6)
  | exportTimeout (cam : Fin 6)
  | domainLoad (sess : Nat) (value : Bytes)
  | requestEntryFree (entry : Fin 16)
  -- position, compare, Reckoner and firing (chapters 07, 08, 14)
  | encoderEdge (c : Fin 4) (input : EncInput)
  | indexEdge (c : Fin 4) (sample : EncLevels) (t : Nat)
  | indexAbsent (c : Fin 4)
  | analogSignalFault (c : Fin 4) (ratio : Nat) (overspeed : Bool)
  | signalFaultClear (c : Fin 4) (phase : Int)
  | positionLost
  | tinCapture (k : Fin 8) (edge : TinEdge)
  | captureRead (sess : Nat) (k : Fin 8)
  | compareDue (u : Fin 16) (entry : Nat)
  | reckonerUpdate
  | fireLine (bar : Fin 8) (t : Nat)
  | strobeWatchdog (fire : Fin 16) (seen : StrobeSeen)
  | strobeFaultClear (sess : Nat) (bar : Fin 8)
  -- lanes and head link (chapters 09, 10)
  | lanePllLoss
  | laneTrained (lane : Fin 80) (mask : Nat)
  | laneAttemptTimeout (lane : Fin 80)
  | trainRetry (lane : Fin 80)
  | rateSwitch (lane : Fin 80) (openings : List Nat)
  | laneVerified (lane : Fin 80)
  | eyeScan (openings : List (Nat × Nat × Nat))
  | markSend (lane : Fin 80)
  | blockLockLoss (run : BlockRun)
  | lossOfSignal (lane : Fin 80)
  | relockTimeout (lane : Fin 80)
  | retrainTimeout (lane : Fin 80)
  | swapComplete (bar : Fin 8) (readback : Option Nat)
  | laneQualifyDone (lane : Fin 72) (pass : Bool)
  | retrain (sess : Nat) (lane : Nat)
  | loopback (sess : Nat) (lane arg : Nat)
  | prbs (sess : Nat) (lane arg : Nat)
  | bitslip (sess : Nat) (lane : Nat)
  | protect (sess : Nat) (lane logical : Nat)
  | requalify (sess : Nat) (lane : Nat)
  | train (lane : Fin 80) (payload : Bytes)
  | credit (lane : Fin 72) (acked window epoch : Nat)
  | retry (lane : Fin 72) (frm reason epoch : Nat)
  | resendTimeout (lane : Fin 72)
  | compare (lane : Fin 72) (seq kind port : Nat)
  | status (lane : Fin 72) (page : Nat) (data : Bytes)
  | moduleEvent (lane : Fin 72) (code seq slot : Nat)
  | checkRsp (lane : Fin 72) (id result pass : Nat)
  | checkTimeout (lane : Fin 72)
  | heartbeat (lane : Fin 80) (count state : Nat)
  | heartbeatSend
  | heartbeatTimeout (lane : Fin 80)
  | ackStallTimeout (lane : Fin 72)
  -- cameras (chapter 11)
  | frameStart (cam : Fin 6)
  | imageLine (cam : Fin 6) (vc dt : Nat) (headerBad eccFixed crcBad fifoFull : Bool) (payload : Bytes)
  | embeddedData (cam : Fin 6) (vc : Nat) (headerBad eccFixed : Bool) (payload : Bytes)
  | frameEnd (cam : Fin 6)
  | frameTimeout (cam : Fin 6)
  | triggerTimeout (cam : Fin 6)
  | cciWriteDone (cam : Fin 6)
  | cciTimeout (cam : Fin 6)
  -- keeper and census (chapter 12)
  | keeperGenerationForm
  | trimReset (sess mask : Nat)
  | gateEdge (gate : Fin 16) (t : Nat) (high : Bool)
  | testWindowClose (bar : Fin 8)
  | sweepStart (sess value : Nat)
  | sweepStrobe
  | sweepComplete
  -- illumination (chapter 13)
  | pwmPeriod
  | targetLevelWrite (sess : Nat) (led : Fin 48) (level : Nat)
  | lightMeasurement (g : Fin 8) (samples : List Nat)
  | ledEnLow
  | uvLatchClear (sess value : Nat)
  -- network time (chapter 14)
  | sync (dom : Fin 2) (twoStep : Bool) (origin : Nat) (logInterval : Int) (arrival : Nat)
  | followUp (dom : Fin 2) (origin : Nat)
  | announce (dom : Fin 2) (identity : Nat) (best : Bool) (receiptTimeout : Nat)
  | delayReqSend (dom : Fin 2)
  | delayResp (dom : Fin 2) (received : Nat)
  | pdelayReq (dom : Fin 2) (arrival : Nat)
  | pdelayResp (dom : Fin 2) (t1 t2 t3 t4 : Nat)
  | masterLoss (dom : Fin 2)
  | preferredReturn
  | toutEdge (k : Fin 8)
  -- DRAM (chapter 15)
  | pageRead (port : Nat) (addr : Nat) (ask : PageAsk)
  | pageWrite (addr : Nat) (data : Bytes)
  | partialWrite (addr off : Nat) (data : Bytes)
  | remapCommand (sess addr : Nat)
  | scrubRead (sub : Fin 4) (user : PageUser)
  | scrubStarved
  | bucketLeak (ch : Fin 2)
  | dramRetrain (sub : Fin 4) (plausible : Bool)
  | dramRefresh (sub : Fin 4)
  -- twin (chapter 16)
  | ident (i : Ident)
  | formationRetry
  | state (a : Adopt)
  | decision (seq : Nat) (m : DecisionMsg)
  | commit (seq : Nat)
  | refuse (seq cause : Nat)
  | checksum (ctx stateCode crc : Nat)
  | digest (group rep crc : Nat)
  | position (index time count out : Nat)
  | tileReq (kind tileId : Nat)
  | tileData (kind tileId : Nat) (frame : Option (FrameHdr × Bytes))
  | tileFetchTimeout
  | laneSync (entries : List LaneSyncEntry)
  | msgAck (seq : Nat)
  | msgNak (seq reason : Nat)
  | twinMsgResend
  | twinLinkLoss
  | hbInPulse
  | hbOutPulse
  | partnerSilent
  | twinProbe (d : Dgram)
  | twinProbeRsp (d : Dgram)
  | probeTimeout
  | handover (d : Dgram)
  | pairHandover (sess : Nat)
  | pairRehearse (sess : Nat)
  | pairResynchronise (sess : Nat)
  | rehearsalDue
  | rehearsalCheck
  -- faults (chapter 17)
  | blockFault (event : Nat) (unit barMask detail : Nat)
  | recoveryComplete (id : Nat)
  | recoveryTimeout (id : Nat)
  | warmRestartComplete
  | mgmtWatchdog
  | fabricTimeout (unit barMask : Nat)
  | stateSave (outOfBuffers : Bool)
  | alertClear (sess value : Nat)
  | testEvent (sess value : Nat)
  -- temperature, calibration, tally (chapters 18, 19)
  | sensorSample (readings : List (Option Int))
  | rateWindow
  | nvStagedWrite
  | nvWriteComplete (ok : Bool)
  | calibrationRun (item unit : Nat)
  | calibrationDone (item unit : Nat) (plausible : Bool) (value : Int)
  | calibrationCommand (sess mask : Nat)
  | sensorTrim (means : List Int)
  | wearMinute (meanTj : Int)
  | tallyHour
  | eyeDaily
  | sramRepair (array : Nat) (bar : Option (Fin 8))
  | engineRequalify (sess engine : Nat)
  -- start-up, resets, power (chapters 20, 21)
  | porstAssert
  | porstRelease
  | systemReset
  | bootComplete (slot : Option Nat) (fallback : Bool) (invalid : List Nat) (enginePass : List Nat)
  | wake (sess : Nat)
  | wakeFrame (d : Dgram)
  | wakeComplete
  | wakeTimeout (step : Nat) (expired : Bool) (detail : Nat)
  | sleep (sess : Nat)
  | prepare (sess : Nat)
  | relax (sess : Nat)
  | clearFault (sess : Nat)
  | warmRestart (sess : Nat)
  | reboot (sess : Nat)
  | saveConfig (sess : Nat)
  | firmwareUpdate (sess slot : Nat) (image : Bytes)
  | firmwareUpdateComplete (verified flashOk : Bool)
  | opTimeout
  | refclkLoss (input : RefClk)
  | supplyOutOfRange (supply : Nat)
  | usbVbusChange (attached : Bool)
  | blockLockRegained (lane : Fin 80)
  | hbInSilent
  | pcieLinkDown
  | pcieLinkUp (refclk : Bool)
  | pcieConfigRequest (request : PcieReq)
  | sysrstRelease
  | aonSupplyLoss
  | camBudgetMeasure (traffic : Nat)
  | dramTargetRecompute
deriving DecidableEq, Repr

end Sys2Proof
end

