-- ==== Sys2Proof/Decode.lean ====
section
/-! DEFINITION. The command a word spells. The commands reach the block as messages, pin events and timers, and
spec/opcode_table.json gives no row any bits, so no word spells one. -/
namespace Sys2Proof

/-- The command that a word of `nbits` bits spells by the opcode table's bits: none, since no row has bits. -/
def decodeTableWord (_nbits _w : Nat) : Option Instr := none

end Sys2Proof
end

