-- ==== Sys2Proof/Config.lean ====
section
/-! DEFINITION. What an image, a device or an implementation fixes and the spec does not state: constants without a
body, so that a claim about the model holds whatever they are. -/
namespace Sys2Proof.Config

open Sys2Proof

/-- 0x1018:04, per device. -/
opaque serial : Nat
/-- 0x100A:00 of the image in a slot whose header the model does not hold (per image). -/
opaque firmware : Bytes
/-- The Weanan windowed-sinc scaler set (Table 5.9): 1,792 bytes whose contents the spec does not give. -/
opaque scaler : Bytes
/-- The Weanan blue-noise ramp (Table 6.7): 1,024 bytes whose contents the spec does not give. -/
opaque pleachMask : Bytes
/-- BUSY's PERCENT while an operation runs, by the free-value counter (R56). -/
opaque percent : Nat → Nat
/-- BUSY's REMAIN while an operation runs (R56). -/
opaque remain : Nat → Nat
/-- What a counter of a given width reads after it passes its largest value: key and exact count. -/
opaque overflow : Nat → Nat → Nat
/-- An encoder's compressed stream: level, codes, data (R123; the search is not given). -/
opaque deflate : Nat → Nat → Bytes → Bytes
/-- The interpolator's phase of a sin and cos sample, in counts of a period of the given factor (R185; its arithmetic is not given). -/
opaque phase : Int → Int → Nat → Nat
/-- Rounding of the Reckoner's internal arithmetic, in 2^-64 line, by update and place (R204). -/
opaque reckonerRounding : Nat → Nat → Int
/-- New rate offset of a domain's proportional-integral servo: offset, present rate (R339). -/
opaque servoRate : Int → Int → Int → Int
/-- A measurement or an unstated value, by the free-value counter. -/
opaque freeValue : Nat → Nat

end Sys2Proof.Config
end

