-- ==== Sys2Proof/Machine/Codes.lean ====
section
/-! DEFINITION. The codes the device computes: CRC-16, CRC-32 and CRC-32C, HMAC-SHA-256, DEFLATE decoding (R117, R118), and
the page code's Reed-Solomon interleaves (R354, R355). -/
namespace Sys2Proof.Machine

open Sys2Proof

/-- One byte of a reflected CRC. -/
def crcByte (poly c b : Nat) : Nat :=
  (List.range 8).foldl (fun c _ => if c % 2 == 1 then (c / 2) ^^^ poly else c / 2) (c ^^^ b)

/-- A reflected 32-bit CRC with initial value 0xFFFF_FFFF and final inversion. -/
def crcReflected (poly : Nat) (bs : Bytes) : Nat :=
  (bs.foldl (fun c b => crcByte poly c b.toNat) 0xFFFFFFFF) ^^^ 0xFFFFFFFF

/-- CRC-32 of IEEE 802.3 (R78, R117). -/
def crc32 (bs : Bytes) : Nat := crcReflected 0xEDB88320 bs

/-- CRC-32C (R254). -/
def crc32c (bs : Bytes) : Nat := crcReflected 0x82F63B78 bs

/-- CRC-16 with polynomial 0x1021, most significant bit first, from an initial value (R51). -/
def crc16 (init : Nat) (bs : Bytes) : Nat :=
  bs.foldl (fun c b => (List.range 8).foldl (fun c _ => if decide (32768 ≤ c) then ((2 * c) % 65536) ^^^ 0x1021 else (2 * c) % 65536)
    (c ^^^ (b.toNat * 256))) init

/-- SHA-256's 64 round constants as one number, the first in its 32 most significant bits. -/
def shaRounds : Nat :=
  0x428A2F9871374491B5C0FBCFE9B5DBA53956C25B59F111F1923F82A4AB1C5ED5D807AA9812835B01243185BE550C7DC372BE5D7480DEB1FE9BDC06A7C19BF174E49B69C1EFBE47860FC19DC6240CA1CC2DE92C6F4A7484AA5CB0A9DC76F988DA983E5152A831C66DB00327C8BF597FC7C6E00BF3D5A7914706CA63511429296727B70A852E1B21384D2C6DFC53380D13650A7354766A0ABB81C2C92E92722C85A2BFE8A1A81A664BC24B8B70C76C51A3D192E819D6990624F40E3585106AA07019A4C1161E376C082748774C34B0BCB5391C0CB34ED8AA4A5B9CCA4F682E6FF3748F82EE78A5636F84C878148CC7020890BEFFFAA4506CEBBEF9A3F7C67178F2

/-- SHA-256's initial state as one number, laid out as `shaRounds`. -/
def shaStart : Nat := 0x6A09E667BB67AE853C6EF372A54FF53A510E527F9B05688C1F83D9AB5BE0CD19

/-- The `k` 32-bit words of a number, the most significant first. -/
def words32 : Nat → Nat → List Nat
  | 0, _ => []
  | k + 1, n => n / 2 ^ (32 * k) % 2 ^ 32 :: words32 k n

/-- Rotation right of a 32-bit word. -/
def rotr (n x : Nat) : Nat := x / 2 ^ n + (x % 2 ^ n) * 2 ^ (32 - n)

/-- The 64 message words of a block, newest first while it grows. -/
def shaSchedule (block : List Nat) : List Nat :=
  ((List.range 48).foldl (fun w _ =>
    let a (i : Nat) : Nat := w.getD (i - 1) 0
    let s0 := rotr 7 (a 15) ^^^ rotr 18 (a 15) ^^^ (a 15 / 8)
    let s1 := rotr 17 (a 2) ^^^ rotr 19 (a 2) ^^^ (a 2 / 1024)
    ((a 16 + s0 + a 7 + s1) % 4294967296) :: w) block.reverse).reverse

/-- One SHA-256 round on the eight working words. -/
def shaRound (st : List Nat) (kw : Nat × Nat) : List Nat :=
  let v (i : Nat) : Nat := st.getD i 0
  let e := v 4
  let a := v 0
  let s1 := rotr 6 e ^^^ rotr 11 e ^^^ rotr 25 e
  let ch := (e &&& v 5) ^^^ ((4294967295 - e) &&& v 6)
  let t1 := v 7 + s1 + ch + kw.1 + kw.2
  let s0 := rotr 2 a ^^^ rotr 13 a ^^^ rotr 22 a
  let maj := (a &&& v 1) ^^^ (a &&& v 2) ^^^ (v 1 &&& v 2)
  [(t1 + s0 + maj) % 4294967296, a, v 1, v 2, (v 3 + t1) % 4294967296, e, v 5, v 6]

/-- One SHA-256 block. -/
def shaBlock (st : List Nat) (bs : Bytes) : List Nat :=
  let w := shaSchedule ((List.range 16).map (fun i => beNat (slice bs (4 * i) 4)))
  let r := ((words32 64 shaRounds).zip w).foldl shaRound st
  (st.zip r).map (fun (a, b) => (a + b) % 4294967296)

/-- SHA-256. -/
def sha256 (bs : Bytes) : Bytes :=
  let pad := bs ++ [0x80] ++ List.replicate ((119 - bs.length % 64) % 64) 0 ++ beBytes 8 (8 * bs.length)
  let st := (List.range (pad.length / 64)).foldl (fun st i => shaBlock st (slice pad (64 * i) 64)) (words32 8 shaStart)
  st.flatMap (beBytes 4)

/-- HMAC-SHA-256 (R46). -/
def hmac (k m : Bytes) : Bytes :=
  let k := slice (if decide (64 < k.length) then sha256 k else k) 0 64
  sha256 (k.map (fun b => b ^^^ 0x5C) ++ sha256 (k.map (fun b => b ^^^ 0x36) ++ m))

/-- The COT header of Table 2.2, big-endian (R35, R36). -/
def cotHeader (typ sess flags seq len : Nat) : Bytes :=
  [0xC0, 0xA5, 0x01, byte typ] ++ beBytes 2 sess ++ beBytes 2 flags ++ beBytes 4 seq ++ beBytes 2 len ++ [0, 0]

/-- The tag of R46: the first 16 bytes of the HMAC over header and payload. -/
def cotTag (k header payload : Bytes) : Bytes := (hmac k (header ++ payload)).take 16

/-- The bits of a byte string, least significant first. -/
def bitList (bs : Bytes) : List Bool := bs.flatMap (fun b => (List.range 8).map (fun i => b.getLsbD i))

/-- Why a DEFLATE decode fails (R120): a stream error, the payload's end, or output beyond its limit. -/
inductive DecErr where
  | bad | truncated | limit
deriving DecidableEq, Repr

/-- A number of `n` bits from the front, least significant first, and what is left. -/
def takeBits (n : Nat) (bs : List Bool) : Except DecErr (Nat × List Bool) :=
  let h := bs.take n
  if decide (h.length < n) then .error .truncated
  else .ok ((h.reverse).foldl (fun a b => 2 * a + (if b then 1 else 0)) 0, bs.drop n)

/-- A Huffman code by its lengths: counts of lengths 1 to 15, symbols in code order. -/
def huffman (lens : List Nat) : List Nat × List Nat :=
  ((List.range 15).map (fun l => lens.count (l + 1)),
   (List.range 15).flatMap (fun l => (List.range lens.length).filter (fun s => lens.getD s 0 == l + 1)))

/-- One symbol of a Huffman code. -/
def huffSymbol (syms : List Nat) : List Nat → Nat → Nat → Nat → List Bool → Except DecErr (Nat × List Bool)
  | [], _, _, _, _ => .error .bad
  | _, _, _, _, [] => .error .truncated
  | n :: ns, code, first, index, b :: bs =>
    let code := code + (if b then 1 else 0)
    if decide (code < first + n) then .ok (syms.getD (index + (code - first)) 0, bs)
    else huffSymbol syms ns (2 * code) (2 * (first + n)) (index + n) bs

/-- Base and extra bits of length symbol 257 + i and distance symbol i (RFC 1951). -/
def lengthCode (i : Nat) : Nat × Nat :=
  if i == 28 then (258, 0) else if decide (i < 8) then (i + 3, 0) else let e := i / 4 - 1; (3 + (4 + i % 4) * 2 ^ e, e)

/-- See `lengthCode`. -/
def distCode (i : Nat) : Nat × Nat := if decide (i < 4) then (i + 1, 0) else let e := i / 2 - 1; (1 + (2 + i % 2) * 2 ^ e, e)

/-- The symbols of one compressed block: `room` bytes may still be written; the output, history before it, is newest
first. A length beyond the room is judged before its distance, as R120 orders the two failures. -/
def inflateCodes (lit dist : List Nat × List Nat) : Nat → List Bool → Nat → Bytes → Except DecErr (List Bool × Nat × Bytes)
  | 0, _, _, _ => .error .bad
  | f + 1, bs, room, out => do
    let (s, bs) ← huffSymbol lit.2 lit.1 0 0 0 bs
    if decide (s < 256) then
      if room == 0 then .error .limit else inflateCodes lit dist f bs (room - 1) (byte s :: out)
    else if s == 256 then .ok (bs, room, out)
    else if decide (286 ≤ s) then .error .bad
    else
      let (lb, le) := lengthCode (s - 257)
      let (lx, bs) ← takeBits le bs
      if decide (room < lb + lx) then .error .limit
      else
        let (ds, bs) ← huffSymbol dist.2 dist.1 0 0 0 bs
        if decide (30 ≤ ds) then .error .bad
        else
          let (db, de) := distCode ds
          let (dx, bs) ← takeBits de bs
          if (out.drop (db + dx - 1)).isEmpty then .error .bad
          else inflateCodes lit dist f bs (room - (lb + lx)) ((List.range (lb + lx)).foldl (fun o _ => o.getD (db + dx - 1) 0 :: o) out)

/-- Code lengths of a dynamic block, run-length coded. -/
def codeLengths (h : List Nat × List Nat) : Nat → Nat → List Nat → List Bool → Except DecErr (List Nat × List Bool)
  | 0, _, _, _ => .error .bad
  | f + 1, n, acc, bs =>
    if decide (n ≤ acc.length) then (if acc.length == n then .ok (acc, bs) else .error .bad)
    else do
      let (s, bs) ← huffSymbol h.2 h.1 0 0 0 bs
      if decide (s < 16) then codeLengths h f n (acc ++ [s]) bs
      else
        let (v, base, ext) := if s == 16 then (acc.getLast?.getD 0, 3, 2) else if s == 17 then (0, 3, 3) else (0, 11, 7)
        if s == 16 && acc.isEmpty then .error .bad
        else
          let (x, bs) ← takeBits ext bs
          codeLengths h f n (acc ++ List.replicate (base + x) v) bs

/-- Code lengths form a code: a complete one, or a single code of one bit (PRESUMED, log 110: R120's invalid code, as RFC 1951
has it). -/
def codeOk (lens : List Nat) : Bool :=
  ((List.range 15).map (fun l => lens.count (l + 1) * 2 ^ (14 - l))).sum == 32768 || lens.filter (fun l => l != 0) == [1]

/-- The two codes of a dynamic block (RFC 1951, 3.2.7). No distance code at all is allowed to a block without matches. -/
def dynamicCodes (bs : List Bool) : Except DecErr ((List Nat × List Nat) × (List Nat × List Nat) × List Bool) := do
  let (h, bs) ← takeBits 14 bs
  let hlit := h % 32 + 257
  let hdist := h / 32 % 32 + 1
  let hclen := h / 1024 + 4
  let (c, bs) ← takeBits (3 * hclen) bs
  let order := [16, 17, 18, 0, 8, 7, 9, 6, 10, 5, 11, 4, 12, 3, 13, 2, 14, 1, 15]
  let lens := (List.range 19).map (fun s => match (List.range hclen).find? (fun i => order.getD i 99 == s) with
    | some i => c / 8 ^ i % 8
    | none => 0)
  if decide (286 < hlit) || !codeOk lens then .error .bad
  else
    let (ls, bs) ← codeLengths (huffman lens) (hlit + hdist + 1) (hlit + hdist) [] bs
    if !codeOk (ls.take hlit) || !(codeOk (ls.drop hlit) || (ls.drop hlit).all (fun l => l == 0)) then .error .bad
    else .ok (huffman (ls.take hlit), huffman (ls.drop hlit), bs)

/-- Lengths of the fixed literal code (RFC 1951, 3.2.6). -/
def fixedLit : List Nat := List.replicate 144 8 ++ List.replicate 112 9 ++ List.replicate 24 7 ++ List.replicate 8 8

/-- One stored block: its bytes, or the failure that comes first (R120). -/
def inflateStored (bs : List Bool) (room : Nat) (out : Bytes) : Except DecErr (List Bool × Nat × Bytes) := do
  let bs := bs.drop (bs.length % 8)
  let (l, bs) ← takeBits 32 bs
  let n := l % 65536
  if n + l / 65536 != 65535 then .error .bad
  else
    let have_ := min n (bs.length / 8)
    if decide (room < have_) then .error .limit
    else if decide (have_ < n) then .error .truncated
    else .ok (bs.drop (8 * n), room - n, (List.range n).foldl (fun o i =>
      byte (((List.range 8).map (fun k => if bs.getD (8 * i + k) false then 2 ^ k else 0)).sum) :: o) out)

/-- A block type is one that CODING allows (Table 4.11). -/
def codingAllows (coding typ : Nat) : Bool := coding == 2 || coding == typ

/-- Blocks of a DEFLATE stream, from bit `bs` on, with the type and the bytes written of each block begun, newest first. -/
def inflateBlocks : Nat → List Bool → Nat → Bytes → List (Nat × Nat) → Except DecErr (List Bool × Nat × Bytes) × List (Nat × Nat)
  | 0, _, _, _, seen => (.error .bad, seen)
  | f + 1, bs, room, out, seen =>
    match takeBits 3 bs with
    | .error e => (.error e, seen)
    | .ok (h, bs) =>
      let r : Except DecErr (List Bool × Nat × Bytes) :=
        if h / 2 == 0 then inflateStored bs room out
        else if h / 2 == 1 then inflateCodes (huffman fixedLit) (huffman (List.replicate 30 5)) (bs.length + 1) bs room out
        else if h / 2 == 2 then do
          let (l, ds, bs) ← dynamicCodes bs
          inflateCodes l ds (bs.length + 1) bs room out
        else .error .bad
      match r with
      | .error e => (.error e, (h / 2, 0) :: seen)
      | .ok (bs, left, out) =>
        let seen := (h / 2, room - left) :: seen
        if h % 2 == 1 then (.ok (bs, left, out), seen) else inflateBlocks f bs left out seen

/-- A decode of a payload under R120 with the history before it: completion status of Table 4.8 and the data. -/
def decodePayload (history : Bytes) (coding ulen crc : Nat) (payload : Bytes) : Nat × Bytes :=
  let (r, seen) := inflateBlocks (8 * payload.length + 1) (bitList payload) ulen history.reverse []
  let ok := seen.all (fun b => codingAllows coding b.1)
  match r with
  | .error .limit => (0x19, [])
  | .error .truncated => (0x1B, [])
  | .error .bad => (if ok then 0x1E else 0x1D, [])
  | .ok (rest, room, out) =>
    let data := (out.take (ulen - room)).reverse
    if room != 0 then (0x1A, [])
    else if decide (8 ≤ rest.length) then (0x1C, [])
    else if !ok then (0x1D, [])
    else if crc32 data != crc then (0x18, [])
    else (0, data)

/-- The stored form of R124: blocks of at most 65,535 bytes, each with its five bytes before it. -/
def storedBlocks : Nat → Bytes → Bytes
  | 0, _ => []
  | f + 1, data =>
    let h := data.take 65535
    let r := data.drop 65535
    byte (if r.isEmpty then 1 else 0) :: leBytes 2 h.length ++ leBytes 2 (65535 - h.length) ++ h ++ (if r.isEmpty then [] else storedBlocks f r)

/-- Bits packed into bytes, the first in the least significant bit of the first byte; zero bits fill the last one. -/
def packBits (bs : List Bool) : Bytes :=
  (List.range (ceilDiv bs.length 8)).map (fun i =>
    byte (((List.range 8).map (fun k => if bs.getD (8 * i + k) false then 2 ^ k else 0)).sum))

/-- The `n` bits of `v`, the least significant first. -/
def lowBits (n v : Nat) : List Bool := (List.range n).map (fun i => bit v i)

/-- A literal, or 256 for the end of a block, in the fixed codes of RFC 1951 (3.2.6): its code, most significant bit
first. -/
def fixedCode (s : Nat) : List Bool :=
  if decide (s < 144) then (lowBits 8 (0x30 + s)).reverse
  else if decide (s < 256) then (lowBits 9 (0x190 + (s - 144))).reverse
  else lowBits 7 0

/-- What a dynamic block says of its codes, after its three bits: 8 bits for symbols 0 to 254, 9 for 255 and 256, no
distance code. -/
def plainHeader : List Bool :=
  lowBits 10 0 ++ lowBits 4 3 ++ [0, 0, 0, 2, 1, 0, 2].flatMap (lowBits 3) ++
    List.replicate 255 false ++ [true, true, true, true, true, false]

/-- A literal, or 256 for the end of a block, in the code of `plainHeader`. -/
def plainCode (s : Nat) : List Bool := (if decide (s < 255) then lowBits 8 s else lowBits 9 (s + 255)).reverse

/-- Data without matches in dynamic blocks of 65,536 bytes. -/
def plainBlocks : Nat → Bytes → List Bool
  | 0, _ => []
  | f + 1, data =>
    let r := data.drop 65536
    lowBits 3 (if r.isEmpty then 5 else 4) ++ plainHeader ++ (data.take 65536).flatMap (fun b => plainCode b.toNat) ++ plainCode 256 ++
      (if r.isEmpty then [] else plainBlocks f r)

/-- Data without matches as a stream of the codes asked for (R123). -/
def plainStream (codes : Nat) (data : Bytes) : Bytes :=
  packBits (if codes == 0 then lowBits 3 3 ++ data.flatMap (fun b => fixedCode b.toNat) ++ fixedCode 256
    else plainBlocks (data.length / 65536 + 1) data)

/-- A byte string is what R123 calls for: a DEFLATE stream of the data, of one byte's padding at most, in blocks of the
fixed codes, or of their own codes with 65,536 bytes each but the last. -/
def encodes (codes : Nat) (data z : Bytes) : Bool :=
  match inflateBlocks (8 * z.length + 1) (bitList z) data.length [] [] with
  | (.ok (rest, room, out), seen) =>
    room == 0 && decide (rest.length < 8) && out.reverse == data && seen.all (fun b => b.1 == (if codes == 0 then 1 else 2)) &&
      (codes == 0 || (seen.tail.all (fun b => b.2 == 65536) && seen.all (fun b => decide (b.2 ≤ 65536))))
  | _ => false

/-- An encode at a level with a choice of codes: the stream, and whether it gained nothing and is kept stored (R123,
R124). Which matches the search finds is not given: the stream is any that `encodes` the data; a free value that does not
stands for the one without matches. -/
def encodeStream (level codes : Nat) (data : Bytes) : Bytes × Bool :=
  let stored := storedBlocks (data.length / 65535 + 1) data
  if level == 0 then (stored, true)
  else
    let f := Config.deflate level codes data
    let z := if encodes codes data f then f else plainStream codes data
    if decide (stored.length ≤ z.length) then (stored, true) else (z, false)

/-- CODING of an encoded stream: 0 stored, 1 static codes, 2 any (Table 4.11). -/
def codingOf (codes : Nat) (noGain : Bool) : Nat := if noGain then 0 else if codes == 0 then 1 else 2

/-- A frame header in its 32 bytes (Table 4.10). -/
def hdrBytes (h : FrameHdr) : Bytes :=
  [byte h.version, byte h.kind] ++ leBytes 2 h.flags ++ leBytes 8 h.tileId ++ leBytes 2 h.lines ++ leBytes 2 h.columns ++
  [byte h.sampleBits, byte h.channels] ++ leBytes 2 h.reserved ++ leBytes 4 h.ulen ++ leBytes 4 h.clen ++ leBytes 4 h.crc

/-- Product in GF(2^8) with x^8 + x^4 + x^3 + x^2 + 1 (R355). -/
def gmul (a b : Nat) : Nat :=
  ((List.range 8).foldl (fun (st : Nat × Nat) i =>
    let (acc, a) := st
    (if bit b i then acc ^^^ a else acc, if decide (128 ≤ a) then (2 * a) ^^^ 0x11D else 2 * a)) (0, a)).1

/-- α to a power (R355). -/
def gpow (e : Nat) : Nat := (List.range (e % 255)).foldl (fun a _ => gmul a 2) 1

/-- Inverse in GF(2^8): a^254. -/
def ginv (a : Nat) : Nat := (List.range 253).foldl (fun x _ => gmul x a) a

/-- Generator polynomial, highest degree first, without its leading 1 (R355). -/
def rsGen (k : Nat) : List Nat :=
  ((List.range k).foldl (fun (g : List Nat) j =>
    -- (g) · (x + α^j), highest degree first.
    let a := gpow j
    ((g ++ [0]).zip (0 :: g)).map (fun (p, q) => p ^^^ gmul a q)) [1]).tail

/-- Check bytes of an interleave: the remainder modulo g, highest degree first (R355). -/
def rsCheck (k : Nat) (data : List Nat) : List Nat :=
  let g := rsGen k
  data.foldl (fun r b =>
    let f := b ^^^ r.headD 0
    ((r.tail ++ [0]).zip g).map (fun (x, c) => x ^^^ gmul f c)) (List.replicate k 0)

/-- Value at `x` of a polynomial, highest degree first. -/
def gEval (p : List Nat) (x : Nat) : Nat := p.foldl (fun a c => gmul a x ^^^ c) 0

/-- Syndromes of a codeword, S_0 first. -/
def rsSyndromes (k : Nat) (word : List Nat) : List Nat := (List.range k).map (fun j => gEval word (gpow j))

/-- Error locator by Berlekamp and Massey, lowest degree first. -/
def rsLocator (syn : List Nat) : List Nat :=
  let at_ (p : List Nat) (i : Nat) : Nat := p.getD i 0
  let step (st : List Nat × List Nat × Nat × Nat × Nat) (n : Nat) : List Nat × List Nat × Nat × Nat × Nat :=
    let (c, b, l, m, bb) := st
    let dl := (List.range (l + 1)).foldl (fun a i => a ^^^ gmul (at_ c i) (at_ syn (n - i))) 0
    if dl == 0 then (c, b, l, m + 1, bb)
    else
      let f := gmul dl (ginv bb)
      let sh := List.replicate m 0 ++ b.map (gmul f)
      let c' := (List.range (max c.length sh.length)).map (fun i => at_ c i ^^^ at_ sh i)
      if decide (2 * l ≤ n) then (c', c, n + 1 - l, 1, dl) else (c', b, l, m + 1, bb)
  let (c, _, l, _, _) := (List.range syn.length).foldl step ([1], [1], 0, 1, 1)
  c.take (l + 1)

/-- A codeword decoded within k ÷ 2 symbol errors: the corrected word and how many it corrected (R354, R355). -/
def rsDecode (k : Nat) (word : List Nat) : Option (List Nat × Nat) :=
  let syn := rsSyndromes k word
  if syn.all (fun s => s == 0) then some (word, 0)
  else
    let loc := rsLocator syn
    let nu := loc.length - 1
    let len := word.length
    -- Position i counts from the lowest degree; its locator is α^i.
    let places := (List.range len).filter (fun i => gEval loc.reverse (gpow (255 - i % 255)) == 0)
    if decide (k < 2 * nu) || places.length != nu then none
    else
      let omega := (List.range k).map (fun i => (List.range (i + 1)).foldl (fun a j => a ^^^ gmul (loc.getD j 0) (syn.getD (i - j) 0)) 0)
      let deriv := (List.range loc.length).map (fun i => if i % 2 == 0 then loc.getD (i + 1) 0 else 0)
      let fixed := places.foldl (fun w i =>
        let xi := gpow (255 - i % 255)
        let v := gmul (gpow i) (gmul (gEval omega.reverse xi) (ginv (gEval deriv.reverse xi)))
        w.set (len - 1 - i) (w.getD (len - 1 - i) 0 ^^^ v)) word
      if (rsSyndromes k fixed).all (fun s => s == 0) then some (fixed, nu) else none

/-- Interleave `h` of a page's data (R355). -/
def interleave (h : Nat) (data : Bytes) : List Nat :=
  (List.range 128).map (fun i => leNat (slice data (2 * i + h) 1))

/-- Check bytes of a page of 256 bytes with `c` check bytes (R355). -/
def pageCheck (c : Nat) (data : Bytes) : Bytes :=
  ((rsCheck (c / 2) (interleave 0 data)) ++ rsCheck (c / 2) (interleave 1 data)).map byte

/-- The classes of R356. -/
inductive PageClass where
  | clean
  | corrected (data : Bytes) (symbols : Nat) (most : Nat)
  | uncorrectable
  | poison
deriving DecidableEq, Repr

/-- A page with its check bytes classified (R356). -/
def classify (c : Nat) (data check : Bytes) : PageClass :=
  let k := c / 2
  let w0 := interleave 0 data ++ (check.take k).map (fun b => b.toNat)
  let w1 := interleave 1 data ++ (check.drop k).map (fun b => b.toNat)
  if (rsSyndromes k w0).all (fun s => s == 0) && (rsSyndromes k w1).all (fun s => s == 0) then .clean
  else if check == (pageCheck c data).map (fun b => ~~~b) then .poison
  else match rsDecode k w0, rsDecode k w1 with
    | some (a, n0), some (b, n1) =>
      .corrected (((a.take 128).zip (b.take 128)).flatMap (fun (x, y) => [byte x, byte y])) (n0 + n1) (max n0 n1)
    | _, _ => .uncorrectable

end Sys2Proof.Machine
end

