-- ==== Sys2Proof/Machine/Objects.lean ====
section
/-! DEFINITION. The object dictionary: one row for each object of the object tables that Table 22.2 names (R31 to R33,
R494), with its type, access, default, point of effect and the range a write is checked against (R65, R502). -/
namespace Sys2Proof.Machine

open Sys2Proof

/-- Data types of Table 2.1, with the size in bytes. -/
inductive Ty where
  | bool
  | u (n : Nat)
  | i (n : Nat)
  | oct (n : Nat)
  | vis (n : Nat)
  | dom
deriving DecidableEq, Repr

/-- Access of an object (00_scope, Notation). -/
inductive Acc where
  | ro | rw | rws | wo
deriving DecidableEq, Repr

/-- The point at which a value takes effect (00_scope, Notation). -/
inductive Eff where
  | imm | group | arm | bnd | frame | boot | none
deriving DecidableEq, Repr

/-- The condition a written value meets on its own (R65, R502). -/
inductive Rng where
  /-- Every value of the type. -/
  | any
  /-- Zero refused. -/
  | nz
  /-- From `lo` to `hi`. -/
  | rg (lo hi : Int)
  /-- From `lo` to `hi`, or zero, which arm refuses or which has a meaning. -/
  | rgz (lo hi : Int)
  /-- From `lo` to `hi`, or 0xFF for none. -/
  | rgf (lo hi : Int)
  | one (l : List Nat)
  /-- Bits outside `m` are reserved (R10). -/
  | mask (m : Nat)
  /-- A single lower bound; zero refused. -/
  | ge (lo : Int)
  /-- A single upper bound; zero refused. -/
  | le (hi : Int)
  /-- Checked by a rule of its own in `writeCheck`. -/
  | sp
deriving DecidableEq, Repr

/-- A row of an object table: first index, step and number of indices, first and last subindex, type, access, default
(little-endian as a number), point of effect, range. -/
structure ObjRow where
  idx : Nat
  step : Nat
  count : Nat
  lo : Nat
  hi : Nat
  ty : Ty
  acc : Acc
  dflt : Nat
  eff : Eff
  rng : Rng
deriving DecidableEq, Repr

/-- Objects 0x1000 to 0x10FF of the object tables. -/
def page10 : List ObjRow := [
  ⟨0x1000, 0, 1, 0x0, 0x0, .u 4, .ro, 0, .none, .any⟩,
  ⟨0x1001, 0, 1, 0x0, 0x0, .u 1, .ro, 0, .none, .any⟩,
  ⟨0x1008, 0, 1, 0x0, 0x0, .vis 15, .ro, 0, .none, .any⟩,
  ⟨0x100A, 0, 1, 0x0, 0x0, .vis 16, .ro, 0, .none, .any⟩,
  ⟨0x1018, 0, 1, 0x1, 0x1, .u 4, .ro, 0x57E4, .none, .any⟩,
  ⟨0x1018, 0, 1, 0x2, 0x2, .u 4, .ro, 0, .none, .any⟩,
  ⟨0x1018, 0, 1, 0x3, 0x3, .u 4, .ro, 0xB00, .none, .any⟩,
  ⟨0x1018, 0, 1, 0x4, 0x4, .u 4, .ro, 0, .none, .any⟩]

/-- Objects 0x1400 to 0x14FF of the object tables. -/
def page14 : List ObjRow := [
  ⟨0x1400, 0, 1, 0x1, 0x1, .u 4, .rws, 0xC0A80A0A, .group, .any⟩,
  ⟨0x1400, 0, 1, 0x2, 0x2, .u 4, .rws, 0xFFFFFF00, .group, .nz⟩,
  ⟨0x1400, 0, 1, 0x3, 0x3, .u 4, .rws, 0, .group, .any⟩,
  ⟨0x1400, 0, 1, 0x4, 0x4, .bool, .rws, 0, .group, .any⟩,
  ⟨0x1400, 0, 1, 0x5, 0x5, .u 1, .rws, 0, .group, .rg 0 8⟩,
  ⟨0x1410, 0, 1, 0x1, 0x8, .u 8, .rws, 0, .group, .any⟩,
  ⟨0x1411, 0, 1, 0x1, 0x8, .u 8, .rws, 0, .group, .any⟩,
  ⟨0x1420, 0, 1, 0x1, 0x1, .u 2, .rw, 0xA, .imm, .rg 1 600⟩,
  ⟨0x1420, 0, 1, 0x2, 0x2, .u 1, .ro, 4, .none, .any⟩,
  ⟨0x1420, 0, 1, 0x3, 0x3, .oct 16, .ro, 0, .none, .any⟩,
  ⟨0x1430, 0, 1, 0x1, 0x1, .u 4, .rws, 0x3E8, .group, .sp⟩,
  ⟨0x1430, 0, 1, 0x2, 0x2, .u 1, .rws, 3, .group, .any⟩,
  ⟨0x1430, 0, 1, 0x3, 0x3, .u 1, .rws, 0, .group, .rg 0 1⟩,
  ⟨0x1430, 0, 1, 0x4, 0x4, .u 4, .ro, 0, .none, .any⟩,
  ⟨0x1440, 0, 1, 0x1, 0x1, .u 2, .rw, 0x14, .imm, .any⟩,
  ⟨0x1440, 0, 1, 0x2, 0x2, .u 4, .ro, 0, .none, .any⟩,
  ⟨0x1450, 0, 1, 0x1, 0x4, .oct 32, .wo, 0, .imm, .any⟩,
  ⟨0x1450, 0, 1, 0x5, 0x5, .u 1, .ro, 0, .none, .any⟩,
  ⟨0x1401, 0, 1, 0x1, 0x1, .u 4, .rws, 0xC0A80B0A, .group, .any⟩,
  ⟨0x1401, 0, 1, 0x2, 0x2, .u 4, .rws, 0xFFFFFF00, .group, .nz⟩,
  ⟨0x1401, 0, 1, 0x3, 0x3, .u 4, .rws, 0, .group, .any⟩,
  ⟨0x1401, 0, 1, 0x4, 0x4, .bool, .rws, 0, .group, .any⟩,
  ⟨0x1401, 0, 1, 0x5, 0x5, .u 1, .rws, 0, .group, .rg 0 8⟩]

/-- Objects 0x2000 to 0x20FF of the object tables, part 1. -/
def page20a : List ObjRow := [
  ⟨0x2000, 0, 1, 0x1, 0x1, .u 2, .wo, 0, .imm, .any⟩,
  ⟨0x2001, 0, 1, 0x0, 0x0, .u 1, .ro, 0, .none, .any⟩,
  ⟨0x2002, 0, 1, 0x1, 0x1, .u 4, .ro, 0, .none, .any⟩,
  ⟨0x2002, 0, 1, 0x2, 0x2, .u 1, .ro, 0, .none, .any⟩,
  ⟨0x2002, 0, 1, 0x3, 0x3, .u 4, .ro, 0, .none, .any⟩,
  ⟨0x2002, 0, 1, 0x4, 0x4, .u 4, .ro, 0, .none, .any⟩,
  ⟨0x2003, 0, 1, 0x1, 0x6, .u 4, .ro, 0, .none, .any⟩,
  ⟨0x2010, 0, 1, 0x0, 0x0, .u 1, .rw, 0xFF, .imm, .rgf 0 127⟩,
  ⟨0x2020, 0, 1, 0x1, 0x17, .u 1, .wo, 0, .imm, .rg 1 2⟩,
  ⟨0x2021, 0, 1, 0x1, 0x1, .u 1, .ro, 0, .none, .any⟩,
  ⟨0x2021, 0, 1, 0x2, 0x2, .u 4, .ro, 0, .none, .any⟩,
  ⟨0x2021, 0, 1, 0x3, 0x3, .u 4, .ro, 0, .none, .any⟩,
  ⟨0x2030, 0, 1, 0x1, 0x7, .u 8, .ro, 0, .none, .any⟩,
  ⟨0x2011, 0, 1, 0x1, 0x80, .u 2, .ro, 0, .none, .any⟩,
  ⟨0x2012, 0, 1, 0x0, 0x0, .u 4, .wo, 0, .imm, .any⟩,
  ⟨0x2013, 0, 1, 0x1, 0x1, .u 1, .ro, 0xFF, .none, .any⟩,
  ⟨0x2013, 0, 1, 0x2, 0x2, .u 4, .ro, 0, .none, .any⟩,
  ⟨0x2013, 0, 1, 0x3, 0x3, .u 4, .ro, 0, .none, .any⟩,
  ⟨0x2014, 0, 1, 0x1, 0x1, .u 1, .ro, 0xFF, .none, .any⟩,
  ⟨0x2014, 0, 1, 0x2, 0x2, .u 8, .ro, 0, .none, .any⟩,
  ⟨0x2014, 0, 1, 0x3, 0x3, .u 1, .ro, 0, .none, .any⟩,
  ⟨0x2014, 0, 1, 0x4, 0x4, .u 1, .ro, 0, .none, .any⟩,
  ⟨0x2015, 0, 1, 0x1, 0x8, .u 8, .ro, 0, .none, .any⟩,
  ⟨0x2016, 0, 1, 0x1, 0x8, .u 1, .ro, 0xFF, .none, .any⟩]

/-- Objects 0x2000 to 0x20FF of the object tables, part 2. -/
def page20b : List ObjRow := [
  ⟨0x2040, 0, 1, 0x1, 0x1, .u 8, .rw, 0, .imm, .any⟩,
  ⟨0x2040, 0, 1, 0x2, 0x2, .oct 48, .ro, 0, .none, .any⟩,
  ⟨0x2040, 0, 1, 0x3, 0x3, .u 8, .ro, 0, .none, .any⟩,
  ⟨0x2040, 0, 1, 0x4, 0x4, .u 8, .ro, 0, .none, .any⟩]

/-- Objects 0x2000 to 0x20FF of the object tables. -/
def page20 : List ObjRow := page20a ++ page20b

/-- Objects 0x2100 to 0x21FF of the object tables. -/
def page21 : List ObjRow := [
  ⟨0x2100, 0, 1, 0x1, 0x1, .bool, .rw, 1, .imm, .any⟩,
  ⟨0x2100, 0, 1, 0x2, 0x2, .bool, .rw, 0, .boot, .any⟩,
  ⟨0x2101, 0, 1, 0x1, 0x1, .u 2, .ro, 0, .none, .any⟩,
  ⟨0x2101, 0, 1, 0x2, 0x2, .u 1, .ro, 0, .none, .any⟩,
  ⟨0x2101, 0, 1, 0x3, 0x3, .u 1, .ro, 0, .none, .any⟩,
  ⟨0x2101, 0, 1, 0x4, 0x4, .u 4, .ro, 1, .none, .any⟩,
  ⟨0x2101, 0, 1, 0x5, 0x5, .u 4, .ro, 0, .none, .any⟩,
  ⟨0x2108, 0, 1, 0x1, 0x2, .dom, .wo, 0, .boot, .nz⟩,
  ⟨0x2109, 0, 1, 0x1, 0x2, .u 8, .ro, 0, .none, .any⟩]

/-- Objects 0x2200 to 0x22FF of the object tables. -/
def page22 : List ObjRow := [
  ⟨0x2200, 0, 1, 0x1, 0x80, .u 1, .rw, 0, .imm, .mask 3⟩,
  ⟨0x2202, 0, 1, 0x1, 0x80, .u 4, .ro, 0, .none, .any⟩,
  ⟨0x2204, 0, 1, 0x1, 0x1, .u 1, .wo, 0, .imm, .rg 0 1⟩,
  ⟨0x2204, 0, 1, 0x2, 0x2, .u 1, .wo, 0, .imm, .rg 0 1⟩,
  ⟨0x2206, 0, 1, 0x1, 0x1, .u 4, .rw, 0, .imm, .any⟩,
  ⟨0x2206, 0, 1, 0x2, 0x2, .oct 28, .ro, 0, .none, .any⟩,
  ⟨0x2206, 0, 1, 0x3, 0x3, .u 4, .ro, 0, .none, .any⟩,
  ⟨0x2206, 0, 1, 0x4, 0x4, .u 4, .ro, 0, .none, .any⟩,
  ⟨0x2208, 0, 1, 0x1, 0x1, .u 1, .ro, 0xFF, .none, .any⟩,
  ⟨0x2208, 0, 1, 0x2, 0x2, .u 1, .ro, 0, .none, .any⟩,
  ⟨0x2208, 0, 1, 0x3, 0x7, .u 4, .ro, 0, .none, .any⟩,
  ⟨0x2208, 0, 1, 0x8, 0x8, .u 4, .ro, 0, .none, .any⟩,
  ⟨0x2208, 0, 1, 0x9, 0x9, .u 4, .ro, 0, .none, .any⟩,
  ⟨0x220A, 0, 1, 0x1, 0x1, .u 2, .rw, 0x3E8, .imm, .rg 100 10000⟩,
  ⟨0x220A, 0, 1, 0x2, 0x2, .u 8, .ro, 0, .none, .any⟩]

/-- Objects 0x2400 to 0x24FF of the object tables, part 1. -/
def page24a : List ObjRow := [
  ⟨0x2400, 1, 2, 0x1, 0x1, .bool, .rws, 0, .group, .any⟩,
  ⟨0x2400, 1, 2, 0x2, 0x2, .u 1, .rws, 0, .group, .mask 3⟩,
  ⟨0x2400, 1, 2, 0x3, 0x3, .u 1, .rws, 0, .group, .rg 0 127⟩,
  ⟨0x2400, 1, 2, 0x4, 0x4, .u 1, .rws, 0, .group, .rg 0 1⟩,
  ⟨0x2400, 1, 2, 0x5, 0x5, .u 1, .rws, 0, .group, .rg 0 1⟩,
  ⟨0x2400, 1, 2, 0x6, 0x6, .u 1, .rws, 1, .group, .rg 0 1⟩,
  ⟨0x2400, 1, 2, 0x7, 0x7, .i 1, .rws, 0, .group, .rg (-7) 6⟩,
  ⟨0x2400, 1, 2, 0x8, 0x8, .u 4, .rws, 0x3E8, .group, .rg 10 1000000⟩,
  ⟨0x2400, 1, 2, 0x9, 0x9, .u 4, .rws, 0xF4240, .group, .rg 1000 1000000000⟩,
  ⟨0x2400, 1, 2, 0xA, 0xA, .u 1, .rws, 1, .group, .rg 0 1⟩,
  ⟨0x2402, 0, 1, 0x1, 0x1, .u 1, .rws, 0, .group, .rg 0 1⟩,
  ⟨0x2402, 0, 1, 0x2, 0x2, .u 2, .rws, 0x32, .group, .rg 1 500⟩,
  ⟨0x2404, 1, 2, 0x1, 0x1, .u 1, .ro, 0, .none, .any⟩,
  ⟨0x2404, 1, 2, 0x2, 0x2, .i 8, .ro, 0, .none, .any⟩,
  ⟨0x2404, 1, 2, 0x3, 0x3, .i 4, .ro, 0, .none, .any⟩,
  ⟨0x2404, 1, 2, 0x4, 0x4, .u 4, .ro, 0, .none, .any⟩,
  ⟨0x2404, 1, 2, 0x5, 0x5, .oct 8, .ro, 0, .none, .any⟩,
  ⟨0x2404, 1, 2, 0x6, 0x6, .u 4, .ro, 0, .none, .any⟩,
  ⟨0x2406, 0, 1, 0x1, 0x1, .u 1, .ro, 2, .none, .any⟩,
  ⟨0x2406, 0, 1, 0x2, 0x2, .u 4, .ro, 0, .none, .any⟩,
  ⟨0x2406, 0, 1, 0x3, 0x3, .u 8, .ro, 0, .none, .any⟩,
  ⟨0x2406, 0, 1, 0x4, 0x4, .u 8, .ro, 0, .none, .any⟩,
  ⟨0x2406, 0, 1, 0x5, 0x5, .i 8, .ro, 0, .none, .any⟩,
  ⟨0x2408, 1, 4, 0x1, 0x1, .u 8, .ro, 0, .none, .any⟩]

/-- Objects 0x2400 to 0x24FF of the object tables, part 2. -/
def page24b : List ObjRow := [
  ⟨0x2410, 1, 8, 0x1, 0x1, .u 1, .rws, 0, .group, .rg 0 1⟩,
  ⟨0x2410, 1, 8, 0x2, 0x2, .u 1, .rws, 0, .group, .rg 0 1⟩,
  ⟨0x2410, 1, 8, 0x3, 0x3, .u 8, .rws, 0, .group, .any⟩,
  ⟨0x2410, 1, 8, 0x4, 0x4, .u 8, .rws, 0, .group, .any⟩,
  ⟨0x2410, 1, 8, 0x5, 0x5, .u 4, .rws, 0x3E8, .group, .rg 5 4294967295⟩,
  ⟨0x2410, 1, 8, 0x6, 0x6, .u 1, .rws, 0, .group, .rg 0 1⟩,
  ⟨0x2410, 1, 8, 0x7, 0x7, .bool, .rws, 0, .group, .any⟩,
  ⟨0x2410, 1, 8, 0x8, 0x8, .bool, .rws, 1, .group, .any⟩,
  ⟨0x2418, 1, 8, 0x1, 0x1, .u 4, .ro, 0, .none, .any⟩,
  ⟨0x2418, 1, 8, 0x2, 0x2, .u 4, .ro, 0, .none, .any⟩,
  ⟨0x2418, 1, 8, 0x3, 0x3, .u 4, .ro, 0, .none, .any⟩,
  ⟨0x2418, 1, 8, 0x4, 0x4, .u 8, .ro, 0, .none, .any⟩,
  ⟨0x2420, 1, 8, 0x1, 0x1, .u 1, .rws, 0, .group, .rg 0 3⟩,
  ⟨0x2420, 1, 8, 0x2, 0x2, .u 1, .rws, 4, .group, .rg 0 255⟩,
  ⟨0x2428, 1, 8, 0x1, 0x1, .u 4, .ro, 0, .none, .any⟩,
  ⟨0x2428, 1, 8, 0x2, 0x2, .u 4, .ro, 0, .none, .any⟩,
  ⟨0x2428, 1, 8, 0x3, 0x3, .oct 16, .ro, 0, .none, .any⟩]

/-- Objects 0x2400 to 0x24FF of the object tables. -/
def page24 : List ObjRow := page24a ++ page24b

/-- Objects 0x2600 to 0x26FF of the object tables. -/
def page26 : List ObjRow := [
  ⟨0x2600, 0, 1, 0x1, 0x2, .i 2, .ro, 0x4E2, .none, .any⟩,
  ⟨0x2600, 0, 1, 0x3, 0x20, .i 2, .rws, 0x3E8, .group, .any⟩,
  ⟨0x2601, 0, 1, 0x3, 0x20, .i 2, .rws, 0xFE70, .group, .any⟩,
  ⟨0x2602, 0, 1, 0x3, 0x20, .u 2, .rws, 0x32, .group, .rg 1 1000⟩,
  ⟨0x2608, 0, 1, 0x1, 0x20, .i 2, .ro, 0, .none, .any⟩,
  ⟨0x2609, 0, 1, 0x1, 0x20, .i 2, .ro, 0, .none, .any⟩,
  ⟨0x260A, 0, 1, 0x1, 0x20, .u 1, .ro, 0, .none, .any⟩,
  ⟨0x260B, 0, 1, 0x0, 0x0, .u 2, .ro, 0x3E8, .none, .any⟩,
  ⟨0x260C, 0, 1, 0x1, 0x1, .u 2, .ro, 0, .none, .any⟩,
  ⟨0x260C, 0, 1, 0x2, 0x2, .u 4, .ro, 0, .none, .any⟩,
  ⟨0x260D, 0, 1, 0x0, 0x0, .oct 96, .ro, 0, .none, .any⟩]

/-- Objects 0x2700 to 0x27FF of the object tables. -/
def page27 : List ObjRow := [
  ⟨0x2700, 0, 1, 0x1, 0x1, .u 2, .rw, 0x50, .imm, .any⟩,
  ⟨0x2700, 0, 1, 0x2, 0x2, .u 1, .rw, 0x3F, .imm, .mask 0x3F⟩,
  ⟨0x2702, 0, 1, 0x0, 0x0, .u 1, .wo, 0, .imm, .sp⟩,
  ⟨0x2708, 0, 1, 0x1, 0x6, .u 4, .ro, 0, .none, .any⟩,
  ⟨0x2709, 0, 1, 0x1, 0x6, .u 8, .ro, 0, .none, .any⟩,
  ⟨0x270A, 0, 1, 0x1, 0x6, .u 1, .ro, 0, .none, .any⟩,
  ⟨0x270B, 0, 1, 0x1, 0x6, .u 4, .ro, 0, .none, .any⟩,
  ⟨0x270C, 0, 1, 0x1, 0x6, .u 4, .ro, 0, .none, .any⟩]

/-- Objects 0x2800 to 0x28FF of the object tables, part 1. -/
def page28a : List ObjRow := [
  ⟨0x2800, 0, 1, 0x1, 0x1, .u 1, .rws, 2, .boot, .rg 1 3⟩,
  ⟨0x2800, 0, 1, 0x2, 0x2, .u 1, .rws, 1, .boot, .rg 0 2⟩,
  ⟨0x2800, 0, 1, 0x3, 0x3, .u 1, .rws, 8, .boot, .one [8, 16]⟩,
  ⟨0x2800, 0, 1, 0x4, 0x4, .u 1, .rws, 0x10, .boot, .one [16, 24, 32]⟩,
  ⟨0x2800, 0, 1, 0x5, 0x5, .u 1, .rws, 2, .boot, .rg 1 2⟩,
  ⟨0x2800, 0, 1, 0x6, 0x6, .u 4, .ro, 0, .none, .any⟩,
  ⟨0x2800, 0, 1, 0x7, 0x7, .u 2, .ro, 0x1900, .none, .any⟩,
  ⟨0x2802, 0, 1, 0x1, 0x1, .u 2, .rws, 0x64, .group, .rg 10 10000⟩,
  ⟨0x2802, 0, 1, 0x2, 0x2, .u 2, .rws, 0x40, .group, .rg 16 256⟩,
  ⟨0x2802, 0, 1, 0x3, 0x9, .u 2, .rws, 0, .group, .rg 1 10000⟩,
  ⟨0x2804, 0, 1, 0x1, 0x1, .u 2, .rws, 0x14, .group, .rg 1 100⟩,
  ⟨0x2804, 0, 1, 0x2, 0x2, .u 2, .rws, 0x258, .group, .any⟩,
  ⟨0x2806, 0, 1, 0x1, 0x2, .u 2, .rws, 0x10, .group, .any⟩,
  ⟨0x2806, 0, 1, 0x3, 0x4, .u 2, .rws, 4, .group, .rg 1 65535⟩,
  ⟨0x280E, 0, 1, 0x0, 0x0, .u 8, .wo, 0, .imm, .sp⟩,
  ⟨0x2808, 0, 1, 0x1, 0x2, .u 4, .ro, 0, .none, .any⟩,
  ⟨0x2808, 0, 1, 0x3, 0x4, .u 8, .ro, 0, .none, .any⟩,
  ⟨0x2808, 0, 1, 0x5, 0x6, .u 4, .ro, 0, .none, .any⟩,
  ⟨0x2808, 0, 1, 0x7, 0x8, .u 4, .ro, 0, .none, .any⟩,
  ⟨0x2808, 0, 1, 0x9, 0xA, .u 2, .ro, 0, .none, .any⟩,
  ⟨0x2808, 0, 1, 0xB, 0xB, .u 8, .ro, 0, .none, .any⟩,
  ⟨0x280A, 0, 1, 0x1, 0x1, .u 4, .ro, 0, .none, .any⟩,
  ⟨0x280A, 0, 1, 0x2, 0x2, .u 4, .ro, 0, .none, .any⟩,
  ⟨0x280A, 0, 1, 0x3, 0x3, .u 2, .ro, 0, .none, .any⟩]

/-- Objects 0x2800 to 0x28FF of the object tables, part 2. -/
def page28b : List ObjRow := [
  ⟨0x280A, 0, 1, 0x4, 0x4, .u 4, .ro, 0, .none, .any⟩,
  ⟨0x280C, 0, 1, 0x1, 0x40, .u 8, .ro, 0, .none, .any⟩,
  ⟨0x280C, 0, 1, 0x41, 0x41, .u 4, .ro, 0, .none, .any⟩,
  ⟨0x2810, 0, 1, 0x1, 0x10, .u 4, .ro, 0, .none, .any⟩]

/-- Objects 0x2800 to 0x28FF of the object tables. -/
def page28 : List ObjRow := page28a ++ page28b

/-- Objects 0x2A00 to 0x2AFF of the object tables. -/
def page2A : List ObjRow := [
  ⟨0x2A00, 0, 1, 0x1, 0x1, .u 4, .ro, 0, .boot, .any⟩,
  ⟨0x2A00, 0, 1, 0x2, 0x2, .u 4, .ro, 0, .boot, .any⟩,
  ⟨0x2A00, 0, 1, 0x3, 0x3, .u 4, .ro, 0, .boot, .any⟩,
  ⟨0x2A00, 0, 1, 0x4, 0x4, .u 4, .ro, 0, .boot, .any⟩,
  ⟨0x2A00, 0, 1, 0x5, 0x5, .u 4, .ro, 0, .boot, .any⟩,
  ⟨0x2A00, 0, 1, 0x6, 0x6, .u 4, .ro, 0, .none, .any⟩,
  ⟨0x2A01, 0, 1, 0x1, 0x4, .u 4, .ro, 0, .none, .any⟩,
  ⟨0x2A02, 0, 1, 0x1, 0x1, .u 4, .ro, 0, .none, .any⟩,
  ⟨0x2A02, 0, 1, 0x2, 0x2, .u 4, .ro, 0, .none, .any⟩,
  ⟨0x2A02, 0, 1, 0x3, 0x3, .u 1, .ro, 0, .none, .any⟩,
  ⟨0x2A02, 0, 1, 0x4, 0x4, .u 8, .ro, 0, .none, .any⟩,
  ⟨0x2A04, 0, 1, 0x1, 0x1, .bool, .rws, 1, .group, .any⟩,
  ⟨0x2A04, 0, 1, 0x2, 0x2, .u 2, .rws, 0xA0, .arm, .any⟩,
  ⟨0x2A05, 0, 1, 0x1, 0x10, .oct 16, .ro, 0, .none, .any⟩,
  ⟨0x2A05, 0, 1, 0x11, 0x11, .u 4, .ro, 0, .none, .any⟩,
  ⟨0x2A06, 0, 1, 0x0, 0x0, .oct 12, .wo, 0, .imm, .any⟩]

/-- Objects 0x2B00 to 0x2BFF of the object tables. -/
def page2B : List ObjRow := [
  ⟨0x2B00, 0, 1, 0x1, 0x1, .u 1, .rw, 1, .imm, .rg 0 7⟩,
  ⟨0x2B00, 0, 1, 0x2, 0x2, .u 1, .rw, 1, .imm, .rg 0 1⟩,
  ⟨0x2B00, 0, 1, 0x3, 0x3, .u 2, .rw, 0x20, .imm, .rg 1 256⟩,
  ⟨0x2B00, 0, 1, 0x4, 0x4, .u 4, .ro, 0, .none, .any⟩,
  ⟨0x2B00, 0, 1, 0x5, 0x5, .u 4, .ro, 0, .none, .any⟩]

/-- Objects 0x2C00 to 0x2CFF of the object tables. -/
def page2C : List ObjRow := [
  ⟨0x2C00, 0, 1, 0x1, 0x1, .u 1, .rws, 0, .group, .sp⟩,
  ⟨0x2C00, 0, 1, 0x2, 0x2, .u 1, .rws, 0, .group, .rg 0 1⟩,
  ⟨0x2C00, 0, 1, 0x3, 0x3, .u 4, .rws, 0, .group, .any⟩,
  ⟨0x2C00, 0, 1, 0x4, 0x4, .u 4, .rws, 0, .group, .any⟩,
  ⟨0x2C00, 0, 1, 0x5, 0x5, .u 1, .rws, 0xFF, .group, .rgf 0 3⟩,
  ⟨0x2C00, 0, 1, 0x6, 0x6, .u 2, .rws, 0xA8, .group, .rg 0 8760⟩,
  ⟨0x2C00, 0, 1, 0x7, 0x7, .u 1, .rws, 0xFF, .group, .any⟩,
  ⟨0x2C00, 0, 1, 0x8, 0x8, .u 2, .rws, 1, .group, .any⟩,
  ⟨0x2C02, 0, 1, 0x0, 0x0, .u 1, .wo, 0, .imm, .rg 1 3⟩,
  ⟨0x2C08, 0, 1, 0x1, 0x1, .u 1, .ro, 0, .none, .any⟩,
  ⟨0x2C08, 0, 1, 0x2, 0x2, .u 1, .ro, 0, .none, .any⟩,
  ⟨0x2C08, 0, 1, 0x3, 0x3, .u 1, .ro, 0, .none, .any⟩,
  ⟨0x2C08, 0, 1, 0x4, 0x4, .u 4, .ro, 0, .none, .any⟩,
  ⟨0x2C08, 0, 1, 0x5, 0x5, .u 4, .ro, 0, .none, .any⟩,
  ⟨0x2C08, 0, 1, 0x6, 0x6, .u 1, .ro, 0, .none, .any⟩,
  ⟨0x2C08, 0, 1, 0x7, 0x7, .u 4, .ro, 0, .none, .any⟩,
  ⟨0x2C08, 0, 1, 0x8, 0x8, .u 8, .ro, 0, .none, .any⟩,
  ⟨0x2C08, 0, 1, 0x9, 0x9, .u 1, .ro, 0, .none, .any⟩,
  ⟨0x2C08, 0, 1, 0xA, 0xA, .u 1, .ro, 0, .none, .any⟩,
  ⟨0x2C08, 0, 1, 0xB, 0xB, .u 4, .ro, 0, .none, .any⟩,
  ⟨0x2C08, 0, 1, 0xC, 0xC, .u 4, .ro, 0, .none, .any⟩,
  ⟨0x2C08, 0, 1, 0xD, 0xD, .i 8, .ro, 0, .none, .any⟩,
  ⟨0x2C08, 0, 1, 0xE, 0xE, .i 4, .ro, 0, .none, .any⟩,
  ⟨0x2C08, 0, 1, 0xF, 0xF, .u 4, .ro, 0, .none, .any⟩]

/-- Objects 0x2E00 to 0x2EFF of the object tables, part 1. -/
def page2Ea : List ObjRow := [
  ⟨0x2E00, 0, 1, 0x1, 0x1, .u 2, .rw, 0x12C, .imm, .rg 100 900⟩,
  ⟨0x2E00, 0, 1, 0x2, 0x2, .u 2, .rw, 0x5A, .imm, .rg 7 365⟩,
  ⟨0x2E00, 0, 1, 0x3, 0x3, .bool, .rw, 1, .imm, .any⟩,
  ⟨0x2E00, 0, 1, 0x4, 0x4, .u 1, .rw, 3, .imm, .rg 2 30⟩,
  ⟨0x2E00, 0, 1, 0x5, 0x5, .u 2, .rw, 0x32, .imm, .rg 1 4000⟩,
  ⟨0x2E00, 0, 1, 0x6, 0x6, .u 4, .ro, 0x6962A, .none, .any⟩,
  ⟨0x2E0F, 0, 1, 0x0, 0x0, .u 1, .wo, 0, .boot, .rg 0 8⟩,
  ⟨0x2E01, 0, 1, 0x1, 0x7, .u 4, .ro, 0, .none, .any⟩,
  ⟨0x2E01, 0, 1, 0x8, 0x8, .u 4, .ro, 0, .none, .any⟩,
  ⟨0x2E01, 0, 1, 0x9, 0x9, .u 4, .ro, 0, .none, .any⟩,
  ⟨0x2E01, 0, 1, 0xA, 0xA, .u 4, .ro, 0, .none, .any⟩,
  ⟨0x2E04, 0, 1, 0x1, 0xE, .u 2, .ro, 0, .none, .any⟩,
  ⟨0x2E05, 0, 1, 0x1, 0xE, .u 2, .ro, 0, .none, .any⟩,
  ⟨0x2E06, 0, 1, 0x1, 0xE, .u 4, .ro, 0, .none, .any⟩,
  ⟨0x2E07, 0, 1, 0x1, 0x9, .u 1, .ro, 0, .none, .any⟩,
  ⟨0x2E08, 0, 1, 0x1, 0x50, .u 2, .ro, 0, .none, .any⟩,
  ⟨0x2E09, 0, 1, 0x1, 0x50, .i 2, .ro, 0, .none, .any⟩,
  ⟨0x2E0A, 0, 1, 0x1, 0x50, .u 2, .ro, 0xFFFF, .none, .any⟩,
  ⟨0x2E0B, 0, 1, 0x1, 0x2, .u 4, .ro, 0, .none, .any⟩,
  ⟨0x2E0B, 0, 1, 0x3, 0x4, .u 4, .ro, 0, .none, .any⟩,
  ⟨0x2E0C, 0, 1, 0x1, 0x1, .u 4, .ro, 0, .none, .any⟩,
  ⟨0x2E0C, 0, 1, 0x2, 0x2, .u 8, .ro, 0, .none, .any⟩,
  ⟨0x2E0C, 0, 1, 0x3, 0x3, .u 1, .ro, 0x40, .none, .any⟩,
  ⟨0x2E0C, 0, 1, 0x4, 0x4, .u 4, .ro, 0, .none, .any⟩]

/-- Objects 0x2E00 to 0x2EFF of the object tables, part 2. -/
def page2Eb : List ObjRow := [
  ⟨0x2E0D, 0, 1, 0x1, 0x1, .u 2, .ro, 0xFFFF, .none, .any⟩,
  ⟨0x2E0D, 0, 1, 0x2, 0x2, .u 1, .ro, 0, .none, .any⟩,
  ⟨0x2E0D, 0, 1, 0x3, 0x5, .u 2, .ro, 0xFFFF, .none, .any⟩,
  ⟨0x2E10, 0, 1, 0x0, 0x0, .dom, .ro, 0, .none, .any⟩]

/-- Objects 0x2E00 to 0x2EFF of the object tables. -/
def page2E : List ObjRow := page2Ea ++ page2Eb

/-- Objects 0x3000 to 0x30FF of the object tables, part 1. -/
def page30a : List ObjRow := [
  ⟨0x3000, 1, 4, 0x1, 0x1, .bool, .rws, 0, .group, .any⟩,
  ⟨0x3000, 1, 4, 0x2, 0x2, .u 1, .rws, 0, .group, .sp⟩,
  ⟨0x3000, 1, 4, 0x3, 0x3, .u 1, .rws, 4, .group, .rg 0 255⟩,
  ⟨0x3000, 1, 4, 0x4, 0x4, .u 1, .rws, 0, .group, .rg 0 1⟩,
  ⟨0x3000, 1, 4, 0x5, 0x5, .u 1, .rws, 2, .group, .rg 0 4⟩,
  ⟨0x3000, 1, 4, 0x6, 0x6, .u 1, .rws, 0, .group, .rg 0 1⟩,
  ⟨0x3000, 1, 4, 0x7, 0x7, .u 4, .rws, 0x4000, .group, .nz⟩,
  ⟨0x3000, 1, 4, 0x8, 0x8, .bool, .rws, 0, .group, .any⟩,
  ⟨0x3000, 1, 4, 0x9, 0x9, .u 2, .rws, 4, .group, .rg 1 65535⟩,
  ⟨0x3000, 1, 4, 0xA, 0xA, .bool, .rws, 0, .group, .any⟩,
  ⟨0x3000, 1, 4, 0xB, 0xB, .u 2, .rws, 0x1F4, .group, .rg 50 2000⟩,
  ⟨0x3000, 1, 4, 0xC, 0xC, .u 2, .rws, 0x199A, .group, .rg 1 8191⟩,
  ⟨0x3000, 1, 4, 0xD, 0xD, .u 2, .rws, 0x80, .group, .rg 1 255⟩,
  ⟨0x3000, 1, 4, 0xE, 0xE, .u 2, .rws, 0x180, .group, .rg 257 1023⟩,
  ⟨0x3000, 1, 4, 0xF, 0xF, .u 2, .rws, 0x400, .group, .sp⟩,
  ⟨0x3008, 1, 4, 0x1, 0x1, .i 8, .ro, 0, .none, .any⟩,
  ⟨0x3008, 1, 4, 0x2, 0x2, .u 4, .ro, 0, .none, .any⟩,
  ⟨0x3008, 1, 4, 0x3, 0x3, .u 4, .ro, 0, .none, .any⟩,
  ⟨0x3008, 1, 4, 0x4, 0x4, .i 8, .ro, 0, .none, .any⟩,
  ⟨0x3008, 1, 4, 0x5, 0x5, .i 4, .ro, 0, .none, .any⟩,
  ⟨0x3008, 1, 4, 0x6, 0x6, .u 4, .ro, 0, .none, .any⟩,
  ⟨0x3008, 1, 4, 0x7, 0x7, .u 4, .ro, 0, .none, .any⟩,
  ⟨0x3008, 1, 4, 0x8, 0x8, .u 4, .ro, 0, .none, .any⟩,
  ⟨0x3008, 1, 4, 0x9, 0x9, .i 4, .ro, 0, .none, .any⟩]

/-- Objects 0x3000 to 0x30FF of the object tables, part 2. -/
def page30b : List ObjRow := [
  ⟨0x3008, 1, 4, 0xA, 0xA, .u 1, .ro, 0, .none, .any⟩,
  ⟨0x3008, 1, 4, 0xB, 0xB, .u 2, .ro, 0, .none, .any⟩,
  ⟨0x3020, 1, 16, 0x1, 0x1, .u 1, .rws, 0, .group, .rg 0 1⟩,
  ⟨0x3020, 1, 16, 0x2, 0x2, .u 2, .rws, 0, .group, .rg 0 1024⟩,
  ⟨0x3020, 1, 16, 0x3, 0x3, .u 1, .rws, 0, .group, .rg 0 1⟩,
  ⟨0x3020, 1, 16, 0x4, 0x4, .u 8, .rws, 0, .group, .any⟩,
  ⟨0x3030, 1, 16, 0x1, 0x1, .u 4, .ro, 0, .none, .any⟩,
  ⟨0x3030, 1, 16, 0x2, 0x2, .u 4, .ro, 0, .none, .any⟩,
  ⟨0x3030, 1, 16, 0x3, 0x3, .u 4, .ro, 0, .none, .any⟩,
  ⟨0x3030, 1, 16, 0x4, 0x4, .u 4, .ro, 0, .none, .any⟩,
  ⟨0x3030, 1, 16, 0x5, 0x5, .u 4, .ro, 0, .none, .any⟩,
  ⟨0x3030, 1, 16, 0x6, 0x6, .u 2, .ro, 0, .none, .any⟩,
  ⟨0x3040, 0, 1, 0x1, 0x1, .bool, .rws, 0, .group, .any⟩,
  ⟨0x3040, 0, 1, 0x2, 0x2, .u 1, .rws, 0, .group, .rg 0 7⟩,
  ⟨0x3040, 0, 1, 0x3, 0x3, .u 1, .rws, 0, .group, .rg 0 1⟩,
  ⟨0x3040, 0, 1, 0x4, 0x4, .u 8, .rws, 0, .group, .ge 6291456⟩,
  ⟨0x3040, 0, 1, 0x5, 0x5, .u 2, .rws, 0x18, .group, .rg 1 65535⟩,
  ⟨0x3040, 0, 1, 0x6, 0x6, .u 4, .ro, 0, .none, .any⟩,
  ⟨0x3040, 0, 1, 0x7, 0x7, .u 4, .ro, 0, .none, .any⟩,
  ⟨0x3040, 0, 1, 0x8, 0x8, .u 4, .ro, 0, .none, .any⟩,
  ⟨0x3040, 0, 1, 0x9, 0x9, .u 4, .ro, 0, .none, .any⟩]

/-- Objects 0x3000 to 0x30FF of the object tables. -/
def page30 : List ObjRow := page30a ++ page30b

/-- Objects 0x3200 to 0x32FF of the object tables. -/
def page32 : List ObjRow := [
  ⟨0x3200, 0, 1, 0x1, 0x1, .u 1, .rws, 0, .group, .rg 0 3⟩,
  ⟨0x3200, 0, 1, 0x2, 0x2, .u 4, .rws, 1, .group, .nz⟩,
  ⟨0x3200, 0, 1, 0x3, 0x3, .u 4, .rws, 1, .group, .nz⟩,
  ⟨0x3200, 0, 1, 0x4, 0x4, .u 2, .rws, 0xC8, .group, .rg 50 2000⟩,
  ⟨0x3200, 0, 1, 0x5, 0x5, .u 1, .rws, 0x40, .group, .rg 1 64⟩,
  ⟨0x3210, 0, 1, 0x1, 0x1, .u 8, .ro, 0, .none, .any⟩,
  ⟨0x3210, 0, 1, 0x2, 0x8, .u 8, .rws, 0, .group, .sp⟩,
  ⟨0x3208, 0, 1, 0x1, 0x1, .u 8, .ro, 0, .none, .any⟩,
  ⟨0x3208, 0, 1, 0x2, 0x2, .u 4, .ro, 0, .none, .any⟩,
  ⟨0x3208, 0, 1, 0x3, 0x3, .u 4, .ro, 0, .none, .any⟩,
  ⟨0x3208, 0, 1, 0x4, 0x4, .u 1, .ro, 0, .none, .any⟩,
  ⟨0x3208, 0, 1, 0x5, 0x5, .u 4, .ro, 0, .none, .any⟩,
  ⟨0x3208, 0, 1, 0x6, 0x6, .u 4, .ro, 0, .none, .any⟩,
  ⟨0x3208, 0, 1, 0x7, 0x7, .u 4, .ro, 0, .none, .any⟩,
  ⟨0x3208, 0, 1, 0x8, 0x8, .u 4, .ro, 0, .none, .any⟩,
  ⟨0x3208, 0, 1, 0x9, 0x9, .u 4, .ro, 0, .none, .any⟩]

/-- Objects 0x3400 to 0x34FF of the object tables, part 1. -/
def page34a : List ObjRow := [
  ⟨0x3400, 0, 1, 0x1, 0x1, .u 1, .rws, 5, .group, .rg 1 5⟩,
  ⟨0x3400, 0, 1, 0x2, 0x2, .u 1, .rws, 5, .group, .rg 1 5⟩,
  ⟨0x3400, 0, 1, 0x3, 0x3, .u 2, .rws, 0x3C, .group, .rg 1 3600⟩,
  ⟨0x3401, 0, 1, 0x1, 0x8, .u 1, .rws, 0xFF, .group, .any⟩,
  ⟨0x3402, 0, 1, 0x1, 0x8, .bool, .rws, 0, .group, .any⟩,
  ⟨0x3403, 0, 1, 0x1, 0x50, .u 1, .rws, 0x10, .group, .rg 0 16⟩,
  ⟨0x3404, 0, 1, 0x1, 0x50, .u 1, .rws, 2, .group, .rg 0 7⟩,
  ⟨0x3406, 0, 1, 0x0, 0x0, .u 4, .wo, 0, .imm, .any⟩,
  ⟨0x3410, 0, 1, 0x1, 0x50, .u 1, .ro, 0, .none, .any⟩,
  ⟨0x3411, 0, 1, 0x1, 0x50, .u 1, .ro, 0, .none, .any⟩,
  ⟨0x3412, 0, 1, 0x1, 0x50, .u 1, .ro, 0, .none, .any⟩,
  ⟨0x3413, 0, 1, 0x1, 0x50, .u 4, .ro, 0, .none, .any⟩,
  ⟨0x3414, 0, 1, 0x1, 0x50, .u 1, .ro, 0, .none, .any⟩,
  ⟨0x3415, 0, 1, 0x1, 0x50, .u 4, .ro, 0, .none, .any⟩,
  ⟨0x3416, 0, 1, 0x1, 0x50, .u 4, .ro, 0, .none, .any⟩,
  ⟨0x3417, 0, 1, 0x1, 0x8, .oct 8, .ro, 0, .none, .any⟩,
  ⟨0x3418, 0, 1, 0x1, 0x8, .u 2, .ro, 0, .none, .any⟩,
  ⟨0x3419, 0, 1, 0x1, 0x50, .u 4, .ro, 0, .none, .any⟩,
  ⟨0x3420, 0, 1, 0x1, 0x48, .u 8, .ro, 0, .none, .any⟩,
  ⟨0x3421, 0, 1, 0x1, 0x48, .oct 6, .ro, 0, .none, .any⟩,
  ⟨0x3422, 0, 1, 0x1, 0x48, .oct 6, .ro, 0, .none, .any⟩,
  ⟨0x3423, 0, 1, 0x1, 0x48, .u 2, .ro, 0, .none, .any⟩,
  ⟨0x3424, 0, 1, 0x1, 0x48, .u 4, .ro, 0, .none, .any⟩,
  ⟨0x3425, 0, 1, 0x1, 0x48, .u 4, .ro, 0, .none, .any⟩]

/-- Objects 0x3400 to 0x34FF of the object tables, part 2. -/
def page34b : List ObjRow := [
  ⟨0x3426, 0, 1, 0x1, 0x48, .u 4, .ro, 0, .none, .any⟩,
  ⟨0x3427, 0, 1, 0x1, 0x48, .u 8, .ro, 0, .none, .any⟩,
  ⟨0x3428, 0, 1, 0x1, 0x48, .oct 7, .ro, 0, .none, .any⟩,
  ⟨0x3429, 0, 1, 0x1, 0x48, .u 4, .ro, 0, .none, .any⟩,
  ⟨0x342A, 0, 1, 0x1, 0x8, .u 1, .ro, 0, .none, .any⟩]

/-- Objects 0x3400 to 0x34FF of the object tables. -/
def page34 : List ObjRow := page34a ++ page34b

/-- Objects 0x3800 to 0x38FF of the object tables, part 1. -/
def page38a : List ObjRow := [
  ⟨0x3800, 1, 6, 0x1, 0x1, .bool, .rws, 0, .group, .any⟩,
  ⟨0x3800, 1, 6, 0x2, 0x2, .u 1, .rws, 4, .group, .one [1, 2, 4]⟩,
  ⟨0x3800, 1, 6, 0x3, 0x3, .u 2, .rws, 0x5DC, .group, .rg 80 4500⟩,
  ⟨0x3800, 1, 6, 0x4, 0x4, .u 1, .rws, 0, .frame, .rg 0 15⟩,
  ⟨0x3800, 1, 6, 0x5, 0x5, .u 1, .rws, 0x2C, .frame, .one [0x24, 0x2B, 0x2C, 0x2D]⟩,
  ⟨0x3800, 1, 6, 0x6, 0x6, .u 1, .rws, 0xFF, .frame, .rgf 0 15⟩,
  ⟨0x3800, 1, 6, 0x7, 0x7, .u 2, .rws, 0x2400, .frame, .rg 2 16384⟩,
  ⟨0x3800, 1, 6, 0x8, 0x8, .u 2, .rws, 0x500, .frame, .rg 2 16383⟩,
  ⟨0x3800, 1, 6, 0x9, 0x9, .u 1, .rws, 0, .frame, .rg 0 3⟩,
  ⟨0x3800, 1, 6, 0xA, 0xA, .u 1, .rws, 0xFF, .group, .rgf 0 15⟩,
  ⟨0x3800, 1, 6, 0xB, 0xB, .u 4, .rws, 0x4E20, .group, .rg 100 100000⟩,
  ⟨0x3800, 1, 6, 0xC, 0xC, .u 2, .rws, 0x64, .group, .rg 1 1000⟩,
  ⟨0x3800, 1, 6, 0xD, 0xD, .u 1, .rws, 0x10, .group, .rg 8 119⟩,
  ⟨0x3800, 1, 6, 0xE, 0xE, .u 1, .rws, 1, .group, .rg 0 2⟩,
  ⟨0x3800, 1, 6, 0xF, 0xF, .u 4, .rws, 0x1040100, .frame, .any⟩,
  ⟨0x3800, 1, 6, 0x10, 0x10, .u 1, .rws, 0, .group, .rg 0 3⟩,
  ⟨0x3800, 1, 6, 0x11, 0x11, .u 2, .rws, 0x64, .group, .rg 1 65535⟩,
  ⟨0x3800, 1, 6, 0x12, 0x12, .u 1, .rws, 0, .group, .rg 0 2⟩,
  ⟨0x3808, 1, 6, 0x1, 0x1, .i 4, .rws, 0, .frame, .any⟩,
  ⟨0x3808, 1, 6, 0x2, 0x2, .u 4, .rws, 0xBCF9F, .frame, .nz⟩,
  ⟨0x3808, 1, 6, 0x3, 0x3, .i 4, .rws, 0, .frame, .any⟩,
  ⟨0x3808, 1, 6, 0x4, 0x4, .i 4, .rws, 0xBCF9F, .frame, .nz⟩,
  ⟨0x3808, 1, 6, 0x5, 0x5, .u 2, .rws, 1, .frame, .rg 1 1024⟩,
  ⟨0x3808, 1, 6, 0x6, 0x6, .oct 8, .rws, 0, .frame, .any⟩]

/-- Objects 0x3800 to 0x38FF of the object tables, part 2. -/
def page38b : List ObjRow := [
  ⟨0x3808, 1, 6, 0x7, 0x7, .oct 18, .rws, 0, .frame, .any⟩,
  ⟨0x3808, 1, 6, 0x8, 0x8, .oct 6, .rws, 0, .frame, .any⟩,
  ⟨0x3820, 1, 6, 0x1, 0x1, .u 1, .ro, 0, .none, .any⟩,
  ⟨0x3820, 1, 6, 0x2, 0x2, .u 4, .ro, 0, .none, .any⟩,
  ⟨0x3820, 1, 6, 0x3, 0x3, .u 4, .ro, 0, .none, .any⟩,
  ⟨0x3820, 1, 6, 0x4, 0x4, .u 4, .ro, 0, .none, .any⟩,
  ⟨0x3820, 1, 6, 0x5, 0x5, .u 4, .ro, 0, .none, .any⟩,
  ⟨0x3820, 1, 6, 0x6, 0x6, .u 4, .ro, 0, .none, .any⟩,
  ⟨0x3820, 1, 6, 0x7, 0x7, .u 4, .ro, 0, .none, .any⟩,
  ⟨0x3820, 1, 6, 0x8, 0x8, .u 4, .ro, 0, .none, .any⟩,
  ⟨0x3820, 1, 6, 0x9, 0x9, .u 4, .ro, 0, .none, .any⟩,
  ⟨0x3820, 1, 6, 0xA, 0xA, .u 4, .ro, 0, .none, .any⟩,
  ⟨0x3828, 1, 6, 0x1, 0x1, .oct 64, .ro, 0, .none, .any⟩,
  ⟨0x3828, 1, 6, 0x2, 0x2, .oct 256, .ro, 0, .none, .any⟩,
  ⟨0x3830, 0, 1, 0x1, 0x1, .u 2, .rws, 0x2D, .arm, .any⟩,
  ⟨0x3830, 0, 1, 0x2, 0x2, .u 2, .rws, 0x2D, .arm, .any⟩,
  ⟨0x3830, 0, 1, 0x3, 0x3, .u 2, .ro, 0, .none, .any⟩]

/-- Objects 0x3800 to 0x38FF of the object tables. -/
def page38 : List ObjRow := page38a ++ page38b

/-- Objects 0x3A00 to 0x3AFF of the object tables, part 1. -/
def page3Aa : List ObjRow := [
  ⟨0x3A00, 0, 1, 0x1, 0x1, .bool, .rws, 1, .group, .any⟩,
  ⟨0x3A00, 0, 1, 0x2, 0x2, .u 2, .rws, 0x28F, .group, .rg 1 655⟩,
  ⟨0x3A00, 0, 1, 0x3, 0x3, .u 2, .rws, 0x51F, .group, .rg 1 1311⟩,
  ⟨0x3A00, 0, 1, 0x4, 0x4, .u 2, .rws, 0x199A, .group, .rg 655 16384⟩,
  ⟨0x3A00, 0, 1, 0x5, 0x5, .u 2, .rws, 0x199A, .group, .rg 1311 16384⟩,
  ⟨0x3A00, 0, 1, 0x6, 0x6, .u 2, .rws, 0x32, .group, .rg 0 1000⟩,
  ⟨0x3A00, 0, 1, 0x7, 0x7, .u 2, .rws, 0x148, .group, .rg 1 655⟩,
  ⟨0x3A00, 0, 1, 0x8, 0x8, .u 2, .rws, 0x40, .group, .rg 1 65535⟩,
  ⟨0x3A00, 0, 1, 0x9, 0x9, .u 1, .rws, 0xB3, .group, .rg 128 255⟩,
  ⟨0x3A00, 0, 1, 0xA, 0xA, .u 2, .rws, 0x8000, .group, .rg 8192 57344⟩,
  ⟨0x3A00, 0, 1, 0xB, 0xB, .u 2, .rws, 0x3C, .group, .rg 1 1000⟩,
  ⟨0x3A00, 0, 1, 0xC, 0xC, .bool, .rws, 1, .boot, .any⟩,
  ⟨0x3A01, 0, 1, 0x0, 0x0, .u 1, .wo, 0, .imm, .any⟩,
  ⟨0x3A08, 0, 1, 0x1, 0x1, .u 4, .ro, 0, .none, .any⟩,
  ⟨0x3A08, 0, 1, 0x2, 0x2, .u 4, .ro, 0, .none, .any⟩,
  ⟨0x3A08, 0, 1, 0x3, 0x3, .u 8, .ro, 0, .none, .any⟩,
  ⟨0x3A08, 0, 1, 0x4, 0x4, .u 4, .ro, 0, .none, .any⟩,
  ⟨0x3A08, 0, 1, 0x5, 0x5, .u 4, .ro, 0, .none, .any⟩,
  ⟨0x3A08, 0, 1, 0x6, 0x6, .u 2, .ro, 0, .none, .any⟩,
  ⟨0x3A08, 0, 1, 0x7, 0x7, .u 4, .ro, 0, .none, .any⟩,
  ⟨0x3A20, 1, 8, 0x1, 0x1, .u 2, .rws, 0x200, .group, .rg 0 512⟩,
  ⟨0x3A20, 1, 8, 0x2, 0x2, .u 1, .rws, 0x15, .group, .rg 0 48⟩,
  ⟨0x3A20, 1, 8, 0x3, 0x3, .u 4, .rws, 0x1D0D8, .group, .any⟩,
  ⟨0x3A20, 1, 8, 0x4, 0x4, .u 4, .rws, 0x1FFB8, .group, .nz⟩]

/-- Objects 0x3A00 to 0x3AFF of the object tables, part 2. -/
def page3Ab : List ObjRow := [
  ⟨0x3A20, 1, 8, 0x5, 0x5, .u 1, .rws, 7, .group, .rg 1 7⟩,
  ⟨0x3A20, 1, 8, 0x6, 0x6, .u 1, .rws, 1, .group, .rg 0 1⟩,
  ⟨0x3A20, 1, 8, 0x7, 0x7, .u 1, .rws, 4, .group, .rg 1 255⟩,
  ⟨0x3A28, 0, 1, 0x1, 0x1, .u 1, .rws, 0xFF, .group, .any⟩,
  ⟨0x3A28, 0, 1, 0x2, 0x2, .u 4, .rws, 0x4E20, .group, .rg 1000 50000⟩,
  ⟨0x3A28, 0, 1, 0x3, 0x3, .u 1, .rws, 3, .group, .rg 3 7⟩,
  ⟨0x3A29, 0, 1, 0x0, 0x0, .u 1, .wo, 0, .imm, .rg 0 1⟩]

/-- Objects 0x3A00 to 0x3AFF of the object tables. -/
def page3A : List ObjRow := page3Aa ++ page3Ab

/-- Objects 0x3C00 to 0x3CFF of the object tables. -/
def page3C : List ObjRow := [
  ⟨0x3C00, 0, 1, 0x1, 0x30, .u 1, .rws, 0, .group, .rg 0 2⟩,
  ⟨0x3C01, 0, 1, 0x1, 0x30, .u 1, .rws, 1, .group, .rg 0 3⟩,
  ⟨0x3C02, 0, 1, 0x1, 0x30, .u 1, .rws, 0, .group, .rg 0 47⟩,
  ⟨0x3C03, 0, 1, 0x1, 0x30, .u 1, .rws, 0xFF, .group, .rgf 0 7⟩,
  ⟨0x3C04, 0, 1, 0x0, 0x0, .u 8, .rws, 0, .group, .mask 0xFFFFFFFFFFFF⟩,
  ⟨0x3C05, 0, 1, 0x1, 0x8, .u 1, .rws, 0, .group, .rg 0 1⟩,
  ⟨0x3C06, 0, 1, 0x1, 0x8, .u 2, .rws, 0x7D0, .group, .rg 1 4095⟩,
  ⟨0x3C07, 0, 1, 0x1, 0x8, .u 2, .rws, 0x2000, .group, .any⟩,
  ⟨0x3C08, 0, 1, 0x1, 0x8, .u 2, .rws, 0x28, .group, .rg 1 4095⟩,
  ⟨0x3C09, 0, 1, 0x1, 0x30, .u 1, .rws, 0, .group, .rg 0 15⟩,
  ⟨0x3C0A, 0, 1, 0x1, 0x30, .u 2, .rws, 0, .group, .rg 0 65535⟩,
  ⟨0x3C0B, 0, 1, 0x1, 0x30, .u 2, .rws, 0x640, .group, .rg 1 65535⟩,
  ⟨0x3C20, 0, 1, 0x1, 0x30, .u 2, .rw, 0, .imm, .any⟩,
  ⟨0x3C21, 0, 1, 0x1, 0x30, .u 2, .rw, 0, .imm, .any⟩,
  ⟨0x3C22, 0, 1, 0x0, 0x0, .u 1, .wo, 0, .imm, .rg 0 1⟩,
  ⟨0x3C28, 0, 1, 0x1, 0x30, .u 2, .ro, 0, .none, .any⟩,
  ⟨0x3C29, 0, 1, 0x1, 0x8, .u 2, .ro, 0, .none, .any⟩,
  ⟨0x3C2A, 0, 1, 0x1, 0x8, .u 2, .ro, 0x1000, .none, .any⟩,
  ⟨0x3C2B, 0, 1, 0x0, 0x0, .u 1, .ro, 2, .none, .any⟩,
  ⟨0x3C2C, 0, 1, 0x1, 0x8, .u 4, .ro, 0, .none, .any⟩]

/-- Objects 0x4000 to 0x40FF of the object tables, part 1. -/
def page40a : List ObjRow := [
  ⟨0x4000, 0, 1, 0x1, 0x1, .vis 24, .rws, 0, .arm, .any⟩,
  ⟨0x4000, 0, 1, 0x2, 0x2, .u 1, .rws, 0, .arm, .any⟩,
  ⟨0x4000, 0, 1, 0x3, 0x3, .u 8, .rws, 0, .arm, .rg 16777216 281474976645120⟩,
  ⟨0x4000, 0, 1, 0x4, 0x4, .u 4, .rws, 0x40, .arm, .nz⟩,
  ⟨0x4000, 0, 1, 0x5, 0x5, .u 4, .rws, 0x93A, .arm, .le 16777215⟩,
  ⟨0x4000, 0, 1, 0x10, 0x10, .u 2, .ro, 0, .none, .any⟩,
  ⟨0x4000, 0, 1, 0x11, 0x11, .u 4, .ro, 0, .none, .any⟩,
  ⟨0x4000, 0, 1, 0x12, 0x12, .u 1, .ro, 0, .none, .any⟩,
  ⟨0x4000, 0, 1, 0x13, 0x13, .u 4, .ro, 0, .none, .any⟩,
  ⟨0x4002, 0, 1, 0x1, 0x1, .u 1, .rws, 1, .arm, .rg 0 7⟩,
  ⟨0x4002, 0, 1, 0x2, 0x2, .u 1, .rws, 1, .arm, .rg 0 1⟩,
  ⟨0x4002, 0, 1, 0x3, 0x3, .u 4, .ro, 0, .none, .any⟩,
  ⟨0x4002, 0, 1, 0x4, 0x4, .u 8, .ro, 0, .none, .any⟩,
  ⟨0x4003, 0, 1, 0x1, 0x1, .u 1, .rws, 2, .arm, .rg 1 6⟩,
  ⟨0x4003, 0, 1, 0x2, 0x2, .u 1, .rws, 0, .arm, .rg 0 1⟩,
  ⟨0x4003, 0, 1, 0x3, 0x3, .u 1, .rws, 1, .arm, .rg 0 1⟩,
  ⟨0x4003, 0, 1, 0x4, 0x4, .u 2, .rws, 0, .arm, .any⟩,
  ⟨0x4003, 0, 1, 0x5, 0x5, .u 1, .rws, 0, .arm, .rg 0 12⟩,
  ⟨0x4020, 1, 16, 0x1, 0x1, .u 4, .rws, 0, .arm, .any⟩,
  ⟨0x4020, 1, 16, 0x2, 0x2, .u 2, .rws, 1, .arm, .nz⟩,
  ⟨0x4020, 1, 16, 0x3, 0x3, .u 4, .rws, 0, .arm, .any⟩,
  ⟨0x4020, 1, 16, 0x4, 0x4, .u 4, .rws, 0, .arm, .any⟩,
  ⟨0x4020, 1, 16, 0x5, 0x5, .u 4, .rws, 1, .arm, .nz⟩,
  ⟨0x4020, 1, 16, 0x6, 0x6, .u 4, .rws, 1, .arm, .nz⟩]

/-- Objects 0x4000 to 0x40FF of the object tables, part 2. -/
def page40b : List ObjRow := [
  ⟨0x4020, 1, 16, 0x7, 0x7, .u 2, .rws, 1, .arm, .rg 1 8192⟩,
  ⟨0x4020, 1, 16, 0x8, 0x8, .u 4, .rws, 1, .arm, .nz⟩,
  ⟨0x4030, 1, 12, 0x1, 0x1, .u 1, .rws, 1, .arm, .rgz 1 2⟩,
  ⟨0x4030, 1, 12, 0x2, 0x2, .u 4, .rws, 0, .arm, .any⟩,
  ⟨0x4030, 1, 12, 0x3, 0x3, .u 4, .rws, 0, .arm, .any⟩,
  ⟨0x4030, 1, 12, 0x4, 0x4, .u 4, .rws, 0, .arm, .any⟩,
  ⟨0x4030, 1, 12, 0x5, 0x5, .u 4, .rws, 0, .arm, .any⟩,
  ⟨0x4030, 1, 12, 0x6, 0x6, .u 4, .rws, 1, .arm, .nz⟩,
  ⟨0x4030, 1, 12, 0x7, 0x7, .u 4, .rws, 1, .arm, .nz⟩,
  ⟨0x4030, 1, 12, 0x8, 0x8, .u 2, .rws, 0, .arm, .rgz 1 8192⟩,
  ⟨0x4030, 1, 12, 0x9, 0x9, .u 2, .rws, 0x1000, .arm, .nz⟩,
  ⟨0x4030, 1, 12, 0xA, 0xA, .u 1, .rws, 1, .arm, .rgz 1 3⟩,
  ⟨0x4030, 1, 12, 0xB, 0xB, .u 1, .rws, 0, .arm, .rg 0 1⟩,
  ⟨0x4030, 1, 12, 0xC, 0xC, .oct 18, .rws, 0, .arm, .any⟩,
  ⟨0x4030, 1, 12, 0xD, 0xD, .u 1, .rws, 1, .arm, .rg 0 1⟩,
  ⟨0x4040, 1, 8, 0x1, 0x1, .u 1, .rws, 0, .arm, .rg 0 1⟩,
  ⟨0x4040, 1, 8, 0x2, 0x2, .u 2, .rws, 0xC000, .arm, .any⟩,
  ⟨0x4040, 1, 8, 0x3, 0x3, .u 2, .rws, 0x1000, .arm, .rg 0 65535⟩,
  ⟨0x4040, 1, 8, 0x4, 0x4, .u 2, .rws, 0xFFFF, .arm, .any⟩,
  ⟨0x4050, 1, 8, 0x1, 0x1, .u 1, .rws, 3, .arm, .rgz 1 3⟩,
  ⟨0x4050, 1, 8, 0x2, 0x2, .u 1, .rws, 0, .arm, .rg 0 3⟩,
  ⟨0x4050, 1, 8, 0x3, 0x3, .u 1, .rws, 0xFF, .arm, .rgf 0 3⟩,
  ⟨0x4050, 1, 8, 0x4, 0x4, .u 1, .rws, 0, .arm, .rg 0 255⟩,
  ⟨0x4050, 1, 8, 0x5, 0x5, .u 1, .rws, 0, .arm, .rg 0 255⟩]

/-- Objects 0x4000 to 0x40FF of the object tables, part 3. -/
def page40c : List ObjRow := [
  ⟨0x4050, 1, 8, 0x6, 0x6, .u 2, .rws, 0xFFFF, .arm, .nz⟩,
  ⟨0x4050, 1, 8, 0x7, 0x7, .u 2, .rws, 0x599A, .arm, .any⟩,
  ⟨0x4050, 1, 8, 0x8, 0x8, .u 2, .rws, 0x2666, .arm, .any⟩,
  ⟨0x4050, 1, 8, 0x9, 0x9, .u 1, .rws, 0x40, .arm, .rgz 1 128⟩,
  ⟨0x4050, 1, 8, 0xA, 0xA, .u 1, .rws, 0x1D, .arm, .rgz 1 63⟩,
  ⟨0x4060, 1, 8, 0x1, 0x1, .u 4, .rws, 0x30D40, .arm, .rg 1 200000⟩,
  ⟨0x4070, 0, 1, 0x1, 0x1, .u 1, .rws, 0, .arm, .any⟩,
  ⟨0x4070, 0, 1, 0x2, 0x2, .u 1, .rws, 0, .arm, .rg 0 3⟩,
  ⟨0x4080, 1, 8, 0x1, 0x1, .u 1, .rws, 3, .arm, .rg 0 3⟩,
  ⟨0x4080, 1, 8, 0x2, 0x2, .oct 8, .rws, 0, .arm, .any⟩,
  ⟨0x4080, 1, 8, 0x3, 0x3, .u 2, .rws, 0x14, .arm, .rgz 1 500⟩,
  ⟨0x4080, 1, 8, 0x4, 0x4, .u 4, .rws, 0x7D0, .arm, .rg 1 100000⟩,
  ⟨0x4080, 1, 8, 0x5, 0x5, .bool, .rws, 1, .arm, .any⟩,
  ⟨0x4088, 0, 1, 0x1, 0x1, .oct 8, .rws, 0, .arm, .any⟩]

/-- Objects 0x4000 to 0x40FF of the object tables. -/
def page40 : List ObjRow := page40a ++ page40b ++ page40c

/-- Objects 0x5000 to 0x50FF of the object tables, part 1. -/
def page50a : List ObjRow := [
  ⟨0x5001, 0x100, 8, 0x1, 0x1, .u 1, .rws, 0x40, .bnd, .rg 8 64⟩,
  ⟨0x5001, 0x100, 8, 0x2, 0x2, .u 1, .rws, 0x20, .bnd, .rg 4 32⟩,
  ⟨0x5001, 0x100, 8, 0x3, 0x3, .u 4, .ro, 0, .none, .any⟩,
  ⟨0x5001, 0x100, 8, 0x4, 0x4, .u 4, .ro, 0, .none, .any⟩,
  ⟨0x5001, 0x100, 8, 0x5, 0x5, .u 4, .ro, 0, .none, .any⟩,
  ⟨0x5002, 0x100, 8, 0x1, 0x1, .u 4, .ro, 0, .none, .any⟩,
  ⟨0x5002, 0x100, 8, 0x2, 0x2, .u 4, .ro, 0, .none, .any⟩,
  ⟨0x5003, 0x100, 8, 0x1, 0x1, .u 1, .rws, 0x2A, .bnd, .rg 1 48⟩,
  ⟨0x5003, 0x100, 8, 0x2, 0x2, .u 2, .rws, 0xA00, .bnd, .rg 1 2560⟩,
  ⟨0x5003, 0x100, 8, 0x3, 0x3, .u 1, .rws, 0x40, .bnd, .rg 0 128⟩,
  ⟨0x5003, 0x100, 8, 0x4, 0x4, .u 4, .ro, 0x199C0, .none, .any⟩,
  ⟨0x5004, 0x100, 8, 0x1, 0x2F, .i 1, .rws, 0, .bnd, .any⟩,
  ⟨0x5005, 0x100, 8, 0x1, 0x1, .u 4, .ro, 0, .none, .any⟩,
  ⟨0x5005, 0x100, 8, 0x2, 0x2, .u 4, .ro, 0, .none, .any⟩,
  ⟨0x5005, 0x100, 8, 0x3, 0x3, .u 4, .ro, 0, .none, .any⟩,
  ⟨0x5010, 0x100, 8, 0x1, 0x30, .u 1, .rws, 0, .bnd, .sp⟩,
  ⟨0x5007, 0x100, 8, 0x1, 0x1, .u 2, .rws, 0x64, .bnd, .rg 1 1000⟩,
  ⟨0x5007, 0x100, 8, 0x2, 0x2, .u 2, .rws, 0xC8, .bnd, .rg 1 1000⟩,
  ⟨0x5007, 0x100, 8, 0x3, 0x3, .u 1, .rws, 0, .bnd, .mask 3⟩,
  ⟨0x5007, 0x100, 8, 0x4, 0x4, .u 1, .wo, 0, .imm, .rg 0 1⟩,
  ⟨0x5020, 0x100, 8, 0x1, 0x30, .u 1, .rws, 0, .bnd, .rg 0 63⟩,
  ⟨0x5006, 0x100, 8, 0x1, 0x1, .u 1, .ro, 0, .none, .any⟩,
  ⟨0x5006, 0x100, 8, 0x2, 0x2, .u 2, .ro, 0, .none, .any⟩,
  ⟨0x5006, 0x100, 8, 0x3, 0x3, .u 2, .ro, 0, .none, .any⟩]

/-- Objects 0x5000 to 0x50FF of the object tables, part 2. -/
def page50b : List ObjRow := [
  ⟨0x5006, 0x100, 8, 0x4, 0x4, .u 4, .ro, 0, .none, .any⟩,
  ⟨0x5006, 0x100, 8, 0x5, 0x5, .u 4, .ro, 0, .none, .any⟩,
  ⟨0x5006, 0x100, 8, 0x6, 0x6, .u 4, .ro, 0, .none, .any⟩,
  ⟨0x5006, 0x100, 8, 0x7, 0x7, .u 4, .ro, 0, .none, .any⟩,
  ⟨0x5006, 0x100, 8, 0x8, 0x8, .u 1, .ro, 0, .none, .any⟩,
  ⟨0x5006, 0x100, 8, 0x9, 0x9, .u 4, .ro, 0, .none, .any⟩,
  ⟨0x5008, 0x100, 8, 0x1, 0x1, .u 8, .ro, 0, .none, .any⟩,
  ⟨0x5008, 0x100, 8, 0x2, 0x2, .u 4, .ro, 0, .none, .any⟩,
  ⟨0x5008, 0x100, 8, 0x3, 0x3, .u 4, .ro, 0, .none, .any⟩,
  ⟨0x5008, 0x100, 8, 0x4, 0x4, .u 4, .ro, 0, .none, .any⟩,
  ⟨0x5008, 0x100, 8, 0x5, 0x5, .u 4, .ro, 0, .none, .any⟩,
  ⟨0x5008, 0x100, 8, 0x6, 0x6, .u 4, .ro, 0, .none, .any⟩,
  ⟨0x5009, 0x100, 8, 0x1, 0x1, .u 4, .ro, 0, .none, .any⟩,
  ⟨0x5009, 0x100, 8, 0x2, 0x2, .u 4, .ro, 0, .none, .any⟩,
  ⟨0x5009, 0x100, 8, 0x3, 0x3, .u 4, .ro, 0, .none, .any⟩,
  ⟨0x5009, 0x100, 8, 0x4, 0x4, .u 4, .ro, 0, .none, .any⟩,
  ⟨0x5009, 0x100, 8, 0x5, 0x5, .u 4, .ro, 0, .none, .any⟩,
  ⟨0x5009, 0x100, 8, 0x6, 0x6, .u 4, .ro, 0, .none, .any⟩,
  ⟨0x5009, 0x100, 8, 0x7, 0x7, .u 4, .ro, 0, .none, .any⟩,
  ⟨0x5009, 0x100, 8, 0x8, 0x8, .u 4, .ro, 0, .none, .any⟩,
  ⟨0x5009, 0x100, 8, 0x9, 0x9, .u 4, .ro, 0, .none, .any⟩,
  ⟨0x5009, 0x100, 8, 0xA, 0xA, .u 4, .ro, 0, .none, .any⟩]

/-- Objects 0x5000 to 0x50FF of the object tables. -/
def page50 : List ObjRow := page50a ++ page50b

/-- Objects 0x6100 to 0x61FF of the object tables. -/
def page61 : List ObjRow := [
  ⟨0x6100, 1, 8, 0x0, 0x0, .dom, .rws, 0, .arm, .any⟩,
  ⟨0x6108, 1, 8, 0x0, 0x0, .dom, .rws, 0, .arm, .any⟩,
  ⟨0x6110, 1, 12, 0x0, 0x0, .dom, .rws, 0, .arm, .any⟩,
  ⟨0x6120, 1, 12, 0x0, 0x0, .dom, .rws, 0, .arm, .any⟩,
  ⟨0x6130, 1, 16, 0x0, 0x0, .dom, .rws, 0, .arm, .any⟩,
  ⟨0x6140, 1, 31, 0x0, 0x0, .dom, .rws, 0, .arm, .any⟩,
  ⟨0x6160, 1, 8, 0x0, 0x0, .dom, .rws, 0, .arm, .any⟩,
  ⟨0x6170, 1, 8, 0x0, 0x0, .dom, .rws, 0, .arm, .any⟩]

/-- Objects 0x6200 to 0x62FF of the object tables. -/
def page62 : List ObjRow := [
  ⟨0x6200, 1, 8, 0x0, 0x0, .dom, .rws, 0, .bnd, .any⟩,
  ⟨0x6208, 1, 8, 0x0, 0x0, .dom, .ro, 0, .bnd, .any⟩,
  ⟨0x6210, 1, 8, 0x0, 0x0, .dom, .rws, 0, .bnd, .any⟩,
  ⟨0x6218, 1, 8, 0x0, 0x0, .dom, .rws, 0, .bnd, .any⟩,
  ⟨0x6220, 1, 8, 0x0, 0x0, .dom, .ro, 0, .bnd, .any⟩,
  ⟨0x6228, 1, 8, 0x0, 0x0, .dom, .rws, 0, .bnd, .any⟩,
  ⟨0x6230, 1, 8, 0x0, 0x0, .dom, .ro, 0, .none, .any⟩,
  ⟨0x6238, 1, 8, 0x0, 0x0, .dom, .ro, 0, .none, .any⟩]

/-- Objects 0x6300 to 0x63FF of the object tables. -/
def page63 : List ObjRow := [
  ⟨0x6300, 1, 16, 0x0, 0x0, .dom, .rws, 0, .group, .any⟩,
  ⟨0x6310, 1, 16, 0x0, 0x0, .dom, .ro, 0, .none, .any⟩]

/-- Objects 0x6400 to 0x64FF of the object tables. -/
def page64 : List ObjRow := [
  ⟨0x6400, 1, 6, 0x0, 0x0, .dom, .rws, 0, .frame, .any⟩,
  ⟨0x6408, 1, 6, 0x0, 0x0, .dom, .rws, 0, .frame, .any⟩,
  ⟨0x6410, 1, 16, 0x0, 0x0, .dom, .rws, 0, .frame, .any⟩,
  ⟨0x6420, 1, 6, 0x0, 0x0, .dom, .rws, 0, .frame, .any⟩,
  ⟨0x6430, 1, 6, 0x0, 0x0, .dom, .ro, 0, .none, .any⟩]

/-- Objects 0x6500 to 0x65FF of the object tables. -/
def page65 : List ObjRow := [
  ⟨0x6500, 1, 48, 0x0, 0x0, .dom, .rws, 0, .group, .any⟩]

/-- The rows whose indices lie in the 256 indices of page `p`. -/
def pageOf (p : Nat) : List ObjRow :=
  match p with
  | 0x10 => page10
  | 0x14 => page14
  | 0x20 => page20
  | 0x21 => page21
  | 0x22 => page22
  | 0x24 => page24
  | 0x26 => page26
  | 0x27 => page27
  | 0x28 => page28
  | 0x2A => page2A
  | 0x2B => page2B
  | 0x2C => page2C
  | 0x2E => page2E
  | 0x30 => page30
  | 0x32 => page32
  | 0x34 => page34
  | 0x38 => page38
  | 0x3A => page3A
  | 0x3C => page3C
  | 0x40 => page40
  | 0x61 => page61
  | 0x62 => page62
  | 0x63 => page63
  | 0x64 => page64
  | 0x65 => page65
  | 0x50 => page50
  | 0x51 => page50
  | 0x52 => page50
  | 0x53 => page50
  | 0x54 => page50
  | 0x55 => page50
  | 0x56 => page50
  | 0x57 => page50
  | _ => []

/-- The row covers index `i`. -/
def ObjRow.hasIdx (r : ObjRow) (i : Nat) : Bool :=
  if r.idx == 0x6140 then decide (0x6140 ≤ i ∧ i < 0x6160 ∧ i % 8 < 7)
  else if r.step == 0 then i == r.idx
  else decide (r.idx ≤ i) && (i - r.idx) % r.step == 0 && decide ((i - r.idx) / r.step < r.count)

/-- The row covers subindex `k`. -/
def ObjRow.hasSub (r : ObjRow) (k : Nat) : Bool := decide (r.lo ≤ k ∧ k ≤ r.hi)

/-- The rows of index `i` on the ordering code `product` (R2, R494). -/
def rowsOf (product i : Nat) : List ObjRow :=
  if product == 0x2204 && decide (0x5400 ≤ i ∧ i ≤ 0x57FF) then []
  else (pageOf (i / 256)).filter (fun r => r.hasIdx i)

/-- The row of an object, when it exists. -/
def rowOf (product i k : Nat) : Option ObjRow := (rowsOf product i).find? (fun r => r.hasSub k)

end Sys2Proof.Machine
end

