-- ==== Sys2Proof/Machine/State.lean ====
section
/-! DEFINITION. The state of the block, as plain data: every register, queue, counter, mode and pin the spec gives the
device, the DRAM pages, and the queue of waiting commands. Objects that only hold a value live in the object
dictionary's tables under their own index and subindex; what the rules move lives in the typed structures below. -/
namespace Sys2Proof.Machine

open Sys2Proof

/-- Why the block stops. -/
inductive Fault where
  /-- Raised by PAGE_READ, PAGE_WRITE and PARTIAL_WRITE for a page outside the fitted DRAM (R352): no such page exists.
  Safe: the model stops where the spec gives no page to act on. -/
  | noSuchPage (addr : Nat)
deriving DecidableEq, Repr

/-- Why a command has no meaning. -/
inductive Refusal where
  /-- Raised only by an arm of `exec` whose command has no meaning yet. Safe. -/
  | notModelled (mnemonic : String)
deriving DecidableEq, Repr

/-- The device states of Table 20.3 (R453). -/
inductive DState where
  | off | boot | standby | waking | ready | armed | printing | stopping | fault | restarting
deriving DecidableEq, Repr

/-- The code 0x2001:00 reports (Table 20.3). -/
def DState.code : DState → Nat
  | .off => 0 | .boot => 1 | .standby => 2 | .waking => 3 | .ready => 4 | .armed => 5
  | .printing => 6 | .stopping => 7 | .fault => 8 | .restarting => 9

/-- What the last command sent out of the device. -/
inductive Out where
  /-- A COT message: transport code of R40, TYPE, SESSION, FLAGS, SEQ, payload, and the tag where AUTH is set. -/
  | datagram (via typ sess flags seq : Nat) (payload tag : Bytes)
  /-- The outcome of a host write given as a command of its own: 0, or the abort code (Table 22.1). -/
  | answer (sess code : Nat)
  /-- A control block or ordered set on a lane (Tables 10.2 and 10.3). -/
  | linkBlock (lane typ : Nat) (payload : Bytes)
  /-- A line packet on a lane (R251). -/
  | linePacket (lane : Nat) (seq : Nat) (payload : Bytes)
  /-- A strobe on both FIRE outputs of a bar (R210): line, instant in 2.5 ns units, width in 10 ns units, polarity of the two
  (0x5007:03). -/
  | strobe (bar line at_ width polarity : Nat)
  /-- A compare pulse (R199, R200). -/
  | compare (unit entry : Nat) (rep : Option Nat) (width : Nat) (activeLow : Bool)
  /-- A lit LED strobe: channel, delay and width in 5 ns steps (R326). -/
  | ledStrobe (led delay width : Nat)
  /-- A timed-output edge (R344). -/
  | tout (k time width : Nat)
  /-- A DMA completion record (Table 4.6). -/
  | completion (queue : Nat) (record : Bytes)
  /-- A DMA write to host memory. -/
  | hostWrite (addr : Nat) (data : Bytes)
  /-- An MSI-X interrupt (R110, R107). -/
  | msix (vector : Nat)
  /-- The device-to-host mailbox window filled: its length word and the message after it (R107). -/
  | mailbox (window : Bytes)
  /-- Data returned to a PCIe read: the vendor and device ID, or a part of BAR0 (R106). -/
  | pcie (data : Bytes)
  /-- A CCI write to a camera (R290). -/
  | cci (cam addr reg : Nat) (data : Bytes)
  /-- The protection-switch setting of a bar (R239). -/
  | laneSwitch (bar : Nat) (code : Nat)
  /-- A PTP message of a domain: 1 Delay_Req, 2 Pdelay_Req, 3 Pdelay_Resp, 4 Pdelay_Resp_Follow_Up. -/
  | ptp (dom kind : Nat) (time : Nat)
  /-- A twin message: type, message number, payload (Table 16.4). -/
  | twin (kind seq : Nat) (payload : Bytes)
  /-- A pulse on HB_OUT (R392). -/
  | hbOut
  /-- The value returned to a host read given as a command of its own. -/
  | value (sess : Nat) (data : Bytes)
  /-- Answer to a PCIe configuration request: Configuration Request Retry Status, or served (R470). -/
  | config (retry : Bool)
  /-- Data returned to a DRAM requester; none is POISON (R356). -/
  | pageData (addr : Nat) (data : Option Bytes)
deriving DecidableEq, Repr

/-- An event record (R70); its overrun count is that of 0x1440:02, the same wherever it is read (R35, R71). -/
structure EventRec where
  num : Nat
  level : Nat
  mask : Nat
  unit : Nat
  time : Nat
  rep : Nat
  detail : Nat
  overrun : Nat := 0
deriving DecidableEq, Repr

/-- The kinds of an SDO transfer (R49). -/
inductive XferKind where
  | segDown | blkDown | segUp | blkUp
deriving DecidableEq, Repr

/-- An open segmented or block transfer (R49 to R53). -/
structure Xfer where
  kind : XferKind
  index : Nat
  sub : Nat
  /-- Declared or actual total length. -/
  total : Nat
  /-- Segment counter expected next, or last good block sequence. -/
  ctr : Nat := 0
  /-- Bytes so far (download) or the whole value (upload). -/
  data : Bytes := []
  /-- Bytes of the value already sent and acknowledged (upload). -/
  pos : Nat := 0
  block : Nat := 0
deriving DecidableEq, Repr

/-- A session (R39 to R45), in a slot of 0x2030. -/
structure Sess where
  id : Nat
  /-- Transport code of R40. -/
  via : Nat
  /-- 0 service data, 1 process data, 2 events. -/
  port : Nat
  peer : Nat
  bound : Bool := false
  rxSeq : Nat
  txSeq : Nat := 0
  /-- Response payloads of the last accepted SDO request, none before the first (R44). -/
  cached : Option (List Bytes) := none
  /-- 0x2010 of this session (R72). -/
  window : Nat := 0xFF
  xfer : Option Xfer := none
  /-- A transfer was abandoned by R53 and its 0x0504_0000 not yet answered. -/
  abandoned : Bool := false
  /-- Waiting event records, oldest first (R71). -/
  queue : List EventRec := []
  /-- Unacknowledged EVENT messages: SEQ and records. -/
  unacked : List (Nat × List EventRec) := []
  /-- Records dropped since one was last queued. -/
  overrun : Nat := 0
  /-- PD_OUT taken in a bound session whose copy has not come on the other port: SEQ and the port it came on (R45). -/
  taken : List (Nat × Nat) := []
deriving DecidableEq, Repr

/-- A running long operation (R55 to R59). -/
structure Op where
  id : Nat
  cls : Nat
  start : Nat
  sess : Nat
  /-- Context, item mask, slot or other argument of the operation. -/
  arg : Nat := 0
  /-- The result decided before the end; 0 where none is. -/
  result : Nat := 0
deriving DecidableEq, Repr

/-- Process-data state (R66 to R68, R497 to R500). -/
structure Pd where
  /-- The last accepted PD-OUT not yet acted on. -/
  held : Option Bytes := none
  /-- A PD-OUT has been accepted since boot or since process data was last turned on (R68). -/
  supervised : Bool := false
  lost : Bool := false
  ackFc : Nat := 0
  ackSpoil : Nat := 0
  ackSplice : Nat := 0
  ackCancel : Nat := 0
  ackCmd : Nat := 0
  resSpoil : Nat := 0
  resSplice : Nat := 0
  resCancel : Nat := 0
  resCmd : Nat := 0
  /-- INTENDED_SPEED of the last accepted PD-OUT. -/
  intended : Nat := 0
deriving DecidableEq, Repr

/-- A recovery of the ladder, in progress or queued (R402 to R413). -/
structure Recovery where
  id : Nat
  event : Nat
  unit : Nat
  mask : Nat
  detail : Nat
  level : Nat
  start : Nat
  commanded : Bool := false
deriving DecidableEq, Repr

/-- Fault manager and event log (R402 to R423). -/
structure Faults where
  /-- Newest first, at most 1,024 (R422). -/
  log : List EventRec := []
  /-- Number of the newest record. -/
  top : Nat := 0
  running : List Recovery := []
  queued : List Recovery := []
  nextId : Nat := 1
  /-- Instants of the escalations, newest first (R413). -/
  escalations : List Nat := []
  /-- Recent L1 recoveries: event * 256 + unit, instant, repeat (R413). -/
  recentL1 : List (Nat × Nat × Nat) := []
  /-- Last instant at which a rate-limited event was raised, by event * 256 + unit. -/
  limited : Table Nat := []
  /-- Instants of COMPARE disagreements' resynchronisations per bar (R415): count and instant. -/
  disagreements : Table (Nat × Nat) := []
  /-- State-save slots: instant of the last complete set in slot 0 and 1, and which is poisoned (R408). -/
  saveSlots : Table Nat := []
  saveNext : Nat := 0
  savePoison : Nat := 0
  /-- Tiles whose last decode failed and was retried (R122), by frame key. -/
  decodeFails : List Nat := []
  /-- Local instant of the last recovery of L2 or above (R399). -/
  lastL2 : Option Nat := none
deriving DecidableEq, Repr

/-- The pins the rules read or drive. Active-low outputs hold true when driven low (asserted). -/
structure Pins where
  porst : Bool := false
  sysrst : Bool := false
  /-- FAULT_N low from PORST_N until Boot ends (R420). -/
  faultN : Bool := true
  alertN : Bool := false
  thermN : Bool := false
  hbInAlive : Bool := false
  usbVbus : Bool := false
  /-- Supplies out of range, by their number. -/
  badSupplies : List Nat := []
deriving DecidableEq, Repr

/-- A scheduled flying change (R86 to R91). -/
structure Chg where
  ctx : Nat
  n : Nat
  deferred : Bool := false
  /-- Waits for the locked change's boundary (R87). -/
  waiting : Bool := false
deriving DecidableEq, Repr

/-- A repeat and its ledger record (R81, R97, Table 3.5). -/
structure Rep where
  num : Nat
  /-- D(k), 48.16 lines. -/
  d : Nat
  /-- Full length L of the repeat, 48.16 lines. -/
  len : Nat
  /-- Gap of the context, whole lines. -/
  gap : Nat
  /-- D(k+1) where a cut or the next sheet fixes it apart from d + len. -/
  fin : Option Nat := none
  ctx : Option Nat
  /-- V(k) of R138: repeats scheduled under this context before this one since its arm. -/
  v : Nat := 0
  opened : Bool := false
  /-- Contexts recorded at the bars, 0xFF where none. -/
  ctxs : Table Nat := []
  ceiling : Nat := 0
  gen : Nat := 0
  spoiled : Nat := 0
  cause : Nat := 0
  alt : Nat := 0
  varSubst : Nat := 0
  open_ : Nat := 0
  /-- Bars that raised EV_MISSING_LINE in this repeat. -/
  missing : Nat := 0
  /-- An ABORT leaves the repeats that follow without a context (Table 3.6). -/
  last : Bool := false
deriving DecidableEq, Repr

/-- A line in a bar's line store (R14, R99): its dots by column, or blank. -/
structure Stored where
  line : Nat
  /-- Repeat the line was rendered for. -/
  rep : Nat
  dots : List Nat
  /-- Tile that prints each column: the zone selection bits (R170, R172). -/
  tiles : List Nat
  gap : Bool := false
  /-- Its packets are withheld: the partner's copies print (R391). -/
  held : Bool := false
deriving DecidableEq, Repr

/-- Lines from `lo` up to but not including `hi` are retired blank; cause as Table 3.7. -/
structure Blank where
  lo : Nat
  hi : Nat
  cause : Nat
deriving DecidableEq, Repr

/-- What one bar prints a live placement with (R139). -/
structure Choice where
  rep : Nat
  layer : Nat
  /-- The instance's kind and tile identity, or none for the fallback fill. -/
  tile : Option (Nat × Nat)
  /-- Its lines are withheld: the partner's copies print (R391). -/
  withheld : Bool := false
deriving DecidableEq, Repr

/-- A planned or forced lane swap of a bar (R239, R240). -/
structure Swap where
  logical : Nat
  planned : Bool
  /-- The spare has stepped up in the switch's loopback (R239 step 1). -/
  stepped : Bool := false
  /-- Its switch has been written (R239 step 2). -/
  started : Bool := false
  ready : Bool := false
  /-- Repeat at whose boundary the swap acts. -/
  atRep : Option Nat := none
deriving DecidableEq, Repr

/-- Engine substitution in progress at a bar (R406). -/
structure EngineSwap where
  old : Nat
  new_ : Nat
  ready : Bool := false
  atRep : Option Nat := none
deriving DecidableEq, Repr

/-- A bar (R14, R99 to R105, R210 to R219). -/
structure Bar where
  engine : Nat
  /-- The line to fire next; the last line fired is the one before. -/
  next : Nat := 0
  /-- A line has been fired since the start. -/
  fired : Bool := false
  /-- First line not yet rendered. -/
  rend : Nat := 0
  /-- First line not yet sent. -/
  sent : Nat := 0
  store : List Stored := []
  blanks : List Blank := []
  ctx : Option Nat := none
  rep : Nat := 0
  warning : Bool := false
  saturated : Bool := false
  overspeed : Bool := false
  alternate : Bool := false
  strobeFault : Bool := false
  /-- The strobe fault was cleared; firing resumes at the next boundary (R219). -/
  strobeWait : Bool := false
  /-- The overspeed policy taken at entry is the alternate screen (R216). -/
  altPolicy : Bool := false
  /-- Repeat at which the bar switches to (true) or from (false) the alternate screen. -/
  altAt : Option (Bool × Nat) := none
  /-- Newest repeat for which a return to the primary screen has been judged (R216). -/
  altTried : Nat := 0
  /-- Last strobe instant, 2.5 ns units. -/
  tPrev : Option Nat := none
  /-- The next line has fallen due and waits for its firing instant: both instants, 2.5 ns units (R214). -/
  wait : Option (Nat × Nat) := none
  /-- Instants at which later lines have fallen due while it waits. -/
  dues : List Nat := []
  /-- Lines that still come due after a controlled stop, each with its strobe width and the least interval before it in 2.5 ns, none
  where it is blank (R409, R214). -/
  tail : List (Nat × Option (Nat × Nat)) := []
  /-- Largest lag of the repeat in progress, 1/64 line. -/
  lagNow : Nat := 0
  /-- Blank until the next boundary: position was lost (R209). -/
  posLost : Bool := false
  choices : List Choice := []
  engineSwap : Option EngineSwap := none
  /-- A fault's blanking or withholding ends at the first boundary at or beyond this line (R406, R407). -/
  resumeAt : Option Nat := none
  swap : Option Swap := none
  /-- Switch settings written at boot whose readback has not come (R238). -/
  switchSent : List Nat := []
  /-- Recent lines the device itself counted as missing (R101). -/
  missed : List Nat := []
  /-- Lines below this one are being replayed after an L1 recovery (R404). -/
  replay : Nat := 0
  /-- Blank flag of the fire tag sent for the next line (R211). -/
  tagBlank : Option Bool := none
  /-- A lane of the bar was down when that tag was due (R263). -/
  tagDown : Bool := false
  /-- A warm takeover waits for its CREDITs: lines that come due are skipped (R396). -/
  warmGap : Bool := false
deriving DecidableEq, Repr

/-- A value or table a live commit replaced, still in force at a bar before repeat `upto` (R62). -/
structure Held where
  key : Nat
  upto : Nat
  val : Nat := 0
  dom : Option Bytes := none
  /-- 500 times the position a boundary must lie at or beyond for the new value to act there; 0 where its repeat is named. -/
  reach : Nat := 0
deriving DecidableEq, Repr

/-- A context (R73 to R80). While Staging, `val` and `dom` are its staged values; from Validating on they are the
committed ones. -/
structure Ctx where
  code : Nat := 0
  owner : Option Nat := none
  val : Table Nat := []
  dom : Table Bytes := []
  ceiling : Nat := 0
  limiting : Nat := 0
  /-- Terms 1 to 6 of the speed ceiling as computed at arm, m/min (R155, R156). -/
  terms : List Rat := []
  checksum : Nat := 0
  noGain : Nat := 0
  bytes : Nat := 0
  /-- Cache bytes by bar: the stripes of R353. -/
  stripes : Table Nat := []
  /-- Rate code that the lane term last used for each lane of its bars (R156), by lane. -/
  rates : Table Nat := []
  /-- Repeats scheduled under it since it was armed (R138). -/
  v : Nat := 0
  /-- Datum position, 48.16, of the end of its last repeat. -/
  lastEnd : Nat := 0
  lastRep : Nat := 0
  /-- The static frames its cache planes were flattened from: kind, tile identity, header, data. -/
  planes : List (Nat × Nat × FrameHdr × Bytes) := []
  /-- Cache tiles lost and not restored: bar, tile column, tile row (R128, R130). -/
  lost : List (Nat × Nat × Nat) := []
  /-- User or generated tone tables, by bar, fixed at arm (R148). -/
  tones : Table (List Nat) := []
deriving DecidableEq, Repr

/-- An encoder channel (R180 to R190). -/
structure Enc where
  a : Bool := false
  b : Bool := false
  z : Bool := false
  count : Int := 0
  held : Bool := false
  last : Int := 1
  lastLatch : Option Int := none
  reversal : Bool := false
  absent : Bool := false
  /-- Trims mirrored by the partner: index number and trim in 0.01 ppm (R190). -/
  mirrored : List (Nat × Int) := []
  /-- Levels of A, B and Z as last sampled, and for how many samples each has held: the glitch filter (R180). -/
  raw : Bool × Bool × Bool := (false, false, false)
  runs : Nat × Nat × Nat := (0, 0, 0)
  /-- Interpolated phase at the count, and at the last ADC sample, in counts of the signal period (R185, R186). -/
  phase : Option Nat := none
  lastPhase : Nat := 0
  /-- ADC samples in a row outside the amplitude window, beyond a limit of R185, and within both (R186). -/
  badRun : Nat := 0
  fastRun : Nat := 0
  goodRun : Nat := 0
deriving DecidableEq, Repr

/-- A compare unit's entry status (Table 7.3). -/
structure CmpSt where
  state : Nat := 0
  value : Nat := 0
  rep : Nat := 0
deriving DecidableEq, Repr

/-- A compare unit (R195 to R201). -/
structure Cmp where
  status : Table CmpSt := []
  /-- Repeat whose instance of an entry fires next, in per-repeat mode. -/
  nextRep : Table Nat := []
  activeLow : Bool := false
  anyFired : Bool := false
  pulseEnd : Nat := 0
deriving DecidableEq, Repr

/-- The Reckoner (R204 to R209). Positions are in units of 2^-64 line, velocity in 2^-64 line per update. -/
structure Reck where
  p : Int := 0
  vel : Int := 0
  hwm : Int := 0
  anchorP : Int := 0
  anchorC : Int := 0
  /-- Local instant of the last update, ns. -/
  at_ : Nat := 0
  /-- 0 tracking, 1 holding, 2 coasting, 3 lost. -/
  state : Nat := 0
  maxC : Int := 0
  reported : Bool := false
  undone : Bool := false
  coastStart : Nat := 0
  /-- Trim the ratio was last computed with. -/
  trim : Int := 0
deriving DecidableEq, Repr

/-- A PTP domain (R335 to R342). Nanoseconds with 16 fraction bits. -/
structure Ptp where
  anchorL : Int := 0
  anchorT : Int := 0
  rate : Int := 0
  carried : Int := 0
  inRow : Nat := 0
  outRow : Nat := 0
  lastSync : Nat := 0
  lastAnnounce : Nat := 0
  interval : Int := 0
  receiptTimeout : Nat := 0
  lockedSince : Nat := 0
  pathDelay : Int := 0
  /-- A two-step Sync waits for its Follow_Up: arrival. -/
  waiting : Option Nat := none
  /-- The last Sync measured: its origin in ns and its arrival. -/
  syncOrigin : Nat := 0
  syncArrival : Nat := 0
  /-- Local instant at which the last Delay_Req or Pdelay_Req left. -/
  reqSent : Option Nat := none
deriving DecidableEq, Repr

/-- A capture waiting in a TIN queue (Table 14.3). -/
structure Capture where
  time : Nat
  seq : Nat
  falling : Bool
  gen : Nat
deriving DecidableEq, Repr

/-- Network time, timed outputs and captures (chapter 14). -/
structure Time where
  doms : Table Ptp := []
  /-- 0 A, 1 B, 2 local counter. -/
  inForce : Nat := 2
  /-- A switch away from the preferred domain is in effect. -/
  away : Bool := false
  /-- A switch with reaction 1 waits for the other domain to lock (R341). -/
  wantSwitch : Bool := false
  /-- Local instant of the last slew of the carried offset. -/
  slewAt : Nat := 0
  /-- Next m of each timed output, one above the last edge fired or skipped. -/
  toutNext : Table Nat := []
  queues : Table (List Capture) := []
  seqs : Table Nat := []
  /-- Local instant of the last process-data cycle instant (R337). -/
  cycleAt : Option Nat := none
  /-- Service reading of the last process-data cycle instant, or right after a step of the service timescale (R337). -/
  cyclePast : Option Nat := none
deriving DecidableEq, Repr

/-- A stored tile frame (R114 to R117): header, uncompressed data. -/
structure Frame where
  hdr : FrameHdr
  data : Bytes
  /-- Its payload as stored. -/
  payload : Bytes := []
  /-- A code page of it reads POISON. -/
  poisoned : Bool := false
  /-- Given up by R122. -/
  lost : Bool := false
  /-- The decoder window saved at its end (R119). -/
  window : Bytes := []
deriving DecidableEq, Repr

/-- A PUT_FRAME whose frame has been read and waits for its decoder (R118, R119). -/
structure Check where
  desc : Desc
  hdr : FrameHdr
  payload : Bytes
deriving DecidableEq, Repr

/-- A DMA queue (R108 to R113). -/
structure Queue where
  order : Nat := 0
  irqEn : Bool := false
  enabled : Bool := false
  tail : Nat := 0
  head : Nat := 0
  lastErr : Nat := 0
  cfgErr : Bool := false
  halted : Bool := false
  /-- Laps of the completion ring written, for PHASE (R109). -/
  lap : Nat := 0
  check : Option Check := none
  /-- Q_RING_BASE and Q_CPL_BASE (Table 4.2), written through BAR0. -/
  ringBase : Nat := 0
  cplBase : Nat := 0
deriving DecidableEq, Repr

/-- A request entry of 0x2A05 (R128, R129). -/
structure Request where
  kind : Nat
  state : Nat
  tile : Nat
  /-- Instant of RESTORED or EXPIRED. -/
  since : Nat := 0
deriving DecidableEq, Repr

/-- A camera export in the export ring (R126, R296): its header and its encoded payload. -/
structure Export where
  cam : Nat
  frameNo : Nat
  hdr : FrameHdr
  data : Bytes
  /-- Bytes of `data` written to its chains so far (R125). -/
  written : Nat := 0
  /-- Waits in OUT_OF_SPACE since, its state record saved (R125). -/
  waiting : Option Nat := none
deriving DecidableEq, Repr

/-- The prediction of a repeat at a bar: by repeat line, the sums of each block of 16 columns (R153). -/
structure Pred where
  bar : Nat
  rep : Nat
  ctx : Nat
  columns : Nat
  lines : Table (List Nat) := []
  done : Bool := false
  poisoned : Bool := false
deriving DecidableEq, Repr

/-- A saved decoder state (R104, R121): the bar and stream it belongs to, and the line it stands at. Its record of 33,280 bytes is
rebuilt from the stored stream, so only its place is held. -/
structure Ckpt where
  bar : Nat
  /-- 1 a cache tile, 2 a frame of a variable layer. -/
  kind : Nat
  /-- Tile identity of Table 4.12. -/
  tile : Nat
  rep : Nat
  /-- Line of the tile or frame at which the state was saved, and the device line it was saved for. -/
  line : Nat
  at_ : Nat
deriving DecidableEq, Repr

/-- Ingress and job store (chapter 04). -/
structure Jobs where
  link : Bool := false
  bar0 : Nat := 0
  enumerated : Bool := false
  /-- Queues are paused (R407, R452, link loss). -/
  paused : Bool := true
  queues : Table Queue := []
  d2hFull : Bool := false
  /-- The MSI-X table as the host wrote it, and the pending bits (Table 4.1). -/
  msixTable : Bytes := []
  msixPending : Nat := 0
  /-- The host-to-device and device-to-host mailbox windows; bytes beyond those listed are 0 (R107). -/
  mbIn : Bytes := []
  mbOut : Bytes := []
  /-- Messages waiting for the device-to-host window. -/
  d2hWait : List Bytes := []
  /-- Key: kind * 2^64 + tile identity. -/
  frames : Table Frame := []
  requests : Table Request := []
  exports : List Export := []
  /-- Graphic frames held decoded (R144). -/
  decoded : List Nat := []
  /-- Decoder checkpoints, newest first (R104). -/
  checkpoints : List Ckpt := []
  /-- The checkpoint each rewound decoder was restored from at its bar's last undo (R103). -/
  rewinds : List Ckpt := []
  preds : List Pred := []
deriving DecidableEq, Repr

/-- A lane beyond what its objects of Tables 9.7 and 10.9 hold (chapters 09, 10). -/
structure Lane where
  marker : Nat := 0
  /-- Service time at which the next MARK leaves, ns (R231, R232). -/
  markDue : Nat := 0
  /-- Invalid sync headers, and control blocks of an unlisted type, received (R233, R246, R247). -/
  badHeaders : Nat := 0
  unlisted : Nat := 0
  /-- It is under qualification: swapped out, or by REQUALIFY (R241). -/
  qual : Bool := false
  /-- Consecutive failed TRAIN attempts (R228). -/
  fails : Nat := 0
  /-- Rate code of the step-up in progress. -/
  target : Nat := 0
  /-- Lowest rate code at which a step-up has failed; 6 when none. -/
  ceilingRate : Nat := 6
  /-- Rate code at which it last reached UP since the lane domain started; 0 none. -/
  upRate : Nat := 0
  /-- A retrain of R235 step 3 is running without renegotiation. -/
  retraining : Bool := false
  /-- Loopback (R237, 0 to 3) plus 16 times the PRBS pattern (0 to 2). -/
  test : Nat := 0
  /-- Bits by which BITSLIP has moved the receive word boundary, modulo 66 (R234). -/
  slip : Nat := 0
  /-- The partner's capabilities have arrived. -/
  known : Bool := false
  /-- Equaliser code held per rate code (R225). -/
  eqHeld : Table Nat := []
  /-- It serves a logical lane that carries lines. -/
  carries : Bool := false
  /-- Module version or depth refused (R249). -/
  refused : Bool := false
  baseSent : Bool := false
  credited : Bool := false
  acked : Nat := 0
  window : Nat := 0
  epoch : Nat := 0
  /-- Next line to send on this lane. -/
  next : Nat := 0
  hbTx : Nat := 0
  hbRx : Nat := 0
  checkId : Nat := 0
  /-- The outstanding CHECK: ID, slot, first position, count (R271). -/
  check : Option (Nat × Nat × Nat × Nat) := none
  /-- Slots and positions that wait for a CHECK. -/
  checks : List (Nat × Nat) := []
  /-- Local instant of the last qualification or test start. -/
  since : Nat := 0
deriving DecidableEq, Repr

/-- State machine, boot and reset (chapter 20). -/
structure Sys where
  st : DState := .boot
  /-- State held before Restarting (R504). -/
  before : DState := .ready
  /-- An image has been verified since the reset (R456). -/
  verified : Bool := false
  /-- No slot verified: recovery service only (R464). -/
  bootFailed : Bool := false
  slot : Nat := 0
  /-- Image slots: status code, SEQUENCE, image bytes. -/
  slots : Table (Nat × Nat × Bytes) := []
  /-- First wake since boot not yet done (R468 step 4). -/
  firstWake : Bool := true
  wakeStart : Nat := 0
  standbySince : Nat := 0
  preparing : Bool := false
  /-- Start of the L3 restart in progress. -/
  restartStart : Nat := 0
  /-- AON runs on its internal oscillator (R452). -/
  internalOsc : Bool := false
  laneRef : Bool := true
  pcieRef : Bool := true
  /-- Fault was entered with the fast domains stopped (Table 20.3). -/
  asleep : Bool := false
  /-- Watchdog restarts without reaching Standby (R463). -/
  bootTries : Nat := 0
deriving DecidableEq, Repr

/-- The object dictionary's values (R31 to R34, R60, R62). Key: index * 256 + subindex. -/
structure Dict where
  regs : Table Nat := []
  doms : Table Bytes := []
  staged : Table Nat := []
  stagedDoms : Table Bytes := []
  /-- Owner slot of each group with staged values (R61). -/
  owners : Table Nat := []
  /-- Replaced values still in force at a bar (R62), oldest first, by bar. -/
  held : Table (List Held) := []
deriving DecidableEq, Repr

/-- Sessions, operations and process data (chapters 02, 22). -/
structure Com where
  sess : Table Sess := []
  /-- Highest identifier assigned so far, and those freed since, oldest first (R39). -/
  lastId : Nat := 0
  freed : List Nat := []
  /-- Drop counters of FA, FB, mailbox, USB (R38). -/
  drops : Table Nat := []
  op : Option Op := none
  /-- Operations started since boot. -/
  ops : Nat := 0
  pd : Pd := {}
deriving DecidableEq, Repr

/-- Repeats, the flying change and the ledger (chapter 03). -/
structure Print where
  /-- Newest first. -/
  reps : List Rep := []
  /-- Number the next repeat takes. -/
  nextNum : Nat := 0
  /-- Number of the first repeat of the present or last run. -/
  runFirst : Nat := 0
  locked : Option Chg := none
  pending : Option Chg := none
  progress : Option Chg := none
  /-- IDLE (0) or DONE (5) while nothing is scheduled. -/
  rest : Nat := 0
  restCtx : Nat := 0xFF
  restRep : Nat := 0
  /-- REFUSED_STATE or SAME shown (R90). -/
  shown : Option Nat := none
  startCtx : Option Nat := none
  /-- End boundary fixed by STOP: repeat number E (R460). -/
  endRep : Option Nat := none
  /-- STOP_NOW acted at this instant (R461). -/
  stopNow : Bool := false
  /-- Sheet mode: the start waits for its first capture (R193). -/
  sheetStart : Bool := false
  /-- Position of the last accepted capture, 48.16. -/
  lastCapture : Option Nat := none
  /-- A standby's own captures, and mirrored boundaries, that wait for their counterpart: positions of the boundary (R194). -/
  ownSheets : List Nat := []
  mirroredSheets : List Nat := []
  /-- Splice blanks at B0: line ranges (R500). -/
  splices : List Blank := []
  /-- REVOKE in force per bar: FIRST (R264). -/
  revoke : Table Nat := []
  /-- Repeats begun since the number was last saved to NV (R83). -/
  sinceSave : Nat := 0
  /-- Repeat number saved to NV. -/
  saved : Option Nat := none
deriving DecidableEq, Repr

/-- A compare tag waiting for its Frame Start (R200, R280), with what R285, R289 and R294 fix at the trigger. -/
structure Tag where
  unit : Nat
  entry : Nat
  rep : Option Nat
  /-- Timestamp of the pulse, ns of the service timescale; local instant beside it. -/
  time : Nat
  at_ : Nat
  /-- TARGET of the entry (R194). -/
  target : Nat := 0
  gen : Nat
  profile : Nat := 0
  /-- Triggered between a first CCI failure and the end of the restoring sequence (R294). -/
  uncertain : Bool := false
deriving DecidableEq, Repr

/-- A camera parameter generation: its frame-boundary values and tables (R289). -/
structure CamGen where
  num : Nat
  val : Table Nat := []
  dom : Table Bytes := []
deriving DecidableEq, Repr

/-- An open frame (R275). -/
structure OpenFrame where
  num : Nat
  tag : Option Tag
  gen : Nat
  fsTime : Nat
  fsAt : Nat
  flags : Nat := 0
  /-- Image lines taken so far, oldest first: the payload bytes. -/
  lines : List Bytes := []
  embedded : Bytes := []
  /-- TRUNCATED: the rest of the frame is dropped (R278). -/
  dropping : Bool := false
deriving DecidableEq, Repr

/-- A camera port (chapter 11). -/
structure Cam where
  queue : List Tag := []
  frame : Option OpenFrame := none
  /-- Frames opened since the camera domain started. -/
  frames : Nat := 0
  /-- Generations held: those in use by frames, in force and pending; newest first (R293). -/
  gens : List CamGen := []
  inForce : Nat := 0
  pending : Nat := 0
  /-- CCI writes of the running sequence not yet acknowledged: register, data bytes. -/
  cci : List (Nat × Bytes) := []
  /-- 0 none, 1 waits for a Frame End, 2 running for the pending generation, 3 ended, 4 restoring, 5 running for the generation in
  force. -/
  seq : Nat := 0
  retried : Bool := false
  /-- A trigger has found the pending generation unwritten (R291). -/
  passed : Bool := false
  /-- Instant of the first CCI failure that a retry has not yet mended (R294). -/
  failAt : Option Nat := none
  /-- A retry has failed and the restoring sequence has not ended (R294). -/
  uncertain : Bool := false
  cciFault : Bool := false
  /-- Frames since the last export, for export mode 1. -/
  sinceExport : Nat := 0
  /-- Packet headers whose single-bit error was corrected (R274). -/
  corrected : Nat := 0
  /-- In a pair the pending generation waits for the trigger agreed on: repeat, entry (R298). -/
  atTag : Option (Nat × Nat) := none
deriving DecidableEq, Repr

/-- Accumulation of a bin: count, sums of x, dx and e (R301). -/
structure Bin where
  n : Nat := 0
  x : Nat := 0
  dx : Rat := 0
  e : Rat := 0
deriving DecidableEq, Repr

/-- A bar's keeper window (R302, R303). -/
structure Window where
  /-- D of the window's first repeat, 48.16, once it has opened. -/
  start : Option Nat := none
  /-- Key: cell column * 2 + bin. -/
  bins : Table Bin := []
deriving DecidableEq, Repr

/-- What a keeper generation holds (R307). -/
structure GenContent where
  /-- New trims by bar: nozzle (tile * 2560 + column), gain, offset. -/
  trims : Table (List (Nat × Int × Int)) := []
  /-- Census map changes: bar, nozzle, missing. -/
  maps : List (Nat × Nat × Bool) := []
  /-- Bars whose trims are set to zero. -/
  resets : Nat := 0
  /-- Basis of each trimmed bar when the update was formed (R308). -/
  bases : Table Nat := []
deriving DecidableEq, Repr

/-- A pending keeper generation (R307 to R310). -/
structure Gen where
  num : Nat
  rep : Nat
  content : GenContent
  /-- Message number of its decision in a pair, and whether it has been acknowledged. -/
  seq : Option Nat := none
  acked : Bool := false
deriving DecidableEq, Repr

/-- A census test of a gap (R313 to R316). -/
structure CensusTest where
  gate : Nat
  /-- Gap line g. -/
  g : Nat
  nozzle : Nat
  /-- Start instant, 2.5 ns, once fired. -/
  start : Option Nat := none
  /-- Edges in and near its window, 2.5 ns. -/
  edges : List Nat := []
  near : Bool := false
  /-- The module reported its gap line missing (R316). -/
  discarded : Bool := false
deriving DecidableEq, Repr

/-- A bar's census (R314 to R319). -/
structure Census where
  /-- Nozzles awaiting a retest, then nozzles queued by a streak. -/
  retest : List Nat := []
  streak : List Nat := []
  /-- Cursor of each gate: next nozzle. -/
  cursor : Table Nat := []
  /-- Local instant at which the cursor's lap began. -/
  lapStart : Nat := 0
  /-- Tests of the gap in progress, and its repeat. -/
  tests : List CensusTest := []
  gapRep : Nat := 0
  /-- Line of gap line 0. -/
  gapLine : Nat := 0
  strays : Table Nat := []
  /-- Gate held at its active level since, and held too long in this gap. -/
  heldSince : Table Nat := []
  heldGates : List Nat := []
  /-- First gap line that the active device's mirrored list covers is rendered (R319). -/
  fixed : Bool := false
  /-- The partner has acknowledged the gap's list, or no pair needs it (R319). -/
  agreed : Bool := true
deriving DecidableEq, Repr

/-- A maintenance sweep of a bar (R320). -/
structure Sweep where
  /-- Next line to strobe. -/
  line : Nat := 0
  /-- By gate: nozzles left to test, the one in hand first, and how often it has been tested. -/
  todo : Table (List Nat × Nat) := []
  /-- Tests done, and tests in all. -/
  done : Nat := 0
  total : Nat := 0
  /-- Working copy of the nozzle records. -/
  recs : Bytes := []
deriving DecidableEq, Repr

/-- Colour keeper and drop census (chapter 12). -/
structure Keeper where
  windows : Table Window := []
  gen : Option Gen := none
  /-- Ready content that waits for the pending generation, a start, or its forming. -/
  held : GenContent := {}
  /-- Number of the last generation formed (R307). -/
  lastNum : Nat := 0
  census : Table Census := []
  sweeps : Table Sweep := []
deriving DecidableEq, Repr

/-- A warm-restart state set (R408). -/
structure WarmSet where
  windows : Table Window := []
  census : Table Census := []
  /-- Nozzle records by bar: 0x6230 + n. -/
  recs : Table Bytes := []
  /-- Camera generations in force. -/
  camGens : Table Nat := []
  epochs : Table Nat := []
  lightTrims : Table Nat := []
  checkpoints : List Ckpt := []
deriving DecidableEq, Repr

/-- An LED channel (chapter 13). -/
structure Led where
  /-- Fade: level at its start, local instant of its start, its duration in ms, target. -/
  level : Nat := 0
  fadeFrom : Nat := 0
  fadeAt : Nat := 0
  fadeMs : Nat := 0
  target : Nat := 0
  /-- Mode, curve and phase in force from the last period start (R325). -/
  mode : Nat := 0
  curve : Nat := 1
  phase : Nat := 0
  /-- Active cycles of the present period and its first active cycle (R324). -/
  cycles : Nat := 0
  first : Nat := 0
  /-- Strobe output active until this instant, 5 ns (R326). -/
  until_ : Nat := 0
deriving DecidableEq, Repr

/-- The illumination block (chapter 13). -/
structure Light where
  leds : Table Led := []
  /-- Period number within the dither cycle. -/
  period : Nat := 0
  uvLatched : Bool := true
  /-- Local instant at which LED_EN was last low. -/
  ledLow : Nat := 0
  /-- Groups clamped at a limit. -/
  limited : List Nat := []
  /-- Measurements in a row beyond the tolerance, by group. -/
  deviating : Table Nat := []
  /-- Local instant of the last deviation event, by group. -/
  deviatedAt : Table Nat := []
deriving DecidableEq, Repr

/-- DRAM management (chapter 15). -/
structure Mem where
  /-- Pages held in spare SRAM: entry 1 to 64, the page's data and its poison. -/
  spare : Table (Bytes × Bool) := []
  /-- Pages corrected in the previous lap and in this one, oldest first, by channel (R364). -/
  prevLap : Table (List Nat) := []
  thisLap : Table (List Nat) := []
  /-- Pages whose poison a whole-page write cleared, not yet scrubbed (R364). -/
  cleared : List Nat := []
  /-- Next block of each subchannel's lap, and blocks read in the lap. -/
  next : Table Nat := []
  lapStart : Nat := 0
  starved : Bool := false
  /-- Pages corrected since the last EV_DRAM_CORRECTED, by channel. -/
  since : Table Nat := []
  /-- Local instant of the last EV_REMAP_FULL, by channel. -/
  fullAt : Table Nat := []
  /-- Tally's pages, newest last: channel, page, days on which it was corrected (R445). -/
  pageDays : List (Nat × Nat × List Nat) := []
  /-- Corrections of the last 24 h: channel and instant. -/
  recent : List (Nat × Nat) := []
  /-- Latency targets of ports 0 to 8 in ns (R372). -/
  targets : Table Nat := []
  /-- The whole DRAM has been written since boot (R468). -/
  formed : Bool := false
  /-- Capacity figures in force since the last boot: strength, order, width, density, ranks (R375). -/
  config : List Nat := [2, 1, 8, 16, 2]
deriving DecidableEq, Repr

/-- A twin message sent and not acknowledged (R383). -/
structure TwinMsg where
  seq : Nat
  kind : Nat
  payload : Bytes
  sent : Nat
  first : Nat
  lane : Nat
deriving DecidableEq, Repr

/-- A mirrored decision of the active device that waits for its acknowledgement (R389), or of the standby that waits for
its COMMIT. -/
structure Pledge where
  seq : Nat
  msg : DecisionMsg
  committed : Bool := false
deriving DecidableEq, Repr

/-- An index edge of the web channel as the standby latched it (R386). -/
structure IndexMark where
  time : Nat
  count : Int
  /-- Output at the edge, 2^-64 line. -/
  out : Int
deriving DecidableEq, Repr

/-- The pair (chapter 16). -/
structure Twin where
  partner : Option Ident := none
  /-- The twin link has reached UP since it was last lost. -/
  linked : Bool := false
  txSeq : Nat := 0
  rxSeq : Nat := 0
  unacked : List TwinMsg := []
  pledges : List Pledge := []
  marks : List IndexMark := []
  dc : Option Int := none
  /-- Share of e added to the anchor per update, and updates left (R386). -/
  slew : Int := 0
  slewLeft : Nat := 0
  /-- The first POSITION of a formation has set the position. -/
  aligned : Bool := false
  /-- Checksums the partner reported, by context: state code and CRC. -/
  sums : Table (Nat × Nat) := []
  /-- Digests the partner reported, by group: repeat and CRC. -/
  digests : Table (Nat × Nat) := []
  probe : Nat := 0
  /-- Local instant at which the outstanding probe left. -/
  probing : Option Nat := none
  fieldSeq : Nat := 0
  /-- SEQs of field messages seen, and the serial number they came from. -/
  seen : List Nat := []
  seenFrom : Nat := 0
  hbInAt : Nat := 0
  hbOutStopped : Bool := false
  retryForm : Bool := false
  /-- Adoption values received and not yet acted on (R385). -/
  adopt : Option Adopt := none
  /-- Local instant at which the cause of a lost flag cleared (R390). -/
  clearSince : Option Nat := none
  resync : Bool := false
  /-- The position was lost and no later index has been good (R386, R390). -/
  posBad : Bool := false
  /-- A handover's repeat N, its cause, and the bars switched (R398). -/
  handover : Option (Nat × Nat) := none
  switched : Nat := 0
  /-- Local instant at which a rehearsal's last bar switched. -/
  rehearsing : Option Nat := none
  lastHandover : Nat := 0
  /-- Frames asked of the partner: kind, tile, instant (R391). -/
  fetches : List (Nat × Nat × Nat) := []
  /-- Frames the partner has answered NOT_HELD for, newest first, 64 at most (R391). -/
  denied : List (Nat × Nat) := []
  /-- Bars whose affected lines are withheld (R391, R405). -/
  withheld : Nat := 0
  withheldUpto : Table Nat := []
  /-- This device is the one that takes over at the handover in progress (R398). -/
  incoming : Bool := false
  /-- An L3 restart follows the handover in progress (R415). -/
  restartAfter : Bool := false
deriving DecidableEq, Repr

/-- Temperature supervision (R424 to R430). -/
structure Therm where
  prev : Table Int := []
  /-- Consecutive samples of failure, by sensor. -/
  bad : Table Nat := []
  /-- Sum and count of the window in progress, by sensor; mean of the window before, 0.1 °C. -/
  sums : Table (Int × Nat) := []
  means : Table Rat := []
  warnHigh : List Nat := []
  warnLow : List Nat := []
  warnRise : List Nat := []
  calmSince : Option Nat := none
  /-- Trim of R437, 0.1 °C, by sensor. -/
  trims : Table Int := []
  /-- Site guard of a spare in service, 0.1 °C (R427). -/
  guarded : Table Int := []
  /-- The device is in Fault after a thermal shutdown (R430). -/
  shutdown : Bool := false
  recordUnwritten : Bool := false
deriving DecidableEq, Repr

/-- Self-calibration (R433 to R437). Units are keyed item * 256 + unit. -/
structure Cal where
  refs : Table Int := []
  running : List Nat := []
  due : List Nat := []
  values : Table Int := []
  /-- Items of the commanded calibration, units left to measure, and results held. -/
  mask : Nat := 0
  left : List Nat := []
  results : List (Nat × Bool × Int) := []
  /-- Equaliser codes of a commanded calibration that wait for their lanes' gaps: lane subindex, code (R436). -/
  codes : List (Nat × Nat) := []
deriving DecidableEq, Repr

/-- An NV record (R431, R432, R465): kind, object or unit, value, table. -/
structure NvRec where
  kind : Nat
  obj : Nat
  val : Nat := 0
  data : Bytes := []
  /-- Object values of the saved configuration (R465). -/
  vals : Table Nat := []
deriving DecidableEq, Repr

/-- The NV store (R446, R447) and the records staged in AON SRAM (R432). -/
structure Nv where
  /-- Stored records, oldest first. -/
  stored : List NvRec := []
  staged : List NvRec := []
  /-- Records being written, the one in progress first. -/
  writing : List NvRec := []
  /-- Erases of each sector, and sectors retired. -/
  erases : Table Nat := []
  retired : List Nat := []
  spares : Nat := 16
deriving DecidableEq, Repr

/-- Wear and trends (chapter 19). -/
structure Tally where
  /-- Eye scans of the day by lane: sum and count; daily means newest first. -/
  day : Table (Nat × Nat) := []
  means : Table (List Nat) := []
  crossed : List Nat := []
  /-- Hourly history, newest first: E in 1/60,000 h, erases, remaps of both channels. -/
  hours : List (Nat × Nat × Nat × Nat) := []
  lifeRaised : Bool := false
  /-- Repair rows used, by array. -/
  repairs : Table Nat := []
  /-- Retired engines marked for a self-test (R443). -/
  marked : List Nat := []
deriving DecidableEq, Repr

/-- Everything of the device but its clock, its DRAM pages and its command queue. -/
structure Dev where
  /-- Product code, fused at manufacture (R1). -/
  product : Nat := 0x2208
  /-- The local counter at the present command, in ns (R334); the model's own copy of `State.now`. -/
  t : Nat := 0
  /-- What the last command sent out, in order; the model's own field. -/
  out : List Out := []
  /-- How many free values the run has drawn; the model's own field. -/
  free : Nat := 0
  pins : Pins := {}
  sys : Sys := {}
  dict : Dict := {}
  com : Com := {}
  fl : Faults := {}
  time : Time := {}
  print : Print := {}
  bars : Table Bar := []
  ctxs : Table Ctx := []
  encs : Table Enc := []
  cmps : Table Cmp := []
  reck : Reck := {}
  jobs : Jobs := {}
  lanes : Table Lane := []
  cams : Table Cam := []
  keeper : Keeper := {}
  light : Light := {}
  mem : Mem := {}
  twin : Twin := {}
  therm : Therm := {}
  cal : Cal := {}
  nv : Nv := {}
  tally : Tally := {}
  /-- State-save slots 0 and 1 (R408). -/
  saves : Table WarmSet := []
deriving DecidableEq, Repr

/-- The state of the block. -/
structure State where
  /-- The local counter in ns (R334). -/
  now : Nat := 0
  /-- DRAM pages after the page code: physical byte address and byte, strictly rising (chapter 15). -/
  dram : List Host.Cell := []
  dev : Dev := {}
  /-- Commands that wait, first in, first out. -/
  pending : List Instr := []
deriving DecidableEq, Repr

/-- EV_STATE of the change from Off to Boot, the first record of the log (R422, R454). -/
def firstEvent : EventRec := { num := 4, level := 0x20, mask := 0, unit := 0xFF, time := 0, rep := 0, detail := 1 }

/-- The block right after PORST_N is released (R454, R467): state Boot, FAULT_N low, the local counter at 0, the UV latch
set and LED_EN low; one record in the log, counted in 0x2202:05, and 0x2101:03 naming PORST_N. -/
def State.reset : State :=
  { now := 0, dram := [], pending := []
    dev := { fl := { log := [firstEvent], top := 1 }, dict := { regs := [(0x2101 * 256 + 3, 1), (0x2202 * 256 + 5, 1)] } } }

end Sys2Proof.Machine
end

