-- ==== Sys2Proof/Machine/Ops.lean ====
section
/-! DEFINITION. The named operations over the device: objects by index and subindex, free values, outputs, bars, contexts,
timescales, and the raising of an event (R70). -/
namespace Sys2Proof.Machine

open Sys2Proof

/-- Key of an object in the dictionary's tables. -/
def key (idx sub : Nat) : Nat := idx * 256 + sub

/-- Defaults the object tables give by a formula or another table, for the scalars whose row holds none. -/
def formulaDefault (product idx sub : Nat) : Option Nat :=
  if idx == 0x1008 then some (leNat ("Ranmanto Fjarfa".toList.map (fun c => byte c.toNat)))
  else if idx == 0x100A then some (leNat Config.firmware)
  else if idx == 0x1018 && sub == 2 then some product
  else if idx == 0x1018 && sub == 4 then some (Config.serial % 4294967296)
  else if idx == 0x2003 then some ([120000, 30000, 5000, 300000, 600000, 10000].getD (sub - 1) 0)
  else if idx == 0x4000 && sub == 1 then some (leNat (List.replicate 24 (byte 0x20)))
  else if decide (0x4050 ≤ idx ∧ idx < 0x4058) && sub == 4 then some (73 * (idx - 0x4050) % 256)
  else if decide (0x4050 ≤ idx ∧ idx < 0x4058) && sub == 5 then some (151 * (idx - 0x4050) % 256)
  else if decide (0x5000 ≤ idx ∧ idx < 0x5800) && idx % 256 == 0x10 then some ((sub - 1) / 6 * 8 + (sub - 1) % 6)
  else if decide (0x3000 ≤ idx ∧ idx < 0x3004) && sub == 1 then some (if idx == 0x3000 then 1 else 0)
  else if idx == 0x3040 && sub == 4 then some (96 * 65536)
  else if idx == 0x3417 then some (leNat ((List.range 8).map (fun l => byte (9 * (sub - 1) + l))))
  else if idx == 0x3418 then some ((9 * (sub - 1) + 8) * 256)
  else if idx == 0x3421 then some (leNat (List.replicate 6 (byte 0x80)))
  else if decide (0x3808 ≤ idx ∧ idx < 0x380E) && sub == 6 then some (leNat ((List.replicate 4 (leBytes 2 1024)).flatten))
  else if decide (0x3808 ≤ idx ∧ idx < 0x380E) && sub == 7 then
    some (leNat (([4096, 0, 0, 0, 4096, 0, 0, 0, 4096].map (leBytes 2)).flatten))
  else if decide (0x3808 ≤ idx ∧ idx < 0x380E) && sub == 8 then some (leNat (([871, 2929, 296].map (leBytes 2)).flatten))
  else if decide (0x4080 ≤ idx ∧ idx < 0x4088) && sub == 2 then some (leNat (([0, 0, 0, 1400].map (leBytes 2)).flatten))
  else if idx == 0x4088 then some (leNat (([50, 50, 50, 50].map (leBytes 2)).flatten))
  else if idx == 0x3C02 then some (sub - 1)
  else if idx == 0x2400 && sub == 1 then some 1
  else if idx == 0x2400 && sub == 2 then some 1
  else if idx == 0x2401 && sub == 2 then some 2
  else if idx == 0x2401 && sub == 3 then some 1
  else if idx == 0x2802 && decide (3 ≤ sub) then some ([1000, 1000, 1000, 50, 20, 100, 100].getD (sub - 3) 0)
  else if idx == 0x2200 then
    let e := sub - 1
    -- Levels of Table 17.6 (R423): alert set for W and for L2 or above, clear for I, L0 and L1.
    some (if [0, 3, 4, 7, 9, 10, 18, 19, 20, 21, 23, 24, 25, 27, 28, 30, 41, 51, 56, 58, 66, 70, 73, 78, 80, 84, 90, 99, 100,
      108, 110, 121, 122, 123, 124, 126].contains e then 1 else 3)
  else if idx == 0x260A then some (if decide (29 ≤ sub) then 0x7F else 0x3F)
  else if idx == 0x2E04 then
    some (if sub == 1 then 1 else if decide (sub ≤ 9) then (if product == 0x2204 && decide (5 < sub) then 0 else 1)
      else if decide (sub ≤ 11) then 32 else if sub == 12 then 256 else if sub == 13 then 4 else 16)
  else if idx == 0x2E07 then
    let e := sub - 1
    some (if e == 8 then 1 else if product == 0x2204 && decide (4 ≤ e) then 3 else 0)
  else none

/-- The default of a scalar object. -/
def dflt (product idx sub : Nat) : Nat :=
  match formulaDefault product idx sub with
  | some v => v
  | none => match rowOf product idx sub with
    | some r => r.dflt
    | none => 0

/-- Size in bytes of a scalar type; 0 for a DOMAIN. -/
def Ty.size : Ty → Nat
  | .bool => 1 | .u n => n | .i n => n | .oct n => n | .vis n => n | .dom => 0

namespace Dev

/-- The committed value of an object (R34). -/
def g (d : Dev) (idx sub : Nat) : Nat :=
  match d.dict.regs.find? (key idx sub) with
  | some v => v
  | none => dflt d.product idx sub

/-- A committed object value set. -/
def put (d : Dev) (idx sub v : Nat) : Dev :=
  { d with dict := { d.dict with regs := d.dict.regs.set (key idx sub) v } }

/-- A status counter whose default is zero: what it holds now. -/
def cnt (d : Dev) (idx sub : Nat) : Nat := d.dict.regs.get 0 (key idx sub)

/-- A counter stepped by `k`. Past the largest value of `w` bits its reading is not stated (`Config.overflow`). -/
def bumpBy (d : Dev) (idx sub k : Nat) (w : Nat := 32) : Dev :=
  let v := d.cnt idx sub + k
  d.put idx sub (if v < 2 ^ w then v else Config.overflow (key idx sub) v % 2 ^ w)

/-- A 32-bit counter stepped by one. -/
def bump (d : Dev) (idx sub : Nat) : Dev := d.bumpBy idx sub 1

/-- A sub-bar object of Bn: 0x50xx + 0x100 * n. -/
def gb (d : Dev) (n idx sub : Nat) : Nat := d.g (idx + 0x100 * n) sub

/-- Signed reading of an object of `w` bits. -/
def gi (d : Dev) (w idx sub : Nat) : Int := toSigned w (d.g idx sub)

/-- A committed DOMAIN table; `e` when nothing has been written. -/
def dom (d : Dev) (e : Bytes) (idx : Nat) : Bytes := d.dict.doms.get e idx

/-- A committed DOMAIN table set. -/
def putDom (d : Dev) (idx : Nat) (b : Bytes) : Dev :=
  { d with dict := { d.dict with doms := d.dict.doms.set idx b } }

/-- Something sent out of the device. -/
def emit (d : Dev) (o : Out) : Dev := { d with out := d.out ++ [o] }

/-- Several things sent out. -/
def emits (d : Dev) (os : List Out) : Dev := { d with out := d.out ++ os }

/-- `x` written into a window at an offset; bytes a window does not list are 0. -/
def winPut (w : Bytes) (off : Nat) (x : Bytes) : Bytes :=
  let p := w ++ List.replicate (off - w.length) 0
  p.take off ++ x ++ p.drop (off + x.length)

/-- `n` bytes of a window from an offset. -/
def winGet (w : Bytes) (off n : Nat) : Bytes := (List.range n).map (fun i => w.getD (off + i) 0)

/-- The device-to-host mailbox window filled: the length word, the message, and vector 16 signalled (R107). -/
def fillWindow (d : Dev) (m : Bytes) : Dev :=
  let w := leBytes 4 m.length ++ m
  (({ d with jobs := { d.jobs with d2hFull := true, mbOut := winPut d.jobs.mbOut 0 w } } : Dev).emit (.mailbox w)).emit (.msix 16)

/-- The host-to-device window is free again: its length word is 0 (R107). -/
def emptyIn (d : Dev) : Dev := { d with jobs := { d.jobs with mbIn := winPut d.jobs.mbIn 0 (leBytes 4 0) } }

/-- Key slot k, 32 bytes; all zero where the slot is empty (R47). -/
def keySlot (d : Dev) (k : Nat) : Bytes := leBytes 32 (d.g 0x1450 (k + 1))

/-- The next free value: nothing constrains it. -/
def freeNat (d : Dev) : Nat := Config.freeValue d.free

/-- A free value has been drawn. -/
def drew (d : Dev) : Dev := { d with free := d.free + 1 }

/-- Bars of the ordering code (R1). -/
def nbars (d : Dev) : Nat := if d.product == 0x2204 then 4 else 8

/-- The bar numbers present. -/
def barList (d : Dev) : List Nat := List.range d.nbars

/-- Bar n. -/
def bar (d : Dev) (n : Nat) : Bar := d.bars.get { engine := n } n

/-- Bar n set. -/
def setBar (d : Dev) (n : Nat) (b : Bar) : Dev := { d with bars := d.bars.set n b }

/-- Bar n changed by `f`. -/
def onBar (d : Dev) (n : Nat) (f : Bar → Bar) : Dev := d.setBar n (f (d.bar n))

/-- Context c. -/
def ctx (d : Dev) (c : Nat) : Ctx := d.ctxs.get {} c

/-- Context c set. -/
def setCtx (d : Dev) (c : Nat) (x : Ctx) : Dev := { d with ctxs := d.ctxs.set c x }

/-- Context c changed by `f`. -/
def onCtx (d : Dev) (c : Nat) (f : Ctx → Ctx) : Dev := d.setCtx c (f (d.ctx c))

/-- A context object's value: what is held, or its default. -/
def cg (d : Dev) (c idx sub : Nat) : Nat :=
  match (d.ctx c).val.find? (key idx sub) with
  | some v => v
  | none => dflt d.product idx sub

/-- The bytes of a context object of `k` bytes. -/
def cbytes (d : Dev) (c idx sub k : Nat) : Bytes := leBytes k (d.cg c idx sub)

/-- Encoder channel c. -/
def enc (d : Dev) (c : Nat) : Enc := d.encs.get {} c

/-- Encoder channel c set. -/
def setEnc (d : Dev) (c : Nat) (e : Enc) : Dev := { d with encs := d.encs.set c e }

/-- Compare unit u. -/
def cmp (d : Dev) (u : Nat) : Cmp := d.cmps.get {} u

/-- Compare unit u set. -/
def setCmp (d : Dev) (u : Nat) (x : Cmp) : Dev := { d with cmps := d.cmps.set u x }

/-- Lane at table position s (1 to 80, its subindex). -/
def lane (d : Dev) (s : Nat) : Lane := d.lanes.get {} s

/-- Lane s set. -/
def setLane (d : Dev) (s : Nat) (l : Lane) : Dev := { d with lanes := d.lanes.set s l }

/-- Lane s changed by `f`. -/
def onLane (d : Dev) (s : Nat) (f : Lane → Lane) : Dev := d.setLane s (f (d.lane s))

/-- PTP domain k. -/
def ptp (d : Dev) (k : Nat) : Ptp := d.time.doms.get {} k

/-- PTP domain k set. -/
def setPtp (d : Dev) (k : Nat) (p : Ptp) : Dev := { d with time := { d.time with doms := d.time.doms.set k p } }

/-- Reading of PTP domain k at local value `l` without its carried offset, in ns with 16 fraction bits (R335). -/
def ptpBase (d : Dev) (k l : Nat) : Int :=
  let p := d.ptp k
  let dl : Int := (l : Int) * 65536 - p.anchorL
  p.anchorT + dl + Int.fdiv (dl * p.rate) 4294967296

/-- Carried offset of the domain in force at local value `l`: it nears 0 by the slew limit, in ppm of the local time since
it was last noted (R342). -/
def carriedAt (d : Dev) (l : Nat) : Int :=
  let c := (d.ptp d.time.inForce).carried
  let step : Int := (((l - d.time.slewAt) * 65536 * d.g 0x2402 2 / 1000000 : Nat) : Int)
  if 0 ≤ c then max 0 (c - step) else min 0 (c + step)

/-- Reading of PTP domain k at local value `l`, in ns with 16 fraction bits (R335). A carried offset belongs to the domain
in force. -/
def ptpReading (d : Dev) (k l : Nat) : Int :=
  d.ptpBase k l + (if d.time.inForce == k then d.carriedAt l else 0)

/-- Service timescale at local value `l`, ns (R336). -/
def serviceAt (d : Dev) (l : Nat) : Nat :=
  if d.time.inForce == 2 then l else (Int.fdiv (d.ptpReading d.time.inForce l) 65536).toNat

/-- Present reading of the service timescale, ns. -/
def serviceNow (d : Dev) : Nat := d.serviceAt d.t

/-- The state that rules on Printing and Stopping see: Restarting counts as the state held before (R504). -/
def phase (d : Dev) : DState := if d.sys.st = .restarting then d.sys.before else d.sys.st

/-- Printing, Stopping, or Restarting entered from either (R504). -/
def printingLike (d : Dev) : Bool := d.phase == .printing || d.phase == .stopping

/-- Fast domains run (Table 20.3); in Fault they are as the fault left them, stopped after a thermal shutdown (R428). -/
def fast (d : Dev) : Bool :=
  match d.sys.st with
  | .ready | .armed | .printing | .stopping | .restarting => true
  | .fault => !d.therm.shutdown && !d.sys.asleep
  | _ => false

/-- Ready or a state after it, Restarting and Fault apart (R456). -/
def fromReady (d : Dev) : Bool :=
  match d.sys.st with
  | .ready | .armed | .printing | .stopping | .restarting | .fault => true
  | _ => false

/-- Line rate of R206, lines/s. -/
def lineRate (d : Dev) : Nat := d.g 0x3208 2

/-- Published position, 48.16 lines (R206). -/
def posn (d : Dev) : Nat := d.g 0x3208 1

/-- Bar offset O_n, 48.16 lines (R210). -/
def offset (d : Dev) (n : Nat) : Nat := d.g 0x3210 (n + 1)

/-- Role of the pair: 0x2C08:01. -/
def role (d : Dev) : Nat := d.g 0x2C08 1

/-- The device drives the outputs of the active role (R380, Table 16.2): every role but standby, forming and apart. -/
def drives (d : Dev) : Bool := decide (d.role ≤ 1)

/-- The four synchronisation flags of the standby are set (R385). -/
def synced (d : Dev) : Bool := d.g 0x2C08 2 % 16 == 15

/-- The lowest bar of a mask; B0 for an empty one (R70). -/
def lowestBar (mask : Nat) : Nat := ((List.range 8).find? (fun n => bit mask n)).getD 0

end Dev

/-- Ladder level of an event as Table 17.6 gives it: 0 to 4, 0x10 for W, 0x20 for I. Events whose level is chosen per
occurrence are raised with `raiseAt`. -/
def evLevel (e : Nat) : Nat :=
  if [0, 3, 4, 7, 21, 23, 24, 28, 30, 41, 51, 56, 58, 70, 73, 78, 80, 90, 99, 100, 108, 110, 121, 122, 123, 124, 126].contains e
  then 0x20
  else if e == 84 then 0
  else if [9, 10, 18, 19, 20, 25, 27, 66].contains e then 1
  else if [26, 50, 86, 106, 111, 115, 116].contains e then 2
  else if [14, 48, 120].contains e then 3
  else if [13, 47, 52, 83, 91, 98, 105, 117, 127].contains e then 4
  else 0x10

/-- An event record in its 28 bytes (R70, R35). -/
def EventRec.bytes (r : EventRec) : Bytes :=
  [byte r.num, byte r.level, byte r.mask, byte r.unit] ++ leBytes 8 r.time ++ leBytes 8 r.rep ++ leBytes 4 r.detail ++ leBytes 4 r.overrun

/-- The event session's queue of 1,024 records is full (R71). -/
def Sess.full (s : Sess) : Bool := s.port == 2 && decide (1024 ≤ s.queue.length + (s.unacked.map (fun u => u.2.length)).sum)

/-- A record queued to one event session, or dropped where the queue is full (R71). -/
def Sess.enqueue (s : Sess) (r : EventRec) : Sess :=
  if s.full then { s with overrun := s.overrun + 1 }
  else if s.port == 2 then { s with queue := s.queue ++ [r], overrun := 0 }
  else s

namespace Dev

/-- The tally's counters, as its NV record holds them (R441, R465). -/
def tallyRec (d : Dev) : NvRec :=
  { kind := 6, obj := 0, vals := d.dict.regs.keep (fun k _ => decide (0x2E01 ≤ k / 256 ∧ k / 256 ≤ 0x2E0E) && k / 256 != 0x2E07) }

/-- Engine states, and the engine that serves each bar: records of the coppice (R441, R443). -/
def engineRec (d : Dev) : NvRec :=
  { kind := 4, obj := 0, val := (List.range 9).foldl (fun v i => v + d.g 0x2E07 (i + 1) * 4 ^ i) 0
    vals := d.barList.map (fun n => (n, (d.bar n).engine)) }

/-- Lane map and spare of Bn (R238, R441). -/
def laneRec (d : Dev) (n : Nat) : NvRec :=
  { kind := 3, obj := n, vals := [(key 0x3417 (n + 1), d.g 0x3417 (n + 1)), (key 0x3418 (n + 1), d.g 0x3418 (n + 1))] }

/-- Sensor assignments with the guard of each spare in service, 0.1 °C (R427, R441). -/
def sensorRec (d : Dev) : NvRec :=
  { kind := 12, obj := 0
    vals := d.dict.regs.keep (fun k _ => k / 256 == 0x260A) ++ d.therm.guarded.map (fun x => (2 ^ 24 + x.1, ofSigned 32 x.2)) }

/-- Records have been dropped: those that no message has carried yet, and their copies in the log, report the new count
(R35, R71). -/
def restamp (d : Dev) : Dev :=
  let n := d.cnt 0x1440 2
  let waits (r : EventRec) : Bool := d.com.sess.any (fun x => x.2.queue.contains r)
  { d with
    fl := { d.fl with log := d.fl.log.map (fun r => if waits r then { r with overrun := n } else r) }
    com := { d.com with sess := d.com.sess.mapVal (fun _ x => { x with queue := x.queue.map (fun r => { r with overrun := n }) }) } }

/-- An event logged, counted, queued where its report bit is set, and driving ALERT_N where its alert bit is set (R70, R421,
R422). -/
def recordEvent (d : Dev) (level e mask unit detail : Nat) : Dev :=
  let r : EventRec :=
    { num := e, level := level, mask := mask, unit := unit, time := d.serviceNow
      rep := d.cnt 0x2015 (lowestBar mask + 1), detail := detail % 4294967296, overrun := d.cnt 0x1440 2 }
  let bitsOf := d.g 0x2200 (e + 1)
  let d := { d with
    fl := { d.fl with log := (r :: d.fl.log).take 1024, top := d.fl.top + 1 }
    pins := { d.pins with alertN := d.pins.alertN || bit bitsOf 1 }
    com := { d.com with sess := if bit bitsOf 0 then d.com.sess.mapVal (fun _ x => x.enqueue r) else d.com.sess } }
  d.bump 0x2202 (e + 1)

/-- An event recorded; where full queues drop it, the drops are counted and reported (R71). -/
def logEvent (d : Dev) (level e mask unit detail : Nat) : Dev :=
  let full := if bit (d.g 0x2200 (e + 1)) 0 then (d.com.sess.keysWhere (fun _ x => x.full)).length else 0
  let d := d.recordEvent level e mask unit detail
  if full == 0 then d else (d.bumpBy 0x1440 2 full).restamp

/-- An event raised at a given level; EV_EVENT_OVERRUN with the first record that a full queue drops after one it took
(R71; DESIGN CHOICE, log 86: the spec does not say when 125 is raised). -/
def raiseAt (d : Dev) (level e mask unit detail : Nat) : Dev :=
  let first := e != 125 && bit (d.g 0x2200 (e + 1)) 0 && d.com.sess.any (fun x => x.2.full && x.2.overrun == 0)
  let d := d.logEvent level e mask unit detail
  if first then d.logEvent 0x10 125 0 0xFF 0 else d

/-- An event raised at its catalogue level. -/
def raise (d : Dev) (e : Nat) (mask : Nat := 0) (unit : Nat := 0xFF) (detail : Nat := 0) : Dev :=
  d.raiseAt (evLevel e) e mask unit detail

/-- An event raised at most once per `gap` ns for its unit (R181, R182, R346). -/
def raiseLimited (d : Dev) (gap e mask unit detail : Nat) : Dev :=
  let k := e * 256 + unit
  let due := match d.fl.limited.find? k with
    | some t => decide (t + gap ≤ d.t)
    | none => true
  if due then
    ({ d with fl := { d.fl with limited := d.fl.limited.set k d.t } }).raise e mask unit detail
  else d

end Dev

/-- The device at the start of a command: nothing sent yet, the local counter latched. -/
def State.begin_ (s : State) : Dev := { s.dev with t := s.now, out := [] }

/-- Waiting records leave in EVENT messages of at most 51 (R70), while `fuel` lasts; they stay until acknowledged (R71). -/
def Sess.sendEvents : Nat → Sess → Sess × List Out
  | 0, x => (x, [])
  | f + 1, x =>
    if x.queue.isEmpty then (x, [])
    else
      let rs := x.queue.take 51
      let seq := (x.txSeq + 1) % 4294967296
      let m := Out.datagram x.via 0x30 x.id 0 seq (rs.flatMap EventRec.bytes) []
      let (y, os) := ({ x with queue := x.queue.drop 51, txSeq := seq, unacked := x.unacked ++ [(seq, rs)] } : Sess).sendEvents f
      (y, m :: os)

/-- A field port whose IPv4 address is 0 carries no COT, in or out (Table 2.10). -/
def Dev.portOff (d : Dev) (via : Nat) : Bool := decide (via < 2) && d.g (0x1400 + via) 1 == 0

/-- What waits in an event session leaves, unless its port is off. -/
def Dev.sendWaiting (d : Dev) (x : Sess) : Sess × List Out := if d.portOff x.via then (x, []) else x.sendEvents 21

/-- Every event session sends what waits in its queue. -/
def Dev.flush (d : Dev) : Dev :=
  { d with
    out := d.out ++ d.com.sess.flatMap (fun x => (d.sendWaiting x.2).2)
    com := { d.com with sess := d.com.sess.mapVal (fun _ x => (d.sendWaiting x).1) } }

/-- The next state of a command, with the events it raised sent. -/
def State.sent (s : State) : Host.Outcome State Fault Refusal := .next { s with dev := s.dev.flush }

/-- The next state when a command changed the device to `d` and neither the clock, the DRAM pages nor the queue. -/
def State.done (s : State) (d : Dev) : Host.Outcome State Fault Refusal := .next { s with dev := d.flush }

end Sys2Proof.Machine
end

