-- ==== Sys2Proof/Machine/Pixels.lean ====
section
/-! DEFINITION. From artwork to drop levels: the Espalier's samples, scaler, composite, lattice and tone map (chapter 05),
and the screener's correction, compensation, thresholds and pleach choice (chapter 06). -/
namespace Sys2Proof.Machine

open Sys2Proof

/-- Entry `i` of a table of UNSIGNED16. -/
def u16 (b : Bytes) (i : Nat) : Nat := leNat (slice b (2 * i) 2)

/-- Entry `i` of a table of INTEGER16. -/
def i16 (b : Bytes) (i : Nat) : Int := toSigned 16 (u16 b i)

/-- Colour channels n of a source space (Table 5.1). -/
def channels (space : Nat) : Nat := if space == 1 then 3 else space + 2

/-- Substrate colour of a source space (Table 5.1). -/
def substrate (space : Nat) : List Nat := List.replicate (channels space) (if space == 1 then 65535 else 0)

/-- Grid points G of the lattice of a source space (Table 5.3). -/
def gridPoints (space : Nat) : Nat := [17, 17, 9, 7, 5, 4].getD (space - 1) 17

/-- Bytes of one line of a frame (R117). -/
def rowBytes (h : FrameHdr) : Nat := ceilDiv (h.columns * h.channels * h.sampleBits) 8

/-- Sample of channel `ch` of pixel (x, y) of a frame's data: packed from bit 0 upward (R117). -/
def samplePix (h : FrameHdr) (data : Bytes) (x y ch : Nat) : Nat :=
  let row := y * rowBytes h
  let k := x * h.channels + ch
  if h.sampleBits == 1 then bits (leNat (slice data (row + k / 8) 1)) (k % 8) (k % 8)
  else leNat (slice data (row + k * (h.sampleBits / 8)) (h.sampleBits / 8))

/-- `x` held within 0 and `n - 1`. -/
def edge (x : Int) (n : Nat) : Nat := (clampInt x 0 ((n : Int) - 1)).toNat

/-- One axis of the scaler: centre source index and phase of output index `i` (R142). -/
def scalePos (src out i : Nat) : Int × Nat :=
  let step : Int := ((src * 65536 / out : Nat) : Int)
  let pos := Int.fdiv ((2 * (i : Int) + 1) * step - 65536) 2
  (Int.fdiv pos 65536, (Int.fmod (Int.fdiv pos 1024) 64).toNat)

/-- A filter sum narrowed as R142 narrows it. -/
def narrow (acc : Int) : Nat := (clampInt (Int.fdiv (acc + 2048) 4096) 0 65535).toNat

/-- The scaled sample of a source `src` (x, y) of `w` × `h` pixels at placement pixel (i, j) of `wOut` × `hOut` (R142). -/
def scaled (coef : Bytes) (src : Nat → Nat → Nat) (w h wOut hOut i j : Nat) : Nat :=
  let (x, px) := scalePos w wOut i
  let (y, py) := scalePos h hOut j
  let across (row : Nat) : Nat :=
    narrow (((List.range 8).map (fun t => i16 coef (px * 8 + t) * (src (edge (x - 3 + t) w) row : Int))).sum)
  narrow (((List.range 6).map (fun t => i16 coef (512 + py * 6 + t) * (across (edge (y - 2 + t) h) : Int))).sum)

/-- Composite of one colour and alpha over a premultiplied pixel (R145). -/
def blendOver (p : List Nat) (a : Nat) (q : List Nat) (b : Nat) : List Nat × Nat :=
  ((p.zip q).map (fun (x, y) => (y * b + x * (65535 - b) + 32767) / 65535), (b * 65535 + a * (65535 - b) + 32767) / 65535)

/-- `(f, d)` inserted into a list ordered by falling f and, for equal f, rising d. -/
def insertDesc (x : Nat × Nat) : List (Nat × Nat) → List (Nat × Nat)
  | [] => [x]
  | y :: r => if decide (y.1 < x.1) then x :: y :: r else y :: insertDesc x r

/-- Entry of a lattice at grid indices, input 1 varying fastest (R146). -/
def latticeEntry (table : Bytes) (g : Nat) (idx : List Nat) : Nat :=
  u16 table (idx.foldr (fun i acc => i + g * acc) 0)

/-- Simplicial interpolation of R147. -/
def lattice (table : Bytes) (g : Nat) (x : List Nat) : Nat :=
  let t := x.map (fun v => v * (g - 1))
  let i := t.map (fun v => min (v / 65535) (g - 2))
  let f := (t.zip i).map (fun (v, k) => v - k * 65535)
  let order := ((f.zip (List.range f.length)).foldl (fun acc p => insertDesc p acc) [])
  let first := match order with
    | [] => 0
    | p :: _ => p.1
  let rec go (idx : List Nat) (acc : Nat) : List (Nat × Nat) → Nat
    | [] => acc
    | (fk, k) :: rest =>
      let idx := idx.set k (idx.getD k 0 + 1)
      let next := match rest with
        | [] => 0
        | p :: _ => p.1
      go idx (acc + (fk - next) * latticeEntry table g idx) rest
  (go i ((65535 - first) * latticeEntry table g i) order + 32767) / 65535

/-- Nearest integer, halves to even. -/
def roundEven (q : Rat) : Int :=
  let f := q.floor
  let r := q - f
  if r < 1 / 2 then f else if 1 / 2 < r then f + 1 else if f % 2 = 0 then f else f + 1

/-- A non-negative number rounded to binary64 (53 bits, halves to even). -/
def rnd53 (q : Rat) : Rat :=
  if q ≤ 0 then 0
  else
    let e : Int := (Nat.log2 q.num.toNat : Int) - (Nat.log2 q.den : Int) - 52
    let pow (k : Int) : Rat := if 0 ≤ k then ((2 ^ k.toNat : Nat) : Rat) else 1 / ((2 ^ (-k).toNat : Nat) : Rat)
    let e := if q / pow e < 4503599627370496 then e - 1 else e
    (roundEven (q / pow e) : Rat) * pow e

/-- Point `i` of the generated tone table: knee, shoulder, black point, in binary64 (R148). -/
def tonePoint (knee shoulder black i : Nat) : Nat :=
  let u := rnd53 ((min (256 * i) 65535 : Nat) / 65535)
  let k := rnd53 (knee / 65535)
  let b := rnd53 (black / 65535)
  let h := rnd53 (shoulder / 4096)
  let t := if u ≤ k then u
    else
      let v := rnd53 (rnd53 (u - k) / rnd53 (1 - k))
      let top := rnd53 (rnd53 (rnd53 (b - k) * v) * rnd53 (1 + h))
      rnd53 (k + rnd53 (top / rnd53 (1 + rnd53 (h * v))))
  (roundEven (rnd53 (65535 * t))).toNat

/-- The tone map applied to a demand (R148). -/
def tone (table : List Nat) (x : Nat) : Nat :=
  let i := x / 256
  let f := x % 256
  let a : Int := (table.getD i 0 : Nat)
  let b : Int := (table.getD (i + 1) 0 : Nat)
  (a + Int.fdiv ((b - a) * (f : Int) + 128) 256).toNat

namespace Dev

/-- A context DOMAIN table: what is held, or its default (R34, Tables 5.9, 6.7, 12.8). -/
def cdom (d : Dev) (c idx : Nat) : Bytes :=
  match (d.ctx c).dom.find? idx with
  | some b => b
  | none =>
    if decide (0x6110 ≤ idx ∧ idx < 0x611C) then List.replicate 4608 0
    else if decide (0x6120 ≤ idx ∧ idx < 0x6140) then Config.scaler
    else if decide (0x6160 ≤ idx ∧ idx < 0x6168) then Config.pleachMask
    else if decide (0x6170 ≤ idx ∧ idx < 0x6178) then
      ((List.range 257).map (fun i => leBytes 2 (min (256 * i) 65535))).flatten
    else []

/-- The tone table of a bar in a context, as arm generates or takes it (R148). -/
def toneTable (d : Dev) (c n : Nat) : List Nat :=
  if d.cg c (0x4040 + n) 1 == 1 then (List.range 257).map (u16 (d.cdom c (0x6108 + n)))
  else (List.range 257).map (tonePoint (d.cg c (0x4040 + n) 2) (d.cg c (0x4040 + n) 3) (d.cg c (0x4040 + n) 4))

/-- The live value of Bn in force for repeat `rep`: the committed one, or the one a commit replaced while its repeat has
not come (R62). -/
def live (d : Dev) (n rep idx sub : Nat) : Nat :=
  let i := idx + 0x100 * n
  match (d.dict.held.get [] n).find? (fun h => h.key == key i sub && decide (rep < h.upto)) with
  | some h => h.val
  | none => d.g i sub

/-- The live DOMAIN table of Bn in force for repeat `rep`; none where it holds its default. -/
def liveDom (d : Dev) (n rep idx : Nat) : Option Bytes :=
  let i := idx + n
  match (d.dict.held.get [] n).find? (fun h => h.key == key i 0 && decide (rep < h.upto)) with
  | some h => h.dom
  | none => d.dict.doms.find? i

/-- T, N, W and P of Bn in force for a repeat (R158). -/
def geom (d : Dev) (n rep : Nat) : Nat × Nat × Nat × Nat :=
  let t := d.live n rep 0x5003 1
  let m := d.live n rep 0x5003 2
  let w := d.live n rep 0x5003 3
  (t, m, w, t * m - (t - 1) * w)

/-- P of the committed geometry, 0x5003:04 (R158). -/
def columns (d : Dev) (n : Nat) : Nat :=
  let t := d.gb n 0x5003 1
  t * d.gb n 0x5003 2 - (t - 1) * d.gb n 0x5003 3

/-- Cache columns and cache lines of a bar's plane in a context (R135). -/
def planeSize (d : Dev) (c cols : Nat) : Nat × Nat :=
  let l := ceilDiv (d.cg c 0x4000 3) 65536
  if d.cg c 0x4003 2 == 1 then (cols, l) else (ceilDiv cols 2, ceilDiv (ceilDiv (d.cg c 0x4000 3) 2) 65536)

/-- Tile columns and tile rows of a bar's plane: tiles of 4,096 columns by 128 lines (Table 4.12). -/
def tileGrid (d : Dev) (c n : Nat) : Nat × Nat :=
  let (w, h) := d.planeSize c (d.columns n)
  (ceilDiv w 4096, ceilDiv h 128)

/-- The frames of a static layer held for a context's planes, in stream order. -/
def staticFrames (d : Dev) (c s : Nat) : List (FrameHdr × Bytes) :=
  ((d.ctx c).planes.filter (fun p => p.2.1 / 4294967296 == d.cg c (0x4020 + s) 1)).map (fun p => (p.2.2.1, p.2.2.2))

/-- Sample (x, y) of channel `ch` of stacked frames (R150). -/
def stackPix : List (FrameHdr × Bytes) → Nat → Nat → Nat → Nat
  | [], _, _, _ => 0
  | (h, b) :: r, x, y, ch => if decide (y < h.lines) then samplePix h b x y ch else stackPix r x (y - h.lines) ch

/-- The flattened ink value of a bar's cache plane at cache column m, cache line q (R145, R149, R150). -/
def planeInk (d : Dev) (c n m q : Nat) : Nat :=
  let space := d.cg c 0x4003 1
  let k := channels space
  let step (acc : List Nat × Nat) (s : Nat) : List Nat × Nat :=
    let o := 0x4020 + s
    let x := d.cg c o 3
    let y := d.cg c o 4
    let w := d.cg c o 5
    let h := d.cg c o 6
    if bit (d.cg c 0x4003 4) s && decide (x ≤ m ∧ m < x + w ∧ y ≤ q ∧ q < y + h) then
      let fr := d.staticFrames c s
      let coef := d.cdom c (0x6130 + s)
      let nch := match fr with
        | [] => k
        | f :: _ => f.1.channels
      let at_ (ch : Nat) : Nat :=
        scaled coef (fun px py => stackPix fr px py ch) (d.cg c o 7) (d.cg c o 8) w h (m - x) (q - y)
      blendOver acc.1 acc.2 ((List.range k).map at_) (if nch == k + 1 then at_ k else 65535)
    else acc
  let (p, _) := (List.range 16).foldl step (substrate space, 65535)
  tone ((d.ctx c).tones.get [] n) (lattice (d.cdom c (0x6100 + n)) (gridPoints space) (p.map (fun v => min v 65535)))

/-- The static ink value at column `col` of repeat line `r` of a repeat of `lines` lines (R136). -/
def staticInk (d : Dev) (c n cols lines col r : Nat) : Nat :=
  if d.cg c 0x4003 2 == 1 then d.planeInk c n col r
  else
    let m := col / 2
    let q := r / 2
    if d.cg c 0x4003 3 == 0 then d.planeInk c n m q
    else
      let (pw, ph) := d.planeSize c cols
      let last := min ph (ceilDiv lines 2)
      let other (i idx len : Nat) : Nat :=
        if i % 2 == 0 then (if idx == 0 then idx else idx - 1) else (if decide (idx + 1 < len) then idx + 1 else idx)
      let across (line : Nat) : Nat := (3 * d.planeInk c n m line + d.planeInk c n (other col m pw) line + 2) / 4
      (3 * across q + across (other r q last) + 2) / 4

/-- A frame is stored and can be read. -/
def frameOk (d : Dev) (kind tile : Nat) : Option Frame :=
  match d.jobs.frames.find? (kind * 2 ^ 64 + tile) with
  | some f => if f.poisoned || f.lost then none else some f
  | none => none

/-- Tile identity of the instance of layer l in a repeat with V(k) = v (R138). -/
def instanceTile (d : Dev) (c l v : Nat) : Nat :=
  d.cg c (0x4030 + l) 2 * 4294967296 + (d.cg c (0x4030 + l) 3 + v) % 4294967296

/-- The fallback conditions of Table 5.2: whether the layer's instance is replaced, and whether that spoils. -/
def fallback (d : Dev) (c l tile : Nat) : Option Bool :=
  let o := 0x4030 + l
  let k := channels (d.cg c 0x4003 1)
  match d.jobs.frames.find? (2 * 2 ^ 64 + tile) with
  | none => some false
  | some f =>
    if f.poisoned || f.lost then some true
    else
      let h := f.hdr
      let w := d.cg c o 6
      let ht := d.cg c o 7
      if d.cg c o 1 == 1 then
        if decide (d.cg c o 8 < h.columns) || decide (d.cg c o 9 < h.lines) || decide (8 * w < h.columns) ||
            decide (8 * h.columns < w) || decide (8 * ht < h.lines) || decide (8 * h.lines < ht) ||
            !(h.channels == k || (h.channels == k + 1 && d.cg c o 0x0D == 1)) || h.sampleBits != 16 then some false
        else none
      else if decide (w < h.columns) || decide (ht < h.lines) || h.channels != 1 ||
          h.sampleBits != (if d.cg c o 0x0A == 1 then 1 else 8) then some false
      else none

/-- Colour and alpha that layer l gives at placement pixel (x, y), with the tile the bar chose (R142, R143, R140). -/
def layerPix (d : Dev) (c l : Nat) (tile : Option Nat) (x y : Nat) : List Nat × Nat :=
  let o := 0x4030 + l
  let space := d.cg c 0x4003 1
  let k := channels space
  let pal := d.cdom c (0x6110 + l)
  match tile.bind (fun t => d.jobs.frames.find? (2 * 2 ^ 64 + t)) with
    | none => ((List.range k).map (u16 (d.cbytes c o 0x0C 18)), u16 (d.cbytes c o 0x0C 18) 8)
    | some f =>
      let h := f.hdr
      if d.cg c o 1 == 1 then
        let at_ (ch : Nat) : Nat :=
          scaled (d.cdom c (0x6120 + l)) (fun px py => samplePix h f.data px py ch) h.columns h.lines (d.cg c o 6) (d.cg c o 7) x y
        ((List.range k).map at_, if h.channels == k + 1 then at_ k else 65535)
      else if decide (h.columns ≤ x) || decide (h.lines ≤ y) then (List.replicate k 0, 0)
      else
        let v := samplePix h f.data x y 0
        let (entry, al) := if d.cg c o 0x0A == 2 then (1, v * 257) else (v, u16 pal (9 * v + 8))
        (if d.cg c o 0x0B == 1 then substrate space else (List.range k).map (fun i => u16 pal (9 * entry + i)), al)

/-- The final ink value of a column of repeat line r: live layers over the static plane (R145). -/
def inkAt (d : Dev) (c n cols lines col r : Nat) (choice : Nat → Option Nat) : Nat :=
  let space := d.cg c 0x4003 1
  let k := channels space
  let s := d.staticInk c n cols lines col r
  let step (acc : List Nat × Nat) (l : Nat) : List Nat × Nat :=
    let o := 0x4030 + l
    let x := d.cg c o 4
    let y := d.cg c o 5
    if decide (x ≤ col ∧ col < x + d.cg c o 6 ∧ y ≤ r ∧ r < y + d.cg c o 7) then
      let (q, b) := d.layerPix c l (choice l) (col - x) (r - y)
      blendOver acc.1 acc.2 q b
    else acc
  let (p, a) := (List.range (d.cg c 0x4003 5)).foldl step (List.replicate k 0, 0)
  if a == 0 then s
  else
    let colr := p.map (fun v => min ((v * 65535 + a / 2) / a) 65535)
    let e := tone ((d.ctx c).tones.get [] n) (lattice (d.cdom c (0x6100 + n)) (gridPoints space) colr)
    (a * e + (65535 - a) * s + 32767) / 65535

/-- Remap entry of column i of tile t of Bn (Table 6.3). -/
def remapEntry (d : Dev) (n rep t i : Nat) : Nat :=
  match d.liveDom n rep 0x6228 with
  | some b => u16 b (t * 2560 + i)
  | none => i

/-- The nozzle of logical column i of tile t is missing (R162). -/
def missingNozzle (d : Dev) (n rep t i : Nat) : Bool :=
  let inMap (m : Option Bytes) : Bool := match m with
    | some b => bit (leNat (slice b (t * 320 + i / 8) 1)) (i % 8)
    | none => false
  inMap (d.liveDom n rep 0x6218) || inMap (d.liveDom n rep 0x6220) || bits (d.remapEntry n rep t i) 11 0 == 0xFFF

/-- Entry k of tile t's curve (R160). -/
def curve (d : Dev) (n rep t k : Nat) : Nat :=
  match d.liveDom n rep 0x6210 with
  | some b => u16 b (t * 33 + k)
  | none => min (2048 * k) 65535

/-- The corrected value of a nozzle (R160). -/
def corrected (d : Dev) (n rep t i x : Nat) : Nat :=
  let entry (idx k : Nat) : Int := match d.liveDom n rep idx with
    | some b => i16 b ((t * 2560 + i) * 2 + k)
    | none => 0
  let g := clampInt (entry 0x6200 0 + entry 0x6208 0) (-32768) 32767
  let o := clampInt (entry 0x6200 1 + entry 0x6208 1) (-32768) 32767
  let y := (clampInt (Int.fdiv ((x : Int) * (32768 + g) + 16384) 32768 + o) 0 65535).toNat
  let a : Int := (d.curve n rep t (y / 2048) : Nat)
  let b : Int := (d.curve n rep t (y / 2048 + 1) : Nat)
  (a + Int.fdiv ((b - a) * ((y % 2048 : Nat) : Int) + 1024) 2048).toNat

/-- Tiles that serve a column, in rising number (R158). -/
def tilesOf (d : Dev) (n rep col : Nat) : List Nat :=
  let (t, m, w, _) := d.geom n rep
  (List.range t).filter (fun k => decide (k * (m - w) ≤ col ∧ col < k * (m - w) + m))

/-- Every nozzle that serves the column is missing (R162). -/
def missingColumn (d : Dev) (n rep col : Nat) : Bool :=
  let (_, m, w, _) := d.geom n rep
  (d.tilesOf n rep col).all (fun t => d.missingNozzle n rep t (col - t * (m - w)))

/-- Value of the nozzle of tile t at a column after compensation, and whether the ink limit cut it (R164). -/
def compensated (d : Dev) (c n rep : Nat) (ink : Nat → Nat) (t col : Nat) : Nat × Bool :=
  let (_, m, w, p) := d.geom n rep
  let o := 0x4050 + n
  let y := d.corrected n rep t (col - t * (m - w)) (ink col)
  let share (e : Int) : Nat :=
    let cc := (col : Int) + e
    if decide (0 ≤ cc ∧ cc < p) && d.missingColumn n rep cc.toNat then
      let low := ((d.tilesOf n rep cc.toNat).head?).getD 0
      let dd := d.corrected n rep low (cc.toNat - low * (m - w)) (ink cc.toNat)
      ((if e.natAbs == 1 then d.cg c o 7 else d.cg c o 8) * dd + 32768) / 65536
    else 0
  let s := share (-2) + share (-1) + share 1 + share 2
  let top := max y (d.cg c o 6)
  (min (y + s) top, decide (top < y + s))

/-- Drop level of a nozzle value at a column of line j with matrix set `set` (R166). -/
def level (d : Dev) (c n set y col j : Nat) : Nat :=
  let o := 0x4050 + n
  let u := (col + d.cg c o 4) % 256
  let v := (j + d.cg c o 5) % 256
  let top := 2 ^ d.cg c o 1 - 1
  ((List.range top).filter (fun l => decide (u16 (d.cdom c (0x6140 + 8 * set + l)) (256 * v + u) < y))).length

/-- Window of zone z: clamped or not, first column and width (R169). -/
def zoneWindow (d : Dev) (c n rep z : Nat) : Bool × Int × Nat :=
  let (_, m, w, _) := d.geom n rep
  let beff := min (d.cg c (0x4050 + n) 9) w
  let lo : Int := -(((w - beff) / 2 : Nat) : Int)
  let hi : Int := ((w - beff : Nat) : Int) + lo
  let sigma := toSigned 8 (d.live n rep 0x5004 z)
  let sig := clampInt sigma lo hi
  (sig != sigma, ((z * (m - w) + (w - beff) / 2 : Nat) : Int) + sig, beff)

/-- The tile that prints a column in line j of a repeat (R158, R163, R169). -/
def printingTile (d : Dev) (c n rep col j : Nat) : Nat :=
  let (_, m, w, _) := d.geom n rep
  match d.tilesOf n rep col with
  | [] => 0
  | [t] => t
  | left :: right :: _ =>
    let miss (t : Nat) : Bool := d.missingNozzle n rep t (col - t * (m - w))
    if miss left && !miss right then right
    else if miss right && !miss left then left
    else
      let (_, a, beff) := d.zoneWindow c n rep right
      if decide ((col : Int) < a) then left
      else if decide (a + beff ≤ col) then right
      else
        let mm := (((col : Int) - a).toNat * d.cg c (0x4050 + n) 9) / beff
        let q := (j + rep * d.cg c (0x4050 + n) 0x0A % 64) % 64
        let byte_ := leNat (slice (d.cdom c (0x6160 + n)) (16 * q + mm / 8) 1)
        if bit byte_ (mm % 8) then left else right

/-- The dots of line j and the tile that prints each column, with the count of columns the ink limit cut (Table 6.1). -/
def screenLine (d : Dev) (c n rep j : Nat) (alt : Bool) (ink : Nat → Nat) (noDrops : Nat → Bool) :
    List Nat × List Nat × Nat :=
  let (_, m, w, p) := d.geom n rep
  let set := if alt then d.cg c (0x4050 + n) 3 else d.cg c (0x4050 + n) 2
  let cols := List.range p
  let one (col : Nat) : Nat × Nat × Bool :=
    let t := d.printingTile c n rep col j
    if d.missingColumn n rep col then (0, t, false)
    else
      let each := (d.tilesOf n rep col).map (fun k => (k, d.compensated c n rep ink k col))
      let cut := each.any (fun x => x.2.2)
      let y := match each.find? (fun x => x.1 == t) with
        | some x => x.2.1
        | none => 0
      if d.missingNozzle n rep t (col - t * (m - w)) || noDrops col then (0, t, cut)
      else (d.level c n set y col j, t, cut)
  let r := cols.map one
  (r.map (fun x => x.1), r.map (fun x => x.2.1), (r.filter (fun x => x.2.2)).length)

/-- Sums of the ink over blocks of 16 columns (R153). -/
def blockSums (cols : Nat) (ink : Nat → Nat) : List Nat :=
  (List.range (ceilDiv cols 16)).map (fun b => ((List.range (min 16 (cols - 16 * b))).map (fun i => ink (16 * b + i))).sum)

end Dev

/-- Mean ink of block (b, h) of a prediction of `lines` lines, rounded to nearest with halves up (R153). -/
def Pred.block (p : Pred) (b h lines : Nat) : Nat :=
  let rows := min 16 (lines - 16 * h)
  let cols := min 16 (p.columns - 16 * b)
  let s := ((List.range rows).map (fun i => ((p.lines.get [] (16 * h + i)).getD b 0))).sum
  let k := rows * cols
  if k == 0 then 0 else (2 * s + k) / (2 * k)

end Sys2Proof.Machine
end

