-- ==== Sys2Proof/Machine/Shared.lean ====
section
/-! DEFINITION. Operations that several chapters share: NV records and the temperature window (R431, R432), the coppice's
pools (R439, R440), twin messages and mirrored decisions (R383, R389), long operations (R55 to R59), and the lanes of a
bar with the blocks sent on them (chapters 09, 10). -/
namespace Sys2Proof.Machine

open Sys2Proof

namespace Dev

/-- Sensor k is in service (0x260A, Table 18.1). -/
def sensorOn (d : Dev) (k : Nat) : Bool := bits (d.g 0x260A (k + 1)) 7 6 == 0

/-- The NV temperature window is open for a new operation (R431). -/
def nvOpen (d : Dev) : Bool :=
  d.therm.warnRise.isEmpty && (List.range 32).all (fun k => !d.sensorOn k ||
    (decide (-200 ≤ d.gi 16 0x2608 (k + 1) ∧ d.gi 16 0x2608 (k + 1) ≤ 900) &&
      decide (-200 ≤ d.gi 16 0x2609 (k + 1) ∧ d.gi 16 0x2609 (k + 1) ≤ 200)))

/-- A record staged in AON SRAM (R432). Kind 5 is the shutdown record, which has a place of its own. -/
def stageNv (d : Dev) (r : NvRec) : Dev :=
  let same (x : NvRec) : Bool := x.kind == r.kind && x.obj == r.obj
  let st := d.nv.staged
  if st.any same then { d with nv := { d.nv with staged := st.map (fun x => if same x then r else x) } }
  else
    let full := r.kind != 5 && decide (256 ≤ (st.filter (fun x => x.kind != 5)).length)
    let d1 := if full then d.bump 0x260C 2 else d
    let st := if full then (match st.find? (fun x => x.kind != 5) with
      | some o => st.erase o
      | none => st) else st
    let d2 := { d1 with nv := { d1.nv with staged := st ++ [r] } }
    if d.nv.staged.isEmpty then d2.raise 107 else d2

/-- A record to be written to NV: at once inside the temperature window, else staged (R431, R432). -/
def saveNv (d : Dev) (r : NvRec) : Dev :=
  if d.nvOpen && d.nv.staged.isEmpty && r.kind != 5 then
    { d with nv := { d.nv with writing := d.nv.writing ++ [r] } }
  else d.stageNv r

/-- Several records to be written. -/
def saveNvs (d : Dev) (rs : List NvRec) : Dev := rs.foldl saveNv d

/-- A substitution counted and reported for its pool (R440). -/
def substitute (d : Dev) (pool : Nat) : Dev := (d.bump 0x2E06 pool).raise 111 0 0xFF pool

/-- An L2 substitution that interrupts no bar's output and undoes nothing: complete at once, counted (R406, R403). -/
def minorL2 (d : Dev) (e : Nat) (mask detail : Nat := 0) : Dev :=
  ((({ d with fl := { d.fl with lastL2 := some d.t } } : Dev).raiseAt 2 e mask 0xFF detail)).bump 0x2208 5

/-- A unit of a pool consumed (R439, R440). -/
def consume (d : Dev) (pool : Nat) : Dev :=
  let rem := d.g 0x2E04 pool
  let d := (d.put 0x2E04 pool (rem - 1)).put 0x2E05 pool (d.g 0x2E05 pool + 1)
  if rem == 2 then d.raise 112 else if rem == 1 then d.raise 113 else d

/-- A pool restored by one unit (R439). -/
def restorePool (d : Dev) (pool : Nat) : Dev := d.put 0x2E04 pool (d.g 0x2E04 pool + 1)

/-- The device is formed into a pair: role active or standby, with a partner. A device whose partner has failed or left
goes on alone in its role (R394, R415). -/
def paired (d : Dev) : Bool := (d.role == 1 || d.role == 2) && d.twin.partner.isSome

/-- Twin lanes UP, by lane number 0 to 7. -/
def twinUp (d : Dev) : List Nat :=
  (List.range 8).filter (fun i => d.g 0x3410 (73 + i) == 4 && bit (d.g 0x2C00 7) i)

/-- A twin message numbered and sent on the lane with the fewest messages outstanding (R383). -/
def twinSend (d : Dev) (kind : Nat) (payload : Bytes) : Dev :=
  if !d.twin.linked then d
  else
    let seq := (d.twin.txSeq + 1) % 4294967296
    let load (i : Nat) : Nat := (d.twin.unacked.filter (fun m => m.lane == i)).length
    let lane := (d.twinUp.foldl (fun (best : Option Nat) i => match best with
      | none => some i
      | some b => if decide (load i < load b) then some i else some b) none).getD 0
    let m : TwinMsg := { seq := seq, kind := kind, payload := payload, sent := d.t, first := d.t, lane := lane }
    let d := { d with twin := { d.twin with txSeq := seq, unacked := d.twin.unacked ++ [m] } }
    d.emit (.twin kind seq payload)

/-- Fields of a decision in sending order; the spec fixes no byte layout (DESIGN CHOICE, log 57). -/
def decisionBytes (m : DecisionMsg) : Bytes :=
  [byte m.kind, byte m.barMask] ++ leBytes 8 m.repeatNo ++ leBytes 8 m.line ++ leBytes 8 m.value ++
    m.data.flatMap (fun x => leBytes 2 x.1 ++ leBytes 4 x.2.length ++ x.2)

/-- Tiles of a bar assigned to logical lane l and a slot outside the mask (R249). -/
def badTiles (d : Dev) (n l mask : Nat) : List Nat :=
  (List.range (d.gb n 0x5003 1)).filter (fun t =>
    let a := d.gb n 0x5010 (t + 1)
    bits a 5 3 == l && !bit mask (bits a 2 0))

/-- The entry of a compare unit whose status is PENDING and comes first: by its repeat in per-repeat mode, then by number. -/
def nextEntry (d : Dev) (u : Nat) : Option Nat :=
  let len := d.g (0x3020 + u) 2
  if d.g (0x3020 + u) 1 == 0 then (List.range len).find? (fun i => ((d.cmp u).status.get {} i).state == 0)
  else
    let k (i : Nat) : Nat := (d.cmp u).nextRep.get d.print.runFirst i
    (List.range len).foldl (fun (best : Option Nat) i => match best with
      | none => some i
      | some j => if decide (k i < k j) then some i else some j) none

/-- The active device sends a decision and holds it until its acknowledgement (R389). -/
def mirror (d : Dev) (m : DecisionMsg) : Dev :=
  if d.role == 1 && d.twin.linked then
    let d := d.twinSend 3 (decisionBytes m)
    { d with twin := { d.twin with pledges := d.twin.pledges ++ [{ seq := d.twin.txSeq, msg := m }] } }
  else d

/-- A long operation starts (R55): its ID counts from 1 since boot. -/
def beginOp (d : Dev) (cls sess arg : Nat) (result : Nat := 0) : Dev :=
  { d with com := { d.com with ops := d.com.ops + 1
                               op := some { id := d.com.ops + 1, cls := cls, start := d.t, sess := sess, arg := arg, result := result } } }

/-- The running long operation ends with a result (R59, 0x2002). -/
def endOp (d : Dev) (result : Nat) : Dev :=
  match d.com.op with
  | none => d
  | some o =>
    let d := { d with com := { d.com with op := none } }
    (((d.put 0x2002 1 o.id).put 0x2002 2 o.cls).put 0x2002 3 result).put 0x2002 4 ((d.t - o.start) / 1000000 % 4294967296)

/-- 65536 * (96 + 0.002 v) times 500: the margin of R86 in scaled 48.16 lines, with `k` further 0.002 v. -/
def margin500 (d : Dev) (k : Nat := 0) : Nat := 65536 * (48000 + (k + 1) * d.lineRate)

/-- D − P ≥ 96 + 0.002 v (R86), with `k` further terms of 0.002 v. -/
def meets (d : Dev) (b : Nat) (k : Nat := 0) : Bool := decide (500 * d.posn + d.margin500 k ≤ 500 * b)

/-- State of a lane by its subindex (Table 9.2). -/
def laneState (d : Dev) (s : Nat) : Nat := d.g 0x3410 s

/-- State of a lane set. -/
def putLane (d : Dev) (s st : Nat) : Dev := d.put 0x3410 s st

/-- Bar of a head lane's subindex. -/
def laneBar (s : Nat) : Nat := (s - 1) / 9

/-- The head lane exists on the device (R5). -/
def lanePresent (d : Dev) (s : Nat) : Bool :=
  if d.product == 0x2204 then decide (1 ≤ s ∧ s ≤ 36) else decide (1 ≤ s ∧ s ≤ 80)

/-- Subindex of the physical lane that serves logical lane l of Bn (0x3417). -/
def laneOf (d : Dev) (n l : Nat) : Nat := bits (d.g 0x3417 (n + 1)) (8 * l + 7) (8 * l) + 1

/-- Logical lanes in use at Bn (0x3401). -/
def lanesInUse (d : Dev) (n : Nat) : List Nat := (List.range 8).filter (fun l => bit (d.g 0x3401 (n + 1)) l)

/-- Subindices of the lanes that serve Bn's logical lanes in use. -/
def lanesOf (d : Dev) (n : Nat) : List Nat := (d.lanesInUse n).map (d.laneOf n)

/-- The logical lane of a head lane's subindex, when it serves one. -/
def logicalOf (d : Dev) (s : Nat) : Option Nat :=
  (List.range 8).find? (fun l => d.laneOf (laneBar s) l == s)

/-- Every head lane in use at the bars present. -/
def headLanes (d : Dev) : List Nat := d.barList.flatMap d.lanesOf

/-- Physical lane number of a bar's spare, or 0xFF (0x3418). -/
def spareOf (d : Dev) (n : Nat) : Nat := bits (d.g 0x3418 (n + 1)) 15 8

/-- The device sends lines, tags, strobes, REVOKE and BASE (Table 16.2, R390). -/
def sends (d : Dev) : Bool :=
  if d.role == 2 then d.g 0x2C00 1 == 2 && d.synced else d.drives

/-- A control block sent on a lane: type and bytes 1 to 7. -/
def block (d : Dev) (s typ : Nat) (payload : Bytes) : Dev := d.emit (.linkBlock s typ (slice payload 0 7))

/-- The lane carries ordered sets and control blocks. -/
def laneLive (d : Dev) (s : Nat) : Bool :=
  let st := d.laneState s
  st == 2 || st == 4 || st == 6

/-- The lane receives: it exists, and is neither OFF nor FAILED (R5, Table 9.2). -/
def hears (d : Dev) (s : Nat) : Bool := d.lanePresent s && d.laneState s != 0 && d.laneState s != 7

/-- Role as TRAIN page 1 and HEARTBEAT code it: 0 solo, 1 active, 2 standby (R249, R267). -/
def roleCode (d : Dev) : Nat := if decide (d.role ≤ 2) then d.role else 0

/-- An adaptive lane's re-tuned equaliser code is set and held for its rate (R225, Table 18.3). -/
def setLaneCode (d : Dev) (s code : Nat) : Dev :=
  if decide (d.g 0x3403 s < 16) then d
  else (d.put 0x3412 s (code % 16)).onLane s (fun l => { l with eqHeld := l.eqHeld.set (d.g 0x3411 s) (code % 16) })

/-- TRAIN pages 0 and 1: the device's capability mask, every rate of Table 9.1 (DEDUCED, log 103), the announced rate and switch marker;
then bar, logical lane, role and protocol version (R249). A lane that serves no logical lane, and a twin lane, give 0xFF for it
(DESIGN CHOICE, log 103). -/
def sendTrain (d : Dev) (s rate marker : Nat) : Dev :=
  let d := d.block s 0x2D ([0, 0x1F, byte rate] ++ leBytes 4 marker)
  let l := if decide (s ≤ 72) then (d.logicalOf s).getD 0xFF else 0xFF
  d.block s 0x2D [1, byte (if decide (s ≤ 72) then laneBar s else 0xFF), byte l, byte d.roleCode, 1]

/-- Revoke epoch of Bn (0x342A). -/
def epoch (d : Dev) (n : Nat) : Nat := d.g 0x342A (n + 1)

/-- BASE on a lane: the stream begins at `first` (R257). -/
def sendBase (d : Dev) (s first : Nat) : Dev :=
  let n := laneBar s
  let d := d.onLane s (fun l =>
    { l with baseSent := true, credited := false, next := first, acked := first - 1, window := 0, epoch := d.epoch n })
  d.block s 0x5A (leBytes 5 (first % 1099511627776) ++ [byte (d.epoch n)])

/-- The lane is its bar's spare and is UP for a swap that takes effect at the next boundary (R239). -/
def readySpare (d : Dev) (s : Nat) : Bool :=
  decide (s ≤ 72) && d.spareOf (laneBar s) + 1 == s && (match (d.bar (laneBar s)).swap with
    | some w => w.ready
    | none => false)

/-- Lanes on which the bar's lines leave: those that serve it, and the spare of a swap that already sends ahead of its boundary. -/
def sendingLanes (d : Dev) (n : Nat) : List Nat :=
  let sp := d.spareOf n + 1
  d.lanesOf n ++ (if d.readySpare sp then [sp] else [])

/-- REVOKE sent twice on every lane of the bar under a new epoch (R264). A standby whose lanes carry no lines numbers it
alike and sends nothing. -/
def revoke (d : Dev) (n first : Nat) : Dev :=
  let e := (d.epoch n + 1) % 256
  let d := d.put 0x342A (n + 1) e
  let d := { d with print := { d.print with revoke := d.print.revoke.set n first } }
  let pl := leBytes 5 (first % 1099511627776) ++ [byte e]
  let d := (d.sendingLanes n).foldl (fun d s =>
    let d := d.onLane s (fun l => { l with next := min l.next first, epoch := e })
    if d.sends && d.laneLive s then (d.block s 0x55 pl).block s 0x55 pl else d) d
  if d.sends then d.raise 58 (2 ^ n) 0xFF (first % 4294967296) else d

end Dev

end Sys2Proof.Machine
end

