-- ==== Sys2Proof/Machine/Sched.lean ====
section
/-! DEFINITION. Repeats and their boundaries, the flying change, the ledger, undo, and the decisions a pair mirrors
(chapter 03; R388, R389; R460, R461). -/
namespace Sys2Proof.Machine

open Sys2Proof

/-- First whole line at or after a 48.16 position. -/
def ceilLine (p : Nat) : Nat := ceilDiv p 65536

/-- D(k + 1) where repeat r runs its full length or is cut (R81). -/
def Rep.end_ (r : Rep) : Nat := match r.fin with
  | some e => e
  | none => r.d + r.len

/-- First line of a repeat's inter-repeat gap, not beyond its end (R82); in sheet mode the lines beyond the length (R193). -/
def Rep.gapStart (r : Rep) (sheet : Bool) : Nat :=
  let full := ceilLine (r.d + r.len)
  min (if sheet then full else full - r.gap) (ceilLine r.end_)

/-- D(n) from repeat k at `pos` with length `l`, under the scheduled changes (repeat, length) in rising order. -/
def walkD (l k pos n : Nat) : List (Nat × Nat) → Nat
  | [] => pos + (n - k) * l
  | (m, l') :: r =>
    if decide (n ≤ m) then pos + (n - k) * l
    else if decide (m ≤ k) then walkD l' k pos n r
    else walkD l' m (pos + (m - k) * l) n r

/-- Two checkpoints belong to one decoder: the same bar, kind, and tile column or stream. -/
def Ckpt.sameStream (x y : Ckpt) : Bool :=
  let w := if x.kind == 1 then 40 else 32
  x.bar == y.bar && x.kind == y.kind && x.tile / 2 ^ w == y.tile / 2 ^ w

namespace Dev

/-- Sheet mode is on (R191). -/
def sheet (d : Dev) : Bool := d.g 0x3040 1 == 1

/-- Repeat length of a context, 48.16 lines. -/
def lenOf (d : Dev) (c : Nat) : Nat := d.cg c 0x4000 3

/-- Scheduled changes in rising order: the locked one, then the pending one unless it waits (R87, R91). -/
def changes (d : Dev) : List Chg :=
  (match d.print.locked with
    | some c => [c]
    | none => []) ++
  (match d.print.pending with
    | some c => if c.waiting then [] else [c]
    | none => [])

/-- The context scheduled for a repeat number; the newest placed repeat's where no change reaches it. -/
def ctxAt (d : Dev) (n : Nat) : Option Nat :=
  match (d.changes.filter (fun c => decide (c.n ≤ n))).getLast? with
  | some c => some c.ctx
  | none => match d.print.reps with
    | [] => d.print.startCtx
    | r :: _ => if r.last then none else r.ctx

/-- D(n), 48.16 lines, for a repeat placed or scheduled; none where no boundary fixes it yet (R81, R191). -/
def boundary (d : Dev) (n : Nat) : Option Nat :=
  match d.print.reps.find? (fun r => r.num == n) with
  | some r => some r.d
  | none => match d.print.reps with
    | [] => none
    | r :: _ =>
      if decide (n < r.num) then none
      else if d.sheet then (if n == r.num + 1 then r.fin else none)
      else some (walkD r.len (r.num + 1) r.end_ n ((d.changes.filter (fun c => decide (r.num < c.n))).map (fun c => (c.n, d.lenOf c.ctx))))

/-- Repeat n's boundary meets the margin of R86, with `k` further terms of 0.002 v; in sheet mode, its boundary is not
placed yet. -/
def met (d : Dev) (n : Nat) (k : Nat := 0) : Bool :=
  if d.sheet then !(d.print.reps.any (fun r => decide (n ≤ r.num)))
  else match d.boundary n with
    | some b => d.meets b k
    | none => false

/-- The first repeat from n on that meets the margin, tried `fuel` times. -/
def firstMet (d : Dev) (k : Nat) : Nat → Nat → Nat
  | 0, n => n
  | f + 1, n => if d.met n k then n else d.firstMet k f (n + 1)

/-- The first repeat from n on that meets the margin (R86). Repeats are at least 256 lines long (R80). -/
def nextMet (d : Dev) (n : Nat) (k : Nat := 0) : Nat :=
  d.firstMet k (16 + (k + 1) * d.lineRate / 128000 + (d.posn / 65536 - n)) n

/-- The oldest repeat number whose boundary may still be chosen: after the repeat in progress at B0. -/
def nextNum (d : Dev) : Nat :=
  match (d.print.reps.filter (fun r => !r.opened)).getLast? with
  | some r => r.num
  | none => d.print.nextNum

/-- The repeat that contains line j, among those placed. -/
def repAt (d : Dev) (j : Nat) : Option Rep := d.print.reps.find? (fun r => decide (ceilLine r.d ≤ j))

/-- A repeat of the ledger by its number. -/
def rep? (d : Dev) (n : Nat) : Option Rep := d.print.reps.find? (fun r => r.num == n)

/-- The repeats changed by `f` where their number is n. -/
def onRep (d : Dev) (n : Nat) (f : Rep → Rep) : Dev :=
  { d with print := { d.print with reps := d.print.reps.map (fun r => if r.num == n then f r else r) } }

/-- The next repeat is placed at `pos` with a context (R81, R83). One without a context keeps the length before it (log 91). -/
def place (d : Dev) (pos : Nat) (c : Option Nat) (len : Nat) : Dev :=
  let n := d.print.nextNum
  let (v, gap, ceil) := match c with
    | some x => ((d.ctx x).v, d.cg x 0x4000 4, (d.ctx x).ceiling)
    | none => (0, 0, 0)
  let r : Rep := { num := n, d := pos, len := len, gap := gap, ctx := c, v := v, ceiling := ceil }
  let d := match c with
    | some x => d.onCtx x (fun y => { y with v := y.v + 1, lastEnd := pos + len, lastRep := n })
    | none => d
  { d with print := { d.print with reps := r :: d.print.reps, nextNum := n + 1 } }

/-- Printing begins at line j: every bar's next line, and a stream begun on every lane in use that is UP (R84, R257). -/
def firstLine (d : Dev) (j : Nat) : Dev :=
  d.barList.foldl (fun d n =>
    let d := d.onBar n (fun b => { b with
      next := j, fired := false, rend := j, sent := j, store := [], blanks := [], choices := [], missed := [], tPrev := none, tagBlank := none, tail := [] })
    ((d.lanesOf n).filter (fun s => d.laneState s == 4)).foldl (fun d s =>
      let d := d.onLane s (fun l => { l with carries := true })
      if d.sends then d.sendBase s j else d) d) d

/-- Repeats are placed until one reaches beyond line j (R81), `fuel` at most. In sheet mode only captures place them, and a
STOP's end boundary ends them (R460). -/
def extend (d : Dev) (j : Nat) : Nat → Dev
  | 0 => d
  | f + 1 => match d.print.reps with
    | [] => d
    | r :: _ =>
      let past := match d.print.endRep with
        | some e => decide (e ≤ r.num + 1)
        | none => false
      if d.sheet || past || decide (j < ceilLine r.end_) then d
      else
        let c := d.ctxAt (r.num + 1)
        let pos := match r.fin with
          | some e => e + (match d.print.splices.find? (fun b => b.lo == ceilLine e) with
              | some b => (b.hi - b.lo) * 65536
              | none => 0)
          | none => r.end_
        (d.place pos c (match c with
          | some x => d.lenOf x
          | none => r.len)).extend j f

/-- The repeats that reach line j are placed. -/
def ensure (d : Dev) (j : Nat) : Dev :=
  match d.print.reps with
  | [] => d
  | r :: _ => d.extend j ((j - ceilLine r.end_) / 256 + 2)

/-- A repeat is spoiled at a bar with a cause (R105); its first spoil sets CAUSE, and each new bar raises EV_SPOIL. -/
def spoil (d : Dev) (num n cause : Nat) : Dev :=
  match d.rep? num with
  | none => d
  | some r =>
    if bit r.spoiled n then d
    else (d.onRep num (fun r =>
      { r with spoiled := setBit r.spoiled n true, cause := if r.cause == 0 then cause else r.cause })).raise 30 (2 ^ n) 0xFF cause

/-- Lines below `hi` and from `lo` on are retired blank at a bar. -/
def blank (d : Dev) (n lo hi cause : Nat) : Dev :=
  if decide (lo < hi) then d.onBar n (fun b => { b with blanks := b.blanks ++ [{ lo := lo, hi := hi, cause := cause }] }) else d

/-- The line after the last one that has come due at Bn: the next to fire, or, before the first boundary since the start, the
line that position next reaches (R84, R93, R500). -/
def upNext (d : Dev) (n : Nat) : Nat :=
  let b := d.bar n
  if b.fired then b.next else min b.next ((d.posn + 65536 - d.offset n) / 65536)

/-- The decoders of Bn go back to their latest checkpoints at or before line u; later ones are saved again as the lines are
rendered again (R103, R104). -/
def rewind (d : Dev) (n u : Nat) : Dev :=
  let kept := d.jobs.checkpoints.filter (fun x => !(x.bar == n && decide (u < x.at_)))
  let latest := (kept.filter (fun x => x.bar == n)).foldl (fun (l : List Ckpt) x => if l.any (fun y => y.sameStream x) then l else l ++ [x]) []
  { d with jobs := { d.jobs with checkpoints := kept, rewinds := d.jobs.rewinds.filter (fun x => x.bar != n) ++ latest } }

/-- Undo at a bar from line u (R103); `rev` tells whether a REVOKE may be sent (R405). -/
def undo (d : Dev) (n u : Nat) (rev : Bool := true) : Dev :=
  let b := d.bar n
  let keep (c : Choice) : Bool := match d.rep? c.rep, b.ctx with
    | some r, _ => match r.ctx with
      | some x => decide (ceilLine r.d + d.cg x (0x4030 + c.layer) 5 < u)
      | none => false
    | none, _ => false
  -- A standby that sends nothing counts as sent what the send lead lets its partner send.
  let was := if d.sends then b.sent else min b.rend (max b.next (d.upNext n + d.gb n 0x5001 2))
  let d := d.setBar n { b with
    rend := min b.rend u
    sent := min b.sent u
    store := b.store.filter (fun l => decide (l.line < u))
    choices := b.choices.filter keep }
  let d := (d.rewind n u).bumpBy (0x5001 + 0x100 * n) 3 1
  if decide (u < was) then
    let d := d.bumpBy (0x5001 + 0x100 * n) 4 (was - u)
    if rev then d.revoke n u
    else (d.sendingLanes n).foldl (fun d s => d.onLane s (fun l => { l with next := min l.next u })) d
  else d

/-- u = f + 1 + revoke lead at a bar (Table 3.6), and no line before the first of the start. -/
def uRevoke (d : Dev) (n : Nat) : Nat := max (d.bar n).next (d.upNext n + 4)

/-- Repeat n's context is replaced and later placed repeats are withdrawn, with what was rendered of them. -/
def rescope (d : Dev) (n : Nat) (c : Option Nat) : Dev :=
  match d.rep? n with
  | none => d
  | some r =>
    let back (d : Dev) (x : Rep) : Dev := match x.ctx with
      | some y => d.onCtx y (fun z => { z with v := z.v - 1 })
      | none => d
    let gone := d.print.reps.filter (fun x => decide (n ≤ x.num))
    let d := gone.foldl back d
    let d := { d with print := { d.print with reps := d.print.reps.filter (fun x => decide (x.num < n)), nextNum := n } }
    let d := d.place r.d c (match c with
      | some x => d.lenOf x
      | none => r.len)
    let u := ceilLine r.d
    d.barList.foldl (fun d m => if decide (u < (d.bar m).rend) then d.undo m u else d) d

/-- A scheduled change takes the place the rules give it: locked changes keep theirs, a pending one is replaced. -/
def schedule (d : Dev) (c : Chg) : Dev :=
  let p := { d.print with pending := some c, shown := none }
  let d := { d with print := p }
  if d.print.reps.any (fun r => decide (c.n ≤ r.num)) then d.rescope c.n (some c.ctx) else d

/-- Flying-change status, bits [6:0] (Table 3.4, R87, R90). -/
def fcStatus (d : Dev) : Nat :=
  match d.print.shown with
  | some s => s
  | none => match d.print.locked with
    | some _ => 3
    | none => match d.print.progress with
      | some _ => match d.print.pending with
        | some p => if p.deferred then 2 else 1
        | none => 4
      | none => match d.print.pending with
        | some p => if p.deferred then 2 else 1
        | none => d.print.rest

/-- Context and repeat that 0x2014:01 and :02 name (R87, R94). -/
def fcNamed (d : Dev) : Nat × Nat :=
  match d.print.locked, d.print.progress, d.print.pending with
  | some c, _, _ => (c.ctx, c.n)
  | none, some c, none => (c.ctx, c.n)
  | none, _, some p => (p.ctx, p.n)
  | none, none, none => (d.print.restCtx, d.print.restRep)

/-- Web speed, 0.01 m/min, from the line rate at 1200 lpi (R206): 787.402 lines/s for 1 m/min. -/
def webSpeed (d : Dev) : Nat := d.lineRate * 100000 / 787402

/-- 0x2014:03: the status with bit 7 while the target's ceiling is below the web speed (R88, R92). -/
def fcByte (d : Dev) : Nat :=
  let c := d.fcNamed.1
  d.fcStatus + (if c != 0xFF && decide ((d.ctx c).ceiling < d.webSpeed) && decide (4 ≤ (d.ctx c).code) then 128 else 0)

/-- The context has reports of equal checksum from both devices, or there is no pair (R387). -/
def agreed (d : Dev) (c : Nat) : Bool :=
  !d.paired || (match d.twin.sums.find? c with
    | some (st, crc) => decide (4 ≤ st ∧ st ≤ 6) && crc == (d.ctx c).checksum
    | none => false)

/-- A NEXT_CTX that may be scheduled (R88, R90, R387, R500). -/
def usable (d : Dev) (c : Nat) : Bool :=
  decide (c ≤ 127) && decide (4 ≤ (d.ctx c).code) && decide ((d.ctx c).code ≤ 6) && d.agreed c

/-- Repeat r ends at line `cut`, those placed after it are withdrawn, and it is spoiled at every bar where it loses lines (R93,
R105, Table 3.6). At a bar that has rendered every line it has left, its prediction is whole (R153). -/
def cutRep (d : Dev) (r : Rep) (cut cause : Nat) : Dev :=
  let later := d.print.reps.filter (fun x => decide (r.num < x.num))
  let d := later.foldl (fun d x => match x.ctx with
    | some y => d.onCtx y (fun z => { z with v := z.v - 1 })
    | none => d) d
  let reps := d.print.reps.filter (fun x => decide (x.num ≤ r.num))
  let whole (p : Pred) : Bool := p.rep == r.num && decide (cut ≤ (d.bar p.bar).rend)
  let d := { d with
    print := { d.print with
      reps := reps.map (fun (x : Rep) => if x.num == r.num then { x with fin := some (cut * 65536) } else x)
      nextNum := r.num + 1 }
    jobs := { d.jobs with preds := d.jobs.preds.map (fun (p : Pred) => if whole p then { p with done := true } else p) } }
  d.barList.foldl (fun d n =>
    -- A blank to the end of the repeat, under an ABORT or a SPOIL, ends with it.
    let d := d.onBar n (fun b => { b with blanks := b.blanks.map (fun x => if x.cause == 2 || x.cause == 3 then { x with hi := min x.hi cut } else x) })
    if decide (cut < ceilLine r.end_) then d.spoil r.num n cause else d) d

/-- The repeat that contains the line before `cut` ends there: where a "now" lies beyond B0's next boundary, that is the one the
web is cut in (R93; log 90). -/
def cutAt (d : Dev) (cut cause : Nat) : Dev :=
  match d.repAt (cut - 1) with
  | none => d
  | some r => d.cutRep r cut cause

/-- "Now" at line D* (R93). -/
def applyNow (d : Dev) (c line : Nat) : Dev :=
  let d := { d with print := { d.print with pending := none, locked := none, shown := none } }
  match (d.print.reps.filter (fun r => decide (d.print.runFirst ≤ r.num))).getLast? with
  | none => { d with print := { d.print with startCtx := some c, rest := 5, restCtx := c, restRep := d.print.nextNum } }
  | some first =>
    if !first.opened && decide (line ≤ ceilLine first.d) then
      let d := d.rescope first.num (some c)
      { d with print := { d.print with startCtx := some c, rest := 5, restCtx := c, restRep := first.num } }
    else
      let d := d.cutAt line 1
      let n := d.print.nextNum
      let d := d.place (line * 65536) (some c) (d.lenOf c)
      let d := { d with print := { d.print with locked := some { ctx := c, n := n } } }
      d.barList.foldl (fun d m => if decide (line < (d.bar m).rend) then d.undo m line else d) d

/-- SPOIL of repeat N (Table 3.6). -/
def applySpoil (d : Dev) (num : Nat) : Dev :=
  match d.rep? num with
  | none => d
  | some r => d.barList.foldl (fun d n =>
      let last := ceilLine r.end_
      let u := max (ceilLine r.d) (d.uRevoke n)
      -- A bar at which no line of the repeat is left to blank is left alone (R105).
      if decide (last ≤ u) then d else (((d.blank n u last 3).undo n u).spoil num n 3)) d

/-- SPLICE at line S for `len` lines (Table 3.6): the repeat that contains S ends there, with no line left where S is its first. -/
def applySplice (d : Dev) (s len : Nat) : Dev :=
  let c := (d.repAt s).bind (fun r => r.ctx)
  let d := match d.repAt s with
    | some r => d.cutRep r s 4
    | none => d
  let d := { d with print := { d.print with splices := { lo := s, hi := s + len, cause := 4 } :: d.print.splices } }
  let n := d.print.nextNum
  let c := match (d.changes.filter (fun x => decide (x.n ≤ n))).getLast? with
    | some x => some x.ctx
    | none => c
  let l := match c with
    | some x => d.lenOf x
    | none => match d.print.reps with
      | r :: _ => r.len
      | [] => 16777216
  let d := d.place ((s + len) * 65536) c l
  d.barList.foldl (fun d n => if decide (s < (d.bar n).rend) then d.undo n s else d) d

/-- The context of every repeat in progress or to come is c at some bar: its state while live (R73). -/
def liveMask (d : Dev) (c : Nat) : Nat :=
  (d.barList.filter (fun n => (d.bar n).ctx == some c)).foldl (fun m n => m + 2 ^ n) 0

/-- Datum position of a camera trigger: the largest R of the trigger units of the context's cameras (R281). -/
def cameraR (d : Dev) (c : Nat) : Option Nat :=
  let rs := ((List.range 6).filter (fun k => bit (d.cg c 0x4070 1) k && d.g (0x3800 + k) 0x0A != 0xFF)).map
    (fun k => d.g (0x3020 + d.g (0x3800 + k) 0x0A) 4)
  if d.cg c 0x4070 1 == 0 then none else some (rs.foldl max 0)

/-- Datum position of the end of a context's last repeat, as it was cut or ran; where no record of one is left, as it was placed. -/
def ctxEnd (d : Dev) (c : Nat) : Nat := match d.print.reps.find? (fun r => r.ctx == some c) with
  | some r => r.end_
  | none => (d.ctx c).lastEnd

/-- A Retiring context returns to Armed once it is no longer needed (R74). Where printing is over, no line is left to fire. -/
def retire (d : Dev) (c : Nat) : Dev :=
  if (d.ctx c).code == 6 && (match d.cameraR c with
      | some r => decide (d.ctxEnd c + r ≤ d.posn)
      | none => !d.printingLike || d.barList.all (fun n => decide (ceilLine (d.ctxEnd c) ≤ (d.bar n).next)))
  then d.onCtx c (fun y => { y with code := 4 })
  else d

/-- Every context's retirement is looked at. -/
def retireAll (d : Dev) : Dev := (d.ctxs.keysWhere (fun _ x => x.code == 6)).foldl retire d

/-- First line from which an ABORT of context c blanks Bn: u where it is Live there, else the first line of the context's
first repeat still ahead of the bar; none where no repeat of it is left (Table 3.6). -/
def abortFrom (d : Dev) (c n : Nat) : Option Nat :=
  if (d.bar n).ctx == some c then some (d.uRevoke n)
  else ((d.print.reps.filter (fun r => r.ctx == some c && decide ((d.bar n).next ≤ ceilLine r.d))).getLast?).map
    (fun r => max (ceilLine r.d) (d.uRevoke n))

/-- ABORT of a Live context: the lines of its repeats blank from u, repeats begun under it are spoiled, and those that follow have
no context until a change takes effect (Table 3.6, R95). -/
def applyAbort (d : Dev) (c : Nat) : Dev :=
  let d := d.barList.foldl (fun d n =>
    match d.abortFrom c n with
    | none => d
    | some u =>
      let d := d.undo n u
      (d.print.reps.filter (fun r => r.ctx == some c && r.opened && decide (u < ceilLine r.end_))).foldl (fun d r =>
        let d := d.blank n (max u (ceilLine r.d)) (ceilLine r.end_) 2
        let d := if decide (u ≤ ceilLine r.d) then d.onRep r.num (fun r => { r with ctxs := r.ctxs.set n 0xFF }) else d
        d.spoil r.num n 2) d) d
  -- It is in force at no bar from here on (R73, Table 3.1).
  let d := (d.barList.filter (fun n => (d.bar n).ctx == some c)).foldl (fun d n => d.put 0x2016 (n + 1) 0xFF) d
  let d := { d with
    bars := d.bars.mapVal (fun _ b => if b.ctx == some c then { b with ctx := none } else b)
    print := { d.print with reps := d.print.reps.map (fun (r : Rep) =>
      if r.ctx == some c then { r with ctx := if r.opened then some c else none, last := true } else r) } }
  d.onCtx c (fun x => { x with code := 6 })

/-- Effective fire limit and c_n of Bn under a context, lines/s (R29, R213). -/
def fireLimits (d : Dev) (c n : Nat) : Rat × Rat :=
  let cn : Rat := ((d.ctx c).ceiling * 787402 : Nat) / 100000
  (min (d.cg c (0x4060 + n) 1 : Nat) cn, cn)

/-- Least interval between strobes of Bn under a context, 1 / f_eff in 2.5 ns (R214). -/
def strobeGap (d : Dev) (c n : Nat) : Nat :=
  let f := (d.fireLimits c n).1
  if f ≤ 0 then 0 else (400000000 / f).ceil.toNat

/-- The end boundary E of a stop (R460). -/
def applyStop (d : Dev) (n : Nat) : Dev :=
  if d.sys.st = .printing && d.print.endRep.isNone then { d with print := { d.print with endRep := some n } } else d

end Dev

end Sys2Proof.Machine
end

