-- ==== Sys2Proof/Machine/Live.lean ====
section
/-! DEFINITION. Per-bar live values that act at a repeat boundary (R62), keeper generations (R307 to R312), sessions
closing (R41, R77), and the rollback of a long operation (R59). -/
namespace Sys2Proof.Machine

open Sys2Proof

/-- Consistency group of a staged object (Table 2.9); context objects and ungrouped objects have none. -/
def groupOf (idx : Nat) : Option Nat :=
  let page := idx / 256
  if decide (0x1400 ≤ idx ∧ idx ≤ 0x1411) || idx == 0x1430 then some 1
  else if page == 0x24 then some 2
  else if page == 0x26 then some 3
  else if page == 0x28 then some 4
  else if page == 0x2A then some 5
  else if page == 0x2C then some 6
  else if page == 0x30 || page == 0x63 then some 7
  else if page == 0x32 then some 8
  else if page == 0x34 then some 9
  else if page == 0x38 || page == 0x64 then some 10
  else if page == 0x3A then some 11
  else if page == 0x3C || page == 0x65 then some 12
  else if decide (0x50 ≤ page ∧ page < 0x58) then some (16 + (page - 0x50))
  else if page == 0x62 then some (16 + idx % 8)
  else none

namespace Dev

/-- A bar's repeat in progress: the repeat that contains the line after the last one fired. -/
def barRep (d : Dev) (n : Nat) : Nat := match d.repAt (d.bar n).next with
  | some r => r.num
  | none => 0

/-- The repeat that contains the line a bar last fired, whose leads are in force there; before the first, the repeat to come (R99). -/
def leadRep (d : Dev) (n : Nat) : Nat := match d.repAt ((d.bar n).next - 1) with
  | some r => if (d.bar n).fired then r.num else d.barRep n
  | none => d.barRep n

/-- First repeat at Bn whose boundary the bar reaches at least 96 lines plus 2 ms from now (R62); one whose boundary a capture has
yet to place is judged when it does. -/
def liveRep (d : Dev) (n : Nat) : Nat :=
  let off := d.offset n
  let rec go : Nat → Nat → Nat
    | 0, k => k
    | f + 1, k =>
      if (match d.boundary k with
          | some b => decide (500 * d.posn + d.margin500 ≤ 500 * (b + off))
          | none => true) then k else go f (k + 1)
  go (16 + (d.lineRate / 500 + d.posn / 65536 - (d.bar n).next) / 256) (d.barRep n)

/-- The value in force is remembered at Bn for repeats before `upto`, before it is replaced (R62). -/
def holdOld (d : Dev) (n k upto : Nat) (reach : Nat := 0) : Dev :=
  let h : Held := { key := k, upto := upto, val := d.g (k / 256) (k % 256), dom := d.dict.doms.find? (k / 256), reach := reach }
  { d with dict := { d.dict with held := d.dict.held.set n (d.dict.held.get [] n ++ [h]) } }

/-- A capture has placed repeat k at `pos`: what was committed too late for it acts one repeat later (R62). -/
def reachHeld (d : Dev) (k pos : Nat) : Dev :=
  let late (n : Nat) (h : Held) : Bool := h.upto == k && decide (500 * (pos + d.offset n) < h.reach)
  { d with dict := { d.dict with
    held := d.dict.held.mapVal (fun n hs => hs.map (fun h => if late n h then { h with upto := k + 1 } else h)) } }

/-- Values held for repeats that Bn has left are dropped. -/
def dropHeld (d : Dev) (n rep : Nat) : Dev :=
  { d with dict := { d.dict with held := d.dict.held.set n ((d.dict.held.get [] n).filter (fun h => decide (rep < h.upto))) } }

/-- A live table of Bn takes new contents from repeat `upto` on. -/
def putLiveDom (d : Dev) (n idx upto : Nat) (b : Bytes) : Dev := (d.holdOld n (key (idx + n) 0) upto).putDom (idx + n) b

/-- Bytes of a trim or base table: T × 2,560 nozzles of 4 bytes. -/
def nozzles (d : Dev) (n : Nat) : Nat := d.gb n 0x5003 1 * 2560

/-- A live table's bytes, all zero where it holds its default. -/
def liveBytes (d : Dev) (n idx len : Nat) : Bytes := slice (d.dom [] (idx + n)) 0 len

/-- Entries of a trim table replaced. -/
def patchTrim (b : Bytes) (us : List (Nat × Int × Int)) : Bytes :=
  us.foldl (fun b u => b.take (4 * u.1) ++ leBytes 2 (ofSigned 16 u.2.1) ++ leBytes 2 (ofSigned 16 u.2.2) ++ b.drop (4 * u.1 + 4)) b

/-- Bits of a missing map set or cleared: tile * 2560 + column. -/
def patchMap (b : Bytes) (us : List (Nat × Bool)) : Bytes :=
  us.foldl (fun b u => b.take (u.1 / 8) ++ [byte (setBit (leNat (slice b (u.1 / 8) 1)) (u.1 % 8) u.2)] ++ b.drop (u.1 / 8 + 1)) b

/-- What has no content at all. -/
def emptyContent (c : GenContent) : Bool := c.trims.isEmpty && c.maps.isEmpty && c.resets == 0

/-- Contents joined: later trims of a bar replace earlier ones. -/
def joinContent (a b : GenContent) : GenContent :=
  { trims := b.trims.foldl (fun t x => t.set x.1 x.2) a.trims
    maps := a.maps.filter (fun x => !b.maps.any (fun y => y.1 == x.1 && y.2.1 == x.2.1)) ++ b.maps
    resets := a.resets ||| b.resets
    bases := b.bases.foldl (fun t x => t.set x.1 x.2) a.bases }

/-- Content that waits (R308). -/
def holdContent (d : Dev) (c : GenContent) : Dev := { d with keeper := { d.keeper with held := joinContent d.keeper.held c } }

/-- Held trims of a bar whose basis has moved are discarded (R308). -/
def fresh (d : Dev) (c : GenContent) : GenContent :=
  { c with trims := c.trims.keep (fun n _ => c.bases.get 0 n == d.gb n 0x5008 1) }

/-- Bars that a content changes. -/
def contentBars (d : Dev) (c : GenContent) : List Nat :=
  d.barList.filter (fun n => (c.trims.find? n).isSome || bit c.resets n || c.maps.any (fun m => m.1 == n))

/-- Tables of the generation take their new contents from repeat N on (R309). -/
def writeGen (d : Dev) (g : Gen) : Dev :=
  d.barList.foldl (fun d n =>
    let d := if bit g.content.resets n then d.putLiveDom n 0x6208 g.rep (List.replicate (4 * d.nozzles n) 0) else d
    let d := match g.content.trims.find? n with
      | some us => d.putLiveDom n 0x6208 g.rep (patchTrim (d.liveBytes n 0x6208 (4 * d.nozzles n)) us)
      | none => d
    let ms := (g.content.maps.filter (fun m => m.1 == n)).map (fun m => m.2)
    let d := if ms.isEmpty then d else d.putLiveDom n 0x6220 g.rep (patchMap (d.liveBytes n 0x6220 (d.nozzles n / 8)) ms)
    let mine (h : Held) : Bool := h.upto == g.rep && (h.key == key (0x6208 + n) 0 || h.key == key (0x6220 + n) 0)
    let hs := (d.dict.held.get [] n).map (fun (h : Held) => if mine h then { h with val := g.num } else h)
    { d with dict := { d.dict with held := d.dict.held.set n hs } }) d

/-- The active device sends a generation with its new tables (R310). -/
def mirrorGen (d : Dev) (g : Gen) : Dev :=
  let bs := d.contentBars g.content
  d.mirror { kind := 6, barMask := bs.foldl (fun m b => m + 2 ^ b) 0, repeatNo := g.rep, line := 0, value := g.num
             data := bs.flatMap (fun n => [(0x6208 + n, d.dom [] (0x6208 + n)), (0x6220 + n, d.dom [] (0x6220 + n))]) }

/-- The generation's tables are put back (R308, R310). -/
def unwriteGen (d : Dev) (g : Gen) : Dev :=
  d.barList.foldl (fun d n =>
    let mine (h : Held) : Bool := h.upto == g.rep && (h.key == key (0x6208 + n) 0 || h.key == key (0x6220 + n) 0)
    let hs := d.dict.held.get [] n
    let back (d : Dev) (h : Held) : Dev := match h.dom with
      | some b => d.putDom (h.key / 256) b
      | none => { d with dict := { d.dict with doms := d.dict.doms.erase (h.key / 256) } }
    let d := (hs.filter mine).reverse.foldl back d
    { d with dict := { d.dict with held := d.dict.held.set n (hs.filter (fun h => !mine h)) } }) d

/-- The held content is formed into a generation for the first repeat that meets the margin (R307); in a pair only the
active device forms one, with a further 0.002 v, and mirrors it (R310). -/
def formGen (d : Dev) : Dev :=
  let c := d.fresh d.keeper.held
  if emptyContent c || d.keeper.gen.isSome || !(d.phase == .printing) || d.print.reps.isEmpty || d.role == 2 then
    { d with keeper := { d.keeper with held := c } }
  else
    let n := d.nextMet d.nextNum (if d.paired then 1 else 0)
    let num := (d.keeper.lastNum + 1) % 4294967296
    let g : Gen := { num := num, rep := n, content := c, acked := !d.paired }
    let d := { d with keeper := { d.keeper with held := {}, lastNum := num, gen := some g } }
    let d := ((d.put 0x3A08 2 num).put 0x3A08 3 n).bump 0x3A08 4
    (d.writeGen g).mirrorGen g

/-- The pending generation is withdrawn, counted, and its contents held (R308, R310). -/
def withdrawGen (d : Dev) : Dev :=
  match d.keeper.gen with
  | none => d
  | some g =>
    let d := d.unwriteGen g
    let d := { d with keeper := { d.keeper with gen := none } }
    (((d.put 0x3A08 2 0).put 0x3A08 3 0).bump 0x3A08 7).holdContent g.content

/-- A bar's keeper accumulations are cleared and its basis moves to repeat N (R302). -/
def moveBasis (d : Dev) (n rep : Nat) : Dev :=
  let i := 0x5008 + 0x100 * n
  let d := { d with keeper := { d.keeper with windows := d.keeper.windows.set n {} } }
  ((d.put i 1 rep).put i 2 0).put i 3 0

/-- A map change for a nozzle clears the accumulations of the cell columns that hold c − 2 to c + 2 (R302). -/
def clearColumns (d : Dev) (n noz : Nat) : Dev :=
  let (_, m, w, _) := d.geom n (2 ^ 64)
  let col := noz / 2560 * (m - w) + noz % 2560
  let win := d.keeper.windows.get {} n
  { d with keeper := { d.keeper with windows := d.keeper.windows.set n { win with
    bins := win.bins.keep (fun k _ => !(decide ((col - 2) / 16 ≤ k / 2 ∧ k / 2 ≤ (col + 2) / 16))) } } }

/-- Bit z of a missing map. -/
def inMap (b : Option Bytes) (z : Nat) : Bool := match b with
  | some b => bit (leNat (slice b (z / 8) 1)) (z % 8)
  | none => false

/-- The values `hs` of Bn have given way to those in force for repeat `at_`: where they differ, the keeper's basis moves to repeat `rep`,
or a map change clears the columns it touches (R302). -/
def tablesMoved (d : Dev) (n at_ rep : Nat) (hs : List Held) : Dev :=
  let old (k : Nat) : Option Held := hs.find? (fun h => h.key == k)
  let tab (i : Nat) : Bool := match old (key (i + n) 0) with
    | some h => h.dom != d.liveDom n at_ i
    | none => false
  let geo (s : Nat) : Bool := match old (key (0x5003 + 0x100 * n) s) with
    | some h => h.val != d.live n at_ 0x5003 s
    | none => false
  if [0x6200, 0x6208, 0x6210, 0x6228].any tab || [1, 2, 3].any geo then d.moveBasis n rep
  else [0x6218, 0x6220].foldl (fun d i => match old (key (i + n) 0) with
    | none => d
    | some h => ((List.range (d.nozzles n)).filter (fun z => inMap h.dom z != inMap (d.liveDom n at_ i) z)).foldl
        (fun d z => d.clearColumns n z) d) d

/-- The current repeat number: that of the repeat B0 has begun; before its first line, the number its first repeat takes (R83). -/
def currentNum (d : Dev) : Nat :=
  if (d.bar 0).fired then (d.bar 0).rep else d.print.nextNum - (d.print.reps.filter (fun (r : Rep) => !r.opened)).length

/-- Records that every entry to Stopping writes (R83, R311, R441). -/
def stopRecords (d : Dev) : List NvRec :=
  [{ kind := 9, obj := 0, val := d.currentNum }, d.tallyRec] ++
  d.barList.flatMap (fun n => [{ kind := 7, obj := 0x6208 + n, val := d.keeper.lastNum, data := d.dom [] (0x6208 + n) },
    { kind := 7, obj := 0x6220 + n, data := d.dom [] (0x6220 + n) }, { kind := 7, obj := 0x6230 + n, data := d.dom [] (0x6230 + n) },
    { kind := 7, obj := 0x5003 + 0x100 * n, val := d.gb n 0x5003 1 + 256 * d.gb n 0x5003 2 + 2 ^ 32 * d.gb n 0x5003 3,
      data := d.dom [] (0x6228 + n) }])

/-- A session identifier's slot (0x2030). -/
def slotOf (d : Dev) (id : Nat) : Option Nat := (d.com.sess.keysWhere (fun _ s => s.id == id)).head?

/-- A session is open on service data with this identifier. -/
def session? (d : Dev) (id : Nat) : Option Sess := match d.slotOf id with
  | some k => d.com.sess.find? k
  | none => none

/-- The staged values of group gg are discarded and its owner released (R60, R61). -/
def dropStaged (d : Dev) (gg : Nat) : Dev :=
  { d with dict := { d.dict with
    staged := d.dict.staged.keep (fun k _ => groupOf (k / 256) != some gg)
    stagedDoms := d.dict.stagedDoms.keep (fun i _ => groupOf i != some gg)
    owners := d.dict.owners.keep (fun k _ => k != gg) } }

/-- A session closes: its slot is freed, what it staged is discarded, its contexts in Staging become Empty (R41, R77). -/
def closeSess (d : Dev) (k : Nat) : Dev :=
  match d.com.sess.find? k with
  | none => d
  | some s =>
    let d := (d.dict.owners.keysWhere (fun _ o => o == s.id)).foldl dropStaged d
    let d := { d with ctxs := d.ctxs.mapVal (fun _ c => if c.code == 1 && c.owner == some s.id then {} else c) }
    { d with com := { d.com with sess := d.com.sess.erase k, freed := d.com.freed ++ [s.id] } }

/-- Every session closes. -/
def closeAll (d : Dev) : Dev := (d.com.sess.keysWhere (fun _ _ => true)).foldl closeSess d

/-- A failed arm's context goes back to Staging, or to Empty where the arming session has closed, and 0x2013 names the
failure (R77, R79). -/
def armFailed (d : Dev) (o : Op) (obj code result : Nat) : Dev :=
  let d := if (d.slotOf o.sess).isSome then
      d.onCtx o.arg (fun c => { c with code := 1, owner := some o.sess, planes := [], lost := [], tones := [], ceiling := 0, limiting := 0, checksum := 0, noGain := 0, bytes := 0, stripes := [] })
    else d.setCtx o.arg {}
  (((d.put 0x2013 1 o.arg).put 0x2013 2 obj).put 0x2013 3 code).raise 28 0 o.arg result

/-- A head lane goes back to UP_LOW (R230). -/
def stepDown (d : Dev) (s : Nat) : Dev :=
  if d.laneState s == 4 || d.laneState s == 3 then
    ((d.putLane s 2).put 0x3411 s 1).onLane s (fun l => { l with carries := false, baseSent := false, credited := false, target := 0 })
  else d

/-- The rollback of Table 2.7 for the running operation. -/
def rollback (d : Dev) (result : Nat) : Dev :=
  match d.com.op with
  | none => d
  | some o =>
    match o.cls with
    | 1 => d.armFailed o 0 result result
    | 2 => { d with cal := { d.cal with mask := 0, left := [], results := [] } }
    | 3 => { d with nv := { d.nv with writing := [] } }
    | 4 =>
      let s := d.sys.slots.get (0, 0, []) o.arg
      ({ d with sys := { d.sys with slots := d.sys.slots.set o.arg (2, s.2) } } : Dev).raise 123
    | 5 =>
      let bs := d.keeper.sweeps.keysWhere (fun _ _ => true)
      let d := bs.foldl (fun d n => (d.lanesOf n).foldl stepDown d) d
      { d with keeper := { d.keeper with sweeps := [], census := d.keeper.census.mapVal (fun _ (c : Census) => { c with tests := [] }) } }
    | 6 =>
      let d := { d with twin := { d.twin with adopt := none, retryForm := true, aligned := false } }
      ((d.put 0x2C08 1 4).put 0x2C08 2 0).raise 93
    | _ => d

/-- The running operation is abandoned (R59); EV_OP_TIMEOUT except after a cancel. -/
def abandonOp (d : Dev) (result : Nat) : Dev :=
  match d.com.op with
  | none => d
  | some o =>
    let d := (d.rollback result).endOp result
    if result == 0x0F000016 then d else d.raise 5 0 o.cls o.id

/-- A device state entered (R454). -/
def enter (d : Dev) (st : DState) : Dev :=
  let old := d.sys.st.code
  let d := { d with sys := { d.sys with st := st } }
  d.raise 4 0 0xFF (old * 256 + st.code)

/-- Entry to Stopping: changes are discarded, the pending generation withdrawn, and NV records written (R83, R94, R308,
R311, R441). -/
def enterStopping (d : Dev) : Dev :=
  let d := { d with print := { d.print with
    locked := none, pending := none, progress := none, shown := none, rest := 0, sinceSave := 0, saved := some d.currentNum } }
  let d := (match d.keeper.gen with
    | some _ => d.withdrawGen
    | none => d)
  (d.saveNvs d.stopRecords).enter .stopping

/-- Printing is over at every bar: repeats not begun are withdrawn, open records closed, contexts leave Live, the bars' overspeed and alternate screens end, the schedule ends
(R217, R460, R461). -/
def printOver (d : Dev) : Dev :=
  let gone := d.print.reps.filter (fun (r : Rep) => !r.opened)
  let d := gone.foldl (fun d r => match r.ctx with
    | some c => d.onCtx c (fun x => { x with v := x.v - 1 })
    | none => d) d
  let d := { d with
    bars := d.bars.mapVal (fun _ b => { b with
      ctx := none, wait := none, dues := [], overspeed := false, alternate := false, altAt := none, blanks := [], store := []
      choices := [], rend := b.next, sent := b.next, posLost := false, lagNow := 0, missed := [], warning := false })
    print := { d.print with
      reps := (d.print.reps.filter (fun (r : Rep) => r.opened)).map (fun (r : Rep) => { r with open_ := 0 })
      nextNum := d.print.nextNum - gone.length
      endRep := none, stopNow := false, sheetStart := false, splices := [], lastCapture := none } }
  d.barList.foldl (fun d n =>
    ((d.put 0x2016 (n + 1) 0xFF).tablesMoved n (2 ^ 64) d.print.nextNum (d.dict.held.get [] n)).dropHeld n (2 ^ 64)) d

/-- Live and Retiring contexts become Armed, with their cache planes kept (R409, R469). -/
def contextsArmed (d : Dev) : Dev :=
  { d with ctxs := d.ctxs.mapVal (fun _ c => if c.code == 5 || c.code == 6 then { c with code := 4 } else c) }

end Dev

end Sys2Proof.Machine
end

