-- ==== Sys2Proof/Machine/Ladder.lean ====
section
/-! DEFINITION. The fault manager: the recovery ladder of chapter 17, the L3 restart, the controlled stop and the handover
to the twin (R402 to R416, R401). -/
namespace Sys2Proof.Machine

open Sys2Proof

/-- The kind of block an event concerns, for telling two faults of one block (R412). -/
def blockKind (e : Nat) : Nat :=
  if e == 25 || e == 26 || e == 27 then 25 else if e == 18 || e == 19 then 18 else e

/-- Two recoveries overlap (R412). -/
def overlap (a b : Recovery) : Bool :=
  decide (3 ≤ a.level) || decide (3 ≤ b.level) || (a.mask &&& b.mask) != 0 ||
    (blockKind a.event == blockKind b.event && a.unit == b.unit)

/-- A datagram between the partner addresses, sent on FA and FB where an address is set (R401). -/
def pairMsg (typ flags seq : Nat) (pl tag : Bytes) (fa fb : Nat) : List Out :=
  (if fa == 0 then [] else [.datagram 0 typ 0 flags seq pl tag]) ++ (if fb == 0 then [] else [.datagram 1 typ 0 flags seq pl tag])

namespace Dev

/-- A field-network pair message numbered and sent, tagged when 0x2C00:05 names a key slot; a port that is off sends nothing (R65,
R401). -/
def sendPair (d : Dev) (typ : Nat) (pl : Bytes) : Dev :=
  let seq := (d.twin.fieldSeq + 1) % 4294967296
  let d := { d with twin := { d.twin with fieldSeq := seq } }
  let k := d.g 0x2C00 5
  let flags := if k == 0xFF then 0 else 1 + 2 * k
  let tag := if k == 0xFF then [] else cotTag (d.keySlot k) (cotHeader typ 0 flags seq pl.length) pl
  let to_ (port : Nat) : Nat := if d.portOff port then 0 else d.g 0x2C00 (3 + port)
  d.emits (pairMsg typ flags seq pl tag (to_ 0) (to_ 1))

/-- HANDOVER with its cause, on the field network and as twin message 12 (R401). -/
def sendHandover (d : Dev) (cause : Nat) : Dev :=
  let pl := beBytes 4 (d.g 0x1018 4) ++ beBytes 4 (d.g 0x2C08 4) ++ [byte cause] ++ List.replicate 7 0 ++ beBytes 8 (d.g 0x2015 1)
  let d := d.sendPair 0x43 pl
  d.twinSend 12 pl

/-- Escalations of the last 10 s (R413, 0x2208:02). -/
def escRecent (d : Dev) : Nat := (d.fl.escalations.filter (fun t => decide (d.t < t + 10000000000))).length

/-- An engine that is spare (0x2E07) and is not being prepared for a bar. -/
def spareEngine (d : Dev) : Option Nat :=
  let taken := d.barList.filterMap (fun n => (d.bar n).engineSwap.map (fun e => e.new_))
  (List.range 9).find? (fun e => d.g 0x2E07 (e + 1) == 1 && !taken.contains e)

/-- Spares still being prepared stay spares: the recovery that prepared them has been abandoned (R406, R412). -/
def dropSwaps (d : Dev) : Dev :=
  d.barList.foldl (fun d n => d.onBar n (fun b => { b with engineSwap := b.engineSwap.filter (fun e => e.ready) })) d

/-- The engine that serves Bn. -/
def engineOf (d : Dev) (n : Nat) : Nat := (d.bar n).engine

/-- The bar an engine serves. -/
def barOf (d : Dev) (e : Nat) : Option Nat := d.barList.find? (fun n => d.engineOf n == e)

/-- Lines of Bn that no engine renders are withheld up to `upto` (R405). -/
def withhold (d : Dev) (n upto : Nat) : Dev :=
  { d with twin := { d.twin with withheld := setBit d.twin.withheld n true, withheldUpto := d.twin.withheldUpto.set n upto } }

/-- First repeat of Bn, after the one in progress, whose boundary lies at or beyond line l, with that boundary's line; none
where it is not placed yet. -/
def nextFrom (d : Dev) (n l : Nat) : Option (Nat × Nat) :=
  let rec go : Nat → Nat → Option (Nat × Nat)
    | 0, _ => none
    | f + 1, k => match d.boundary k with
      | none => none
      | some b => if decide (l ≤ ceilLine b) then some (k, ceilLine b) else go f (k + 1)
  go (16 + (l - (d.bar n).next) / 256) (d.barRep n + 1)

/-- The boundary at which a fault's blanking or withholding at Bn ends is fixed, once it is placed (R406, R407). -/
def resumeBar (d : Dev) (n : Nat) : Dev :=
  match (d.bar n).resumeAt with
  | none => d
  | some l => match d.nextFrom n l with
    | none => d
    | some (k, line) =>
      let open_ (b : Blank) : Bool := b.cause == 8 && b.hi == 2 ^ 60
      let d := if decide (line < (d.bar n).rend) && (d.bar n).blanks.any open_ then d.undo n line false else d
      let d := d.onBar n (fun b => { b with
        resumeAt := none
        blanks := b.blanks.map (fun x => if open_ x then { x with hi := max line x.lo } else x)
        engineSwap := b.engineSwap.map (fun e => if e.ready then { e with atRep := some k } else e) })
      if bit d.twin.withheld n && d.twin.withheldUpto.get 0 n == 2 ^ 60 then
        (d.withhold n line).onBar n (fun b => { b with rend := max b.rend line })
      else d

/-- An undo for the device's own recovery (R404, R405): a hot pair sends no REVOKE. -/
def recoverUndo (d : Dev) (n u : Nat) : Dev :=
  let b := d.bar n
  let hot := d.paired && d.g 0x2C00 1 == 2
  let d := d.undo n u (!hot && d.role != 2)
  d.onBar n (fun x => { x with replay := b.rend })

/-- Lanes at electrical idle and untrained (R407, R13). -/
def lanesOff (d : Dev) : Dev :=
  (List.range 80).foldl (fun d i =>
    (d.putLane (i + 1) 0).onLane (i + 1) (fun l =>
      { l with carries := false, baseSent := false, credited := false, known := false, target := 0, upRate := 0, check := none })) d

/-- The lane domain starts: every lane enters TRAIN (R228, R230). -/
def lanesTrain (d : Dev) : Dev :=
  (List.range 80).foldl (fun d i =>
    let s := i + 1
    if d.lanePresent s then
      (((d.putLane s 1).put 0x3411 s 0).sendTrain s 0 0).onLane s (fun l => { l with fails := 0, target := 0, ceilingRate := 6, slip := 0, test := 0, since := d.t })
    else d) d

/-- What an L3 restart resets besides the lanes: rendered lines and the camera domain (R407). -/
def resetCore (d : Dev) : Dev :=
  let d := if d.printingLike then d.barList.foldl (fun d n => d.undo n (d.bar n).next false) d else d
  { d with cams := d.cams.mapVal (fun _ c => { c with frame := none, queue := [], frames := 0, cci := [], seq := 0 }) }

/-- The restart is noted: the state held before it, its start, FAULT_N low, the queues paused (R407, R504). -/
def markL3 (d : Dev) (r : Recovery) : Dev :=
  let held := if d.sys.st = .restarting then d.sys.before else d.sys.st
  let r := { r with level := 3, start := d.t }
  { d with
    sys := { d.sys with before := held, restartStart := d.t }
    fl := { d.fl with running := [r] }
    pins := { d.pins with faultN := true }
    jobs := { d.jobs with paused := true } }

/-- The L3 warm restart begins (R407, Table 17.2). -/
def beginL3 (d : Dev) (r : Recovery) : Dev :=
  let d := (d.abandonOp 0x0F000011).dropSwaps.markL3 r
  let d := ((d.raise 14).lanesOff.lanesTrain).resetCore
  if d.sys.st = .restarting then d else d.enter .restarting

/-- Lines of Bn from the next one to u − 1, which still come due after a controlled stop: each with its strobe width and the least
interval before it, none where it is retired blank (R409, R214). -/
def tailOf (d : Dev) (n u : Nat) : List (Nat × Option (Nat × Nat)) :=
  let b := d.bar n
  let upto := match (d.print.endRep.bind d.boundary) with
    | some e => min u (ceilLine e)
    | none => u
  (List.range (upto - b.next)).map (fun i =>
    let j := b.next + i
    let dead := b.strobeFault || b.strobeWait || b.posLost || b.overspeed ||
      (b.blanks ++ d.print.splices).any (fun x => decide (x.lo ≤ j ∧ j < x.hi))
    match d.repAt j with
    | some r => match (if (r.ctxs.find? n).isSome then none else r.ctx) with
      | some c =>
        (j, if dead || !bit (d.cg c 0x4000 2) n || (b.alternate && (j - ceilLine r.d) % 2 == 1) then none else some (d.gb n 0x5007 1, d.strobeGap c n))
      | none => (j, none)
    | none => (j, none))

/-- The controlled stop at Bn: blank from u, its repeats begun spoiled where they lose printed lines; a line that waits for its
instant still fires then (R105, R242, R409). -/
def stopBar (d : Dev) (n : Nat) : Dev :=
  let u := d.uRevoke n
  let loses (r : Rep) : Bool := r.opened && decide (max u (ceilLine r.d) < r.gapStart d.sheet) && (match r.ctx with
    | some c => (r.ctxs.find? n).isNone && bit (d.cg c 0x4000 2) n
    | none => false)
  let lines := d.tailOf n u
  let d := ((d.print.reps.filter loses).foldl (fun d r => d.spoil r.num n 8) d).undo n u
  let past (d : Dev) (j : Nat) (rest : List (Nat × Option (Nat × Nat))) : Dev :=
    d.onBar n (fun b => { b with next := j + 1, tail := rest, tagBlank := none })
  match (d.bar n).wait, lines with
  | some (_, t), (j, some w) :: rest =>
    ((past d j rest).onBar n (fun b => { b with tPrev := some t })).emits (if d.sends then [.strobe n j t w.1 (d.gb n 0x5007 3)] else [])
  | some _, (j, none) :: rest => past d j rest
  | _, _ => d.onBar n (fun b => { b with tail := lines })

/-- The device enters Fault after a controlled stop (R409). -/
def enterFault (d : Dev) : Dev :=
  let d := (d.abandonOp 0x0F000011).dropSwaps
  let d := d.barList.foldl (fun d n => d.onBar n (fun b => { b with tail := [] })) d
  let d := if d.printingLike then d.barList.foldl stopBar d else d
  let d := if d.phase == .printing then
      (match d.keeper.gen with
        | some _ => d.withdrawGen
        | none => d)
    else d
  let d := { d with
    pins := { d.pins with faultN := true }
    print := { d.print with locked := none, pending := none, progress := none, shown := none, rest := 0 }
    twin := { d.twin with hbOutStopped := true }
    sys := { d.sys with asleep := !d.fast, preparing := false }
    fl := { d.fl with running := [], queued := [] } }
  (d.printOver.contextsArmed).enter .fault

/-- A device that has handed over prints no more: it rejoins as standby, which is not Printing until it has adopted (R385,
R397, R409). -/
def relinquish (d : Dev) : Dev :=
  if d.printingLike then
    let d := d.printOver.contextsArmed
    { d with
      sys := { d.sys with before := .armed }
      print := { d.print with locked := none, pending := none, progress := none, shown := none, rest := 0 } }
  else d

/-- L4 (R409): handover to a synchronised standby and restart, or a controlled stop. -/
def takeL4 (d : Dev) (r : Recovery) : Dev :=
  if d.role == 1 && d.synced then
    let d := (d.sendHandover 1).put 0x2C08 1 4
    let d := { d with twin := { d.twin with hbOutStopped := true } }
    (d.beginL3 r).relinquish
  else
    let mask := if d.printingLike then d.barList.foldl (fun m n => m + 2 ^ n) 0 else 0
    (d.raise 13 mask r.event r.detail).enterFault

/-- The level a recovery takes: L4 where an engine has no spare (R406, R440), and for an L3 on an active device whose standby is
synchronised (R410). -/
def levelTaken (d : Dev) (level e unit : Nat) : Nat :=
  if level == 2 && blockKind e == 25 && (d.spareEngine.isNone || (d.barOf unit).isNone) then 4
  else if level == 3 && d.role == 1 && d.synced then 4
  else level

/-- A recovery starts at its level (R402 to R410); it is counted in 0x2208:03 to :07. -/
def startRec (d : Dev) (r : Recovery) : Dev :=
  let r := { r with id := d.fl.nextId, start := d.t, level := d.levelTaken r.level r.event r.unit }
  let d := { d with fl := { d.fl with nextId := d.fl.nextId + 1, lastL2 := if decide (2 ≤ r.level) then some d.t else d.fl.lastL2 } }
  let d := d.bump 0x2208 (3 + r.level)
  match r.level with
  | 1 =>
    let d := { d with fl := { d.fl with running := d.fl.running ++ [r], recentL1 := (r.event * 256 + r.unit, d.t, d.g 0x2015 (lowestBar r.mask + 1)) :: d.fl.recentL1 } }
    if r.event == 10 then d.closeAll
    else if r.event == 66 then
      match d.cams.find? r.unit with
      | some c => { d with cams := d.cams.set r.unit { c with frame := c.frame.map (fun f => { f with flags := setBit f.flags 2 true, dropping := true }) } }
      | none => d
    else if d.printingLike then (d.barList.filter (fun n => bit r.mask n)).foldl (fun d n => d.recoverUndo n (d.uRevoke n)) d
    else d
  | 2 =>
    if blockKind r.event == 25 then
      match d.spareEngine, d.barOf r.unit with
      | some e, some n =>
        let d := { d with fl := { d.fl with running := d.fl.running ++ [r] } }
        let d := d.onBar n (fun b => { b with engineSwap := some { old := r.unit, new_ := e } })
        let hot := d.paired && d.g 0x2C00 1 == 2
        let u := d.uRevoke n
        if !d.printingLike then d
        else if hot then (d.recoverUndo n u).withhold n (2 ^ 60)
        else (d.recoverUndo n u).blank n u (2 ^ 60) 8
      | _, _ => d
    else { d with fl := { d.fl with running := d.fl.running ++ [r] } }
  | 3 => d.beginL3 r
  | _ => d.takeL4 r

/-- EV_ESCALATION with the fields of Table 17.9; the third within 10 s is taken at L4 (R412, R413). Answers the level. -/
def escalate (d : Dev) (r : Recovery) (from_ to_ : Nat) : Dev × Nat :=
  let d := { d with fl := { d.fl with escalations := (d.t :: d.fl.escalations).take 16 } }
  let three := decide (3 ≤ d.escRecent)
  let lv := if three then 4 else to_
  let mask := if decide (3 ≤ lv) then 0xFF else r.mask
  let d := d.raiseAt lv 8 mask r.event (from_ * 2 ^ 24 + lv * 2 ^ 16 + d.escRecent)
  (if three then d.raise 127 else d, lv)

/-- The coppice holds a spare for the block of an event (R413). -/
def hasSpare (d : Dev) (e : Nat) : Bool := blockKind e == 25 && d.spareEngine.isSome

/-- The third L1 recovery of a block within its span (R413): one repeat while its bar prints, else 1 s. -/
def thirdL1 (d : Dev) (r : Recovery) : Bool :=
  let mine := d.fl.recentL1.filter (fun x => x.1 == r.event * 256 + r.unit &&
    (if r.mask != 0 && d.printingLike then x.2.2 == d.g 0x2015 (lowestBar r.mask + 1) else decide (d.t < x.2.1 + 1000000000)))
  decide (2 ≤ mine.length)

/-- A fault of level 1 to 4 is placed on the ladder (R402, R403, R412, R413). -/
def fault (d : Dev) (level e unit mask detail : Nat) : Dev :=
  let r : Recovery := { id := 0, event := e, unit := unit, mask := mask, detail := detail, level := level, start := d.t }
  let stopped := d.sys.st = .fault || d.sys.st = .boot || d.sys.st = .off || (!d.fast && e != 10 && e != 106 && e != 117)
  if stopped || d.fl.running.any (fun x => decide (4 ≤ x.level)) then d.raiseAt level e mask 0xFF detail
  else
    match d.fl.running.filter (fun x => overlap x r) with
    | x :: xs =>
      let top := (x :: xs).foldl (fun m y => max m y.level) level
      let (d, lv) := (d.escalate r level (min (top + 1) 4))
      let d := d.raiseAt lv e mask 0xFF detail
      { d with fl := { d.fl with queued := d.fl.queued ++ [{ r with level := lv }] } }
    | [] =>
      if level == 1 && d.thirdL1 r then
        let (d, lv) := d.escalate r 1 (if d.hasSpare e then 2 else 4)
        (d.raiseAt lv e mask 0xFF detail).startRec { r with level := lv }
      else (d.raiseAt (d.levelTaken level e unit) e mask 0xFF detail).startRec r

/-- Queued faults that no longer overlap a recovery in progress start (R412). -/
def startQueued (d : Dev) : Dev :=
  d.fl.queued.foldl (fun d r =>
    if d.fl.running.any (fun x => overlap x r) || !d.fl.queued.contains r then d
    else ({ d with fl := { d.fl with queued := d.fl.queued.erase r } } : Dev).startRec r) d

/-- A recovery overruns its bound and is restarted one level higher (R412). -/
def overrun (d : Dev) (r : Recovery) : Dev :=
  let d := { d with fl := { d.fl with running := d.fl.running.filter (fun x => x.id != r.id) } }
  let (d, lv) := d.escalate r r.level (min (r.level + 1) 4)
  d.startRec { r with level := lv }

/-- The command ends L1 and L2 recoveries and begins L3 (R407, WARM_RESTART). -/
def commandedL3 (d : Dev) : Dev :=
  let r : Recovery := { id := 0, event := 14, unit := 0xFF, mask := 0, detail := 0, level := 3, start := d.t, commanded := true }
  ({ d with fl := { d.fl with running := [], queued := [] } } : Dev).startRec r

end Dev

end Sys2Proof.Machine
end

