-- ==== Sys2Proof/Machine/LaneOps.lean ====
section
/-! DEFINITION. What every lane family shares: the working rate and step-up (R229), EV_LANE_RATE and the lane term of the
ceilings (R156, R230), lanes that begin to carry lines (R257), CHECK (R271), and a lane that goes down (R235, R414). -/
namespace Sys2Proof.Machine

open Sys2Proof

/-- Bit rate of a rate code in Mb/s times 10,000 (Table 9.1). -/
def rateOf (code : Nat) : Nat := [0, 12500000, 31250000, 62500000, 103125000, 125000000].getD code 0

/-- A marker interval of 16,384 blocks at a rate code, ns (R223, R231). -/
def markInterval (code : Nat) : Nat := 16384 * 66 * 10000000 / max 1 (rateOf code)

namespace Dev

/-- Highest rate code common to both ends, within the configured maximum and not above `top` (R229). -/
def workingRate (d : Dev) (s top : Nat) : Nat :=
  let mx := if decide (73 ≤ s) then d.g 0x3400 2 else d.g 0x3400 1
  (((List.range 6).filter (fun r => decide (1 ≤ r ∧ r ≤ mx ∧ r < top) && bit (d.g 0x3414 s) (r - 1))).getLast?).getD 1

/-- The bar's working rate: the highest that a lane in use of it has reached UP at; none where none has. -/
def barRate (d : Dev) (n : Nat) : Option Nat :=
  match ((d.lanesOf n).map (fun s => (d.lane s).upRate)).foldl max 0 with
  | 0 => none
  | r => some r

/-- The lane sits in the switch's loopback to be qualified (R241). -/
def qualifying (d : Dev) (s : Nat) : Bool := decide (s ≤ 72) && d.spareOf (laneBar s) + 1 != s && (d.lane s).qual

/-- A lane in UP_LOW announces its working rate and a switch marker (R229), under qualification its bar's rate (R241); one with no rate
above 1.25 Gb/s verifies in place. -/
def stepUp (d : Dev) (s : Nat) : Dev :=
  if d.laneState s == 2 && !(d.lane s).refused then
    let own := d.workingRate s (d.lane s).ceilingRate
    let r := if d.qualifying s then (d.barRate (laneBar s)).getD own else own
    -- R228: a lane that has failed at every rate above 1.25 Gb/s stays UP_LOW.
    if r == 1 && (d.lane s).ceilingRate != 6 then d else
    let m := ((d.lane s).marker + 1) % 4294967296
    let d := d.onLane s (fun l => { l with target := r, since := d.t })
    d.sendTrain s r m
  else d

/-- Lanes of a bar step up (PREPARE, a sweep). -/
def stepUpBar (d : Dev) (n : Nat) : Dev := (d.lanesOf n).foldl stepUp d

/-- A lane is UP or FAILED (R230, R454). -/
def laneSettled (d : Dev) (s : Nat) : Bool := d.laneState s == 4 || d.laneState s == 7

/-- PREPARE ends once every head lane in use is UP or FAILED (R454). -/
def prepareDone (d : Dev) : Dev :=
  if d.sys.preparing && d.sys.st = .ready && d.headLanes.all d.laneSettled then
    let d := { d with sys := { d.sys with preparing := false } }
    d.enter .armed
  else d

/-- The lane begins to carry lines: BASE at the bar's next line (R257). -/
def carry (d : Dev) (s : Nat) : Dev :=
  let n := laneBar s
  let d := d.onLane s (fun l => { l with carries := true })
  if d.printingLike && d.sends then d.sendBase s (d.bar n).next else d

/-- Sends the next waiting CHECK of a lane where none is outstanding (R271). -/
def pumpCheck (d : Dev) (s : Nat) : Dev :=
  let l := d.lane s
  match l.check, l.checks with
  | none, (slot, pos) :: rest =>
    let d := d.setLane s { l with check := some (l.checkId, slot, pos, 1), checks := rest, checkId := (l.checkId + 1) % 256 }
    d.block s 0x99 ([byte l.checkId, byte slot] ++ leBytes 2 pos ++ [byte 1])
  | _, _ => d

/-- A CHECK of one nozzle of Bn: its tile's lane and slot, its shift position (R176, R271). -/
def sendCheck (d : Dev) (n noz : Nat) : Dev :=
  let tile := noz / 2560
  let a := d.gb n 0x5010 (tile + 1)
  let s := d.laneOf n (bits a 5 3)
  let pos := bits (d.remapEntry n (2 ^ 64) tile (noz % 2560)) 11 0
  (d.onLane s (fun l => { l with checks := l.checks ++ [(bits a 2 0, pos)] })).pumpCheck s

/-- A lane that can no longer serve: FAILED (R235 step 4, R414, R458). A head lane in use with no spare left is an L4
fault while printing, and a warning before it or where the partner's copies fire. -/
def laneFailed (d : Dev) (s : Nat) : Dev :=
  let d := (d.putLane s 7).onLane s (fun l => { l with carries := false, target := 0, retraining := false })
  let n := laneBar s
  if decide (73 ≤ s) then d.raise 60
  else if (d.lanesOf n).contains s then
    let hot := d.role != 0 && d.g 0x2C00 1 == 2 && d.synced
    let d := if d.printingLike && !hot then d.fault 4 52 s (2 ^ n) 0 else d.raiseAt 0x10 52 (2 ^ n) 0xFF 0
    d.prepareDone
  else d

/-- A lane goes back to TRAIN for a full bring-up (R228, R229). -/
def retrainLane (d : Dev) (s : Nat) : Dev :=
  let d := ((d.putLane s 1).put 0x3411 s 0).sendTrain s 0 0
  (d.bump 0x3416 s).onLane s (fun l =>
    { l with fails := 0, target := 0, carries := false, baseSent := false, credited := false, known := false
             retraining := false, test := 0, slip := 0, ceilingRate := 6, since := d.t })

/-- An unplanned or planned swap of logical lane l of Bn onto the spare begins: step 1 of R239, the spare stepping up in
the switch's loopback to the lane's working rate with its fixed or held equaliser code (R225). -/
def beginSwap (d : Dev) (n l : Nat) (planned : Bool) : Dev :=
  let sp := d.spareOf n + 1
  let old := d.lane (d.laneOf n l)
  let r := if old.upRate == 0 then d.workingRate (d.laneOf n l) old.ceilingRate else old.upRate
  let code := if decide (d.g 0x3403 sp < 16) then d.g 0x3403 sp else (d.lane sp).eqHeld.get 0 r
  let d := ((d.putLane sp 3).put 0x3411 sp r).put 0x3412 sp code
  let d := d.onLane sp (fun x => { x with target := r, since := d.t })
  d.onBar n (fun b => { b with swap := some { logical := l, planned := planned } })

/-- The switch takes the spare to the port of a swap's logical lane, whose old lane trains in the loopback, under qualification
(R239 step 2, R241). -/
def startSwap (d : Dev) (n : Nat) : Dev :=
  match (d.bar n).swap with
  | none => d
  | some w =>
    let old := d.laneOf n w.logical
    let sp := d.spareOf n + 1
    let d := d.onBar n (fun b => { b with swap := some { w with started := true } })
    let d := (d.putLane sp 3).onLane sp (fun l => { l with since := d.t })
    let d := (d.putLane old 1).onLane old (fun l =>
      { l with carries := false, credited := false, baseSent := false, fails := 0, qual := true, retraining := false, since := d.t })
    d.emit (.laneSwitch n (0x80 + w.logical))

/-- The recovery of a lane swap forced by a lane that is down goes on the ladder at L2 (R406, R412). -/
def swapRecovery (d : Dev) (n s : Nat) : Dev :=
  let r : Recovery := { id := d.fl.nextId, event := 50, unit := s, mask := 2 ^ n, detail := 0, level := 2, start := d.t }
  if d.fl.running.any (fun x => overlap x r) then d.fault 2 50 s (2 ^ n) 0
  else ({ d with fl := { d.fl with nextId := d.fl.nextId + 1, running := d.fl.running ++ [r] } } : Dev).bump 0x2208 5

/-- The recovery of a bar's lane swap ends, and queued faults may start (R412). -/
def swapOver (d : Dev) (n : Nat) : Dev :=
  ({ d with fl := { d.fl with running := d.fl.running.filter (fun x => !(x.event == 50 && x.mask == 2 ^ n)) } } : Dev).startQueued

/-- The bar's switch is fitted and its spare waits (R235, R238). -/
def spareReady (d : Dev) (n : Nat) : Bool :=
  d.g 0x3402 (n + 1) == 1 && d.spareOf n != 0xFF && d.laneState (d.spareOf n + 1) == 6 && (d.bar n).swap.isNone

/-- The lane settings that bring a switch from power-up to the lane map in force (R238): each moves the lane that serves the spare to a
port. `hole` is the place that serves the spare, `cur` the place that serves each port. -/
def switchSteps (target : Nat → Nat) : Nat → Nat → List Nat → List Nat
  | 0, _, _ => []
  | fuel + 1, hole, cur =>
    let moved (l : Nat) : Bool := cur.getD l l != target l
    match (List.range 8).find? (fun l => moved l && target l == hole) with
    | some l => l :: switchSteps target fuel (cur.getD l l) (cur.set l hole)
    | none => match (List.range 8).find? moved with
      | some l => l :: switchSteps target fuel (cur.getD l l) (cur.set l hole)
      | none => []

/-- The command bytes that set a bar's switch to its lane map (R238; DESIGN CHOICE, log 104: their order). -/
def switchPlan (d : Dev) (n : Nat) : List Nat :=
  0 :: (switchSteps (fun l => d.laneOf n l - 9 * n - 1) 16 8 (List.range 8)).map (fun l => 0x80 + l)

/-- A swap is abandoned: EV_LANE_SWAP with a failure detail, whose value the spec does not give; the switch goes back to the lane map
(DESIGN CHOICE, log 104), and a lane that was down or taken off its port goes on under R235 step 3 (R238). -/
def abandonSwap (d : Dev) (n : Nat) : Dev :=
  match (d.bar n).swap with
  | none => d
  | some w =>
    let sp := d.spareOf n + 1
    let old := d.laneOf n w.logical
    let d := d.onBar n (fun b => { b with swap := none })
    let d := if d.laneState sp == 7 then d else (d.putLane sp 6).put 0x3411 sp 1
    let d := d.onLane sp (fun l => { l with carries := false, target := 0 })
    let d := d.drew.raise 50 (2 ^ n) 0xFF (d.freeNat % 4294967295 + 1)
    let d := if w.planned then d else d.swapOver n
    let d := if w.started then d.emits ((d.switchPlan n).map (fun c => Out.laneSwitch n c)) else d
    if w.started || !w.planned then
      let d := (d.putLane old 5).bump 0x3416 old
      d.onLane old (fun l => { l with retraining := true, qual := false, since := d.t })
    else d

/-- The spare of a bar whose swap is in progress. -/
def inSwap (d : Dev) (s : Nat) : Bool := decide (s ≤ 72) && d.spareOf (laneBar s) + 1 == s && (d.bar (laneBar s)).swap.isSome

/-- A lane that is down and whose bar's swap stands in for it. -/
def beingSwapped (d : Dev) (s : Nat) : Bool :=
  decide (s ≤ 72) && (match (d.bar (laneBar s)).swap with
    | some w => !w.planned && d.laneOf (laneBar s) w.logical == s
    | none => false)

/-- A lane is down (R235 step 2, R268): EV_LANE_DOWN, then its spare or a retrain at the same rate; a lane that carries no lines trains
again in full (R236). The spare of a swap gives the swap up. -/
def laneDown (d : Dev) (s : Nat) : Dev :=
  let n := laneBar s
  let retrain (d : Dev) : Dev :=
    let d := (d.putLane s 5).bump 0x3416 s
    d.onLane s (fun x => { x with retraining := true, since := d.t })
  if d.beingSwapped s then d
  else if decide (73 ≤ s) then retrain (d.raise 49 0 s 0xFF)
  else if d.inSwap s then (d.raise 49 (2 ^ n) s 0xFF).abandonSwap n
  else
    let l := (d.logicalOf s).getD 0xFF
    let d' := d.raise 49 (2 ^ n) s l
    if !(d.lane s).carries then d'.retrainLane s
    else
      let d' := d'.onLane s (fun x => { x with carries := false, credited := false, baseSent := false })
      if (d.logicalOf s).isSome && d.spareReady n then ((d'.putLane s 5).beginSwap n l false).swapRecovery n s
      else retrain d'

end Dev

end Sys2Proof.Machine
end

