-- ==== Sys2Proof/Machine/CensusOps.lean ====
section
/-! DEFINITION. The drop census: test lists, windows, classification and the hysteresis of missing nozzles (R313 to R320). -/
namespace Sys2Proof.Machine

open Sys2Proof

namespace Dev

/-- Census state of Bn. -/
def census (d : Dev) (n : Nat) : Census := d.keeper.census.get {} n

/-- Census state of Bn set. -/
def setCensus (d : Dev) (n : Nat) (c : Census) : Dev := { d with keeper := { d.keeper with census := d.keeper.census.set n c } }

/-- Gate (0 or 1 within the bar) that watches a nozzle (R313). -/
def gateOf (d : Dev) (n noz : Nat) : Nat := if decide (noz / 2560 < d.g (0x3A20 + n) 2) then 0 else 1

/-- A nozzle may be tested: not in the host map, not ABSENT (R314). -/
def testable (d : Dev) (n noz : Nat) : Bool :=
  let host := match d.dict.doms.find? (0x6218 + n) with
    | some b => bit (leNat (slice b (noz / 8) 1)) (noz % 8)
    | none => false
  !host && bits (d.remapEntry n (2 ^ 64) (noz / 2560) (noz % 2560)) 11 0 != 0xFFF

/-- Nozzles of a gate: first and one beyond the last. -/
def gateRange (d : Dev) (n gate : Nat) : Nat × Nat :=
  let split := min (d.g (0x3A20 + n) 2) (d.gb n 0x5003 1) * 2560
  if gate == 0 then (0, split) else (split, d.nozzles n)

/-- Record bytes of a nozzle (Table 12.3). -/
def nozRec (recs : Bytes) (noz : Nat) : Bytes := slice recs (4 * noz) 4

/-- Lines between tests on one gate (R314): windows in ns, line rate in lines/s. -/
def testSpacing (d : Dev) (n rate : Nat) (alt : Bool) : Nat :=
  let w := d.g (0x3A20 + n) 4 - d.g (0x3A20 + n) 3 + 1000
  let s := ceilDiv (w * rate) 1000000000 + 1
  if alt then 2 * ceilDiv s 2 else s

/-- The cursor's next testable nozzle of a gate, and whether it wrapped. -/
def cursorNext (d : Dev) (n lo hi : Nat) : Nat → Nat → Bool → Option (Nat × Bool)
  | 0, _, _ => none
  | f + 1, c, wrapped =>
    let (c, w) := if decide (hi ≤ c) then (lo, true) else (c, wrapped)
    if decide (hi ≤ c) then none
    else if d.testable n c then some (c, w) else d.cursorNext n lo hi f (c + 1) w

/-- The nozzle for a test on a gate of Bn: retests, streak nozzles, then the cursor (R315); none twice. -/
def pickTest (d : Dev) (n gate : Nat) (used : List Nat) : Dev × Option Nat :=
  let c := d.census n
  let ok (z : Nat) : Bool := d.gateOf n z == gate && d.testable n z && !used.contains z
  match c.retest.find? ok with
  | some z => (d.setCensus n { c with retest := c.retest.erase z }, some z)
  | none => match c.streak.find? ok with
    | some z => (d.setCensus n { c with streak := c.streak.erase z }, some z)
    | none =>
      let (lo, hi) := d.gateRange n gate
      match d.cursorNext n lo hi (hi - lo + 1) (c.cursor.get lo gate) false with
      | none => (d, none)
      | some (z, w) =>
        if used.contains z then (d, none)
        else
          let d := if w then (d.put (0x5009 + 0x100 * n) 7 ((d.t - c.lapStart) / 1000000000 % 4294967296)) else d
          (d.setCensus n { c with cursor := c.cursor.set gate (z + 1), lapStart := if w then d.t else c.lapStart }, some z)

/-- Tests placed over lines g = s, 2s, ... of both gates, `m` lines, until `left` are placed (R314). -/
def placeTests (d : Dev) (n s g left : Nat) (skip : Nat → Bool) (acc : List CensusTest) : Nat → Dev × List CensusTest
  | 0 => (d, acc)
  | m + 1 =>
    let one (st : Dev × List CensusTest × Nat) (gate : Nat) : Dev × List CensusTest × Nat :=
      let (d, acc, left) := st
      if left == 0 || (gate == 0 && d.g (0x3A20 + n) 2 == 0) then st
      else match d.pickTest n gate (acc.map (fun t => t.nozzle)) with
        | (d, some z) => if skip (z / 2560) then (d, acc, left) else (d, acc ++ [{ gate := gate, g := g, nozzle := z }], left - 1)
        | (d, none) => (d, acc, left)
    let (d, acc, left) := [0, 1].foldl one (d, acc, left)
    d.placeTests n s (g + s) left skip acc m

/-- The tests of the gap of repeat `rep` at Bn are fixed: gap of `lines` lines from line `first` (R314 to R317, R319). -/
def fixTests (d : Dev) (n rep first lines : Nat) (blanked : Bool) (swapLane : Option Nat) : Dev :=
  let c := d.census n
  let i := 0x5009 + 0x100 * n
  let b := d.bar n
  let s := d.testSpacing n d.lineRate b.alternate
  let m := (lines - s) / s
  let count := d.g (0x3A20 + n) 1
  let c0 := { c with tests := [], strays := [], heldGates := [], gapRep := rep, gapLine := first, fixed := true }
  if count == 0 || blanked || b.strobeFault || b.overspeed || m == 0 || d.phase != .printing || !c.agreed then
    (d.setCensus n c0).bump i 6
  else
    let skip (tile : Nat) : Bool := match swapLane with
      | some l => bits (d.gb n 0x5010 (tile + 1)) 5 3 == l
      | none => false
    let (d, ts) := (d.setCensus n c0).placeTests n s s (min count (2 * m)) skip [] m
    d.setCensus n { d.census n with tests := ts }

/-- Tests placed on gap line g of Bn: tile, column in the tile. -/
def testDots (d : Dev) (n line : Nat) : List (Nat × Nat) :=
  let c := d.census n
  ((c.tests.filter (fun t => c.gapLine + t.g == line))).map (fun t => (t.nozzle / 2560, t.nozzle % 2560))

/-- The tests of a line start: strobe instant in 2.5 ns plus the tile's sub-line delay (R212, R313). -/
def startTests (d : Dev) (n line at_ period : Nat) : Dev :=
  let c := d.census n
  if c.tests.isEmpty then d
  else d.setCensus n { c with tests := c.tests.map (fun t =>
    if c.gapLine + t.g == line then
      { t with start := some (at_ + (d.live n c.gapRep 0x5020 (t.nozzle / 2560 + 1) * period / 64) * 256 / 100) } else t) }

/-- The test on a gap line that the module did not receive is discarded (R316). -/
def dropTests (d : Dev) (n line : Nat) : Dev :=
  let c := d.census n
  if c.tests.isEmpty then d
  else d.setCensus n { c with tests := c.tests.map (fun t => if c.gapLine + t.g == line then { t with discarded := true } else t) }

/-- Tests of the tiles that logical lane l carries are skipped in the gap in progress (R317, R435). -/
def skipLane (d : Dev) (n l : Nat) : Dev :=
  let c := d.census n
  if c.tests.isEmpty then d
  else d.setCensus n { c with tests := c.tests.map (fun t =>
    if bits (d.gb n 0x5010 (t.nozzle / 2560 + 1)) 5 3 == l then { t with discarded := true } else t) }

/-- Place of an edge against a test's window: 0 within, 1 near, 2 neither (R313, R316). Instants in 2.5 ns. -/
def edgePlace (d : Dev) (n : Nat) (t : CensusTest) (e : Nat) : Nat :=
  match t.start with
  | none => 2
  | some st =>
    let lo := 5 * st + 2 * d.g (0x3A20 + n) 3
    let hi := 5 * st + 2 * d.g (0x3A20 + n) 4
    let w := hi - lo
    if decide (lo ≤ 5 * e ∧ 5 * e ≤ hi) then 0 else if decide (lo ≤ 5 * e + w ∧ 5 * e ≤ hi + w) then 1 else 2

/-- An edge is given to the tests of a gate; it is stray where it belongs to none. -/
def takeEdge (d : Dev) (n gate e : Nat) : Dev :=
  let c := d.census n
  let mine (t : CensusTest) (p : Nat) : Bool := t.gate == gate && d.edgePlace n t e == p
  if c.tests.any (fun t => mine t 0) then
    d.setCensus n { c with tests := c.tests.map (fun t => if mine t 0 then { t with edges := t.edges ++ [e] } else t) }
  else
    let c := { c with tests := c.tests.map (fun t => if mine t 1 then { t with near := true } else t) }
    let c := { c with strays := c.strays.set gate (c.strays.get 0 gate + 1) }
    (d.setCensus n c).bump (0x5009 + 0x100 * n) 8

/-- A nozzle is queued for a retest, or counted where the queues are full (R315). -/
def queueTest (d : Dev) (n noz : Nat) (streak : Bool) : Dev :=
  let c := d.census n
  if c.retest.contains noz || c.streak.contains noz then d
  else if decide (256 ≤ c.retest.length + c.streak.length) then d.bump (0x5009 + 0x100 * n) 0x0A
  else if streak then d.setCensus n { c with streak := c.streak ++ [noz] }
  else d.setCensus n { c with retest := c.retest ++ [noz] }

/-- Hysteresis of Table 12.2 on a nozzle's STATE byte: new byte, and the declared change (missing or restored). -/
def hysteresis (st : Nat) (pass : Bool) : Nat × Option Bool :=
  let missing := bit st 0
  let base := st - (st % 32) + (if missing then 1 else 0)
  if missing then
    if pass then
      if bits st 4 3 == 2 then (st - st % 32, some false) else (base + 8 * (bits st 4 3 + 1) + 2, none)
    else (base, none)
  else if pass then (base, none)
  else if bit st 2 then (base + 1, some true) else (base + 4 + 2, none)

/-- Result of a test: 1 PASS, 2 MISS, 3 OFF_TIME (R316). -/
def testResult (t : CensusTest) : Nat := if !t.edges.isEmpty then 1 else if t.near then 3 else 2

/-- Time of flight of a test in 10 ns; 0 when none. -/
def timeOfFlight (t : CensusTest) : Nat := match t.edges, t.start with
  | e :: _, some s => ((e - s) / 4) % 65536
  | _, _ => 0

/-- A nozzle's record after a test, with the declared change. -/
def recAfter (recs : Bytes) (t : CensusTest) : Bytes × Option Bool :=
  let old := nozRec recs t.nozzle
  let r := testResult t
  let (st, ch) := hysteresis (leNat (old.take 1)) (r == 1)
  (recs.take (4 * t.nozzle) ++ [byte st, byte r] ++ leBytes 2 (timeOfFlight t) ++ recs.drop (4 * t.nozzle + 4), ch)

/-- One classified test is applied to its nozzle (R316, R318). -/
def applyTest (d : Dev) (n : Nat) (t : CensusTest) : Dev :=
  let i := 0x5009 + 0x100 * n
  let r := testResult t
  let d := d.bump i 1
  let d := if r == 2 then d.bump i 2 else if r == 3 then d.bump i 3 else d
  if d.role == 2 then d
  else
    let (recs, ch) := recAfter (d.liveBytes n 0x6230 (4 * d.nozzles n)) t
    let d := d.putDom (0x6230 + n) recs
    let d := if bit (leNat (nozRec recs t.nozzle)) 1 then d.queueTest n t.nozzle false else d
    match ch with
    | none => d
    | some miss =>
      let d := d.holdContent { maps := [(n, t.nozzle, miss)] }
      if miss then ((d.bump i 4).raise 72 (2 ^ n)).sendCheck n t.nozzle else (d.bump i 5).raise 73 (2 ^ n)

/-- The gap's results of a gate are discarded (R316). -/
def gateDiscarded (d : Dev) (n gate : Nat) : Bool :=
  let c := d.census n
  c.heldGates.contains gate || decide (d.g (0x3A20 + n) 7 < c.strays.get 0 gate)

/-- A window closes for a bar's gap: every gate is judged, every test classified (R316). -/
def closeGap (d : Dev) (n : Nat) : Dev :=
  let c := d.census n
  if c.tests.isEmpty then d
  else
    let bad := [0, 1].filter (fun g => c.tests.any (fun t => t.gate == g) && d.gateDiscarded n g)
    let d := bad.foldl (fun d g =>
      let d := d.bump (0x5009 + 0x100 * n) 9
      if c.heldGates.contains g then d.raise 71 (2 ^ n) 0xFF 0 else d) d
    let good := c.tests.filter (fun t => !bad.contains t.gate && !t.discarded && t.start.isSome)
    let d := d.setCensus n { c with tests := [] }
    good.foldl (fun d t => d.applyTest n t) d

end Dev

end Sys2Proof.Machine
end

