-- ==== Sys2Proof/Machine/KeeperOps.lean ====
section
/-! DEFINITION. The colour keeper: prediction against measurement, windows, updates and their bounds (R299 to R306). -/
namespace Sys2Proof.Machine

open Sys2Proof

/-- A reported cell: column a, line b, densities D0 to D3, flags (R288). -/
structure CellStat where
  a : Nat
  b : Nat
  dens : List Nat
  flags : Nat
deriving DecidableEq, Repr

/-- Nearest integer of a rational, halves away from zero (the spec names no rounding in R306). -/
def roundRat (q : Rat) : Int := if q < 0 then -((-q + 1 / 2).floor) else (q + 1 / 2).floor

namespace Dev

/-- S_n of a context at x, evaluated as T in R148 (R299). -/
def shape (d : Dev) (c n x : Nat) : Nat := tone ((List.range 257).map (u16 (d.cdom c (0x6170 + n)))) x

/-- Slope of S_n at x: S[i + 1] − S[i] (R301). -/
def shapeSlope (d : Dev) (c n x : Nat) : Int :=
  let t := d.cdom c (0x6170 + n)
  (u16 t (x / 256 + 1) : Int) - (u16 t (x / 256) : Int)

/-- Aim density of Bn on a channel (0x4080:02 + n). -/
def aim (d : Dev) (c n ch : Nat) : Nat := u16 (d.cbytes c (0x4080 + n) 2 8) ch

/-- The context in the ledger at Bn for a repeat; none where it reads 0xFF. -/
def ledgerCtx (r : Rep) (n : Nat) : Option Nat := match r.ctxs.find? n with
  | some 0xFF => none
  | some c => some c
  | none => r.ctx

/-- Block value x_n of a bar's prediction for repeat `r` (R153, R299); 0 where the bar prints nothing. -/
def predicted (d : Dev) (r : Rep) (n a b : Nat) : Nat :=
  match ledgerCtx r n with
  | none => 0
  | some c =>
    if !bit (d.cg c 0x4000 2) n then 0
    else match d.jobs.preds.find? (fun p => p.bar == n && p.rep == r.num) with
      | some p => p.block a b (ceilLine r.end_ - ceilLine r.d)
      | none => 0

/-- Predicted density p(ch) above which a bar's share is judged: total and each bar's part (R299). -/
def predDensity (d : Dev) (r : Rep) (ctx ch a b : Nat) : Rat × (Nat → Rat) :=
  let s : Rat := (u16 (d.cbytes ctx 0x4088 1 8) ch : Nat)
  let part (n : Nat) : Rat := match ledgerCtx r n with
    | none => 0
    | some c => ((d.aim c n ch * d.shape c n (d.predicted r n a b) : Nat) : Rat) / 65535
  (s + (d.barList.map part).sum, part)

/-- The predictions of every bar enabled in the repeat's contexts are held (R300). -/
def predsHeld (d : Dev) (r : Rep) : Bool :=
  d.barList.all (fun n => match ledgerCtx r n with
    | none => true
    | some c => !bit (d.cg c 0x4000 2) n || d.jobs.preds.any (fun p => p.bar == n && p.rep == r.num && p.done && !p.poisoned))

/-- One admitted cell offered to every bar that dominates it (R301). Window bounds are looked at before. -/
def offerCell (d : Dev) (r : Rep) (ctx : Nat) (cell : CellStat) : Dev :=
  if bit cell.flags 0 || bit cell.flags 1 then d
  else d.barList.foldl (fun d n =>
    match ledgerCtx r n with
    | none => d
    | some c =>
      if d.cg c (0x4080 + n) 5 == 0 || decide (r.num < d.gb n 0x5008 1) then d
      else
        let ch := d.cg c (0x4080 + n) 1
        let x := d.predicted r n cell.a cell.b
        let (p, part) := d.predDensity r ctx ch cell.a cell.b
        let s : Rat := (u16 (d.cbytes ctx 0x4088 1 8) ch : Nat)
        let e : Rat := (cell.dens.getD ch 0 : Nat) - p
        let tot := p - s
        let sl := d.shapeSlope c n x
        if tot ≤ 0 ∨ part n * 256 < (d.g 0x3A00 9 : Rat) * tot ∨ sl < 16 then d
        else
          let dx : Rat := -e * 65535 * 256 / ((d.aim c n ch : Rat) * (sl : Rat))
          let w := d.keeper.windows.get {} n
          let k := cell.a * 2 + (if decide (x < d.g 0x3A00 0x0A) then 0 else 1)
          let b := w.bins.get {} k
          let w := { w with bins := w.bins.set k { n := b.n + 1, x := b.x + x, dx := b.dx + dx, e := b.e + e } }
          let d := { d with keeper := { d.keeper with windows := d.keeper.windows.set n w } }
          d.bump (0x5008 + 0x100 * n) 3) d

/-- A valid bin's means of x, dx and e (R304). -/
def binMeans (d : Dev) (b : Bin) : Option (Rat × Rat × Rat) :=
  if decide (d.g 0x3A00 8 ≤ b.n) then some ((b.x : Rat) / b.n, b.dx / b.n, b.e / b.n) else none

/-- Evaluation of a cell column: its update (gain, offset), or a streak (R304). -/
def columnUpdate (d : Dev) (w : Window) (a tol : Nat) : Option (Rat × Rat) × Bool :=
  let bin (a h : Nat) := d.binMeans (w.bins.get {} (a * 2 + h))
  let within (m : Option (Rat × Rat × Rat)) : Bool := match m with
    | none => true
    | some (_, _, e) => decide (-(tol : Rat) ≤ e ∧ e ≤ (tol : Rat))
  let any_ (a : Nat) : Bool := (bin a 0).isSome || (bin a 1).isSome
  let quiet (a : Nat) : Bool := within (bin a 0) && within (bin a 1)
  let light (m : Option (Rat × Rat × Rat)) : Bool := match m with
    | none => false
    | some (_, _, e) => decide (e < -(d.g 0x3A00 0x0B : Rat))
  if !any_ a || (within (bin a 0) && within (bin a 1)) then (none, false)
  else if (light (bin a 0) || light (bin a 1)) && decide (1 ≤ a) && quiet (a - 1) && quiet (a + 1) then (none, true)
  else match bin a 0, bin a 1 with
    | some (x0, d0, _), some (x1, d1, _) =>
      if 8192 ≤ x1 - x0 then
        let g := 32768 * (d1 - d0) / (x1 - x0)
        (some (g, d0 - g * x0 / 32768), false)
      else (some (32768 * d1 / x1, 0), false)
    | some (x0, d0, _), none => if x0 = 0 then (some (0, d0), false) else (some (32768 * d0 / x0, 0), false)
    | none, some (x1, d1, _) => (some (32768 * d1 / x1, 0), false)
    | none, none => (none, false)

/-- The update of a printed column by interpolation between cell columns (R306). -/
def columnTrim (us : Table (Int × Int)) (c : Nat) : Option (Int × Int) :=
  let a := c / 16
  let f : Rat := ((c % 16 : Nat) + 1 / 2) / 16 - 1 / 2
  match us.find? a with
  | none => none
  | some (g, o) =>
    let other := if 0 < f then us.find? (a + 1) else if a == 0 then none else us.find? (a - 1)
    match other with
    | none => some (g, o)
    | some (g', o') =>
      let w := if f < 0 then -f else f
      some (roundRat ((g : Rat) + w * ((g' - g : Int) : Rat)), roundRat ((o : Rat) + w * ((o' - o : Int) : Rat)))

/-- The refused update of a bar: EV_KEEPER_REFUSED, counts, and the basis moved (R306). -/
def refuseUpdate (d : Dev) (n rep cause : Nat) : Dev :=
  let d := (d.raise 68 (2 ^ n)).bump 0x3A08 5
  (d.put 0x3A08 6 (n * 256 + cause)).moveBasis n rep

/-- The window of Bn closes: streaks, updates, bounds, and the content that becomes ready (R304 to R306). `rep` is the
closing frame's repeat. -/
def closeWindow (d : Dev) (n rep tol : Nat) : Dev :=
  let w := d.keeper.windows.get {} n
  let cols := (w.bins.keysWhere (fun _ _ => true)).map (fun k => k / 2)
  let cols := cols.foldl (fun acc a => if acc.contains a then acc else acc ++ [a]) []
  let res := cols.map (fun a => (a, d.columnUpdate w a tol))
  let (t, m, ov, p) := d.geom n rep
  let nozzlesOf (a : Nat) : List Nat :=
    (List.range 16).flatMap (fun i => (d.tilesOf n rep (16 * a + i)).map (fun k => k * 2560 + (16 * a + i - k * (m - ov))))
  let d := (res.filter (fun r => r.2.2)).foldl (fun d r =>
    let d := (nozzlesOf r.1).foldl (fun d z => d.queueTest n z true) d
    (d.raise 67 (2 ^ n) 0xFF r.1).bump (0x5008 + 0x100 * n) 5) d
  let gs : Int := (d.g 0x3A00 2 : Nat)
  let os : Int := (d.g 0x3A00 3 : Nat)
  let us : Table (Int × Int) := res.filterMap (fun r => r.2.1.map (fun u => (r.1, (clampInt (roundRat u.1) (-gs) gs, clampInt (roundRat u.2) (-os) os))))
  if us.all (fun u => u.2.1 == 0 && u.2.2 == 0) || t == 0 then d
  else
    let gl : Int := (d.g 0x3A00 4 : Nat)
    let ol : Int := (d.g 0x3A00 5 : Nat)
    let old := d.liveBytes n 0x6208 (4 * d.nozzles n)
    let each := (List.range p).flatMap (fun c => match columnTrim us c with
      | none => []
      | some (g, o) => (d.tilesOf n rep c).map (fun k =>
        let z := k * 2560 + (c - k * (m - ov))
        let g2 := i16 old (2 * z) + g
        let o2 := i16 old (2 * z + 1) + o
        (z, clampInt g2 (-gl) gl, clampInt o2 (-ol) ol, decide (gl < g2.natAbs ∨ ol < o2.natAbs), g)))
    let clamped := (each.filter (fun x => x.2.2.2.1)).length
    let mean : Rat := ((each.map (fun x => x.2.2.2.2)).sum : Int) / (max each.length 1 : Nat)
    let d := d.put (0x5008 + 0x100 * n) 6 clamped
    if decide (d.g 0x3A00 6 * each.length < clamped * 1000) then d.refuseUpdate n rep 1
    else if decide ((d.g 0x3A00 7 : Rat) < mean ∨ mean < -(d.g 0x3A00 7 : Rat)) then d.refuseUpdate n rep 2
    else
      let changed := match d.keeper.gen with
        | some g => (d.contentBars g.content).contains n
        | none => false
      if changed then d
      else d.holdContent { trims := [(n, each.map (fun x => (x.1, x.2.1, x.2.2.1)))], bases := [(n, d.gb n 0x5008 1)] }

/-- Column errors of a closed window (0x6238 + n): ē and counts of both bins for each cell column. -/
def columnErrors (d : Dev) (n : Nat) : Bytes :=
  let w := d.keeper.windows.get {} n
  (List.range 6656).flatMap (fun a =>
    let b0 := w.bins.get {} (a * 2)
    let b1 := w.bins.get {} (a * 2 + 1)
    let e (b : Bin) : Nat := ofSigned 16 (clampInt (if b.n == 0 then 0 else roundRat (b.e / b.n)) (-32768) 32767)
    leBytes 2 (e b0) ++ leBytes 2 (e b1) ++ leBytes 2 (min b0.n 65535) ++ leBytes 2 (min b1.n 65535))

/-- A frame of repeat `r` opens, keeps open or closes each bar's window (R302, R303). -/
def turnWindows (d : Dev) (r : Rep) : Dev :=
  d.barList.foldl (fun d n =>
    match ledgerCtx r n with
    | none => d
    | some c =>
      if decide (r.num < d.gb n 0x5008 1) then d
      else
        let w := d.keeper.windows.get {} n
        let i := 0x5008 + 0x100 * n
        match w.start with
        | none => { d with keeper := { d.keeper with windows := d.keeper.windows.set n { w with start := some r.d } } }
        | some s =>
          -- Lines of the averaging length at 1200 lpi: mm * 6000 / 127.
          if decide (d.cg c (0x4080 + n) 4 * 6000 * 65536 ≤ (r.d - s) * 127) then
            let d := d.putDom (0x6238 + n) (d.columnErrors n)
            let d := d.closeWindow n r.num (d.cg c (0x4080 + n) 3)
            let d := { d with keeper := { d.keeper with windows := d.keeper.windows.set n { start := some r.d } } }
            (d.put i 2 0).put i 3 0
          else d.put i 2 ((r.d - s) * 127 / (6000 * 65536))) d

/-- Cells of an admitted frame reach the keeper (R300, R301). -/
def keeperCells (d : Dev) (r : Rep) (ctx : Nat) (cells : List CellStat) : Dev :=
  if d.g 0x3A00 1 == 0 || r.spoiled != 0 || r.alt != 0 || !d.predsHeld r then d
  else cells.foldl (fun d c => d.offerCell r ctx c) (d.turnWindows r)

end Dev

end Sys2Proof.Machine
end

