-- ==== Sys2Proof/Machine/Operands.lean ====
section
/-! DEFINITION. How the operands of messages and of command values are laid out: the fields of an SDO request (Table 2.5), of
PD-OUT (Table 22.4), of a pair's field messages (Table 16.9), of a context command (Table 3.2) and of a lane command (Table
9.4). -/
namespace Sys2Proof.Machine

open Sys2Proof

/-- Transport code of R40. -/
def viaCode : Via → Nat
  | .fa => 0 | .fb => 1 | .mailbox => 2 | .usb => 3

/-- COT port of a UDP port: 0 service data, 1 process data, 2 events. -/
def cotPort (udp : Nat) : Nat := udp - 34980

/-- `k` bytes of a payload from offset `i`, big-endian as COT payloads are (R35); zero past its end. -/
def field (p : Bytes) (i k : Nat) : Nat := beNat (slice p i k)

/-- Command byte of an SDO request. -/
def sdoCommand (p : Bytes) : Nat := field p 0 1

/-- Index and subindex of an initiating command (R49). -/
def sdoIndex (p : Bytes) : Nat × Nat := (field p 1 2, field p 3 1)

/-- Declared total length of a segmented or block download. -/
def sdoTotal (p : Bytes) : Nat := field p 4 4

/-- Segment counter of a segment or a segment request (R50). -/
def sdoCounter (p : Bytes) : Nat := field p 1 2

/-- Data bytes of a segment at most (R50). -/
def segMax : Nat := 1436

/-- A PD_OUT payload is laid out as Table 22.4: its length, LAYOUT and reserved bytes (R497). -/
def pdOk (p : Bytes) : Bool :=
  p.length == 40 && field p 0 1 == 1 && field p 3 1 == 0 && field p 29 3 == 0 && field p 36 4 == 0

/-- The fields of PD-OUT (Table 22.4). -/
structure PdOut where
  fcCount : Nat
  nextCtx : Nat
  atRepeat : Nat
  spoilCount : Nat
  spliceCount : Nat
  cancelCount : Nat
  cmdCount : Nat
  spoilRepeat : Nat
  cancelOp : Nat
  command : Nat
  intended : Nat
deriving DecidableEq, Repr

/-- PD-OUT read from its payload. -/
def pdOut (p : Bytes) : PdOut where
  fcCount := field p 1 1
  nextCtx := field p 2 1
  atRepeat := field p 4 8
  spoilCount := field p 12 1
  spliceCount := field p 13 1
  cancelCount := field p 14 1
  cmdCount := field p 15 1
  spoilRepeat := field p 16 8
  cancelOp := field p 24 4
  command := field p 28 1
  intended := field p 32 4

/-- Sender of a field message of the pair: its serial number (Table 16.9). -/
def pairSender (p : Bytes) : Nat := field p 0 4

/-- Probe number of TWIN_PROBE and its response, or the serial number that HANDOVER names. -/
def pairValue (p : Bytes) : Nat := field p 4 4

/-- Command, source and target of a context command (Table 3.2). -/
def ctxCommand (v : Nat) : Nat × Nat × Nat := (v / 16777216 % 256, v / 65536 % 256, v % 256)

/-- Bits [15:8] of a context command, reserved. -/
def ctxReserved (v : Nat) : Nat := v / 256 % 256

/-- Command, argument and lane subindex of a lane command (Table 9.4). -/
def laneFields (v : Nat) : Nat × Nat × Nat := (v / 16777216 % 256, v / 65536 % 256, v % 256)

end Sys2Proof.Machine
end

