-- ==== Sys2Proof/Machine/Ceiling.lean ====
section
/-! DEFINITION. The speed ceiling and its lane term (R155, R156). -/
namespace Sys2Proof.Machine

open Sys2Proof

/-- Lines per metre at 1200 lpi (R155). -/
def lambda1200 : Rat := 472440945 / 10000

/-- Payload capacity of a rate code, bit/s (R250). -/
def payloadRate (code : Nat) : Rat := (rateOf code : Nat) * 100 * 64 / 66 * 11 / 12

/-- A line rate as a web speed, m/min. -/
def speedOf (r : Rat) : Rat := r * 60 / lambda1200

namespace Dev

/-- Bars that a context enables, among those present. -/
def enabledBars (d : Dev) (c : Nat) : List Nat := d.barList.filter (fun n => bit (d.cg c 0x4000 2) n)

/-- Rate code a lane's term uses: the one it last reached UP at, else its coming one, else the configured maximum (R155). -/
def termCode (d : Dev) (s : Nat) : Nat :=
  let l := d.lane s
  if l.upRate != 0 then l.upRate else if l.known then d.workingRate s 6 else d.g 0x3400 1

/-- Tiles of Bn that logical lane l carries (R176). -/
def tilesOnLane (d : Dev) (n l : Nat) : Nat :=
  ((List.range (d.gb n 0x5003 1)).filter (fun t => bits (d.gb n 0x5010 (t + 1)) 5 3 == l)).length

/-- The rate each lane of a context's bars has, for its lane term to use. -/
def noteRates (d : Dev) (c : Nat) : Table Nat := ((d.enabledBars c).flatMap d.lanesOf).foldl (fun t s => t.set s (d.termCode s)) []

/-- Lane term of a context with the rates it has noted, m/min; with no lane, a rate no engine reaches. -/
def laneTerm (d : Dev) (c : Nat) : Rat :=
  let x := d.ctx c
  let each := (d.enabledBars c).flatMap (fun n => (d.lanesInUse n).filterMap (fun l =>
    let k := d.tilesOnLane n l
    if k == 0 then none else some (payloadRate (x.rates.get (d.termCode (d.laneOf n l)) (d.laneOf n l)) / ((k * 2560 * d.cg c (0x4050 + n) 1 : Nat) : Rat))))
  speedOf (each.foldl min 25600000000)

/-- Repeat length of a context in metres. -/
def lenMetres (d : Dev) (c : Nat) : Rat := ((d.lenOf c : Nat) : Rat) / 65536 / lambda1200

/-- Bytes of the video instances and of the graphic instances of a repeat (R155). -/
def liveLoad (d : Dev) (c : Nat) : Nat × Rat :=
  let k := channels (d.cg c 0x4003 1)
  (List.range (d.cg c 0x4003 5)).foldl (fun (v, g) l =>
    let o := 0x4030 + l
    if d.cg c o 1 == 1 then (v + d.cg c o 8 * d.cg c o 9 * (k + d.cg c o 0x0D) * 2, g)
    else (v, g + ((d.cg c o 6 * d.cg c o 7 * (if d.cg c o 0x0A == 1 then 1 else 8) : Nat) : Rat) / 8)) (0, 0)

/-- Fixed DRAM traffic, bytes/s (R155, R297). -/
def fixedLoad (d : Dev) : Nat := (d.g 0x3830 1 + d.g 0x3830 2 + d.g 0x2A04 2) * 100000000

/-- Terms 1 to 6 of a context's ceiling, m/min (R155, 0x4000:12). -/
def ceilingTerms (d : Dev) (c cacheBytes : Nat) : List Rat :=
  let bs := d.enabledBars c
  let nb : Rat := (bs.length : Nat)
  let engine := (bs.map (fun n => ((25600000000 / max (d.columns n) 1 : Nat) : Rat))).foldl min 25600000000
  let fire := (bs.map (fun n => ((d.cg c (0x4060 + n) 1 : Nat) : Rat))).foldl min 200000
  let (vid, gra) := d.liveLoad c
  let m := d.lenMetres c
  let lineBytes : Nat := (bs.map (fun n => 2 * (d.planeSize c (d.columns n)).1)).sum
  let perMetre : Rat := if d.cg c 0x4003 2 == 1 then lambda1200 else lambda1200 / 2
  let dec : Rat := (lineBytes : Nat) * perMetre + (nb * (vid : Nat) + gra) / m
  let dram : Rat := (cacheBytes : Nat) / m + (nb * (vid : Nat) + (2 + nb) * gra) / m
  let decT := if dec = 0 then speedOf 200000 else 69120000000 / dec * 60
  let dramT := if dram = 0 then speedOf 200000 else (81920000000 - ((d.fixedLoad : Nat) : Rat)) / dram * 60
  [speedOf engine, d.laneTerm c, speedOf fire, speedOf 200000, decT, dramT]

/-- Ceiling (0.01 m/min) and limiting term of a list of terms; of equal terms the lower code. -/
def ceilingOf (ts : List Rat) : Nat × Nat :=
  let v := ts.foldl min (speedOf 200000)
  ((v * 100).floor.toNat, ((List.range 6).find? (fun i => ts.getD i 0 == v)).getD 3 + 1)

/-- A context's ceiling computed at arm; the lanes' rates it used are noted. -/
def setCeiling (d : Dev) (c cacheBytes : Nat) : Dev :=
  let d := d.onCtx c (fun x => { x with rates := d.noteRates c })
  let ts := d.ceilingTerms c cacheBytes
  let (v, w) := ceilingOf ts
  d.onCtx c (fun x => { x with ceiling := v, limiting := w, terms := ts })

/-- Lanes of Bn that carry dots and came to UP at another rate than a context's lane term last used. -/
def ratesMoved (d : Dev) (n c : Nat) : List Nat :=
  (d.lanesOf n).filter (fun s => (d.lane s).carries && (d.lane s).upRate != 0 && (d.lane s).upRate != (d.ctx c).rates.get 0 s)

/-- At a boundary at Bn where a lane next carries dots at another rate than a context's lane term last used, that term is recomputed
(R156). -/
def rateMoved (d : Dev) (n : Nat) : Dev :=
  (d.ctxs.keysWhere (fun c x => decide (4 ≤ x.code ∧ x.code ≤ 6) && (d.enabledBars c).contains n)).foldl (fun d c =>
    let ss := d.ratesMoved n c
    if ss.isEmpty then d
    else
      let d := d.onCtx c (fun x => { x with rates := ss.foldl (fun t s => t.set s (d.lane s).upRate) x.rates })
      let ts := (d.ctx c).terms.set 1 (d.laneTerm c)
      let (v, w) := ceilingOf ts
      d.onCtx c (fun x => { x with ceiling := v, limiting := w, terms := ts })) d

end Dev

end Sys2Proof.Machine
end

