-- ==== Sys2Proof/Machine/Flatten.lean ====
section
/-! DEFINITION. Cache tiles: the geometry of a bar's cache plane in tiles, a tile's samples, its frame, and the context
checksum formed over them (R78, R124, R135, R149, Table 4.12). -/
namespace Sys2Proof.Machine

open Sys2Proof

/-- A cache tile: its bar, tile row and column, its frame header and its stream. -/
structure CacheTile where
  bar : Nat
  row : Nat
  col : Nat
  hdr : FrameHdr
  stream : Bytes
  noGain : Bool
deriving DecidableEq, Repr

namespace Dev

/-- Samples of a tile: lines, columns and data of 16 bits a sample (R149). -/
def tileData (d : Dev) (c n tr tc : Nat) : Nat × Nat × Bytes :=
  let (w, h) := d.planeSize c (d.columns n)
  let cols := min 4096 (w - 4096 * tc)
  let rows := min 128 (h - 128 * tr)
  (rows, cols, (List.range rows).flatMap (fun q => (List.range cols).flatMap (fun m => leBytes 2 (d.planeInk c n (4096 * tc + m) (128 * tr + q)))))

/-- A cache tile as flattening stores it (R149, R124). -/
def flatTile (d : Dev) (c n tr tc : Nat) : CacheTile :=
  let (rows, cols, data) := d.tileData c n tr tc
  let (stream, noGain) := encodeStream (d.cg c 0x4002 1) (d.cg c 0x4002 2) data
  { bar := n, row := tr, col := tc, stream := stream, noGain := noGain
    hdr := { version := 1, kind := 1, flags := codingOf (d.cg c 0x4002 2) noGain
             tileId := c * 2 ^ 56 + n * 2 ^ 48 + tc * 2 ^ 40 + tr, lines := rows, columns := cols, sampleBits := 16
             channels := 1, reserved := 0, ulen := data.length, clen := stream.length, crc := crc32 data } }

/-- Every cache tile of a context, by bar, then tile row, then tile column (R78). -/
def cacheTiles (d : Dev) (c : Nat) : List CacheTile :=
  (d.barList.filter (fun n => bit (d.cg c 0x4000 2) n)).flatMap (fun n =>
    let (w, h) := d.tileGrid c n
    (List.range h).flatMap (fun tr => (List.range w).map (fun tc => d.flatTile c n tr tc)))

/-- The rws objects of a context, in ascending order, each at its type's size (R78). -/
def contextValues (d : Dev) (c : Nat) : Bytes :=
  (List.range 256).flatMap (fun i =>
    ((rowsOf d.product (0x4000 + i)).filter (fun r => r.acc == .rws)).flatMap (fun r => leBytes r.ty.size (d.cg c (0x4000 + i) r.lo)))

/-- The DOMAIN tables of a context, in ascending order, each with its length (R78). -/
def contextTables (d : Dev) (c : Nat) : Bytes :=
  (List.range 128).flatMap (fun i =>
    if (rowsOf d.product (0x6100 + i)).isEmpty then []
    else
      let b := d.cdom c (0x6100 + i)
      leBytes 4 b.length ++ b)

/-- The context checksum (R78). -/
def contextChecksum (d : Dev) (c : Nat) (tiles : List CacheTile) : Nat :=
  crc32 (d.contextValues c ++ d.contextTables c ++ tiles.flatMap (fun t => leBytes 4 t.hdr.crc))

/-- The cache tile of a tile identity, as this device holds it; none where its context holds no plane, or the tile is
lost. -/
def heldTile (d : Dev) (tile : Nat) : Option CacheTile :=
  let c := tile / 2 ^ 56
  let n := tile / 2 ^ 48 % 256
  let tc := tile / 2 ^ 40 % 256
  let tr := tile % 2 ^ 40
  let x := d.ctx c
  let (w, h) := d.tileGrid c n
  if decide (x.code < 4) || decide (6 < x.code) || !bit (d.cg c 0x4000 2) n || decide (d.nbars ≤ n) || decide (w ≤ tc) || decide (h ≤ tr) ||
      x.lost.contains (n, tc, tr) then none
  else some (d.flatTile c n tr tc)

end Dev

end Sys2Proof.Machine
end

