-- ==== Sys2Proof/Machine/Camera.lean ====
section
/-! DEFINITION. Inspection cameras: ports and packets, frames, triggers, the image pipeline, statistics, parameter
generations and exports (chapter 11). -/
namespace Sys2Proof.Machine

open Sys2Proof

/-- Bits of a FLAGS mask that exclude a frame from feedback (R279, Table 11.3). -/
def excludedMask : Nat := 0x27F

/-- Bits per pixel of an image data type (R273). -/
def pixelBits (dt : Nat) : Nat := if dt == 0x2B then 10 else if dt == 0x2C then 12 else if dt == 0x2D then 14 else 24

/-- Largest raw code of a data type (R286). -/
def rawMax (dt : Nat) : Nat := if dt == 0x2B then 1023 else if dt == 0x2C then 4095 else if dt == 0x2D then 16383 else 255

/-- Factor that normalises a raw code to 16 bits (R282). -/
def rawScale (dt : Nat) : Nat := if dt == 0x2B then 64 else if dt == 0x2C then 16 else if dt == 0x2D then 4 else 257

/-- Raw code of a pixel in a line's payload; the byte packing of CSI-2's data types (PRESUMED, log 49). `ch`: 0 R, 1 G, 2 B. -/
def rawPixel (dt : Nat) (line : Bytes) (col ch : Nat) : Nat :=
  let at_ (i : Nat) : Nat := leNat (slice line i 1)
  if dt == 0x2B then
    let g := col / 4 * 5
    at_ (g + col % 4) * 4 + bits (at_ (g + 4)) (2 * (col % 4) + 1) (2 * (col % 4))
  else if dt == 0x2C then
    let g := col / 2 * 3
    at_ (g + col % 2) * 16 + bits (at_ (g + 2)) (4 * (col % 2) + 3) (4 * (col % 2))
  else if dt == 0x2D then
    let g := col / 4 * 7
    let low := leNat (slice line (g + 4) 3)
    at_ (g + col % 4) * 64 + bits low (6 * (col % 4) + 5) (6 * (col % 4))
  else at_ (3 * col + (2 - ch))

/-- Colour (0 R, 1 G, 2 B) of a Bayer phase under an order (R282). -/
def bayer (order phase : Nat) : Nat :=
  (([[0, 1, 1, 2], [1, 0, 2, 1], [1, 2, 0, 1], [2, 1, 1, 0]].getD order []).getD phase 0)

/-- Density table point evaluation (R285). -/
def densityAt (t : Nat → Nat) (v : Nat) : Nat :=
  let i := v / 64
  let f := v % 64
  let a : Int := (t i : Nat)
  let b : Int := (t (i + 1) : Nat)
  (a + Int.fdiv ((b - a) * (f : Int) + 32) 64).toNat

/-- Whether 10^(2d + 1) · v^2000 is above 65535^2000: d + 1/2 thousandths exceed the density of v (R285). -/
def densityBelow (v d : Nat) : Bool := decide (65535 ^ 2000 < 10 ^ (2 * d + 1) * v ^ 2000)

/-- round(1000 × −log10(v ÷ 65535)), 4,000 for 0: the least d with d + 1/2 above it, found by halving (R285). -/
def densityDefault (v : Nat) : Nat :=
  if v == 0 then 4000
  else
    let rec go : Nat → Nat → Nat → Nat
      | 0, lo, _ => lo
      | f + 1, lo, hi => if decide (hi ≤ lo) then lo else
        let m := (lo + hi) / 2
        if densityBelow v m then go f lo m else go f (m + 1) hi
    go 14 0 5000

namespace Dev

/-- Camera c. -/
def cam (d : Dev) (c : Nat) : Cam := d.cams.get {} c

/-- Camera c set. -/
def setCam (d : Dev) (c : Nat) (x : Cam) : Dev := { d with cams := d.cams.set c x }

/-- A frame-boundary value of a camera's generation (R289). -/
def genVal (d : Dev) (x : Cam) (gen idx sub : Nat) : Nat :=
  match x.gens.find? (fun g => g.num == gen) with
  | some g => match g.val.find? (key idx sub) with
    | some v => v
    | none => dflt d.product idx sub
  | none => d.g idx sub

/-- A table of a camera's generation; none where it holds its default. -/
def genDom (x : Cam) (gen idx : Nat) : Option Bytes :=
  match x.gens.find? (fun g => g.num == gen) with
  | some g => g.dom.find? idx
  | none => none

/-- The committed frame-boundary values and tables of camera c as a generation (R289). -/
def snapshot (d : Dev) (c num : Nat) : CamGen :=
  let mine (k : Nat) : Bool := k / 256 == 0x3800 + c || k / 256 == 0x3808 + c
  let tab (i : Nat) : Bool := i == 0x6400 + c || i == 0x6408 + c || i == 0x6420 + c || decide (0x6410 ≤ i ∧ i < 0x6420)
  { num := num, val := d.dict.regs.keep (fun k _ => mine k), dom := d.dict.doms.keep (fun i _ => tab i) }

/-- The CCI writes of a generation: hold, list, release (R290). -/
def cciWrites (d : Dev) (c gen : Nat) : List (Nat × Bytes) :=
  let x := d.cam c
  let gh := d.genVal x gen (0x3800 + c) 0x0F
  let list := (genDom x gen (0x6420 + c)).getD []
  let entries := (List.range (list.length / 8)).map (fun i =>
    (leNat (slice list (8 * i) 2), slice list (8 * i + 4) (min (leNat (slice list (8 * i + 2) 1)) 4)))
  (bits gh 31 16, [byte (bits gh 15 8)]) :: entries ++ [(bits gh 31 16, [byte (bits gh 7 0)])]

/-- The next CCI write of the running sequence leaves, unless the device is standby (R290, R298). -/
def cciSend (d : Dev) (c : Nat) : Dev :=
  match (d.cam c).cci with
  | (r, b) :: _ => if !d.drives then d else d.emit (.cci c (d.g (0x3800 + c) 0x0D) r b)
  | [] => d

/-- A CCI write sequence begins: 2 for a pending generation, 4 for a restoring one, 5 for the one in force. The standby, whose pins
are released, runs none (R298). -/
def cciStart (d : Dev) (c gen seq : Nat) : Dev :=
  let x := d.cam c
  if !d.drives then d.setCam c { x with cci := [], seq := 0, retried := false, failAt := none }
  else (d.setCam c { x with cci := d.cciWrites c gen, seq := seq, retried := false, failAt := none }).cciSend c

/-- The pending generation's sequence begins, or waits: at once between a Frame End and the next trigger, else at the next Frame End
(R290); a sequence that still runs ends first (DESIGN CHOICE, log 107). -/
def cciWait (d : Dev) (c : Nat) : Dev :=
  let x := d.cam c
  if x.pending == 0 || !x.cci.isEmpty then d
  else if x.frame.isNone && x.queue.isEmpty then d.cciStart c x.pending 2
  else d.setCam c { x with seq := 1 }

/-- A Frame End lets a waiting sequence begin (R290). -/
def cciFrameEnd (d : Dev) (c : Nat) : Dev := if (d.cam c).seq == 1 then d.cciStart c (d.cam c).pending 2 else d

/-- The device now drives CCI: pending generations are written (R298). -/
def camsDrive (d : Dev) : Dev := (List.range 6).foldl (fun d c => d.cciWait c) d

/-- The device no longer drives CCI: its sequences end (R298). -/
def camsRelease (d : Dev) : Dev :=
  { d with cams := d.cams.mapVal (fun _ x => { x with cci := [], seq := 0, retried := false, failAt := none }) }

/-- A new generation of a camera is formed, and its sequence begins or waits (R289, R290). -/
def newGen (d : Dev) (c : Nat) : Dev :=
  let x := d.cam c
  let num := (match x.gens with
    | g :: _ => g.num
    | [] => 0) + 1
  let d := d.setCam c { x with gens := (d.snapshot c num :: x.gens).take 3, pending := num, passed := false, atTag := none }
  (d.put (0x3820 + c) 4 num).cciWait c

/-- Generation 1 of an enabled camera at the camera domain's start (R289, R468 step 5). -/
def firstGen (d : Dev) (c : Nat) : Dev :=
  if d.g (0x3800 + c) 1 == 1 then
    let d := d.setCam c { gens := [d.snapshot c 1], inForce := 1 }
    let d := ((d.put (0x3820 + c) 3 1).put (0x3820 + c) 4 0).put (0x3820 + c) 1 1
    d.cciStart c 1 5
  else d.setCam c {}

/-- The trigger with this tag has not come yet at camera c's unit (R298). -/
def triggerAhead (d : Dev) (c rep entry : Nat) : Bool :=
  let u := d.g (0x3800 + c) 0x0A
  if d.g (0x3020 + u) 1 == 0 then ((d.cmp u).status.get {} entry).state == 0
  else decide ((d.cmp u).nextRep.get d.print.runFirst entry ≤ rep)

/-- The active device of a pair names the trigger at which a written generation is to take effect, the next one (R298). -/
def decideGen (d : Dev) (c : Nat) : Dev :=
  let x := d.cam c
  let u := d.g (0x3800 + c) 0x0A
  if !(d.role == 1 && d.twin.linked) || x.seq != 3 then d
  else match d.nextEntry u with
    | none => d
    | some e =>
      let k := if d.g (0x3020 + u) 1 == 0 then 0 else (d.cmp u).nextRep.get d.print.runFirst e
      (d.setCam c { x with atTag := none }).mirror { kind := 11, barMask := c, repeatNo := k, line := e, value := x.pending }

/-- The pending generation takes effect (R291). -/
def takeGen (d : Dev) (c : Nat) : Dev :=
  let x := d.cam c
  ((d.setCam c { x with inForce := x.pending, pending := 0, seq := 0, passed := false, atTag := none }).put (0x3820 + c) 3 x.pending).put
    (0x3820 + c) 4 0

/-- At a trigger: a written generation takes effect, in a pair at the trigger both have agreed on; an unwritten one is passed (R291,
R298). -/
def genAtTrigger (d : Dev) (c rep entry : Nat) : Dev :=
  let x := d.cam c
  if x.pending == 0 then d
  else if d.role == 2 then (if x.atTag == some (rep, entry) then d.takeGen c else d)
  else if x.seq == 3 then
    if !(d.role == 1 && d.twin.linked) || x.atTag == some (rep, entry) then d.takeGen c
    else if x.atTag.any (fun t => d.triggerAhead c t.1 t.2) then d
    else d.decideGen c
  else if x.passed then (d.bump (0x3820 + c) 0x0A).raise 63
  else d.setCam c { x with passed := true }

/-- A compare pulse reaches every camera triggered by its unit (R280, R281, R285). -/
def trigger (d : Dev) (unit entry : Nat) (rep : Option Nat) (target : Nat) : Dev :=
  ((List.range 6).filter (fun c => d.g (0x3800 + c) 1 == 1 && d.g (0x3800 + c) 0x0A == unit)).foldl (fun d c =>
    let d := d.genAtTrigger c (rep.getD 0) entry
    let x := d.cam c
    let ctx := (rep.bind d.rep?).bind (fun r => (d.barList.map (fun n => ledgerCtx r n)).findSome? id)
    let tag : Tag :=
      { unit := unit, entry := entry, rep := rep, time := d.serviceNow, at_ := d.t, target := target, gen := x.inForce
        profile := match ctx with
          | some k => d.cg k 0x4070 2
          | none => 0
        uncertain := x.uncertain }
    if decide (4 ≤ x.queue.length) then (d.bump (0x3820 + c) 6).raise 62
    else d.setCam c { x with queue := x.queue ++ [tag] }) d

/-- The normalised sample of a raw pixel after black level (R282, step 1 of Table 11.1). `ph` 0 to 3. -/
def black (d : Dev) (x : Cam) (c gen v ph : Nat) : Nat := v - u16 (leBytes 8 (d.genVal x gen (0x3808 + c) 6)) ph

/-- The pixel is in the frame's defect list (R283). -/
def defectAt (x : Cam) (c gen row col : Nat) : Bool :=
  match genDom x gen (0x6400 + c) with
  | some b => (List.range (b.length / 4)).any (fun i => leNat (slice b (4 * i) 4) == row * 65536 + col)
  | none => false

/-- A frame's pixel value after defect replacement, and whether it was replaced (R283). `get` reads step 1. -/
def repaired (x : Cam) (c gen w h step row col : Nat) (get : Nat → Nat → Nat) : Nat × Bool :=
  if !defectAt x c gen row col then (get row col, false)
  else
    let ok (r cc : Int) : Bool := decide (0 ≤ r ∧ r < h ∧ 0 ≤ cc ∧ cc < w) && !defectAt x c gen r.toNat cc.toNat
    let pick (ps : List (Int × Int)) : List Nat := (ps.filter (fun p => ok p.1 p.2)).map (fun p => get p.1.toNat p.2.toNat)
    let near := pick [((row : Int), (col : Int) - step), ((row : Int), (col : Int) + step)]
    let far := pick [((row : Int) - 2, (col : Int)), ((row : Int) + 2, (col : Int))]
    let use := if near.isEmpty then far else near
    if use.isEmpty then (get row col, false) else ((2 * use.sum + use.length) / (2 * use.length), true)

/-- Bilinear shading gain of a phase at a raw pixel, applied to a sample, rounded half up, clamped (R284). -/
def shaded (x : Cam) (c gen w h ph row col v : Nat) : Nat :=
  match genDom x gen (0x6408 + c) with
  | none => min v 65535
  | some t =>
    let g (gx gy : Nat) : Nat := u16 t (ph * 561 + gy * 33 + gx)
    -- Position in grid units: col · 32 ÷ (W − 1), row · 16 ÷ (H − 1).
    let px := col * 32
    let py := row * 16
    let ix := min (px / (w - 1)) 31
    let iy := min (py / (h - 1)) 15
    let fx := px - ix * (w - 1)
    let fy := py - iy * (h - 1)
    let a := g ix iy * (w - 1 - fx) + g (ix + 1) iy * fx
    let b := g ix (iy + 1) * (w - 1 - fx) + g (ix + 1) (iy + 1) * fx
    let num := v * (a * (h - 1 - fy) + b * fy)
    let den := 4096 * (w - 1) * (h - 1)
    min ((2 * num + den) / (2 * den)) 65535

/-- Densities of a colour pixel under a frame's matrix, weights and profile (R285). -/
def densities (d : Dev) (x : Cam) (c gen profile : Nat) (rgb : List Nat) : List Nat :=
  let m := leBytes 18 (d.genVal x gen (0x3808 + c) 7)
  let wts := leBytes 6 (d.genVal x gen (0x3808 + c) 8)
  let out := (List.range 3).map (fun i =>
    (clampInt (Int.fdiv (((List.range 3).map (fun j => i16 m (3 * i + j) * ((rgb.getD j 0 : Nat) : Int))).sum + 2048) 4096) 0 65535).toNat)
  let y := (((List.range 3).map (fun j => u16 wts j * out.getD j 0)).sum + 2048) / 4096
  (List.range 4).map (fun ch =>
    let t (i : Nat) : Nat := match genDom x gen (0x6410 + 4 * profile + ch) with
      | some b => u16 b i
      | none => densityDefault (min (64 * i) 65535)
    densityAt t (if ch == 3 then min y 65535 else out.getD ch 0))

/-- A raw pixel's channel after black level, defect replacement and shading (steps 1 to 3 of Table 11.1), and whether it was replaced:
by Bayer phase, or by channel for RGB888 (R282 to R284). -/
def correctedAt (d : Dev) (x : Cam) (c : Nat) (f : OpenFrame) (row col ch : Nat) : Nat × Bool :=
  let v (sub : Nat) : Nat := d.genVal x f.gen (0x3800 + c) sub
  let rgb := v 5 == 0x24
  let ph (r cc : Nat) : Nat := if rgb then ch else 2 * (r % 2) + cc % 2
  let get (r cc : Nat) : Nat := d.black x c f.gen (rawPixel (v 5) (f.lines.getD r []) cc ch * rawScale (v 5)) (ph r cc)
  let (s, rep) := repaired x c f.gen (v 7) f.lines.length (if rgb then 1 else 2) row col get
  (shaded x c f.gen (v 7) (v 8) (ph row col) row col s, rep)

/-- A frame's pixel (i, y) after binning: its colours, whether it holds a replaced or a saturated sample (R282 to R286). -/
def framePixel (d : Dev) (x : Cam) (c : Nat) (f : OpenFrame) (i y : Nat) : List Nat × Bool × Bool :=
  let v (sub : Nat) : Nat := d.genVal x f.gen (0x3800 + c) sub
  let dt := v 5
  let sat (row col ch : Nat) : Bool := rawPixel dt (f.lines.getD row []) col ch == rawMax dt
  if dt == 0x24 then
    let px := (List.range 3).map (d.correctedAt x c f y i)
    (px.map (fun p => p.1), px.any (fun p => p.2), (List.range 3).any (sat y i))
  else
    let one (ph : Nat) : Nat × Nat × Bool :=
      let (s, rep) := d.correctedAt x c f (2 * y + ph / 2) (2 * i + ph % 2) 0
      (bayer (v 9) ph, s, rep)
    let qs := (List.range 4).map one
    let of (k : Nat) : List Nat := (qs.filter (fun q => q.1 == k)).map (fun q => q.2.1)
    let g := of 1
    ([(of 0).sum, ((g.sum) + 1) / 2, (of 2).sum], qs.any (fun q => q.2.2),
      (List.range 4).any (fun ph => sat (2 * y + ph / 2) (2 * i + ph % 2) 0))

/-- The cells of a frame whose tag carries a repeat of `len` 48.16 lines (R287): sums by key b · 65536 + a. -/
def frameCells (d : Dev) (x : Cam) (c : Nat) (f : OpenFrame) (tag : Tag) (len : Nat) : Table (Nat × List Nat × Nat) :=
  let o := 0x3808 + c
  let v (sub : Nat) : Nat := d.genVal x f.gen o sub
  let rgb := d.genVal x f.gen (0x3800 + c) 5 == 0x24
  let w := d.genVal x f.gen (0x3800 + c) 7
  let cols := if rgb then w else w / 2
  let rows := if rgb then f.lines.length else f.lines.length / 2
  -- Coordinates in 2^-16: 24.8 values scaled by 256.
  let colOf (i : Nat) : Int := Int.fdiv (toSigned 32 (v 1) * 256 + ((i * v 2 : Nat) : Int)) 65536
  let rowOf (y : Nat) : Int := (tag.target : Int) + toSigned 32 (v 3) * 256 + (y : Int) * toSigned 32 (v 4)
  (List.range rows).foldl (fun t y =>
    let r := rowOf y
    if decide (r < 0 ∨ (len : Int) ≤ r) then t
    else (List.range cols).foldl (fun t i =>
      let cc := colOf i
      if decide (cc < 0 ∨ 106496 ≤ cc) then t
      else
        let (px, rep, sat) := d.framePixel x c f i y
        let ds := d.densities x c f.gen tag.profile px
        let k := r.toNat / 1048576 * 65536 + cc.toNat / 16
        let (n, sums, fl) := t.get (0, [0, 0, 0, 0], 0) k
        let fl := (if rep || bit fl 0 then 1 else 0) + (if sat || bit fl 1 then 2 else 0)
        t.set k (n + 1, (sums.zip ds).map (fun (a, b) => a + b), fl)) t) []

/-- Cells with their means, those of too few pixels left out (R287). -/
def cellStats (minPix : Nat) (t : Table (Nat × List Nat × Nat)) : List (CellStat × Nat) :=
  (t.filter (fun e => decide (minPix ≤ e.2.1))).map (fun e =>
    ({ a := e.1 % 65536, b := e.1 / 65536, dens := e.2.2.1.map (fun s => (s + e.2.1 / 2) / e.2.1), flags := e.2.2.2 }, e.2.1))

/-- A cell in its 12 bytes (R288). -/
def cellBytes (s : CellStat × Nat) : Bytes :=
  (s.1.dens.map (leBytes 2)).flatten ++ leBytes 2 (min s.2 65535) ++ [byte s.1.flags, 0]

/-- Buffers of 64 KiB that exports take in the export ring (R125). -/
def exportBuffers (d : Dev) : Nat := d.jobs.exports.foldl (fun a e => a + ceilDiv e.written 65536) 0

/-- Buffers free in the export ring; its 32-byte headers stand apart (R114, R125; DESIGN CHOICE, log 106). -/
def freeBuffers (d : Dev) : Nat := d.g 0x2A00 4 * 16 - d.exportBuffers

/-- An export's encode goes on into a new chain of at most 0x2B00:03 buffers of the ring; when its last buffer is full, the encoder
stops with what it wrote, and the export waits in OUT_OF_SPACE (R125, R126). -/
def encodeOn (d : Dev) (e : Export) : Export :=
  let w := min e.data.length (e.written + min (d.g 0x2B00 3) d.freeBuffers * 65536)
  { e with written := w, waiting := if w == e.data.length then none else some d.t }

/-- An export of a frame at its stage, placed in the export ring (R126, R296). -/
def exportFrame (d : Dev) (c : Nat) (f : OpenFrame) (stage : Nat) : Dev :=
  let x := d.cam c
  let v (sub : Nat) : Nat := d.genVal x f.gen (0x3800 + c) sub
  let dt := v 5
  let w := v 7
  let rows := f.lines.length
  let k := if dt == 0x24 then 3 else 1
  let norm (row col ch : Nat) : Nat := rawPixel dt (f.lines.getD row []) col ch * rawScale dt
  let (cols, nlines, chans, data) :=
    if stage == 2 then
      let cols := if dt == 0x24 then w else w / 2
      let nl := if dt == 0x24 then rows else rows / 2
      (cols, nl, 4, (List.range nl).flatMap (fun y => (List.range cols).flatMap (fun i =>
        ((d.densities x c f.gen ((f.tag.map (fun t => t.profile)).getD 0) (d.framePixel x c f i y).1).map (leBytes 2)).flatten)))
    else if stage == 1 then
      -- An RGB888 frame holds the samples of its three channels, though the table of R296 writes CHANNELS 1 (DESIGN CHOICE, log 108).
      (w, rows, 1, (List.range rows).flatMap (fun y => (List.range w).flatMap (fun i => (List.range k).flatMap (fun ch =>
        leBytes 2 (d.correctedAt x c f y i ch).1))))
    else
      (w, rows, k, (List.range rows).flatMap (fun y => (List.range w).flatMap (fun i => (List.range k).flatMap (fun ch => leBytes 2 (norm y i ch)))))
  let (stream, noGain) := encodeStream (d.g 0x2B00 1) (d.g 0x2B00 2) data
  let d := if noGain then d.bump 0x2B00 4 else d
  let clen := stream.length
  let hdr : FrameHdr :=
    { version := 1, kind := 4, flags := codingOf (d.g 0x2B00 2) noGain, tileId := c * 2 ^ 32 + f.num, lines := nlines
      columns := cols, sampleBits := 16, channels := chans, reserved := 0, ulen := data.length, clen := clen, crc := crc32 data }
  { d with jobs := { d.jobs with exports := d.jobs.exports ++ [d.encodeOn { cam := c, frameNo := f.num, hdr := hdr, data := stream }] } }

/-- The frame record of Table 11.2. -/
def frameRecord (f : OpenFrame) (c ctx kgen flags : Nat) (cells : List (CellStat × Nat)) : Bytes :=
  let as := cells.map (fun s => s.1.a)
  let bs := cells.map (fun s => s.1.b)
  let lo (l : List Nat) : Nat := l.foldl min (l.headD 0)
  let hi (l : List Nat) : Nat := l.foldl max 0
  let span (l : List Nat) : Nat := if l.isEmpty then 0 else hi l + 1 - lo l
  leBytes 4 f.num ++ leBytes 4 f.gen ++ leBytes 8 ((f.tag.bind (fun t => t.rep)).getD 0) ++
  [byte ctx, byte c, byte ((f.tag.map (fun t => t.unit)).getD 0xFF), 0] ++
  leBytes 2 ((f.tag.map (fun t => t.entry)).getD 0) ++ leBytes 2 flags ++ leBytes 4 kgen ++ leBytes 2 f.lines.length ++ leBytes 2 0 ++
  leBytes 8 ((f.tag.map (fun t => t.time)).getD 0) ++ leBytes 8 f.fsTime ++ leBytes 4 (lo as) ++ leBytes 4 (lo bs) ++
  leBytes 2 (span as) ++ leBytes 2 (span bs) ++ leBytes 4 0

/-- The open frame of camera c closes with further flags and is processed (R275, R276, R281, R288, R296). -/
def closeFrame (d : Dev) (c extra : Nat) : Dev :=
  let x := d.cam c
  match x.frame with
  | none => d
  | some f =>
    let o := 0x3820 + c
    let short := decide (f.lines.length < d.genVal x f.gen (0x3800 + c) 8)
    let rep := (f.tag.bind (fun t => t.rep)).bind d.rep?
    let ctx := rep.bind (fun r => (d.barList.map (fun n => ledgerCtx r n)).findSome? id)
    let set (m i : Nat) (b : Bool) : Nat := if b then setBit m i true else m
    let fl := f.flags ||| extra
    let fl := set fl 0 short
    let fl := set fl 4 f.tag.isNone
    let fl := set fl 5 (f.tag.isSome && ctx.isNone)
    let fl := set fl 6 (match ctx with
      | some k => !bit (d.cg k 0x4070 1) c
      | none => false)
    let fl := set fl 9 ((f.tag.map (fun t => t.uncertain)).getD (x.uncertain || x.cciFault) || x.cciFault)
    let len := match rep, ctx with
      | some r, some k => match r.fin, d.rep? (r.num + 1) with
        | some e, _ => e - r.d
        | none, some q => q.d - r.d
        | none, none => d.lenOf k
      | some r, none => r.len
      | none, _ => 0
    let cells := match f.tag, rep with
      | some t, some _ => cellStats (d.genVal x f.gen (0x3808 + c) 5) (d.frameCells x c f t len)
      | _, _ => []
    let excluded := (fl &&& excludedMask) != 0
    let kgen := (rep.map (fun r => r.gen)).getD 0
    let d := d.put (0x3828 + c) 1 (leNat (frameRecord f c (ctx.getD 0xFF) kgen fl cells))
    let d := (d.put (0x3828 + c) 2 (leNat (slice f.embedded 0 256))).putDom (0x6430 + c) (cells.flatMap cellBytes)
    let d := if excluded then d.bump o 5 else d
    let mode := d.g (0x3800 + c) 0x10
    let since := x.sinceExport + 1
    let due := (mode == 1 && decide (d.g (0x3800 + c) 0x11 ≤ since)) || (mode == 2 && excluded) || mode == 3
    let d := d.setCam c { x with frame := none, sinceExport := if mode == 1 && due then 0 else since }
    let d := if due then d.exportFrame c f (d.g (0x3800 + c) 0x12) else d
    let d := if mode == 3 then d.put (0x3800 + c) 0x10 0 else d
    let d := d.put o 1 (if x.cciFault then 3 else 1)
    match rep, ctx with
      | some r, some k => if excluded || d.role == 2 then d else d.keeperCells r k (cells.map (fun s => s.1))
      | _, _ => d

/-- A Frame Start on an enabled port takes the oldest tag; with trigger unit 0xFF it takes none (R275, R280, R289). -/
def openFrame (d : Dev) (c : Nat) : Dev :=
  let d := d.closeFrame c 0
  let x := d.cam c
  let num := x.frames % 4294967296
  let none_ := d.g (0x3800 + c) 0x0A == 0xFF
  let tag := if none_ then none else x.queue.head?
  let f : OpenFrame :=
    { num := num, tag := tag, gen := (tag.map (fun t => t.gen)).getD x.inForce, fsTime := d.serviceNow, fsAt := d.t }
  let d := d.setCam c { x with frame := some f, frames := x.frames + 1, queue := if none_ then x.queue else x.queue.tail }
  (d.put (0x3820 + c) 2 num).put (0x3820 + c) 1 (if x.cciFault then 3 else 2)

/-- A packet dropped and counted (R274). -/
def dropPacket (d : Dev) (c : Nat) : Dev := d.bump (0x3820 + c) 8

/-- A header whose single-bit error was corrected: counted, and the open frame is marked ECC_CORRECTED (R274). -/
def headerFixed (x : Cam) (fixed : Bool) : Cam :=
  if fixed then { x with corrected := x.corrected + 1, frame := x.frame.map (fun f => { f with flags := setBit f.flags 7 true }) } else x

/-- The generation a port's packets are checked under: the open frame's, else the one in force (R274, R293). -/
def packetGen (x : Cam) : Nat := match x.frame with
  | some f => f.gen
  | none => x.inForce

/-- The port is enabled and its domain runs. -/
def camOn (d : Dev) (c : Nat) : Bool := d.g (0x3800 + c) 1 == 1 && d.fast && d.sys.st != .restarting

end Dev

/-- FRAME_START (R275, R280). -/
def execFrameStart (cam : Fin 6) (s : State) : Host.Outcome State Fault Refusal :=
  let d := s.begin_
  s.done (if d.camOn cam then d.openFrame cam else d)

/-- IMAGE_LINE (R274 to R278). -/
def execImageLine (cam : Fin 6) (vc dt : Nat) (headerBad eccFixed crcBad fifoFull : Bool) (payload : Bytes) (s : State) :
    Host.Outcome State Fault Refusal :=
  let d := s.begin_
  let c : Nat := cam
  s.done (
    if !d.camOn c then d
    else if headerBad then d.dropPacket c
    else
      let x := Dev.headerFixed (d.cam c) eccFixed
      let d := d.setCam c x
      let v (sub : Nat) : Nat := d.genVal x (Dev.packetGen x) (0x3800 + c) sub
      if vc != v 4 || dt != v 5 then d.dropPacket c
      else match x.frame with
      | none => d.dropPacket c
      | some f =>
        if payload.length * 8 != v 7 * pixelBits dt then d.dropPacket c
        else if f.dropping then d
        else if fifoFull then
          ((d.setCam c { x with frame := some { f with flags := setBit f.flags 2 true, dropping := true } }).bump (0x3820 + c) 7).raise 61
        else if decide (v 8 ≤ f.lines.length) then d.setCam c { x with frame := some { f with flags := setBit f.flags 1 true } }
        else
          let f := if crcBad then { f with flags := setBit f.flags 3 true } else f
          d.setCam c { x with frame := some { f with lines := f.lines ++ [payload] } })

/-- EMBEDDED_DATA (R274). -/
def execEmbeddedData (cam : Fin 6) (vc : Nat) (headerBad eccFixed : Bool) (payload : Bytes) (s : State) :
    Host.Outcome State Fault Refusal :=
  let d := s.begin_
  let c : Nat := cam
  s.done (
    if !d.camOn c then d
    else if headerBad then d.dropPacket c
    else
      let x := Dev.headerFixed (d.cam c) eccFixed
      let d := d.setCam c x
      if vc != d.genVal x (Dev.packetGen x) (0x3800 + c) 6 then d.dropPacket c
      else match x.frame with
      | none => d.dropPacket c
      | some f =>
        if f.dropping then d
        else d.setCam c { x with frame := some { f with embedded := (f.embedded ++ payload).take 256 } })

/-- FRAME_END: the frame closes, and a waiting CCI sequence begins (R275, R288, R290). -/
def execFrameEnd (cam : Fin 6) (s : State) : Host.Outcome State Fault Refusal :=
  let d := s.begin_
  s.done (if d.camOn cam then (d.closeFrame cam 0).cciFrameEnd cam else d)

/-- FRAME_TIMEOUT: the open frame closes and is marked NO_FE (R275). -/
def execFrameTimeout (cam : Fin 6) (s : State) : Host.Outcome State Fault Refusal :=
  let d := s.begin_
  s.done (if d.camOn cam then d.closeFrame cam 0x100 else d)

/-- TRIGGER_TIMEOUT: the oldest tag expires (R280). -/
def execTriggerTimeout (cam : Fin 6) (s : State) : Host.Outcome State Fault Refusal :=
  let d := s.begin_
  let c : Nat := cam
  let x := d.cam c
  s.done (match x.queue with
    | [] => d
    | _ :: q => ((d.setCam c { x with queue := q }).bump (0x3820 + c) 6).raise 62)

/-- CCI_WRITE_DONE: the next write of the sequence, or its end (R290, R291, R294). -/
def execCciWriteDone (cam : Fin 6) (s : State) : Host.Outcome State Fault Refusal :=
  let d := s.begin_
  let c : Nat := cam
  let x := d.cam c
  s.done (match x.cci with
    | [] => d
    | _ :: [] =>
      if x.seq == 2 then (d.setCam c { x with cci := [], seq := 3, retried := false, failAt := none }).decideGen c
      else (d.setCam c { x with cci := [], seq := 0, retried := false, failAt := none, uncertain := x.uncertain && x.seq != 4 }).cciWait c
    | _ :: w :: r => (d.setCam c { x with cci := w :: r, retried := false, failAt := none }).cciSend c)

/-- What was triggered since the first CCI failure is marked, now that its retry has failed (R294). -/
def Dev.markUncertain (x : Cam) : Cam :=
  let mark (t : Tag) : Tag := { t with uncertain := t.uncertain || x.failAt.any (fun a => decide (a ≤ t.at_)) }
  { x with uncertain := true, failAt := none, queue := x.queue.map mark, frame := x.frame.map (fun f => { f with tag := f.tag.map mark }) }

/-- CCI_TIMEOUT: one retry, then the generation is abandoned and the one in force restored; a failed restoration leaves the
camera in CCI_FAULT (R294). -/
def execCciTimeout (cam : Fin 6) (s : State) : Host.Outcome State Fault Refusal :=
  let d := s.begin_
  let c : Nat := cam
  let x := d.cam c
  s.done (
    if x.cci.isEmpty then d
    else if !x.retried then (d.setCam c { x with retried := true, failAt := some d.t }).cciSend c
    else
      let d := (d.raise 64).bump (0x3820 + c) 9
      let x := Dev.markUncertain x
      if x.seq == 4 then (d.setCam c { x with cci := [], seq := 0, cciFault := true, retried := false }).put (0x3820 + c) 1 3
      else if x.seq == 5 then (d.setCam c x).cciStart c x.inForce 4
      else
        let gone := x.pending
        let d := d.setCam c { x with pending := 0, gens := x.gens.filter (fun g => g.num != gone || gone == 0) }
        (d.put (0x3820 + c) 4 0).cciStart c x.inForce 4)

/-- CAM_BUDGET_MEASURE: the traffic in 0.1 GB/s (R297). -/
def execCamBudgetMeasure (traffic : Nat) (s : State) : Host.Outcome State Fault Refusal :=
  let d := s.begin_
  let d := d.put 0x3830 3 (min traffic 65535)
  s.done (if decide (d.g 0x3830 1 + d.g 0x3830 2 < traffic) then d.raise 65 else d)

end Sys2Proof.Machine
end

