-- ==== Sys2Proof/Machine/Guard.lean ====
section
/-! DEFINITION. The gate every host request passes: the session, BUSY, and the limits of the present state (R55, R407,
R456, R464), and how a write given as a command of its own is answered. -/
namespace Sys2Proof.Machine

open Sys2Proof

namespace Dev

/-- The object is not served in the present state: aborted with 0x0800_0022 (R407, R456). -/
def gated (d : Dev) (idx : Nat) : Bool :=
  match d.sys.st with
  | .off | .boot | .standby | .waking =>
    decide (0x2010 ≤ idx ∧ idx ≤ 0x2016) || decide (0x2A00 ≤ idx ∧ idx ≤ 0x2BFF) || decide (0x3000 ≤ idx ∧ idx ≤ 0x6FFF)
  | .restarting =>
    decide (0x2A00 ≤ idx ∧ idx ≤ 0x2BFF) || decide (0x3400 ≤ idx ∧ idx ≤ 0x3BFF) || decide (0x4000 ≤ idx ∧ idx ≤ 0x4FFF) ||
      decide (0x5000 ≤ idx ∧ idx ≤ 0x57FF) || decide (0x6000 ≤ idx ∧ idx ≤ 0x62FF) || decide (0x6400 ≤ idx ∧ idx ≤ 0x64FF) ||
      idx == 0x2012 || idx == 0x2000
  | _ => false

/-- The commit of a group is not served in the present state (R407, R456). -/
def commitGated (d : Dev) (gg : Nat) : Bool :=
  match d.sys.st with
  | .off | .boot | .standby | .waking => gg == 5 || decide (7 ≤ gg)
  | .restarting => gg == 5 || decide (9 ≤ gg ∧ gg ≤ 11) || decide (16 ≤ gg)
  | _ => false

/-- A transport is served: every one once an image has been verified, only USB in recovery service (R456, R464). -/
def serves (d : Dev) (via : Nat) : Bool := d.sys.verified || (d.sys.bootFailed && via == 3)

/-- The objects of recovery service (R464). -/
def recovery (idx : Nat) : Bool := idx == 0x1018 || idx == 0x2000 || idx == 0x2001 || idx == 0x2108 || idx == 0x2109

/-- A session is served for an object: an image has been verified, or recovery service over USB with its objects (R456, R464). -/
def served (d : Dev) (x : Sess) (idx : Nat) : Bool := d.sys.verified || (d.serves x.via && recovery idx)

/-- A host write by a session: answered BUSY while a long operation runs, gated by the state, else made. Nothing happens
where the session is not open on service data, or before an image has been verified. -/
def request (d : Dev) (sess idx : Nat) (write : Dev → Dev × Nat) : Dev :=
  match d.session? sess with
  | none => d
  | some x =>
    if x.port != 0 || !d.serves x.via then d
    else if d.com.op.isSome then d.emit (.answer sess 0x0F000010)
    else if d.gated idx || !d.served x idx then d.emit (.answer sess 0x08000022)
    else
      let (d, code) := write d
      d.emit (.answer sess code)

/-- A write whose command starts a long operation is answered with BUSY (R55): the code of a request that started one. -/
def started (d : Dev) : Dev × Nat := (d, 0x0F000010)

end Dev

/-- The outcome of a command that is a host write. -/
def State.hostWrite (s : State) (sess idx : Nat) (write : Dev → Dev × Nat) : Host.Outcome State Fault Refusal :=
  s.done (s.begin_.request sess idx write)

end Sys2Proof.Machine
end

