-- ==== Sys2Proof/Machine/Jobs.lean ====
section
/-! DEFINITION. Job ingress: DMA queues, tile frames and their checks, the job store, lost tiles and their requests, and
exports (chapter 04). -/
namespace Sys2Proof.Machine

open Sys2Proof

/-- Key of a stored frame. -/
def frameKey (kind tile : Nat) : Nat := kind * 2 ^ 64 + tile

namespace Dev

/-- Queue q. -/
def queue (d : Dev) (q : Nat) : Queue := d.jobs.queues.get {} q

/-- Queue q set. -/
def setQueue (d : Dev) (q : Nat) (x : Queue) : Dev := { d with jobs := { d.jobs with queues := d.jobs.queues.set q x } }

/-- A stored frame. -/
def frame? (d : Dev) (kind tile : Nat) : Option Frame := d.jobs.frames.find? (frameKey kind tile)

/-- A frame stored. -/
def putFrame (d : Dev) (f : Frame) : Dev :=
  { d with jobs := { d.jobs with frames := d.jobs.frames.set (frameKey f.hdr.kind f.hdr.tileId) f } }

/-- A completion record of Table 4.7. -/
def record (x : Queue) (desc : Desc) (status bytes tile : Nat) : Bytes :=
  leBytes 2 desc.tag ++ [byte status, byte (if x.lap % 2 == 0 then 1 else 0)] ++ leBytes 4 bytes ++ leBytes 8 tile

/-- A descriptor completes: its entry is written, Q_HEAD advances, the vector is signalled (R109, R110). -/
def complete (d : Dev) (q : Nat) (desc : Desc) (status bytes tile : Nat) : Dev :=
  let x := d.queue q
  let size := 2 ^ x.order
  let h := (x.head + 1) % size
  let d := d.emit (.completion q (record x desc status bytes tile))
  let d := d.setQueue q { x with head := h, lap := if h == 0 then x.lap + 1 else x.lap, check := none }
  if x.irqEn && bit desc.op 7 then d.emit (.msix q) else d

/-- A queue may start a descriptor: enabled, not halted, not empty, none in progress, and the queues not paused. -/
def queueReady (d : Dev) (q : Nat) : Bool :=
  let x := d.queue q
  x.enabled && !x.halted && x.head != x.tail && x.check.isNone && !d.jobs.paused && d.jobs.link

/-- Bytes that frames of kinds 2 and 3 take in the frame store. -/
def frameBytes (d : Dev) : Nat := d.jobs.frames.foldl (fun a e => if e.2.hdr.kind == 2 || e.2.hdr.kind == 3 then a + 32 + e.2.hdr.clen else a) 0

/-- Bytes of the frames that wait for their decoders: they lie in the frame store during their check (Table 4.14). -/
def checkBytes (d : Dev) : Nat := d.jobs.queues.foldl (fun a q => match q.2.check with
  | some k => a + 32 + k.hdr.clen
  | none => a) 0

/-- Space used in a region, MiB rounded up (0x2A01). -/
def regionUsed (d : Dev) (k : Nat) : Nat :=
  ceilDiv (match k with
    | 1 => d.frameBytes + d.checkBytes
    | 2 => d.ctxs.foldl (fun a c => a + c.2.bytes) 0
    | 3 => (d.jobs.checkpoints.length + (d.jobs.frames.filter (fun f => f.2.hdr.kind == 2 || f.2.hdr.kind == 3)).length) * 33280
    | _ => d.exportBuffers * 65536) 1048576

/-- Least V of a repeat under context c that some enabled bar has not rendered, or the next one (R115). -/
def liveFrom (d : Dev) (c : Nat) : Nat :=
  let waits (r : Rep) : Bool := r.ctx == some c && d.barList.any (fun n => bit (d.cg c 0x4000 2) n && decide ((d.bar n).rend < ceilLine r.end_))
  ((d.print.reps.filter waits).map (fun r => r.v)).foldl min (d.ctx c).v

/-- A context that has been armed or is arming uses the frame as a static layer or a live instance (R115). -/
def usedBy (d : Dev) (c kind tile : Nat) : Bool :=
  let x := d.ctx c
  let stream := tile / 4294967296
  let idx := tile % 4294967296
  decide (2 ≤ x.code ∧ x.code ≤ 6) && kind == 2 &&
    ((List.range 16).any (fun s => bit (d.cg c 0x4003 4) s && d.cg c (0x4020 + s) 1 == stream && decide (idx < d.cg c (0x4020 + s) 2)) ||
      (List.range (d.cg c 0x4003 5)).any (fun l =>
        let v := (idx + 4294967296 - d.cg c (0x4030 + l) 3 % 4294967296) % 4294967296
        d.cg c (0x4030 + l) 2 == stream && decide (d.liveFrom c ≤ v) && decide (v < 2147483648) && (x.code != 6 || decide (v < x.v))))

/-- A frame's own use: some context has it as a static layer or a live instance (R115). -/
def frameInUse (d : Dev) (kind tile : Nat) : Bool := (d.ctxs.keysWhere (fun _ _ => true)).any (fun c => d.usedBy c kind tile)

/-- A frame is in use: by itself, or because any later frame of its stream that carries history is (R115). -/
def inUse (d : Dev) (kind tile : Nat) : Bool :=
  d.frameInUse kind tile || d.jobs.frames.any (fun f =>
    let t := f.2.hdr.tileId
    f.2.hdr.kind == kind && t / 4294967296 == tile / 4294967296 && decide (tile < t) && bit f.2.hdr.flags 2 && d.frameInUse kind t)

/-- The DMA completion status of a header that fails a check of R118 steps 1 to 9; none where all pass. A stored copy that R122 gave up may
be replaced like a poisoned one (DESIGN CHOICE, log 98: R116 names only the poisoned copy, R130 has the host put any lost frame again). -/
def headerStatus (d : Dev) (desc : Desc) (h : FrameHdr) : Option Nat :=
  let stream := h.tileId / 4294967296
  let idx := h.tileId % 4294967296
  let geometry := decide (1 ≤ h.lines ∧ h.lines ≤ 65535 ∧ 1 ≤ h.columns ∧ h.columns ≤ 65535 ∧ h.ulen ≤ 67108864) &&
    (if h.kind == 3 then h.channels == 1 && h.sampleBits == 8 && h.ulen == h.lines * h.columns
     else decide (1 ≤ h.channels ∧ h.channels ≤ 9) && [1, 8, 16, 32].contains h.sampleBits && h.ulen == h.lines * rowBytes h)
  if desc.length != 32 + h.clen then some 0x14
  else if h.version != 1 || h.kind == 0 || decide (4 < h.kind) || h.reserved != 0 || decide (8 ≤ h.flags) || h.flags % 4 == 3 then some 0x10
  else if h.kind == 1 || h.kind == 4 then some 0x15
  else if h.ulen == 0 then some 0x12
  else if !geometry then some 0x11
  else if decide (1032 * h.clen < h.ulen) then some 0x13
  else if bit h.flags 2 && (idx == 0 || (d.frame? h.kind (stream * 4294967296 + idx - 1)).isNone) then some 0x24
  else if (match d.frame? h.kind h.tileId with
    | some f => !f.poisoned && !f.lost
    | none => false) then some 0x21
  else if decide (d.g 0x2A00 1 * 1048576 < d.frameBytes + d.checkBytes + 32 + h.clen) then some 0x20
  else none

/-- The window a decode of this frame starts from (R119). -/
def historyOf (d : Dev) (h : FrameHdr) : Bytes :=
  if bit h.flags 2 then (match d.frame? h.kind (h.tileId - 1) with
    | some f => f.window
    | none => [])
  else []

/-- The frame stored after an acceptance decode. -/
def accepted (d : Dev) (h : FrameHdr) (payload data : Bytes) : Frame :=
  let w := d.historyOf h ++ data
  { hdr := h, data := data, payload := payload, window := w.drop (w.length - 32768) }

/-- A refused frame is counted and named (R118). -/
def refuseFrame (d : Dev) (status tile : Nat) : Dev := ((d.bump 0x2A02 2).put 0x2A02 3 status).put 0x2A02 4 tile

/-- The request entry that waits for a frame, when one does. -/
def requestOf (d : Dev) (kind tile : Nat) : Option Nat :=
  (d.jobs.requests.keysWhere (fun _ r => r.state == 1 && r.kind == kind && r.tile == tile)).head?

/-- A request entry's state set, with the instant. -/
def setRequest (d : Dev) (e st : Nat) : Dev :=
  match d.jobs.requests.find? e with
  | some r => { d with jobs := { d.jobs with requests := d.jobs.requests.set e { r with state := st, since := d.t } } }
  | none => d

/-- A frame that must come from the host again is requested (R128 step 3, R129). -/
def requestTile (d : Dev) (kind tile : Nat) : Dev :=
  if d.g 0x2A04 1 == 0 || (d.requestOf kind tile).isSome then d
  else match (List.range 16).find? (fun i => (d.jobs.requests.find? (i + 1)).isNone) with
    | none => d.bump 0x2A05 0x11
    | some i =>
      let d := { d with jobs := { d.jobs with requests := d.jobs.requests.set (i + 1) { kind := kind, state := 1, tile := tile } } }
      d.raise 21 0 0xFF (i + 1)

/-- The frames of a context's enabled static layers, by tile identity. -/
def staticTiles (d : Dev) (c : Nat) : List Nat :=
  ((List.range 16).filter (fun s => bit (d.cg c 0x4003 4) s)).flatMap (fun s =>
    (List.range (d.cg c (0x4020 + s) 2)).map (fun i => d.cg c (0x4020 + s) 1 * 4294967296 + i))

/-- A cache tile is flattened again from its sources, or waits for them (R128 step 2). -/
def reflatten (d : Dev) (tile : Nat) : Dev :=
  let c := tile / 2 ^ 56
  let k := (tile / 2 ^ 48 % 256, tile / 2 ^ 40 % 256, tile % 2 ^ 40)
  let x := d.ctx c
  if decide (x.code < 4) || decide (6 < x.code) then d
  else
    let gone := (d.staticTiles c).filter (fun t => (d.frameOk 2 t).isNone)
    if gone.isEmpty then d.setCtx c { x with lost := x.lost.filter (fun y => y != k) }
    else gone.foldl (fun d t => d.requestTile 2 t) (d.setCtx c { x with lost := if x.lost.contains k then x.lost else x.lost ++ [k] })

/-- Steps 2 and 3 of R128. -/
def restoreHere (d : Dev) (kind tile : Nat) : Dev := if kind == 1 then d.reflatten tile else d.requestTile kind tile

/-- A frame or cache tile is lost: it is fetched from the twin in a hot pair, else restored here (R128). -/
def tileLost (d : Dev) (kind tile : Nat) (poisoned : Bool := true) : Dev :=
  let d := match d.frame? kind tile with
    | some f => d.putFrame { f with poisoned := f.poisoned || poisoned, lost := f.lost || !poisoned }
    | none => d
  let d := if kind == 1 then d.onCtx (tile / 2 ^ 56) (fun x =>
      let k := (tile / 2 ^ 48 % 256, tile / 2 ^ 40 % 256, tile % 2 ^ 40)
      { x with lost := if x.lost.contains k then x.lost else x.lost ++ [k] }) else d
  if d.paired && d.g 0x2C00 1 == 2 && d.twin.linked && !d.twin.fetches.any (fun f => f.1 == kind && f.2.1 == tile) then
    let d := d.twinSend 9 ([byte kind] ++ leBytes 8 tile ++ leBytes 8 (d.t + 1000000))
    { d with twin := { d.twin with fetches := d.twin.fetches ++ [(kind, tile, d.t)] } }
  else d.restoreHere kind tile

/-- A frame has been accepted: it is counted, a failed decode of the copy before it is forgotten, its request reads RESTORED, and cache
tiles that waited for it are flattened (R116, R118, R122, R128, R129). -/
def acceptFrame (d : Dev) (f : Frame) : Dev :=
  let d := (d.putFrame f).bump 0x2A02 1
  let d := { d with fl := { d.fl with decodeFails := d.fl.decodeFails.filter (fun k => k != frameKey f.hdr.kind f.hdr.tileId) } }
  let d := { d with twin := { d.twin with denied := d.twin.denied.filter (fun x => x != (f.hdr.kind, f.hdr.tileId)) } }
  let d := match d.requestOf f.hdr.kind f.hdr.tileId with
    | some e => d.setRequest e 2
    | none => d
  (d.ctxs.keysWhere (fun _ x => !x.lost.isEmpty)).foldl (fun d c =>
    if (d.staticTiles c).contains f.hdr.tileId then (d.ctx c).lost.foldl (fun d k =>
      d.reflatten (c * 2 ^ 56 + k.1 * 2 ^ 48 + k.2.1 * 2 ^ 40 + k.2.2)) d else d) d

/-- Requests whose frame no repeat needs any more read EXPIRED (R129). -/
def expireRequests (d : Dev) : Dev :=
  (d.jobs.requests.keysWhere (fun _ r => r.state == 1)).foldl (fun d e => match d.jobs.requests.find? e with
    | some r => if d.inUse r.kind r.tile || (r.kind == 2 && d.ctxs.any (fun c => !c.2.lost.isEmpty && (d.staticTiles c.1).contains r.tile)) then d else d.setRequest e 3
    | none => d) d

/-- An export is dropped (R126). -/
def dropExport (d : Dev) (e : Export) : Dev :=
  let d := { d with jobs := { d.jobs with exports := d.jobs.exports.filter (fun x => x != e) } }
  (d.bump 0x2B00 5).raise 24

/-- A queue halts on a DMA failure (R111). -/
def haltQueue (d : Dev) (q : Nat) (desc : Desc) (status : Nat) : Dev :=
  let x := d.queue q
  if !(x.check.isSome || d.queueReady q) then d
  else
    let d := d.drew.complete q desc status (d.freeNat % 4294967296) (match x.check with
      | some k => k.hdr.tileId
      | none => 0)
    (d.setQueue q { d.queue q with halted := true, lastErr := status }).raise 16

end Dev

/-- Q_TAIL written (R108, Table 4.4). -/
def Dev.writeTail (d : Dev) (q tail : Nat) : Dev :=
  let x := d.queue q
  let d1 := d.setQueue q { x with tail := tail }
  if decide (2 ^ x.order ≤ tail) then (d.setQueue q { x with tail := tail, cfgErr := true, halted := true }).raise 31 else d1

/-- ENABLE written 1, with RING_ORDER and IRQ_EN: a ring order other than 4 to 12 sets CFG_ERR (R108, Table 4.3). -/
def Dev.enableQueue (d : Dev) (q ringOrder : Nat) (irqEn : Bool) : Dev :=
  let x := { d.queue q with order := ringOrder % 16, irqEn := irqEn, enabled := true }
  if decide (4 ≤ ringOrder ∧ ringOrder ≤ 12) then
    d.setQueue q { x with cfgErr := false, halted := x.halted && !x.cfgErr }
  else (d.setQueue q { x with cfgErr := true, halted := true }).raise 31

/-- ENABLE written 0: the descriptor in progress still completes (R112). -/
def Dev.disableQueue (d : Dev) (q : Nat) : Dev := d.setQueue q { d.queue q with enabled := false }

/-- RESTART written 1 (R111). With a ring order or tail still in error it changes nothing (DESIGN CHOICE, log 95: the spec does not
say what RESTART does then). -/
def Dev.restartQueue (d : Dev) (q : Nat) : Dev :=
  let x := d.queue q
  if decide (4 ≤ x.order ∧ x.order ≤ 12 ∧ x.tail < 2 ^ x.order) then d.setQueue q { x with halted := false, cfgErr := false } else d

/-- Q_TAIL_WRITE (R108, Table 4.4). -/
def execQTailWrite (q : Fin 16) (tail : Nat) (s : State) : Host.Outcome State Fault Refusal := s.done (s.begin_.writeTail q tail)

/-- QUEUE_ENABLE (R108): a ring order other than 4 to 12 sets CFG_ERR. -/
def execQueueEnable (q : Fin 16) (ringOrder : Nat) (irqEn : Bool) (s : State) : Host.Outcome State Fault Refusal :=
  s.done (s.begin_.enableQueue q ringOrder irqEn)

/-- QUEUE_DISABLE: the descriptor in progress still completes (R112). -/
def execQueueDisable (q : Fin 16) (s : State) : Host.Outcome State Fault Refusal :=
  s.done (s.begin_.disableQueue q)

/-- QUEUE_RESTART (R111). -/
def execQueueRestart (q : Fin 16) (s : State) : Host.Outcome State Fault Refusal :=
  s.done (s.begin_.restartQueue q)

/-- PUT_FRAME: a descriptor of length 0 is EMPTY, one below a header LENGTH_MISMATCH; a frame whose header passes waits for
its decode (R113, R118). One below a header counts as a refused frame whose last tile ID is 0 (DESIGN CHOICE, log 99: no frame was read). -/
def execPutFrame (q : Fin 16) (desc : Desc) (hdr : FrameHdr) (payload : Bytes) (s : State) : Host.Outcome State Fault Refusal :=
  let d := s.begin_
  s.done (
    if !d.queueReady q then d
    else if desc.length == 0 then d.complete q desc 1 0 0
    else if decide (desc.length < 32) then (d.refuseFrame 0x14 0).complete q desc 0x14 0 0
    else match d.headerStatus desc hdr with
      | some st => ((d.refuseFrame st hdr.tileId).drew).complete q desc st (d.freeNat % 4294967296) hdr.tileId
      | none => d.setQueue q { d.queue q with check := some { desc := desc, hdr := hdr, payload := payload } })

/-- FRAME_CHECK_DONE: the payload is decoded under R120; the frame is stored, or refused (R118 to R120). Of two queues that check one kind
and ID at once both are accepted, the later in the place of the earlier (DESIGN CHOICE, log 100: R116 is checked at step 8 only). -/
def execFrameCheckDone (q : Fin 16) (s : State) : Host.Outcome State Fault Refusal :=
  let d := s.begin_
  s.done (match (d.queue q).check with
    | none => d
    | some k =>
      let (st, data) := decodePayload (d.historyOf k.hdr) (k.hdr.flags % 4) k.hdr.ulen k.hdr.crc (k.payload.take k.hdr.clen)
      let d := if st == 0 then d.acceptFrame (d.accepted k.hdr (k.payload.take k.hdr.clen) data) else d.refuseFrame st k.hdr.tileId
      d.complete q k.desc st k.desc.length k.hdr.tileId)

/-- FRAME_CHECK_TIMEOUT (R119). -/
def execFrameCheckTimeout (q : Fin 16) (s : State) : Host.Outcome State Fault Refusal :=
  let d := s.begin_
  s.done (match (d.queue q).check with
    | none => d
    | some k => (d.refuseFrame 0x28 k.hdr.tileId).complete q k.desc 0x28 k.desc.length k.hdr.tileId)

/-- GET_EXPORT: the oldest completed export is written to the host and freed (Table 4.6). -/
def execGetExport (q : Fin 16) (desc : Desc) (s : State) : Host.Outcome State Fault Refusal :=
  let d := s.begin_
  s.done (
    if !d.queueReady q then d
    else if desc.length == 0 then d.complete q desc 1 0 0
    else match d.jobs.exports.find? (fun e => e.waiting.isNone) with
      | none => d.complete q desc 0x23 0 0
      | some e =>
        let n := 32 + e.hdr.clen
        if decide (desc.length < n) then d.complete q desc 0x25 0 e.hdr.tileId
        else
          let d := d.emit (.hostWrite desc.hostAddr (hdrBytes e.hdr ++ e.data))
          let d := { d with jobs := { d.jobs with exports := d.jobs.exports.erase e } }
          d.complete q desc 0 n e.hdr.tileId)

/-- FREE_FRAME (R115). -/
def execFreeFrame (q : Fin 16) (desc : Desc) (s : State) : Host.Outcome State Fault Refusal :=
  let d := s.begin_
  s.done (
    if !d.queueReady q then d
    else if desc.length == 0 then d.complete q desc 1 0 0
    else match d.frame? desc.kind desc.arg with
      | none => d.complete q desc 0x23 0 desc.arg
      | some _ =>
        if d.inUse desc.kind desc.arg then d.complete q desc 0x22 0 desc.arg
        else
          let d := { d with jobs := { d.jobs with frames := d.jobs.frames.erase (frameKey desc.kind desc.arg) } }
          d.complete q desc 0 0 desc.arg)

/-- FREE_STREAM: nothing is freed when any frame of the stream is in use (R115). A stream with no stored frame completes with NOT_FOUND
and tile ID 0 (DESIGN CHOICE, log 101: the rules name no status for it). -/
def execFreeStream (q : Fin 16) (desc : Desc) (s : State) : Host.Outcome State Fault Refusal :=
  let d := s.begin_
  let mine (k : Nat) (f : Frame) : Bool := k / 2 ^ 64 == desc.kind && f.hdr.tileId / 4294967296 == desc.arg / 4294967296
  s.done (
    if !d.queueReady q then d
    else if desc.length == 0 then d.complete q desc 1 0 0
    else
      let ks := d.jobs.frames.keysWhere mine
      if ks.isEmpty then d.complete q desc 0x23 0 0
      else if ks.any (fun k => d.inUse desc.kind (k % 2 ^ 64)) then d.complete q desc 0x22 0 0
      else
        let d := { d with jobs := { d.jobs with frames := d.jobs.frames.keep (fun k f => !mine k f) } }
        d.complete q desc 0 0 0)

/-- DMA_TIMEOUT (R111). -/
def execDmaTimeout (q : Fin 16) (desc : Desc) (s : State) : Host.Outcome State Fault Refusal :=
  s.done (s.begin_.haltQueue q desc 0x30)

/-- DMA_ERROR (R111). -/
def execDmaError (q : Fin 16) (desc : Desc) (s : State) : Host.Outcome State Fault Refusal :=
  s.done (s.begin_.haltQueue q desc 0x31)

/-- EXPORT_RESUME: the oldest waiting export of the camera goes on into a new chain where the ring has a free buffer (R125, R126). -/
def execExportResume (cam : Fin 6) (s : State) : Host.Outcome State Fault Refusal :=
  let d := s.begin_
  let c : Nat := cam
  s.done (match d.jobs.exports.find? (fun e => e.cam == c && e.waiting.isSome) with
    | none => d
    | some e => if d.freeBuffers == 0 then d
      else { d with jobs := { d.jobs with exports := d.jobs.exports.map (fun (x : Export) => if x == e then d.encodeOn e else x) } })

/-- EXPORT_TIMEOUT (R126). -/
def execExportTimeout (cam : Fin 6) (s : State) : Host.Outcome State Fault Refusal :=
  let d := s.begin_
  let c : Nat := cam
  s.done (match d.jobs.exports.find? (fun e => e.cam == c && e.waiting.isSome) with
    | none => d
    | some e => d.dropExport e)

/-- REQUEST_ENTRY_FREE (R129). -/
def execRequestEntryFree (entry : Fin 16) (s : State) : Host.Outcome State Fault Refusal :=
  let d := s.begin_
  let k : Nat := entry
  s.done (match d.jobs.requests.find? (k + 1) with
    | some r => if r.state == 2 || r.state == 3 then { d with jobs := { d.jobs with requests := d.jobs.requests.erase (k + 1) } } else d
    | none => d)

/-- The host releases the device-to-host window, and the next waiting answer is placed in it (R107). -/
def Dev.ackWindow (d : Dev) : Dev :=
  match d.jobs.d2hWait with
  | [] => { d with jobs := { d.jobs with d2hFull := false } }
  | m :: r => ({ d with jobs := { d.jobs with d2hWait := r } } : Dev).fillWindow m

/-- MB_D2H_ACK (R107). -/
def execMbD2hAck (s : State) : Host.Outcome State Fault Refusal := s.done s.begin_.ackWindow

end Sys2Proof.Machine
end

