-- ==== Sys2Proof/Machine/Dram.lean ====
section
/-! DEFINITION. DDR5: capacity and address orders, code pages and their classes, poison and its consumers, remap, the
scrubber, the leaky bucket and the latency targets (chapter 15). -/
namespace Sys2Proof.Machine

open Sys2Proof

/-- The byte at a physical address of DRAM: 0 where the list holds none. -/
def ramRead (m : List Host.Cell) (a : Nat) : Byte := Table.get m 0 a

/-- A byte written, in the canonical form: a byte equal to what an unlisted address reads as is not listed. -/
def ramWrite (m : List Host.Cell) (a : Nat) (b : Byte) : List Host.Cell :=
  if b == 0 then Table.erase m a else Table.set m a b

/-- Consecutive bytes from address a. -/
def ramBytes (m : List Host.Cell) (a n : Nat) : Bytes := (List.range n).map (fun i => ramRead m (a + i))

/-- Consecutive bytes written from address a. -/
def ramPut (m : List Host.Cell) (a : Nat) : Bytes → List Host.Cell
  | [] => m
  | b :: bs => ramPut (ramWrite m a b) (a + 1) bs

/-- The canonical form of the DRAM list: addresses strictly rising, no entry of 0. -/
def ramWf (m : List Host.Cell) : Bool := Table.wf m && m.all (fun c => c.2 != 0)

namespace Dev

/-- Entry i of the capacity figures in force since the last boot (R375). -/
def cap (d : Dev) (i : Nat) : Nat := d.mem.config.getD i 1

/-- Check bytes of a page: 8, 16 or 32 (Table 15.2). -/
def checkLen (d : Dev) : Nat := 4 * 2 ^ d.cap 0

/-- Data pages of a block: 31, 15 or 7 (Table 15.2). -/
def blockPages (d : Dev) : Nat := 2 ^ (6 - d.cap 0) - 1

/-- Bytes of a block. -/
def blockSize (d : Dev) : Nat := 256 * (d.blockPages + 1)

/-- Fitted capacity in bytes (R349). -/
def fitted (d : Dev) : Nat := 4 * (32 / d.cap 2) * (d.cap 3 * 134217728) * d.cap 4

/-- Usable capacity in bytes (R354). -/
def usable_ (d : Dev) : Nat := d.fitted / d.blockSize * d.blockPages * 256

/-- Physical address of a usable one (R354). -/
def physical (d : Dev) (a : Nat) : Nat :=
  a / (256 * d.blockPages) * d.blockSize + a % (256 * d.blockPages)

/-- Subchannel (channel * 2 + subchannel) of a block, by the address order (Table 15.1). -/
def subOf (d : Dev) (b : Nat) : Nat :=
  if d.cap 1 == 0 then b / (d.fitted / d.blockSize / 4) else b / 2 % 2 * 2 + b % 2

/-- Block k of a subchannel in ascending physical address. -/
def blockOf (d : Dev) (sub k : Nat) : Nat :=
  if d.cap 1 == 0 then sub * (d.fitted / d.blockSize / 4) + k else 4 * k + sub

/-- Channel of a physical address. -/
def channelOf (d : Dev) (p : Nat) : Nat := d.subOf (p / d.blockSize) / 2

/-- The remap entry (1 to 64) that holds a page (0x280C). -/
def remapOf (d : Dev) (p : Nat) : Option Nat :=
  (d.mem.spare.keysWhere (fun e _ => bits (d.g 0x280C e) 36 0 == p && bit (d.g 0x280C e) 63)).head?

end Dev

namespace State

/-- Data and check bytes of the page at physical address p, as DRAM holds them (R354). -/
def rawPage (s : State) (p : Nat) : Bytes × Bytes :=
  let b := p / s.dev.blockSize * s.dev.blockSize
  let i := (p - b) / 256
  (ramBytes s.dram p 256, ramBytes s.dram (b + 256 * s.dev.blockPages + s.dev.checkLen * i) s.dev.checkLen)

/-- A page written to DRAM with given check bytes. -/
def putRaw (s : State) (p : Nat) (data check : Bytes) : State :=
  let b := p / s.dev.blockSize * s.dev.blockSize
  let i := (p - b) / 256
  { s with dram := ramPut (ramPut s.dram p data) (b + 256 * s.dev.blockPages + s.dev.checkLen * i) check }

/-- The page's data and class, from its remap entry where it has one (R356, R365). -/
def readPage (s : State) (p : Nat) : Bytes × PageClass :=
  match s.dev.remapOf p with
  | some e =>
    let (b, bad) := s.dev.mem.spare.get ([], false) e
    (b, if bad then .poison else .clean)
  | none =>
    let (b, c) := s.rawPage p
    (b, classify s.dev.checkLen b c)

/-- A page stored, clean or poisoned, in its remap entry where it has one (R358, R359, R365). -/
def storePage (s : State) (p : Nat) (data : Bytes) (poison : Bool) : State :=
  match s.dev.remapOf p with
  | some e =>
    let d := s.dev
    let d := { d with mem := { d.mem with spare := d.mem.spare.set e (data, poison) } }
    { s with dev := d.put 0x280C e (setBit (d.g 0x280C e) 62 poison) }
  | none =>
    let c := pageCheck s.dev.checkLen data
    s.putRaw p data (if poison then c.map (fun b => ~~~b) else c)

/-- Device changed by `f`. -/
def onDev (s : State) (f : Dev → Dev) : State := { s with dev := f s.dev }

/-- A page is moved into a free entry of its channel, or counted as not remapped (R364 to R366). -/
def remap (s : State) (p : Nat) : State :=
  let d := s.dev
  let ch := d.channelOf p
  if (d.remapOf p).isSome then s
  else match (List.range 32).find? (fun i => !bit (d.g 0x280C (32 * ch + i + 1)) 63) with
    | none =>
      let due := match d.mem.fullAt.find? ch with
        | some t => decide (t + 86400000000000 ≤ d.t)
        | none => true
      let d := d.bump 0x280C 0x41
      if due then { s with dev := ({ d with mem := { d.mem with fullAt := d.mem.fullAt.set ch d.t } } : Dev).raise 87 }
      else { s with dev := d }
    | some i =>
      let e := 32 * ch + i + 1
      let (b, c) := s.readPage p
      let (data, bad) := match c with
        | .corrected x _ _ => (x, false)
        | .clean => (b, false)
        | _ => (b, true)
      let d := { d with mem := { d.mem with spare := d.mem.spare.set e (data, bad), cleared := d.mem.cleared.filter (fun x => x != p) } }
      let v := 2 ^ 63 + (if bad then 2 ^ 62 else 0) + p
      let d := (d.put 0x280C e v).minorL2 86
      let d := (d.consume (10 + ch)).substitute (10 + ch)
      { s with dev := d.saveNv { kind := 1, obj := e, val := v } }

end State

namespace Dev

/-- The leaky bucket of a channel takes one unit (R370). -/
def bucketAdd (d : Dev) (ch : Nat) : Dev :=
  let level := d.cnt 0x2808 (9 + ch)
  let since := d.mem.since.get 0 ch + 1
  if decide (d.g 0x2806 (1 + ch) < level + 1) then
    let d := { d with mem := { d.mem with since := d.mem.since.set ch 0 } }
    (d.put 0x2808 (9 + ch) 0).raise 84 0 0xFF (ch * 2 ^ 24 + min since 0xFFFFFF)
  else ({ d with mem := { d.mem with since := d.mem.since.set ch since } } : Dev).put 0x2808 (9 + ch) (level + 1)

/-- The last error of 0x2808:0B. -/
def lastError (d : Dev) (kind symbols p : Nat) : Dev := d.put 0x2808 0x0B (kind * 2 ^ 56 + symbols * 2 ^ 48 + p)

/-- Distinct days on which the page was corrected within the last 30, this one with them (R445). -/
def pageDay (d : Dev) (ch p : Nat) : Dev × Nat :=
  let today := d.t / 86400000000000
  let old := match d.mem.pageDays.find? (fun x => x.1 == ch && x.2.1 == p) with
    | some x => x.2.2
    | none => []
  let days := today :: old.filter (fun y => y != today && decide (today < y + 30))
  let rest := d.mem.pageDays.filter (fun x => !(x.1 == ch && x.2.1 == p))
  let mine := rest.filter (fun x => x.1 == ch)
  let rest := if decide (256 ≤ mine.length) then (match mine with
    | o :: _ => rest.erase o
    | [] => rest) else rest
  ({ d with mem := { d.mem with pageDays := rest ++ [(ch, p, days)] } }, days.length)

/-- A page of a channel has been corrected: counts, bucket, the tally's memory (R370, R445, 0x2808). -/
def countCorrected (d : Dev) (ch p n : Nat) : Dev :=
  let d := ((d.bump 0x2808 (1 + ch)).bumpBy 0x2808 (3 + ch) n 64).lastError 1 n p
  let d := { d with mem := { d.mem with recent := (ch, d.t) :: d.mem.recent.filter (fun x => decide (d.t < x.2 + 86400000000000)) } }
  d.bucketAdd ch

/-- The reactions of Table 15.4 to POISON, and R363 for both copies of a committed object. -/
def poisonReaction (d : Dev) (u : PageUser) : Dev :=
  match u with
  | .free => d
  | .frame kind tile => d.tileLost kind tile
  | .checkpoint bar => { d with jobs := { d.jobs with checkpoints := (match d.jobs.checkpoints.find? (fun c => c.bar == bar) with
      | some c => d.jobs.checkpoints.erase c
      | none => d.jobs.checkpoints) } }
  | .historyState _ => d
  | .graphic tile => { d with jobs := { d.jobs with decoded := d.jobs.decoded.erase tile } }
  | .prediction bar rep => { d with jobs := { d.jobs with preds := d.jobs.preds.map (fun (p : Pred) =>
      if p.bar == bar && p.rep == rep then { p with poisoned := true } else p) } }
  | .cells cam => d.putDom (0x6430 + cam) []
  | .exported cam n => match d.jobs.exports.find? (fun e => e.cam == cam && e.frameNo == n) with
    | some e => d.dropExport e
    | none => d
  | .encoderState cam => match d.jobs.exports.find? (fun e => e.cam == cam && e.waiting.isSome) with
    | some e => d.dropExport e
    | none => d
  | .objectCopy ctx _ _ both =>
    if both then
      let d := d.raise 85 0 0xFF 0xFFFFFFFF
      -- R416: both copies lost.
      match ctx with
      | some c =>
        if (d.ctx c).code == 4 && !(d.changes.any (fun x => x.ctx == c)) then (d.setCtx c {}).raiseAt 0x10 12 0 0xFF 0
        else d.fault 4 12 0xFF 0 0
      | none => d.fault 4 12 0xFF 0 0
    else d
  | .warmState slot => { d with fl := { d.fl with savePoison := setBit d.fl.savePoison slot true } }

end Dev

namespace State

/-- A page is read by a port, or by the scrubber: its class acts, and the requester's data or POISON results (R356, R357,
R364, R368, R371). -/
def access (s : State) (p : Nat) (user : PageUser) (scrub : Bool) : State × Option Bytes :=
  let ch := s.dev.channelOf p
  let first := scrub && s.dev.mem.cleared.contains p
  let s := if first then s.onDev (fun d => { d with mem := { d.mem with cleared := d.mem.cleared.filter (fun x => x != p) } }) else s
  match s.readPage p with
  | (b, .clean) => (s, some b)
  | (_, .corrected x n _) =>
    let s := s.onDev (fun d => d.countCorrected ch p n)
    let s := s.storePage p x false
    let again := scrub && (s.dev.mem.prevLap.get [] ch).contains p
    let s := if scrub then s.onDev (fun d =>
        let l := d.mem.thisLap.get [] ch ++ [p]
        { d with mem := { d.mem with thisLap := d.mem.thisLap.set ch (l.drop (l.length - 256)) } }) else s
    let (d, days) := s.dev.pageDay ch p
    let s := { s with dev := d }
    let trend := days == d.g 0x2E00 4
    let due := decide (d.checkLen / 4 < n) || again || first || trend
    let s := if due && (d.remapOf p).isNone then
        (if trend then s.onDev (fun d => d.bump 0x2E0B (3 + ch)) else s).remap p
      else s
    (s, some x)
  | (b, .uncorrectable) =>
    let s := s.onDev (fun d => ((d.bump 0x2808 (5 + ch)).lastError 2 0 p).raise 85 0 0xFF (p / 256 % 4294967296))
    let s := s.storePage p b true
    let s := if first then s.remap p else s
    (s.onDev (fun d => d.poisonReaction user), none)
  | (_, .poison) =>
    let s := s.onDev (fun d => (d.bump 0x2808 (7 + ch)).lastError 3 0 p)
    let s := if first then s.remap p else s
    (s.onDev (fun d => d.poisonReaction user), none)

/-- A whole-page write: fresh check bytes; poison is cleared and the page's next scrub looked at (R358, R360, R364). -/
def writePage (s : State) (p : Nat) (data : Bytes) : State :=
  let was := match (s.readPage p).2 with
    | .poison => true
    | _ => false
  let s := s.storePage p (slice data 0 256) false
  if was && !s.dev.mem.cleared.contains p then s.onDev (fun d => { d with mem := { d.mem with cleared := d.mem.cleared ++ [p] } }) else s

/-- New bytes over old ones from an offset of a page. -/
def mergeBytes (old : Bytes) (off : Nat) (new_ : Bytes) : Bytes :=
  (old.take off ++ new_ ++ old.drop (off + new_.length)).take 256

/-- A partial write (Table 15.3). -/
def mergePage (s : State) (p off : Nat) (data : Bytes) : State :=
  let ch := s.dev.channelOf p
  match s.readPage p with
  | (b, .clean) => s.storePage p (mergeBytes b off data) false
  | (_, .corrected x n _) => (s.onDev (fun d => d.countCorrected ch p n)).storePage p (mergeBytes x off data) false
  | (b, .uncorrectable) =>
    (s.onDev (fun d => ((d.bump 0x2808 (5 + ch)).lastError 2 0 p).raise 85 0 0xFF (p / 256 % 4294967296))).storePage p (mergeBytes b off data) true
  | (b, .poison) => s.storePage p (mergeBytes b off data) true

/-- The scrubber reads the pages of one block (R367, R368). -/
def scrubBlock (s : State) (b : Nat) (user : PageUser) : State :=
  (List.range s.dev.blockPages).foldl (fun s i => (s.access (b * s.dev.blockSize + 256 * i) user true).1) s

/-- A lap ends when every subchannel has read all its blocks (R367, R369). -/
def lapEnd (s : State) : State :=
  let d := s.dev
  let k := d.fitted / d.blockSize / 4
  if (List.range 4).all (fun i => decide (k ≤ d.mem.next.get 0 i)) then
    let d := (d.bump 0x280A 1).put 0x280A 2 ((d.t - d.mem.lapStart) / 1000000000)
    { s with dev := { d with mem := { d.mem with next := [], lapStart := d.t, starved := false, prevLap := d.mem.thisLap, thisLap := [] } } }
  else s

end State

namespace Dev

/-- Lap in progress, 0.1 % (0x280A:03). -/
def lapPart (d : Dev) : Nat :=
  ((List.range 4).map (fun i => d.mem.next.get 0 i)).sum * 1000 / max (d.fitted / d.blockSize) 1

/-- The device waits for its DRAM: every port is admitted (R350). -/
def dramUp (d : Dev) : Bool := d.fast

/-- A write of 0x280E: the page to remap, or the abort code (R366, Table 15.7). -/
def remapCheck (d : Dev) (p : Nat) : Nat :=
  if p % 256 != 0 then 0x06090030
  else if decide (d.fitted ≤ p) then 0x06090031
  else if (d.remapOf p).isNone && (List.range 32).all (fun i => bit (d.g 0x280C (32 * d.channelOf p + i + 1)) 63) then 0x0F000061
  else 0

/-- T of an engine port in ns: f times the rendered-line period of the bar it serves, clamped to 0.2 to 250 µs (R372). -/
def engineTarget (d : Dev) (e : Nat) : Nat :=
  match d.barOf e with
  | none => 250000
  | some n =>
    let f := d.g 0x2802 2
    let alt := if (d.bar n).alternate then 2 else 1
    if d.lineRate == 0 then 250000 else min 250000 (max 200 (1000000000 * alt * f / (256 * d.lineRate)))

/-- Latency target of a port in ns (Table 15.5); the scrubber has none. -/
def portTarget (d : Dev) (p : Nat) : Option Nat :=
  if decide (p < 9) then some ((d.mem.targets.find? p).getD (d.engineTarget p))
  else if decide (p < 16) then some (1000 * d.g 0x2802 (p - 6)) else none

/-- Urgency of a request of an age against its port's target (R373). -/
def urgency (a t : Nat) : Nat := if decide (2 * a < t) then 0 else if decide (4 * a < 3 * t) then 1 else if decide (a < t) then 2 else 3

/-- A request of urgency 3 is counted for its port; an engine port's raises EV_DRAM_OVERDUE at most once per second (R373). -/
def overdue (d : Dev) (port age : Nat) : Dev :=
  if (d.portTarget port).any (fun t => urgency age t == 3) then
    let d := d.bump 0x2810 (port + 1)
    if decide (port < 9) then d.raiseLimited 1000000000 89 0 0xFF 0 else d
  else d

/-- Every printing bar holds at least 16 rendered lines beyond its last fired line (R351). -/
def renderedAhead (d : Dev) : Bool :=
  !d.printingLike || d.barList.all (fun n => (d.bar n).ctx.isNone || decide ((d.bar n).next + 16 ≤ (d.bar n).rend))

end Dev

/-- PAGE_READ of a usable address by a port's requester (R356, R373). -/
def execPageRead (port : Nat) (addr : Nat) (ask : PageAsk) (s : State) : Host.Outcome State Fault Refusal :=
  if decide (s.dev.usable_ ≤ addr) then .fault (.noSuchPage addr)
  else
    let s := { s with dev := s.begin_.overdue port ask.age }
    let p := s.dev.physical (addr / 256 * 256)
    let (s', r) := s.access p ask.user false
    (s'.onDev (fun d => if decide (port ≤ 16) then d.emit (.pageData addr r) else d)).sent

/-- PAGE_WRITE of one whole page (R358, R360). -/
def execPageWrite (addr : Nat) (data : Bytes) (s : State) : Host.Outcome State Fault Refusal :=
  let s := { s with dev := s.begin_ }
  if decide (s.dev.usable_ ≤ addr) then .fault (.noSuchPage addr)
  else (s.writePage (s.dev.physical (addr / 256 * 256)) data).sent

/-- PARTIAL_WRITE of bytes within one page (R359). -/
def execPartialWrite (addr off : Nat) (data : Bytes) (s : State) : Host.Outcome State Fault Refusal :=
  let s := { s with dev := s.begin_ }
  if decide (s.dev.usable_ ≤ addr) then .fault (.noSuchPage addr)
  else (s.mergePage (s.dev.physical (addr / 256 * 256)) (off % 256) (data.take (256 - off % 256))).sent

/-- REMAP_COMMAND: a write of 0x280E:00 (R364, R366). -/
def execRemapCommand (sess addr : Nat) (s : State) : Host.Outcome State Fault Refusal :=
  let d0 := s.begin_
  let act := match d0.session? sess with
    | some x => x.port == 0 && d0.sys.verified && d0.com.op.isNone && !d0.gated 0x280E && d0.remapCheck addr == 0
    | none => false
  let s1 := if act then ({ s with dev := d0 } : State).remap addr else { s with dev := d0 }
  let code := d0.remapCheck addr
  (s1.onDev (fun d => d.request sess 0x280E (fun d => (d, code)))).sent

/-- SCRUB_READ of the next block of a subchannel (R367 to R369). It waits once its subchannel has been read in this lap. -/
def execScrubRead (sub : Fin 4) (user : PageUser) (s : State) : Host.Outcome State Fault Refusal :=
  let s := { s with dev := s.begin_ }
  let k : Nat := sub
  let i := s.dev.mem.next.get 0 k
  if decide (s.dev.fitted / s.dev.blockSize / 4 ≤ i) || !s.dev.fast then s.sent
  else
    let s := s.scrubBlock (s.dev.blockOf k i) user
    ((s.onDev (fun d => { d with mem := { d.mem with next := d.mem.next.set k (i + 1) } })).lapEnd).sent

/-- SCRUB_STARVED (R369). -/
def execScrubStarved (s : State) : Host.Outcome State Fault Refusal :=
  let d := s.begin_
  s.done (if d.mem.starved || d.g 0x2804 2 == 0 then d
    else (({ d with mem := { d.mem with starved := true } } : Dev).bump 0x280A 4).raise 88)

/-- BUCKET_LEAK (R370). -/
def execBucketLeak (ch : Fin 2) (s : State) : Host.Outcome State Fault Refusal :=
  let d := s.begin_
  let c : Nat := ch
  s.done (d.put 0x2808 (9 + c) (d.cnt 0x2808 (9 + c) - 1))

/-- DRAM_REFRESH: refresh takes precedence over every port and changes nothing a command can read (R351). -/
def execDramRefresh (_sub : Fin 4) (s : State) : Host.Outcome State Fault Refusal := s.done s.begin_

/-- DRAM_TARGET_RECOMPUTE (R372). -/
def execDramTargetRecompute (s : State) : Host.Outcome State Fault Refusal :=
  let d := s.begin_
  s.done { d with mem := { d.mem with targets := (List.range 9).foldl (fun t e => t.set e (d.engineTarget e)) d.mem.targets } }

end Sys2Proof.Machine
end

