-- ==== Sys2Proof/Machine/Light.lean ====
section
/-! DEFINITION. Illumination and UV pinning: levels, curves, PWM, fades, strobes, the light loop and the interlock
(chapter 13). -/
namespace Sys2Proof.Machine

open Sys2Proof

/-- The least t below `hi` that satisfies a monotone test, by halving. -/
def least (p : Nat → Bool) : Nat → Nat → Nat → Nat
  | 0, lo, _ => lo
  | f + 1, lo, hi =>
    if decide (hi ≤ lo) then lo
    else
      let m := (lo + hi) / 2
      if p m then least p f lo m else least p f (m + 1) hi

/-- round(65,535 × (v ÷ 65,535)^2.2): the least t with t + 1/2 above it (R322). -/
def gammaPoint (v : Nat) : Nat := least (fun t => decide (32 * v ^ 11 < (2 * t + 1) ^ 5 * 65535 ^ 6)) 17 0 65535

/-- round(65,535 × (1,024^(v ÷ 65,535) − 1) ÷ 1,023): the least t with t + 1/2 above it (R322). -/
def logPoint (v : Nat) : Nat :=
  least (fun t => decide (2 ^ (2 * v) * 131070 ^ 13107 < (131070 + (2 * t + 1) * 1023) ^ 13107)) 17 0 65535

/-- Interpolation of a curve table with points `q` apart (R322). -/
def curveAt (t : Nat → Nat) (q x : Nat) : Nat :=
  let i := x / q
  let a : Int := (t i : Nat)
  let b : Int := (t (i + 1) : Nat)
  (a + Int.fdiv ((b - a) * ((x % q : Nat) : Int) + (q / 2 : Nat)) q).toNat

/-- A 4-bit number with its bits reversed (R324). -/
def rev4 (p : Nat) : Nat := bits p 0 0 * 8 + bits p 1 1 * 4 + bits p 2 2 * 2 + bits p 3 3

/-- Active cycles of period p for a trimmed duty (R324). -/
def pwmCycles (duty p : Nat) : Nat := duty / 16 + (if decide (rev4 p < duty % 16) then 1 else 0)

/-- Strobe width in 5 ns steps (R326). -/
def strobeWidth (wmax duty : Nat) : Nat := (wmax * duty + 32767) / 65535

namespace Dev

/-- LED channel i. -/
def led (d : Dev) (i : Nat) : Led := d.light.leds.get { phase := i } i

/-- LED channel i set. -/
def setLed (d : Dev) (i : Nat) (l : Led) : Dev := { d with light := { d.light with leds := d.light.leds.set i l } }

/-- Linear duty of a level under a channel's curve (R322). -/
def duty (d : Dev) (i curve x : Nat) : Nat :=
  if x == 0 then 0
  else match curve with
    | 0 => x
    | 1 => curveAt (fun k => gammaPoint (min (64 * k) 65535)) 64 x
    | 2 => curveAt (fun k => logPoint (min (64 * k) 65535)) 64 x
    | _ =>
      let t (k : Nat) : Nat := match d.dict.doms.find? (0x6500 + i) with
        | some b => u16 b k
        | none => min (1024 * k) 65535
      curveAt t 1024 x

/-- The light group of a channel, when it has one. -/
def groupOfLed (d : Dev) (i : Nat) : Option Nat := let g := d.g 0x3C03 (i + 1); if g == 0xFF then none else some g

/-- Trim k of a group (0x3C2A). -/
def trimK (d : Dev) (g : Nat) : Nat := d.g 0x3C2A (g + 1)

/-- Trimmed duty (R323). -/
def trimmed (d : Dev) (i duty : Nat) : Nat :=
  min 65535 (duty * (match d.groupOfLed i with
    | some g => d.trimK g
    | none => 4096) / 4096)

/-- The channel is held off by the latched interlock (R330). -/
def uvOff (d : Dev) (i : Nat) : Bool := d.light.uvLatched && bit (d.g 0x3C04 0) i

/-- Present level of a fade, in a straight line (R325); a fraction is dropped (the spec names no rounding). -/
def fadeLevel (l : Led) (t : Nat) : Nat :=
  let e := (t - l.fadeAt)
  if decide (l.fadeMs * 1000000 ≤ e) then l.target
  else (Int.fdiv ((l.fadeFrom : Int) * ((l.fadeMs * 1000000 : Nat) : Int) + ((l.target : Int) - (l.fadeFrom : Int)) * (e : Int))
    ((l.fadeMs * 1000000 : Nat) : Int)).toNat

/-- A fade to the target starts from the present level (R325). -/
def startFade (d : Dev) (i target : Nat) : Dev :=
  let l := d.led i
  d.setLed i { l with fadeFrom := l.level, fadeAt := d.t, fadeMs := d.g 0x3C21 (i + 1), target := target }

/-- One channel at a period start: settings in force, level, and its active cycles (R324, R325). -/
def ledPeriod (d : Dev) (p i : Nat) : Dev :=
  let l := d.led i
  let lv := if d.uvOff i then 0 else fadeLevel l d.t
  let l := { l with level := lv, mode := d.g 0x3C00 (i + 1), curve := d.g 0x3C01 (i + 1), phase := d.g 0x3C02 (i + 1) }
  let n := if l.mode == 1 then pwmCycles (d.trimmed i (d.duty i l.curve lv)) p else 0
  (d.setLed i { l with cycles := n, first := 4096 * l.phase / 48 }).put 0x3C28 (i + 1) lv

/-- A compare pulse lights the strobe channels of its unit (R326). -/
def ledStrobes (d : Dev) (unit : Nat) : Dev :=
  (List.range 48).foldl (fun d i =>
    let l := d.led i
    if l.mode == 2 && d.g 0x3C09 (i + 1) == unit && !d.uvOff i then
      let w := strobeWidth (d.g 0x3C0B (i + 1)) (d.trimmed i (d.duty i l.curve l.level))
      if w == 0 then d
      else
        let st := d.t / 5 + d.g 0x3C0A (i + 1)
        let d := d.setLed i { l with until_ := max l.until_ (st + w) }
        if !d.drives then d else d.emit (.ledStrobe i (d.g 0x3C0A (i + 1)) w)
    else d) d

/-- Channels of a light group. -/
def groupLeds (d : Dev) (g : Nat) : List Nat := (List.range 48).filter (fun i => d.groupOfLed i == some g && d.g 0x3C00 (i + 1) != 0)

/-- The group is steady (R328). -/
def steady (d : Dev) (g : Nat) : Bool :=
  let ls := d.groupLeds g
  !ls.isEmpty && ls.all (fun i =>
    let l := d.led i
    l.level == l.target && l.level != 0 && decide (l.fadeAt + l.fadeMs * 1000000 ≤ d.t) && !d.uvOff i)

/-- A group's trim is set; the active device mirrors it (R328, R333). -/
def putTrim (d : Dev) (g k : Nat) : Dev :=
  (d.put 0x3C2A (g + 1) k).mirror { kind := 15, barMask := g, repeatNo := 0, line := 0, value := k }

/-- The loop's update of k, and EV_LIGHT_LIMIT on entry into the clamp (R328). -/
def updateTrim (d : Dev) (g m : Nat) : Dev :=
  let s := d.g 0x3C06 (g + 1)
  let gain := d.g 0x3C07 (g + 1)
  if gain == 0 || d.role == 2 then d
  else
    let k : Int := (d.trimK g : Int) + Int.fdiv ((gain : Int) * ((s : Int) - (m : Int)) * 4096) ((65536 * s : Nat) : Int)
    let out := decide (k < 2048 ∨ 8192 < k)
    let entering := out && !d.light.limited.contains g
    let d := d.putTrim g (clampInt k 2048 8192).toNat
    let d := { d with light := { d.light with limited := if out then (if entering then g :: d.light.limited else d.light.limited) else d.light.limited.filter (fun x => x != g) } }
    if entering then d.raise 74 else d

/-- The deviation count of a steady group, and its event after 16 measurements, at most once a second (R329). -/
def deviation (d : Dev) (g m : Nat) : Dev :=
  let s := d.g 0x3C06 (g + 1)
  let far := decide (d.g 0x3C08 (g + 1) < max (s - m) (m - s))
  let n := if far then d.light.deviating.get 0 g + 1 else 0
  let d := { d with light := { d.light with deviating := d.light.deviating.set g n } }
  let due := match d.light.deviatedAt.find? g with
    | some t => n == 16 || decide (t + 1000000000 ≤ d.t)
    | none => true
  if decide (16 ≤ n) && due then
    let d := { d with light := { d.light with deviatedAt := d.light.deviatedAt.set g d.t } }
    (d.raise 75).bump 0x3C2C (g + 1)
  else d

/-- LED_EN is high: the model takes it so from 200 ns after it was last low. -/
def ledEn (d : Dev) : Bool := decide (d.light.ledLow + 200 < d.t)

/-- 0x3C2B: LED_EN and the latch. -/
def interlock (d : Dev) : Nat := (if d.ledEn then 1 else 0) + (if d.light.uvLatched then 2 else 0)

/-- A write of a target level (R325). -/
def writeTarget (d : Dev) (i level : Nat) : Dev × Nat :=
  ((d.put 0x3C20 (i + 1) (level % 65536)).startFade i (level % 65536), 0)

/-- A write of 0x3C22 (R331). -/
def writeUvClear (d : Dev) (value : Nat) : Dev × Nat :=
  if value == 0 then (d, 0)
  else if value != 1 then (d, 0x06090030)
  else if decide (d.light.ledLow + 10000000 ≤ d.t) then
    let d := { d with light := { d.light with uvLatched := false } }
    ((List.range 48).foldl (fun d i => if bit (d.g 0x3C04 0) i then d.startFade i (d.g 0x3C20 (i + 1)) else d) d, 0)
  else (d, 0x0F000052)

/-- The light block as its domain starts (13, R13): every level 0, the trims and commands kept. -/
def lightStart (d : Dev) : Dev :=
  let d := { d with light := { d.light with leds := [], period := 0, deviating := [] } }
  (List.range 48).foldl (fun d i => (d.put 0x3C28 (i + 1) 0).put 0x3C20 (i + 1) 0) d

end Dev

/-- PWM_PERIOD (R324, R325). -/
def execPwmPeriod (s : State) : Host.Outcome State Fault Refusal :=
  let d := s.begin_
  let p := d.light.period
  s.done (if !d.fast then d else
    let d := (List.range 48).foldl (fun d i => d.ledPeriod p i) d
    { d with light := { d.light with period := (p + 1) % 16 } })

/-- TARGET_LEVEL_WRITE (R325). -/
def execTargetLevelWrite (sess : Nat) (led : Fin 48) (level : Nat) (s : State) : Host.Outcome State Fault Refusal :=
  s.hostWrite sess 0x3C20 (fun d => d.writeTarget led level)

/-- LIGHT_MEASUREMENT: the mean of the dark-corrected samples (R327 to R329). -/
def execLightMeasurement (g : Fin 8) (samples : List Nat) (s : State) : Host.Outcome State Fault Refusal :=
  let d := s.begin_
  let k : Nat := g
  let item := if d.g 0x3C05 (k + 1) == 1 then 4 else 5
  let dark := (d.cal.values.get 0 (item * 256 + k)).toNat
  let m := ((samples.map (fun x => x - dark)).sum) / max samples.length 1
  s.done (if samples.isEmpty || !d.fast then d else
    let d := d.put 0x3C29 (k + 1) (min m 65535)
    if d.steady k then (d.updateTrim k m).deviation k m else d)

/-- LED_EN_LOW: the UV channels are forced off and the latch set (R330). -/
def execLedEnLow (s : State) : Host.Outcome State Fault Refusal :=
  let d := s.begin_
  let d := { d with light := { d.light with uvLatched := true, ledLow := d.t } }
  let d := (List.range 48).foldl (fun d i => if bit (d.g 0x3C04 0) i then
    (d.setLed i { d.led i with level := 0, cycles := 0, until_ := 0 }).put 0x3C28 (i + 1) 0 else d) d
  s.done (d.raise 76)

/-- UV_LATCH_CLEAR (R331). -/
def execUvLatchClear (sess value : Nat) (s : State) : Host.Outcome State Fault Refusal :=
  s.hostWrite sess 0x3C22 (fun d => d.writeUvClear value)

end Sys2Proof.Machine
end

