-- ==== Sys2Proof/Machine/Domains.lean ====
section
/-! DEFINITION. Fast domains stopping (R13, R428, R469), and NV writes of class 3 (R432, R465). -/
namespace Sys2Proof.Machine

open Sys2Proof

namespace Dev

/-- Every fast domain stops: lanes idle, cameras, DMA queues and the PCIe registers reset, LEDs off, the twin link and the
pair's role given up; the DRAM keeps what it holds (R13, R469). -/
def fastStop (d : Dev) : Dev :=
  let d := d.lanesOff
  let d := (List.range 48).foldl (fun d i => (d.setLed i { d.led i with level := 0, cycles := 0, until_ := 0 }).put 0x3C28 (i + 1) 0) d
  let d := if d.role == 0 then d else (d.put 0x2C08 1 0).put 0x2C08 2 0
  { d with
    jobs := { d.jobs with
      queues := [], link := false, paused := true, enumerated := false, bar0 := 0, d2hFull := false, d2hWait := []
      msixTable := [], msixPending := 0, mbIn := [], mbOut := [] }
    cams := d.cams.mapVal (fun _ c => { c with frame := none, queue := [], cci := [], seq := 0 })
    twin := { d.twin with linked := false, unacked := [], pledges := [], partner := none, retryForm := false, fetches := [], hbOutStopped := true, aligned := false }
    sys := { d.sys with preparing := false } }

/-- A long operation of class 3 writes records to NV, or ends at once with its records staged (R432). -/
def nvOp (d : Dev) (sess : Nat) (rs : List NvRec) : Dev :=
  let d := d.beginOp 3 sess 0
  if d.nvOpen && d.nv.staged.isEmpty then { d with nv := { d.nv with writing := d.nv.writing ++ rs } }
  else (rs.foldl stageNv d).endOp 0x0F000070

/-- A record reaches the NV store, in place of an older copy (R446). -/
def storeNv (d : Dev) (r : NvRec) : Dev :=
  let rest := d.nv.stored.filter (fun x => !(x.kind == r.kind && x.obj == r.obj))
  { d with nv := { d.nv with stored := rest ++ [r] } }

/-- The sector in use with the fewest erases (R446). -/
def nextSector (d : Dev) : Nat :=
  ((List.range 80).filter (fun k => decide (k < 80 - d.nv.spares) && !d.nv.retired.contains k)).foldl (fun (b : Nat) k =>
    if decide (d.nv.erases.get 0 k < d.nv.erases.get 0 b) || d.nv.retired.contains b then k else b) 0

/-- A sector is retired; a spare takes its place where one is left (R447). -/
def retireSector (d : Dev) (k : Nat) : Dev :=
  let d := { d with nv := { d.nv with retired := d.nv.retired ++ [k] } }
  if d.nv.spares == 0 then d.put 0x2E0C 3 (d.g 0x2E0C 3 - 1)
  else
    let d := { d with nv := { d.nv with spares := d.nv.spares - 1 } }
    let d := (d.minorL2 116).consume 14
    (d.substitute 14).saveNv { kind := 14, obj := k, val := d.nv.spares }

/-- An erase of the sector with the fewest erases, when the log needs one (R446, 0x2E0C). -/
def eraseSector (d : Dev) : Dev :=
  let k := d.nextSector
  let n := d.nv.erases.get 0 k + 1
  let d := { d with nv := { d.nv with erases := d.nv.erases.set k n } }
  let d := (d.put 0x2E0C 1 (max n (d.g 0x2E0C 1))).bumpBy 0x2E0C 2 1 64
  if decide (100000 ≤ n) then d.retireSector k else d

/-- An NV program that failed to verify: its sector is retired and the record written again, or the write fails and the
previous copy stays (R447). -/
def nvFailed (d : Dev) (r : NvRec) (rest : List NvRec) : Dev :=
  if d.nv.spares == 0 then
    let d := { d with nv := { d.nv with writing := rest } }
    let old := d.nv.stored.find? (fun x => x.kind == 8)
    let d := match old with
      | some o => ({ d with nv := { d.nv with stored := d.nv.stored.erase o } } : Dev).bump 0x2E0C 4
      | none => d
    if r.kind == 8 then d.bump 0x2E0C 4 else d.raise 15
  else (({ d with nv := { d.nv with writing := r :: rest } } : Dev).retireSector d.nextSector)

/-- THERM_N is released once the shutdown record is in NV (R429). -/
def recordWritten (d : Dev) (r : NvRec) : Dev :=
  if r.kind == 5 then { d with pins := { d.pins with thermN := false }, therm := { d.therm with recordUnwritten := false } } else d

end Dev

/-- NV_STAGED_WRITE: the oldest staged record begins its write once the window is open (R431, R432). -/
def execNvStagedWrite (s : State) : Host.Outcome State Fault Refusal :=
  let d := s.begin_
  s.done (match d.nv.staged with
    | [] => d
    | r :: rest =>
      if d.nvOpen && d.nv.writing.isEmpty then { d with nv := { d.nv with staged := rest, writing := [r] } } else d)

/-- NV_WRITE_COMPLETE: the record is stored, or its sector spared; the last record of a class 3 operation ends it, with
EV_CONFIG_SAVED, which a saved configuration or boot object written later from the staging area raises too (R431, R432,
R447, R465). -/
def execNvWriteComplete (ok : Bool) (s : State) : Host.Outcome State Fault Refusal :=
  let d := s.begin_
  s.done (match d.nv.writing with
    | [] => d
    | r :: _ =>
      let erases := d.freeNat % 2 == 1
      let d := if erases then d.drew.eraseSector else d.drew
      let rest := d.nv.writing.drop 1
      let lost := !ok && d.nv.spares == 0
      let d := if ok then ((({ d with nv := { d.nv with writing := rest } } : Dev).storeNv r).recordWritten r) else d.nvFailed r rest
      let saved (d : Dev) : Dev := if ok && (r.kind == 10 || r.kind == 11) then d.raise 124 else d
      match d.com.op with
      | some o =>
        if o.cls != 3 then saved d
        else if lost then (({ d with nv := { d.nv with writing := [] } } : Dev).drew.endOp (d.freeNat % 4294967296))
        else if d.nv.writing.isEmpty then (d.raise 124).endOp 0
        else d
      | none => saved d)

end Sys2Proof.Machine
end

