-- ==== Sys2Proof/Machine/Thermal.lean ====
section
/-! DEFINITION. Temperature supervision and self-calibration (chapter 18). -/
namespace Sys2Proof.Machine

open Sys2Proof

/-- Spare of a supervisory sensor's group (Table 18.1). -/
def spareOfSite (k : Nat) : Nat :=
  if decide (k ≤ 10) then 28 else if decide (k ≤ 19) then 29 else if decide (k ≤ 23) then 30 else 31

namespace Dev

/-- The sensor whose role k has: the one it replaced, or itself (0x260A). -/
def roleOf (d : Dev) (k : Nat) : Nat := let r := bits (d.g 0x260A (k + 1)) 5 0; if r == 0x3F then k else r

/-- The sensor in service that has role r (R427). -/
def sensorFor (d : Dev) (r : Nat) : Option Nat := (List.range 32).find? (fun k => d.sensorOn k && d.roleOf k == r)

/-- Present reading of a sensor, 0.1 °C. -/
def reading (d : Dev) (k : Nat) : Int := d.gi 16 0x2608 (k + 1)

/-- High warning limit of a sensor in service; TS00 and TS01 have the shutdown limit (R425 to R427). -/
def highLimit (d : Dev) (k : Nat) : Int :=
  if decide (k < 2) then 1250 else d.gi 16 0x2600 (d.roleOf k + 1) - d.therm.guarded.get 0 k

/-- Low warning limit of a supervisory sensor. -/
def lowLimit (d : Dev) (k : Nat) : Int := d.gi 16 0x2601 (d.roleOf k + 1) + d.therm.guarded.get 0 k

/-- A failed sensor: its spare takes its role and guarded limits; with none, or for TS00 and TS01, the fault is taken at L4
(R427). -/
def sensorFailed (d : Dev) (k : Nat) : Dev :=
  let role := d.roleOf k
  let d1 := d.put 0x260A (k + 1) (0x80 + bits (d.g 0x260A (k + 1)) 5 0)
  let free (s : Nat) : Bool := bits (d.g 0x260A (s + 1)) 7 6 == 1
  let own := spareOfSite role
  let pick := if free own then some own else [28, 29, 30, 31].find? free
  if decide (k < 2) then d1.fault 4 106 k 0 0
  else match pick with
    | none => d1.fault 4 106 k 0 0
    | some s =>
      let d := d1.put 0x260A (s + 1) role
      let g := d.therm.guarded.get 0 k + (if s == own then 20 else 50)
      let d := { d with therm := { d.therm with guarded := d.therm.guarded.set s g, bad := d.therm.bad.erase s, prev := d.therm.prev.erase s } }
      let d := ((d.minorL2 106).consume 13).substitute 13
      d.saveNv d.sensorRec

/-- The shutdown record of Table 18.2. -/
def shutdownRecord (d : Dev) (sensor st : Nat) : Bytes :=
  let on := (List.range 32).filter d.sensorOn
  let rise := on.foldl (fun (m : Int) k => max m (d.gi 16 0x2609 (k + 1))) (d.gi 16 0x2609 (on.headD 0 + 1))
  leBytes 8 d.serviceNow ++ leBytes 8 d.t ++ leBytes 8 (d.g 0x2015 1) ++ [byte sensor, byte st] ++ leBytes 2 (ofSigned 16 rise) ++
  leBytes 4 d.fl.top ++ (List.range 32).flatMap (fun k => leBytes 2 (if d.sensorOn k then d.g 0x2608 (k + 1) else 0x8000))

/-- Thermal shutdown (R428, R429). -/
def thermalShutdown (d : Dev) (sensor : Nat) : Dev :=
  let st := d.sys.st.code
  let spoils := d.printingLike
  let d := if d.role == 1 then d.sendHandover 2 else d
  let hot := d.paired && d.g 0x2C00 1 == 2
  let d := d.raise 105
  let d := d.bump 0x2208 7
  let rec_ := d.shutdownRecord sensor st
  let d := (d.put 0x260D 0 (leNat rec_)).stageNv { kind := 5, obj := 0, data := rec_ }
  let d := d.abandonOp 0x0F000011
  let d := if spoils && !hot then d.barList.foldl (fun d n =>
      match d.repAt (d.bar n).next with
      | some r => if decide ((d.bar n).next < r.gapStart d.sheet) then d.spoil r.num n 8 else d
      | none => d) d else d
  let d := (d.printOver.contextsArmed).fastStop
  let d := { d with
    pins := { d.pins with thermN := true, faultN := true }
    therm := { d.therm with shutdown := true, recordUnwritten := true }
    print := { d.print with locked := none, pending := none, progress := none, shown := none, rest := 0 }
    fl := { d.fl with running := [], queued := [] } }
  if d.sys.st = .fault || d.sys.st = .boot || d.sys.st = .off then d else d.enter .fault

/-- One sensor's sample: reading, failure count, window sums and warnings (R425 to R427, R437). -/
def oneSample (d : Dev) (k : Nat) (raw : Option Int) : Dev :=
  if !d.sensorOn k then d
  else
    let x := raw.map (fun r => r + d.therm.trims.get 0 k)
    let prev := d.therm.prev.find? k
    let failing := match x with
      | none => true
      | some r => decide (r < -550 ∨ 1500 < r) || (match prev with
        | some p => decide (50 < (r - p).natAbs)
        | none => false)
    let bad := if failing then d.therm.bad.get 0 k + 1 else 0
    let d := { d with therm := { d.therm with bad := d.therm.bad.set k bad } }
    let d := match x with
      | none => d
      | some r =>
        let (s, n) := d.therm.sums.get (0, 0) k
        let d := { d with therm := { d.therm with prev := d.therm.prev.set k r, sums := d.therm.sums.set k (s + r, n + 1) } }
        let d := d.put 0x2608 (k + 1) (ofSigned 16 r)
        if decide (k < 2) then d
        else
          let hi := d.highLimit k
          let lo := d.lowLimit k
          let d := if decide (hi ≤ r) && !d.therm.warnHigh.contains k then
              ({ d with therm := { d.therm with warnHigh := k :: d.therm.warnHigh } } : Dev).raise 103 0 0xFF k
            else if decide (r ≤ hi - 20) then { d with therm := { d.therm with warnHigh := d.therm.warnHigh.filter (fun y => y != k) } } else d
          if decide (r ≤ lo) && !d.therm.warnLow.contains k then
            ({ d with therm := { d.therm with warnLow := k :: d.therm.warnLow } } : Dev).raise 103 0 0xFF k
          else if decide (lo + 20 ≤ r) then { d with therm := { d.therm with warnLow := d.therm.warnLow.filter (fun y => y != k) } } else d
    if bad == 3 then d.sensorFailed k else d

/-- The sampling rate after a sample (R425). -/
def sampleRate (d : Dev) : Dev :=
  let on := (List.range 32).filter d.sensorOn
  let within (k : Nat) (m : Int) : Bool :=
    let r := d.reading k
    decide (d.highLimit k - m < r) || (decide (2 ≤ k) && decide (r < d.lowLimit k + m))
  let near := on.any (fun k => within k 101)
  let calm := on.all (fun k => !within k 121)
  if near then ({ d with therm := { d.therm with calmSince := none } } : Dev).put 0x260B 0 16000
  else if !calm then { d with therm := { d.therm with calmSince := none } }
  else match d.therm.calmSince with
    | none => { d with therm := { d.therm with calmSince := some d.t } }
    | some t => if decide (t + 1000000000 ≤ d.t) then d.put 0x260B 0 1000 else d

/-- Rate of a sensor over the window that ends, 0.1 °C/s: ten times the difference of the two means (R426). -/
def windowRate (d : Dev) (k : Nat) : Dev :=
  let (s, n) := d.therm.sums.get (0, 0) k
  if !d.sensorOn k || n == 0 then d
  else
    let m : Rat := (s : Rat) / (n : Rat)
    let prev := d.therm.means.find? k
    let d := { d with therm := { d.therm with means := d.therm.means.set k m, sums := d.therm.sums.set k (0, 0) } }
    match prev with
    | none => d
    | some p =>
      let rate : Rat := (m - p) * 10
      let d := d.put 0x2609 (k + 1) (ofSigned 16 (clampInt (roundRat rate) (-32768) 32767))
      if decide (k < 2) then d
      else if (d.g 0x2602 (d.roleOf k + 1) : Rat) ≤ rate then
        if d.therm.warnRise.contains k then d
        else ({ d with therm := { d.therm with warnRise := k :: d.therm.warnRise } } : Dev).raise 104
      else { d with therm := { d.therm with warnRise := d.therm.warnRise.filter (fun y => y != k) } }

/-- Trigger sensor of a calibration unit (Table 18.3); item 1's units are lane subindices less 1, item 2's subchannels. -/
def calTrigger (item unit : Nat) : Nat :=
  if item == 1 then (if decide (72 ≤ unit) then 19 else 11 + unit / 9) else if item == 2 then 20 + unit / 2 else 23

/-- The trigger sensor's reading. -/
def calReading (d : Dev) (item unit : Nat) : Int := match d.sensorFor (calTrigger item unit) with
  | some k => d.reading k
  | none => 0

/-- Key of a calibration unit. -/
def calKey (item unit : Nat) : Nat := item * 256 + unit

/-- The unit exists, and its domain runs (Table 18.3). -/
def calUnit (d : Dev) (item unit : Nat) : Bool :=
  match item with
  | 1 => d.fast && d.lanePresent (unit + 1) && decide (d.laneState (unit + 1) ≠ 0 ∧ d.laneState (unit + 1) ≠ 7)
  | 2 => d.fast && decide (unit < 4)
  | 3 => d.fast && decide (unit < 2) && d.g (0x3000 + unit) 2 == 1
  | 4 => d.fast && decide (unit < 8) && d.g 0x3C05 (unit + 1) == 1
  | 5 => d.fast && decide (unit < 8) && d.g 0x3C05 (unit + 1) == 0
  | 6 => decide (2 ≤ unit ∧ unit < 32) && d.sensorOn unit
  | _ => false

/-- The unit must wait: a lane that carries lines for its gap, a light group until its channels are dark (R433, R435). -/
def calWaits (d : Dev) (item unit : Nat) : Bool :=
  match item with
  | 1 => (d.lane (unit + 1)).carries && d.printingLike && decide (unit < 72) || (decide (72 ≤ unit) && d.paired && decide (d.twinUp.length < 2))
  | 4 => (d.groupLeds unit).any (fun i => d.g 0x3C00 (i + 1) == 1 && (d.led i).level != 0)
  | 5 => (d.groupLeds unit).any (fun i => d.g 0x3C00 (i + 1) == 1 && (d.led i).level != 0)
  | _ => false

/-- A run begins, or is deferred and counted (R434, R435). -/
def calStart (d : Dev) (item unit : Nat) : Dev :=
  let k := calKey item unit
  if d.cal.running.contains k then { d with cal := { d.cal with due := if d.cal.due.contains k then d.cal.due else d.cal.due ++ [k] } }
  else if d.calWaits item unit then
    let d := { d with cal := { d.cal with due := if d.cal.due.contains k then d.cal.due else d.cal.due ++ [k] } }
    -- A head lane's wait is counted with a gap that cannot hold it (R435).
    if item == 1 && decide (unit < 72) then d else ((d.bump 0x270C item).put 0x270A item 3).raise 110
  else { d with cal := { d.cal with running := d.cal.running ++ [k], due := d.cal.due.filter (fun x => x != k) } }

/-- A result is applied: accepted values are stored and staged for NV, implausible ones leave the old values (R433). Of item 1 the value's
low four bits are the equaliser code; a commanded one waits for the gap of a lane that carries lines (R436). -/
def calApply (d : Dev) (item unit : Nat) (plausible : Bool) (value : Int) (commanded : Bool := false) : Dev :=
  let k := calKey item unit
  if plausible then
    let d := { d with cal := { d.cal with values := d.cal.values.set k value } }
    let code := (value % 16).toNat
    let d := if item != 1 then d
      else if commanded && d.calWaits 1 unit then { d with cal := { d.cal with codes := d.cal.codes ++ [(unit + 1, code)] } }
      else d.setLaneCode (unit + 1) code
    let d := d.saveNv { kind := 2, obj := k, val := ofSigned 32 value }
    (d.put 0x270A item 1).raise 108
  else ((d.put 0x270A item 2).bump 0x270B item).raise 109

/-- A run ends: counted, its reference set (R433, R434). -/
def calCount (d : Dev) (item unit : Nat) : Dev :=
  let k := calKey item unit
  let d := { d with cal := { d.cal with running := d.cal.running.filter (fun x => x != k), refs := d.cal.refs.set k (d.calReading item unit) } }
  (d.bump 0x2708 item).put 0x2709 item d.serviceNow

/-- A commanded calibration ends once every unit has been measured: its results are applied together (R436). -/
def calFinish (d : Dev) : Dev :=
  if !d.cal.left.isEmpty then d
  else
    let rs := d.cal.results
    let d := { d with cal := { d.cal with mask := 0, results := [] } }
    let d := rs.foldl (fun d r =>
      if r.1 / 256 == 6 then
        if r.2.1 then ({ d with therm := { d.therm with trims := d.therm.trims.set (r.1 % 256) r.2.2 } } : Dev).calApply 6 (r.1 % 256) true r.2.2
        else (d.calApply 6 (r.1 % 256) false 0).sensorFailed (r.1 % 256)
      else d.calApply (r.1 / 256) (r.1 % 256) r.2.1 r.2.2 true) d
    d.endOp 0

/-- A run's end: held for a commanded calibration, else applied (R433, R436). -/
def calDone (d : Dev) (item unit : Nat) (plausible : Bool) (value : Int) : Dev :=
  let k := calKey item unit
  if d.cal.left.contains k then
    let d := d.calCount item unit
    ({ d with cal := { d.cal with left := d.cal.left.filter (fun x => x != k), results := d.cal.results ++ [(k, plausible, value)] } } : Dev).calFinish
  else if d.cal.running.contains k then
    let again := d.cal.due.contains k
    let d := (d.calCount item unit).calApply item unit plausible value
    if again then d.calStart item unit else d
  else d

/-- A write of 0x2702: a commanded calibration (R436). -/
def writeCalibration (d : Dev) (sess mask : Nat) : Dev × Nat :=
  if mask == 0 || decide (64 ≤ mask) then (d, 0x06090030)
  else
    let units (i : Nat) : List Nat := ((List.range 80).filter (d.calUnit i)).map (calKey i)
    let left := ((List.range 6).filter (fun i => bit mask i)).flatMap (fun i => units (i + 1))
    let d := d.beginOp 2 sess mask
    ({ d with cal := { d.cal with mask := mask, left := left, results := [] } } : Dev).calFinish.started

/-- Item 6 for every supervisory sensor in service, from means of untrimmed readings (R437). -/
def trimSensors (d : Dev) (means : List Int) : Dev :=
  let priv := [0, 1].filter d.sensorOn
  let base : Rat := (((priv.map (fun k => means.getD k 0)).sum : Int) : Rat) / (max priv.length 1 : Nat)
  ((List.range 32).filter (fun k => decide (2 ≤ k) && d.sensorOn k && decide (k < means.length))).foldl (fun d k =>
    let t := roundRat (base - (means.getD k 0 : Int))
    let ok := decide (t.natAbs ≤ 30)
    if d.cal.left.contains (calKey 6 k) then d.calDone 6 k ok t
    else
      let d := d.calCount 6 k
      if ok then ({ d with therm := { d.therm with trims := d.therm.trims.set k t } } : Dev).calApply 6 k true t
      else (d.calApply 6 k false 0).sensorFailed k) d

end Dev

/-- SENSOR_SAMPLE: the sensors' readings as converted, none where a conversion did not complete (R425 to R428). -/
def execSensorSample (readings : List (Option Int)) (s : State) : Host.Outcome State Fault Refusal :=
  let d0 := s.begin_
  let before (k : Nat) : Bool := decide (1250 ≤ d0.reading k)
  let d := (List.range 32).foldl (fun d k => match readings[k]? with
    | some r => d.oneSample k r
    | none => d) d0
  let d := d.sampleRate
  let hot (k : Nat) : Bool := d.sensorOn k && decide (1250 ≤ d.reading k) && !before k
  s.done (if hot 0 || hot 1 then d.thermalShutdown (if hot 0 && hot 1 then 2 else if hot 0 then 0 else 1) else d)

/-- RATE_WINDOW (R426). -/
def execRateWindow (s : State) : Host.Outcome State Fault Refusal :=
  s.done ((List.range 32).foldl windowRate s.begin_)
where
  /-- See `Dev.windowRate`. -/
  windowRate (d : Dev) (k : Nat) : Dev := d.windowRate k

/-- CALIBRATION_RUN of a unit that is due by its trigger sensor, or that was deferred (R434, R435). -/
def execCalibrationRun (item unit : Nat) (s : State) : Host.Outcome State Fault Refusal :=
  let d := s.begin_
  let k := Dev.calKey item unit
  let step := d.g 0x2700 1
  let moved := match d.cal.refs.find? k with
    | some r => decide ((step : Int) < (d.calReading item unit - r).natAbs)
    | none => false
  s.done (
    if decide (item < 1 ∨ 5 < item) || !bit (d.g 0x2700 2) (item - 1) || !d.calUnit item unit || bit d.cal.mask (item - 1) then d
    else if (step != 0 && moved) || d.cal.due.contains k then d.calStart item unit
    else d)

/-- CALIBRATION_DONE (R433, R436). -/
def execCalibrationDone (item unit : Nat) (plausible : Bool) (value : Int) (s : State) : Host.Outcome State Fault Refusal :=
  s.done (s.begin_.calDone item unit plausible value)

/-- CALIBRATION_COMMAND (R436). -/
def execCalibrationCommand (sess mask : Nat) (s : State) : Host.Outcome State Fault Refusal :=
  s.hostWrite sess 0x2702 (fun d => d.writeCalibration sess mask)

/-- SENSOR_TRIM after 10 s in Standby, or for a commanded item 6 (R437). -/
def execSensorTrim (means : List Int) (s : State) : Host.Outcome State Fault Refusal :=
  let d := s.begin_
  let standby := d.sys.st == .standby && decide (d.sys.standbySince + 10000000000 ≤ d.t) && bit (d.g 0x2700 2) 5
  s.done (if standby || d.cal.left.any (fun k => k / 256 == 6) then d.trimSensors means else d)

/-- DRAM_RETRAIN: one subchannel is re-centred, or the step is deferred to the next trigger (R351, Table 18.3). -/
def execDramRetrain (sub : Fin 4) (plausible : Bool) (s : State) : Host.Outcome State Fault Refusal :=
  let d := s.begin_
  let u : Nat := sub
  let k := Dev.calKey 2 u
  s.done (
    if !d.fast then d
    else if !d.renderedAhead then ((d.bump 0x270C 2).put 0x270A 2 3).raise 90
    else
      let d := if d.cal.left.contains k || d.cal.running.contains k then d.calDone 2 u plausible 0
        else (d.calCount 2 u).calApply 2 u plausible 0
      d.raise 90)

end Sys2Proof.Machine
end

