-- ==== Sys2Proof/Machine/Tally.lean ====
section
/-! DEFINITION. The tally: wear, projection, eye trends, SRAM repair and engine requalification (chapter 19). -/
namespace Sys2Proof.Machine

open Sys2Proof

/-- Band of a mean temperature, 0.1 °C (Table 19.2). -/
def band (t : Int) : Nat :=
  if t < 450 then 1 else if t < 650 then 2 else if t < 850 then 3 else if t < 950 then 4 else if t < 1050 then 5
  else if t < 1250 then 6 else 7

/-- Factor of a band in thousandths (Table 19.2). -/
def bandFactor (b : Nat) : Nat := [0, 58, 261, 1000, 1851, 3319, 9762, 9762].getD b 0

/-- A term in years as 0.1 year, a fraction dropped, below the code for none. -/
def tenths (y : Rat) : Nat := min 65534 (y * 10).floor.toNat

/-- Least-squares slope of daily values, newest first, per day (R444). -/
def slope (ys : List Nat) : Rat :=
  let n := ys.length
  let pts := (List.range n).map (fun (i : Nat) => (((n - 1 - i : Nat) : Rat), ((ys.getD i 0 : Nat) : Rat)))
  let mx := (pts.map (fun p => p.1)).sum / n
  let my := (pts.map (fun p => p.2)).sum / n
  (pts.map (fun p => (p.1 - mx) * (p.2 - my))).sum / (pts.map (fun p => (p.1 - mx) * (p.1 - mx))).sum

namespace Dev

/-- E in thousandths of a minute: the bands' minutes by their factors (R448). -/
def equivalent (d : Dev) : Nat := ((List.range 8).map (fun b => d.cnt 0x2E01 b * bandFactor b)).sum

/-- The projection of R449. -/
def project (d : Dev) : Dev :=
  let now_ := (d.equivalent, d.cnt 0x2E0C 2, d.g 0x2E05 10, d.g 0x2E05 11)
  let hs := (now_ :: d.tally.hours).take 8761
  let d := { d with tally := { d.tally with hours := hs } }
  let (base, dh) := if decide (8760 < hs.length) then (hs.getD 8760 (0, 0, 0, 0), 8760) else ((0, 0, 0, 0), hs.length)
  let enough := decide (720 ≤ dh)
  let yearsLeft (left : Rat) (used : Nat) : Option Rat := if enough && used != 0 then some (left / ((used : Rat) / (dh : Rat)) / 8760) else none
  let thermal := (yearsLeft (431658 * 60000 - (d.equivalent : Rat)) (now_.1 - base.1))
  let nv := yearsLeft (((100000 * (80 - d.nv.retired.length) : Nat) : Rat) - ((now_.2.1 : Nat) : Rat)) (now_.2.1 - base.2.1)
  let r0 := yearsLeft (d.g 0x2E04 10 : Nat) (now_.2.2.1 - base.2.2.1)
  let r1 := yearsLeft (d.g 0x2E04 11 : Nat) (now_.2.2.2 - base.2.2.2)
  let remap := match r0, r1 with
    | some a, some b => some (min a b)
    | some a, none => some a
    | none, b => b
  let ts : List Nat := [thermal, nv, remap].map (fun t => match t with
    | some y => tenths y
    | none => 65535)
  let m : Nat := ts.foldl min 65535
  let which := if m == 65535 then 0 else ((List.range 3).find? (fun i => ts.getD i 65535 == m)).getD 0 + 1
  let d := (d.put 0x2E0D 1 m).put 0x2E0D 2 which
  let d := (List.range 3).foldl (fun d i => d.put 0x2E0D (3 + i) (ts.getD i 65535)) d
  let lim := d.g 0x2E00 5
  if decide (m < lim) && !d.tally.lifeRaised then ({ d with tally := { d.tally with lifeRaised := true } } : Dev).raise 114
  else if decide (lim + 10 < m) then { d with tally := { d.tally with lifeRaised := false } } else d

/-- A planned swap of a lane onto its bar's spare is asked for (R240, R444). -/
def askSwap (d : Dev) (s : Nat) : Dev :=
  let n := laneBar s
  match d.logicalOf s with
  | some l => if d.spareReady n then d.beginSwap n l true else d
  | none => d

/-- One lane's day: its mean, slope, days to the floor, and what becomes due (R444). -/
def eyeDay (d : Dev) (s : Nat) : Dev :=
  let (sum, n) := d.tally.day.get (0, 0) s
  if n == 0 then d
  else
    let mean := (2 * sum + n) / (2 * n)
    let ms := (mean :: d.tally.means.get [] s).take 30
    let d := { d with tally := { d.tally with means := d.tally.means.set s ms, day := d.tally.day.erase s } }
    let d := d.put 0x2E08 s mean
    let floor_ := d.g 0x2E00 1
    let sl : Rat := if decide (7 ≤ ms.length) then slope ms else 0
    let days : Nat := if decide (mean < floor_) then 0
      else if sl < 0 then min 65534 ((((mean - floor_ : Nat) : Rat) / (-sl)).floor.toNat) else 65535
    let d := (d.put 0x2E09 s (ofSigned 16 (clampInt (roundRat (sl * 30)) (-32768) 32767))).put 0x2E0A s days
    let due := decide (mean < floor_) || (decide (days ≤ d.g 0x2E00 2) && days != 65535)
    if !due then { d with tally := { d.tally with crossed := d.tally.crossed.filter (fun x => x != s) } }
    else if d.tally.crossed.contains s then d
    else
      let d := ({ d with tally := { d.tally with crossed := s :: d.tally.crossed } } : Dev).raise 57
      if decide (s ≤ 72) && (d.lane s).carries && d.g 0x2E00 3 == 1 then d.askSwap s else d

/-- A row of an array is repaired, or, once its four rows are used, its block is at fault (R442). -/
def repairRow (d : Dev) (array : Nat) (bar : Option Nat) : Dev :=
  let k := d.tally.repairs.get 0 array
  if decide (4 ≤ k) then
    match bar with
    | some n => d.fault (if d.spareEngine.isSome then 2 else 4) 25 (d.engineOf n) (2 ^ n) 0
    | none => d.fault 4 19 array 0 0
  else
    let d := { d with tally := { d.tally with repairs := d.tally.repairs.set array (k + 1) } }
    let d := ((d.minorL2 115).consume 12).substitute 12
    d.saveNv { kind := 13, obj := array, val := k + 1 }

/-- A write of 0x2E0F: a retired engine is marked for a self-test (R443). -/
def writeRequalify (d : Dev) (engine : Nat) : Dev × Nat :=
  if decide (8 < engine) || d.g 0x2E07 (engine + 1) != 2 then (d, 0x06090030)
  else ({ d with tally := { d.tally with marked := if d.tally.marked.contains engine then d.tally.marked else d.tally.marked ++ [engine] } }, 0)

/-- Tally counters and history, as records (R441). -/
def tallyRecords (d : Dev) : List NvRec := [d.tallyRec, { kind := 8, obj := d.tally.hours.length }]

end Dev

/-- WEAR_MINUTE (R448). -/
def execWearMinute (meanTj : Int) (s : State) : Host.Outcome State Fault Refusal :=
  let d := s.begin_
  let d := (d.bump 0x2E01 (band meanTj)).bump 0x2E01 8
  let d := if d.phase == .printing then d.bump 0x2E01 9 else d
  s.done (d.put 0x2E01 0x0A (d.equivalent / 600 % 4294967296))

/-- TALLY_HOUR (R441, R449). -/
def execTallyHour (s : State) : Host.Outcome State Fault Refusal :=
  let d := s.begin_.project
  s.done (d.saveNvs d.tallyRecords)

/-- EYE_DAILY (R444). -/
def execEyeDaily (s : State) : Host.Outcome State Fault Refusal :=
  s.done (((List.range 80).map (fun i => i + 1)).foldl (fun d i => d.eyeDay i) s.begin_)

/-- SRAM_REPAIR (R442). -/
def execSramRepair (array : Nat) (bar : Option (Fin 8)) (s : State) : Host.Outcome State Fault Refusal :=
  s.done (s.begin_.repairRow (array % 64) (bar.map (fun n => (n : Nat))))

/-- ENGINE_REQUALIFY (R443). -/
def execEngineRequalify (sess engine : Nat) (s : State) : Host.Outcome State Fault Refusal :=
  s.hostWrite sess 0x2E0F (fun d => d.writeRequalify engine)

end Sys2Proof.Machine
end

