-- ==== Sys2Proof/Machine/TwinOps.lean ====
section
/-! DEFINITION. The pair's shared operations: the twin link, synchronisation flags, the takeover, tile fetches (R383, R390,
R391, R395, R396). -/
namespace Sys2Proof.Machine

open Sys2Proof

namespace Dev

/-- Path bit of 0x2C08:03 set or cleared. -/
def path (d : Dev) (i : Nat) (up : Bool) : Dev := d.put 0x2C08 3 (setBit (d.g 0x2C08 3) i up)

/-- This device's IDENT (Table 16.4). -/
def identBytes (d : Dev) : Bytes :=
  leBytes 4 d.product ++ leBytes 4 (d.g 0x1018 3) ++ leBytes 16 (d.g 0x100A 0) ++ leBytes 4 (d.g 0x1018 4) ++
  [byte (d.g 0x2C00 1), byte (d.g 0x2C00 2), byte d.sys.st.code, byte (if d.fl.running.any (fun r => decide (3 ≤ r.level)) then 0 else 1)]

/-- A twin lane has reached UP: the link comes up with the first, and IDENT is sent (R383, R384). -/
def linkUp (d : Dev) : Dev :=
  if d.g 0x2C00 1 == 0 || d.twin.linked || d.twinUp.isEmpty then d
  else
    let d := ({ d with twin := { d.twin with
      linked := true, txSeq := 0, rxSeq := 0, unacked := [], clearSince := d.twin.clearSince.map (fun _ => d.t) } } : Dev).path 0 true
    d.twinSend 1 d.identBytes

/-- A synchronisation flag of the standby is cleared: EV_TWIN_SYNC with the flags, and a resynchronisation is due (R390). -/
def loseFlag (d : Dev) (i : Nat) : Dev :=
  let f := setBit (d.g 0x2C08 2) i false
  let d := (d.put 0x2C08 2 f).raise 95 0 0xFF f
  { d with twin := { d.twin with resync := true, clearSince := some d.t } }

/-- The twin link is lost (R383, R390, R391, R392). -/
def linkLost (d : Dev) : Dev :=
  if !d.twin.linked then d
  else
    let gone := d.twin.pledges.length
    let fs := d.twin.fetches
    let d := { d with twin := { d.twin with linked := false, unacked := [], pledges := [], fetches := [] } }
    let d := (d.path 0 false).raise 96
    let d := if d.role == 1 && gone != 0 then d.bumpBy 0x2C08 0x0C gone else d
    let d := if d.role == 2 then d.loseFlag 3 else if d.role == 1 then d.put 0x2C08 2 (setBit (d.g 0x2C08 2) 3 false) else d
    fs.foldl (fun d f => d.restoreHere f.1 f.2.1) d

/-- The keeper's windows open anew from the next boundary at each bar (R395, R408). -/
def newWindows (d : Dev) : Dev := d.barList.foldl (fun d n => d.moveBasis n (d.barRep n + 1)) d

/-- Committed live values of Bn that wait for a repeat, `from_`, act at another, `to_` (R62, R388). Keeper tables follow their
generation. -/
def moveSets (d : Dev) (n from_ to_ : Nat) : Dev :=
  let keeper (k : Nat) : Bool := k / 256 == 0x6208 + n || k / 256 == 0x6220 + n
  let hs := (d.dict.held.get [] n).map (fun (h : Held) => if h.upto == from_ && !keeper h.key then { h with upto := to_ } else h)
  { d with dict := { d.dict with held := d.dict.held.set n hs } }

/-- This device takes the active role, with a cause of 0x2C08:06 (R395, R396). -/
def takeover (d : Dev) (cause : Nat) : Dev :=
  let warm := d.g 0x2C00 1 == 1 && decide (cause ≤ 2)
  let d := { d with twin := { d.twin with pledges := [], lastHandover := d.t, probing := none } }
  let d := ((d.put 0x2C08 1 1).put 0x2C08 6 cause).bump 0x2C08 5
  let d := if warm then d.drew.put 0x2C08 7 (d.freeNat % 4294967296) else d.put 0x2C08 7 0
  let d := d.barList.foldl (fun d n => d.moveSets n (2 ^ 60) (d.liveRep n)) (d.raise 99).newWindows
  let d := d.camsDrive
  if warm && d.printingLike then
    d.barList.foldl (fun d n =>
      (d.lanesOf n).foldl (fun d s => d.sendBase s (d.bar n).next) (d.onBar n (fun b => { b with warmGap := true }))) d
  else d

/-- A frame as stored, sent in parts of up to 32 KiB, or NOT_HELD (R391, Table 16.4). -/
def sendTile (d : Dev) (kind tile : Nat) : Dev :=
  let hd := [byte kind] ++ leBytes 8 tile
  let held := if kind == 1 then (d.heldTile tile).map (fun t => hdrBytes t.hdr ++ t.stream)
    else (d.frameOk kind tile).map (fun f => hdrBytes f.hdr ++ f.payload)
  match held with
  | none => d.twinSend 10 (hd ++ leBytes 4 0xFFFFFFFF)
  | some all =>
    (List.range (ceilDiv all.length 32768)).foldl (fun d i => d.twinSend 10 (hd ++ leBytes 4 (32768 * i) ++ (all.drop (32768 * i)).take 32768)) d

/-- A fetch's answer: the frame replaces the lost copy when it passes the checks of R118, else the other ways follow. -/
def tileArrived (d : Dev) (kind tile : Nat) (frame : Option (FrameHdr × Bytes)) : Dev :=
  let mine (f : Nat × Nat × Nat) : Bool := f.1 == kind && f.2.1 == tile
  if !d.twin.fetches.any mine then d
  else
    let d := { d with twin := { d.twin with fetches := d.twin.fetches.filter (fun f => !mine f) } }
    match frame with
    | none =>
      let d := { d with twin := { d.twin with denied := ((kind, tile) :: d.twin.denied).take 64 } }
      if kind == 1 || (d.frame? kind tile).isSome then d.restoreHere kind tile else d
    | some (h, p) =>
      let (st, data) := decodePayload (d.historyOf h) (h.flags % 4) h.ulen h.crc (p.take h.clen)
      if h.kind != kind || h.tileId != tile || st != 0 then (d.raise 102).restoreHere kind tile
      else if kind == 1 then d.onCtx (tile / 2 ^ 56) (fun x =>
        { x with lost := x.lost.filter (fun y => y != (tile / 2 ^ 48 % 256, tile / 2 ^ 40 % 256, tile % 2 ^ 40)) })
      else d.acceptFrame (d.accepted h (p.take h.clen) data)

/-- The device's own CHECKSUM of a context (R387). -/
def sendChecksum (d : Dev) (c : Nat) : Dev :=
  if d.paired || d.role == 3 then d.twinSend 6 ([byte c, byte (d.ctx c).code] ++ leBytes 4 (d.ctx c).checksum) else d

/-- The context's checksums are compared (R387, R390). -/
def compareSums (d : Dev) (c : Nat) : Dev :=
  match d.twin.sums.find? c with
  | some (st, crc) =>
    let x := d.ctx c
    if decide (4 ≤ st ∧ st ≤ 6 ∧ 4 ≤ x.code ∧ x.code ≤ 6) && crc != x.checksum then
      let d := (d.raise 92 0 0xFF c).bump 0x2C08 0x0F
      if x.code != 4 && d.role == 2 then d.loseFlag 0 else d
    else d
  | none => d

end Dev

end Sys2Proof.Machine
end

