-- ==== Sys2Proof/Machine/Lanes.lean ====
section
/-! DEFINITION. Head and twin lanes: bring-up, loss of lock, swaps, qualification and the lane commands (chapter 09), with
the missing line of R101 and the exchange of a lane at a boundary (R239). -/
namespace Sys2Proof.Machine

open Sys2Proof

namespace Dev

/-- The bar's swap has taken its logical lane's old lane off the port (R239 step 2). -/
def swappedOut (d : Dev) (s : Nat) : Bool :=
  match (d.bar (laneBar s)).swap with
  | some w => w.started && d.laneOf (laneBar s) w.logical == s
  | none => false

/-- The lane is its bar's spare. -/
def isSpare (d : Dev) (s : Nat) : Bool := decide (s ≤ 72) && d.spareOf (laneBar s) + 1 == s

/-- The lane serves a logical lane in use. -/
def inUseLane (d : Dev) (s : Nat) : Bool := decide (s ≤ 72) && (d.lanesOf (laneBar s)).contains s && !d.swappedOut s

/-- Head lanes in use are to be stepped up: from PREPARE until RELAX or SLEEP (R230). -/
def stepsUp (d : Dev) : Bool :=
  d.sys.preparing || d.phase == .armed || d.printingLike

/-- The bar has no spare (0x3418). -/
def noSpare (d : Dev) (n : Nat) : Dev := d.put 0x3418 (n + 1) (0xFF * 256 + d.g 0x3418 (n + 1) % 256)

/-- A lane under qualification has failed: FAILED, and the bar's pool consumed (R241, Table 19.1). -/
def qualifyFailed (d : Dev) (s : Nat) : Dev :=
  let d := (d.putLane s 7).onLane s (fun l => { l with target := 0, test := 0, qual := false })
  let pool := 2 + laneBar s
  if d.g 0x2E04 pool == 0 then d else d.consume pool

/-- The exchange of a swap takes effect at a boundary at Bn, or at once where it prints nothing: 0x3417 and 0x3418 record
it, EV_LANE_SWAP is raised, the map goes to NV (R239, R440, R441). -/
def exchange (d : Dev) (n : Nat) : Dev :=
  match (d.bar n).swap with
  | none => d
  | some w =>
    if !w.ready then d
    else
      let old := d.laneOf n w.logical
      let sp := d.spareOf n
      let m := d.g 0x3417 (n + 1)
      let m' := m - bits m (8 * w.logical + 7) (8 * w.logical) * 256 ^ w.logical + sp * 256 ^ w.logical
      let next := if d.laneState old == 6 then old - 1 else 0xFF
      let d := d.onBar n (fun b => { b with swap := none })
      let d := (d.put 0x3417 (n + 1) m').put 0x3418 (n + 1) (next * 256 + d.g 0x3418 (n + 1) % 256)
      let d := d.onLane (sp + 1) (fun l => { l with carries := true })
      let d := (d.raise 50 (2 ^ n)).substitute (2 + n)
      let d := d.saveNv (d.laneRec n)
      if d.printingLike && d.sends && !(d.lane (sp + 1)).baseSent then d.sendBase (sp + 1) (d.bar n).next else d

/-- Line index near `next` whose sequence number modulo 2^40 is `seq` (R251). -/
def nearLine (next seq : Nat) : Nat :=
  let m := 1099511627776
  let back := (next % m + m - seq % m) % m
  if decide (back < m / 2) then next - back else next + (m - back)

/-- A line of Bn was not delivered when its fire clock ticked (R101, R263): a printed line is counted and spoils its
repeat, with EV_MISSING_LINE once per repeat; a gap line drops its census test only (R242). -/
def missingLine (d : Dev) (n j : Nat) : Dev :=
  match d.repAt j with
  | none => d
  | some r =>
    if decide (r.gapStart d.sheet ≤ j) then d.dropTests n j
    else if (d.bar n).missed.contains j then d
    else
      let d := d.onBar n (fun b => { b with missed := (j :: b.missed).take 64 })
      let d := (d.bump (0x5001 + 0x100 * n) 5).spoil r.num n 6
      if bit r.missing n then d
      else (d.onRep r.num (fun r => { r with missing := setBit r.missing n true })).raise 29 (2 ^ n) 0xFF (j % 4294967296)

/-- A lane loses its signal or its block lock (R235 step 1, R236); a spare that is UP for a swap gives the swap up. -/
def loseLock (d : Dev) (s : Nat) : Dev :=
  let st := d.laneState s
  if d.readySpare s then d.abandonSwap (laneBar s)
  else if d.inSwap s then d
  else if st == 4 && ((d.lane s).carries || decide (73 ≤ s)) then
    ((d.putLane s 5).bump 0x3415 s).onLane s (fun l => { l with retraining := false, since := d.t })
  else if st == 2 || st == 6 || st == 4 then d.retrainLane s
  else d

/-- Equaliser code a lane takes at a rate: fixed, held by a spare in a swap, or the one with the largest opening, the lower
of equal ones (R225). -/
def equaliser (d : Dev) (s : Nat) (openings : List Nat) : Nat :=
  let c := d.g 0x3403 s
  if decide (c < 16) then c
  else
    let best := (openings.take 16).foldl max 0
    ((List.range 16).find? (fun i => openings.getD i 0 == best)).getD 0

/-- The PRBS test of a lane ends, and its error count stands in 0x3419 (R237): the count is a free value. -/
def endPrbs (d : Dev) (s : Nat) : Dev :=
  if decide (16 ≤ (d.lane s).test) then d.drew.put 0x3419 s (d.freeNat % 4294967296) else d

/-- Lane command `cmd` with argument `arg` for lane subindex s (R237, Table 9.4). -/
def laneCommand (d : Dev) (cmd arg s : Nat) : Dev × Nat :=
  if cmd == 0 || decide (6 < cmd) || !d.lanePresent s || decide (80 < s) then (d, 0x06090030)
  else
    let st := d.laneState s
    let n := laneBar s
    let no := (d, 0x0F00003A)
    if !d.fast then no
    else if cmd != 5 && ((d.lane s).carries || (decide (73 ≤ s) && d.paired) || d.inSwap s || d.swappedOut s) then no
    else match cmd with
    | 1 => ((d.endPrbs s).retrainLane s, 0)
    | 2 =>
      if decide (3 < arg) then (d, 0x06090030)
      else if arg == 0 then ((d.endPrbs s).retrainLane s, 0)
      else ((d.putLane s 8).onLane s (fun l => { l with test := l.test - l.test % 16 + arg, since := d.t }), 0)
    | 3 =>
      if decide (2 < arg) then (d, 0x06090030)
      else if arg == 0 then
        ((d.endPrbs s).onLane s (fun l => { l with test := l.test % 16 }), 0)
      else (((d.putLane s 8).put 0x3419 s 0).onLane s (fun l => { l with test := l.test % 16 + 16 * arg, since := d.t }), 0)
    | 4 => if st == 8 then (d.onLane s (fun l => { l with slip := (l.slip + 1) % 66 }), 0) else no
    | 5 =>
      if decide (7 < arg) || decide (72 < s) then (d, 0x06090030)
      else if d.spareReady n && (d.lanesInUse n).contains arg then (d.beginSwap n arg true, 0) else no
    | _ =>
      if decide (s ≤ 72) && st == 7 && (d.logicalOf s).isNone && d.g 0x3402 (n + 1) == 1 && (d.spareOf n == 0xFF || d.isSpare s) then
        let d := if d.isSpare s then d.noSpare n else d
        (((d.putLane s 1).put 0x3411 s 0).onLane s (fun l => { l with fails := 0, target := 0, test := 0, ceilingRate := 6, qual := true, since := d.t }), 0)
      else no

/-- A write of 0x3406:00, in its fields; bits [15:8] are reserved (R10, R237). -/
def writeLane (d : Dev) (v : Nat) : Dev × Nat :=
  if v / 256 % 256 != 0 then (d, 0x06090030)
  else d.laneCommand (laneFields v).1 (laneFields v).2.1 (laneFields v).2.2

/-- A lane in TRAIN has reached UP_LOW (R228, R230). -/
def trained (d : Dev) (s mask : Nat) : Dev :=
  let d := ((d.put 0x3414 s mask).put 0x3411 s 1).onLane s (fun l => { l with known := true, fails := 0 })
  if decide (73 ≤ s) then
    let d := d.putLane s 2
    if d.g 0x2C00 1 != 0 && bit (d.g 0x2C00 7) (s - 73) then d.stepUp s else d
  else if d.isSpare s then d.putLane s 6
  else if d.qualifying s || (d.inUseLane s && d.stepsUp) then (d.putLane s 2).stepUp s
  -- A lane that failed its qualification stays out of service until REQUALIFY (R241).
  else if (d.logicalOf s).isNone then d.putLane s 7
  else d.putLane s 2

/-- A swap's spare has stepped up in the loopback (R239 step 1): the switch is written at once where the lane is down, else in the gap
(R240). -/
def spareStepped (d : Dev) (n : Nat) : Dev :=
  match (d.bar n).swap with
  | some w =>
    if w.stepped then d
    else
      let d := (d.putLane (d.spareOf n + 1) 4).onBar n (fun b => { b with swap := some { w with stepped := true } })
      if w.planned then d else d.startSwap n
  | none => d

/-- A lane in STEP has carried 10 ms of IDLE without error (R229). A rate other than the one the lane had, or than the one the lane terms
last used, raises EV_LANE_RATE (R156, R230). -/
def verified (d : Dev) (s : Nat) : Dev :=
  if d.inSwap s then d.spareStepped (laneBar s)
  else if d.qualifying s then
    ((d.putLane s 8).put 0x3419 s 0).onLane s (fun l => { l with test := 32, since := d.t })
  else
    let l := d.lane s
    let moved := if l.upRate != 0 then l.upRate != l.target
      else d.ctxs.any (fun x => decide (4 ≤ x.2.code ∧ x.2.code ≤ 6) && (x.2.rates.find? s).any (fun r => r != l.target))
    let d := (d.putLane s 4).setLane s { l with upRate := l.target, target := 0, since := d.t }
    if decide (73 ≤ s) then d.linkUp
    else
      let d := if moved then d.raise 51 (2 ^ laneBar s) else d
      (if d.inUseLane s && d.printingLike then d.carry s else d).prepareDone

/-- A TRAIN or STEP attempt has run 50 ms (R228). -/
def attemptOver (d : Dev) (s : Nat) : Dev :=
  let l := d.lane s
  let st := d.laneState s
  if st == 1 then
    let d := d.setLane s { l with fails := l.fails + 1 }
    if decide (l.fails + 1 < 3) then d
    else if d.qualifying s then d.qualifyFailed s
    else
      let d := d.laneFailed s
      if d.isSpare s then d.noSpare (laneBar s) else d
  else if st == 3 then
    if d.inSwap s then d.abandonSwap (laneBar s)
    else if d.qualifying s then d.qualifyFailed s
    else
      let d := ((d.putLane s 2).put 0x3411 s 1).setLane s { l with ceilingRate := l.target, target := 0 }
      if decide (1 < d.workingRate s l.target) then d.stepUp s else d
  else d

/-- The switch answers a write made at boot; a NACK or a mismatch is reported with a failure detail, whose value the spec does not
give (R238). -/
def bootReadback (d : Dev) (n : Nat) (readback : Option Nat) : Dev :=
  match (d.bar n).switchSent with
  | [] => d
  | c :: rest =>
    if readback == some c then d.onBar n (fun b => { b with switchSent := rest })
    else (d.onBar n (fun b => { b with switchSent := [] })).drew.raise 50 (2 ^ n) 0xFF (d.freeNat % 4294967295 + 1)

/-- The switch has answered and the spare, trained at the lane's rate without negotiation, has verified: it is UP for the swap's logical
lane; or the switch did not answer (R238, R239 steps 3 to 5). -/
def swapDone (d : Dev) (n : Nat) (readback : Option Nat) : Dev :=
  match (d.bar n).swap with
  | none => d.bootReadback n readback
  | some w =>
    if !w.started || w.ready then d
    else if readback != some (0x80 + w.logical) then d.abandonSwap n
    else
      let sp := d.spareOf n + 1
      let d := d.onBar n (fun b => { b with swap := some { w with ready := true } })
      let d := ((d.sendTrain sp (d.lane sp).target (d.lane sp).marker).putLane sp 4).onLane sp (fun l => { l with upRate := l.target, target := 0, since := d.t })
      let d := if w.planned then d else d.swapOver n
      if !d.printingLike then d.exchange n
      else match d.boundary (d.barRep n + 1) with
        | some b => if d.sends then d.sendBase sp (ceilLine b) else d
        | none => d

/-- A lane's qualification ends (R241). -/
def qualified (d : Dev) (s : Nat) (pass : Bool) : Dev :=
  let n := laneBar s
  if !(d.qualifying s) || d.laneState s != 8 || (d.lane s).test != 32 then d
  else
    let d := d.drew.put 0x3419 s (if pass then 0 else d.freeNat % 4294967295 + 1)
    let eye := d.g 0x3413 s / 65536
    -- R444: a last horizontal opening below the floor fails the qualification; 0 is a lane not scanned.
    if pass && (eye == 0 || decide (d.g 0x2E00 1 ≤ eye)) then
      let d := ((d.putLane s 6).put 0x3411 s 1).onLane s (fun l => { l with test := 0, qual := false, since := d.t })
      let d := if d.g 0x2E04 (2 + n) == 0 then d.restorePool (2 + n) else d
      if d.swappedOut s then d
      else
        let d := d.put 0x3418 (n + 1) ((s - 1) * 256 + d.g 0x3418 (n + 1) % 256)
        d.saveNv (d.laneRec n)
    else d.qualifyFailed s

end Dev

/-- LANE_PLL_LOSS (R224, R414). -/
def execLanePllLoss (s : State) : Host.Outcome State Fault Refusal :=
  s.done (s.begin_.lanesOff.fault 3 48 0xFF 0 0)

/-- LANE_TRAINED (R228): the lane gains block lock and the partner's capability mask. -/
def execLaneTrained (lane : Fin 80) (mask : Nat) (s : State) : Host.Outcome State Fault Refusal :=
  let d := s.begin_
  s.done (if d.laneState (lane + 1) == 1 then d.trained (lane + 1) (mask % 32) else d)

/-- LANE_ATTEMPT_TIMEOUT (R228). -/
def execLaneAttemptTimeout (lane : Fin 80) (s : State) : Host.Outcome State Fault Refusal := s.done (s.begin_.attemptOver (lane + 1))

/-- TRAIN_RETRY (R228): the next attempt begins. -/
def execTrainRetry (lane : Fin 80) (s : State) : Host.Outcome State Fault Refusal :=
  let d := s.begin_
  s.done (if d.laneState (lane + 1) == 1 then d.onLane (lane + 1) (fun l => { l with since := d.t }) else d)

/-- RATE_SWITCH (R225, R229): `openings` are the vertical openings of codes 0 to 15. -/
def execRateSwitch (lane : Fin 80) (openings : List Nat) (s : State) : Host.Outcome State Fault Refusal :=
  let d := s.begin_
  let k := (lane : Nat) + 1
  let l := d.lane k
  let q := d.equaliser k openings
  let e := ((d.putLane k 3).put 0x3411 k l.target).put 0x3412 k q
  s.done (if d.laneState k == 2 && l.target != 0 then e.setLane k { l with eqHeld := l.eqHeld.set l.target q, since := d.t } else d)

/-- LANE_VERIFIED (R229). -/
def execLaneVerified (lane : Fin 80) (s : State) : Host.Outcome State Fault Refusal :=
  let d := s.begin_
  s.done (if d.laneState (lane + 1) == 3 then d.verified (lane + 1) else d)

/-- EYE_SCAN (R227): lane number, horizontal opening in mUI and vertical opening in mV of each lane scanned. -/
def execEyeScan (openings : List (Nat × Nat × Nat)) (s : State) : Host.Outcome State Fault Refusal :=
  s.done (openings.foldl (fun d o =>
    let k := o.1 + 1
    if decide (80 ≤ o.1) || d.laneState k != 4 then d
    else
      let (a, n) := d.tally.day.get (0, 0) k
      let d := d.put 0x3413 k (o.2.1 % 65536 * 65536 + o.2.2 % 65536)
      { d with tally := { d.tally with day := d.tally.day.set k (a + o.2.1 % 65536, n + 1) } }) s.begin_)

/-- MARK_SEND (R231). -/
def execMarkSend (lane : Fin 80) (s : State) : Host.Outcome State Fault Refusal :=
  let d := s.begin_
  let k := (lane : Nat) + 1
  let m := ((d.lane k).marker + 1) % 4294967296
  let due := d.serviceNow + markInterval (d.g 0x3411 k)
  s.done (if d.laneLive k then (d.onLane k (fun l => { l with marker := m, markDue := due })).block k 0x33 (leBytes 4 m) else d)

/-- BLOCK_LOCK_LOSS (R233, R235, R236, R246, R247): of 64 consecutive blocks the invalid sync headers and the control
blocks of a type that Table 10.1 does not list are counted, and 16 invalid headers lose block lock. -/
def execBlockLockLoss (x : BlockRun) (s : State) : Host.Outcome State Fault Refusal :=
  let d := s.begin_
  let k := (x.lane : Nat) + 1
  let e := d.onLane k (fun l => { l with badHeaders := l.badHeaders + x.invalid, unlisted := l.unlisted + x.unlisted })
  s.done (if !d.hears k then d else if decide (16 ≤ x.invalid) then e.loseLock k else e)

/-- LOSS_OF_SIGNAL (R233, R235, R236). -/
def execLossOfSignal (lane : Fin 80) (s : State) : Host.Outcome State Fault Refusal :=
  let d := s.begin_
  s.done (d.loseLock (lane + 1))

/-- BLOCK_LOCK_REGAINED (R235): the lane is UP at the rate it had; after step 3 it begins a stream of its own (R257). -/
def execBlockLockRegained (lane : Fin 80) (s : State) : Host.Outcome State Fault Refusal :=
  let d := s.begin_
  let k := (lane : Nat) + 1
  let again := (d.lane k).retraining
  let u := (d.putLane k 4).onLane k (fun l => { l with retraining := false })
  s.done (if d.laneState k != 5 || d.beingSwapped k then d else if again && d.inUseLane k && d.printingLike then u.carry k else u)

/-- RELOCK_TIMEOUT (R235 step 2). -/
def execRelockTimeout (lane : Fin 80) (s : State) : Host.Outcome State Fault Refusal :=
  let d := s.begin_
  s.done (if d.laneState (lane + 1) == 5 && !(d.lane (lane + 1)).retraining then d.laneDown (lane + 1) else d)

/-- RETRAIN_TIMEOUT (R235 step 3). -/
def execRetrainTimeout (lane : Fin 80) (s : State) : Host.Outcome State Fault Refusal :=
  let d := s.begin_
  s.done (if d.laneState (lane + 1) == 5 && (d.lane (lane + 1)).retraining then d.retrainLane (lane + 1) else d)

/-- SWAP_COMPLETE (R238, R239): the switch's readback, none where it did not answer. -/
def execSwapComplete (bar : Fin 8) (readback : Option Nat) (s : State) : Host.Outcome State Fault Refusal :=
  s.done (s.begin_.swapDone bar readback)

/-- LANE_QUALIFY_DONE (R241). -/
def execLaneQualifyDone (lane : Fin 72) (pass : Bool) (s : State) : Host.Outcome State Fault Refusal :=
  s.done (s.begin_.qualified (lane + 1) pass)

/-- RETRAIN (R237). -/
def execRetrain (sess : Nat) (lane : Nat) (s : State) : Host.Outcome State Fault Refusal :=
  s.hostWrite sess 0x3406 (fun d => d.laneCommand 1 0 lane)

/-- LOOPBACK (R237). -/
def execLoopback (sess : Nat) (lane arg : Nat) (s : State) : Host.Outcome State Fault Refusal :=
  s.hostWrite sess 0x3406 (fun d => d.laneCommand 2 arg lane)

/-- PRBS (R237). -/
def execPrbs (sess : Nat) (lane arg : Nat) (s : State) : Host.Outcome State Fault Refusal :=
  s.hostWrite sess 0x3406 (fun d => d.laneCommand 3 arg lane)

/-- BITSLIP (R234, R237). -/
def execBitslip (sess : Nat) (lane : Nat) (s : State) : Host.Outcome State Fault Refusal :=
  s.hostWrite sess 0x3406 (fun d => d.laneCommand 4 0 lane)

/-- PROTECT (R237, R240). -/
def execProtect (sess : Nat) (lane logical : Nat) (s : State) : Host.Outcome State Fault Refusal :=
  s.hostWrite sess 0x3406 (fun d => d.laneCommand 5 logical lane)

/-- REQUALIFY (R237, R241). -/
def execRequalify (sess : Nat) (lane : Nat) (s : State) : Host.Outcome State Fault Refusal :=
  s.hostWrite sess 0x3406 (fun d => d.laneCommand 6 0 lane)

end Sys2Proof.Machine
end

