-- ==== Sys2Proof/Machine/Link.lean ====
section
/-! DEFINITION. The head link: TRAIN, credits, retries, disagreements, module status and events, CHECK and heartbeats
(chapter 10). -/
namespace Sys2Proof.Machine

open Sys2Proof

namespace Dev

/-- A commanded handover or a rehearsal is mirrored as a decision of kind 14 for the first repeat that meets the margin
(R398); `cause` as 0x2C08:06. -/
def askHandover (d : Dev) (cause : Nat) : Dev :=
  d.mirror { kind := 14, barMask := 2 ^ d.nbars - 1, repeatNo := d.nextMet d.nextNum 1, line := 0, value := cause }

/-- A handover may be commanded (R398). -/
def handoverAllowed (d : Dev) : Bool :=
  d.role == 1 && d.paired && d.synced && d.sys.st == .printing && d.twin.handover.isNone &&
    !d.twin.pledges.any (fun p => p.msg.kind == 14)

/-- Page 1 of a module's TRAIN, its reserved bits ignored (R247, R249). -/
def moduleTrain (d : Dev) (s depth slots ports version ident : Nat) : Dev :=
  let n := laneBar s
  let slots := slots % 64
  let v := ident * 2 ^ 48 + version * 2 ^ 40 + ports % 4 * 2 ^ 32 + slots * 2 ^ 24 + depth * 2 ^ 16
  if d.g 0x3420 s == v then d
  else
    let bad := decide (depth < 32) || version != 1
    let d := (d.put 0x3420 s v).onLane s (fun l => { l with refused := bad })
    let d := if bad then (d.raise 53 (2 ^ n)).stepDown s else d
    match d.logicalOf s with
    | some l => if (d.badTiles n l slots).isEmpty then d else d.raise 53 (2 ^ n)
    | none => d

/-- A received TRAIN block: PAGE and bytes 2 to 7 (R249). -/
def gotTrain (d : Dev) (s : Nat) (p : Bytes) : Dev :=
  let b (i : Nat) : Nat := leNat (slice p i 1)
  if b 0 == 0 then (d.put 0x3414 s (b 1 % 32)).onLane s (fun l => { l with known := true })
  else if b 0 == 1 && decide (s ≤ 72) then d.moduleTrain s (b 1) (b 2) (b 3) (b 4) (leNat (slice p 5 2))
  else d

/-- The lane goes back to a line: lines already sent from there are sent again (R260). -/
def goBack (d : Dev) (s line : Nat) : Dev :=
  let l := d.lane s
  let to_ := max line (d.bar (laneBar s)).next
  if decide (to_ < l.next) then (d.setLane s { l with next := to_ }).bumpBy 0x3424 s (l.next - to_) else d

/-- A CREDIT arrives on a lane; on a warm takeover the bar fires again once each of its lanes has one (R256, R257, R396). -/
def gotCredit (d : Dev) (s acked window : Nat) : Dev :=
  let l := d.lane s
  let d := d.setLane s { l with credited := l.baseSent, acked := nearLine l.next acked, window := window, since := d.t }
  let n := laneBar s
  if (d.bar n).warmGap && (d.lanesOf n).all (fun k => d.laneState k != 4 || (d.lane k).credited) then
    d.onBar n (fun b => { b with warmGap := false })
  else d

/-- A RETRY arrives on a lane (R259, R260). -/
def gotRetry (d : Dev) (s frm reason epoch : Nat) : Dev :=
  let n := laneBar s
  let d := d.bump 0x3425 s
  let age := (d.epoch n + 256 - epoch % 256) % 256
  if decide (1 ≤ age ∧ age ≤ 127) then d
  else
    let d := match reason, d.print.revoke.find? n with
      | 4, some f =>
        let pl := leBytes 5 (f % 1099511627776) ++ [byte (d.epoch n)]
        (d.block s 0x55 pl).block s 0x55 pl
      | _, _ => d
    d.goBack s (nearLine (d.lane s).next frm)

/-- What a disagreement at a bar leads to, by how often it recurs within 1 h of the resynchronisation (R415). -/
def disagreement (d : Dev) (n : Nat) : Dev :=
  let (k, t0) := d.fl.disagreements.get (0, 0) n
  let within := k != 0 && decide (d.t < t0 + 3600000000000)
  let note (d : Dev) (k t : Nat) : Dev := { d with fl := { d.fl with disagreements := d.fl.disagreements.set n (k, t) } }
  if !within then
    let d := (note d 1 d.t).raiseAt 0x10 101 (2 ^ n) 0xFF 0
    if d.role == 2 then d.loseFlag 1 else if d.role == 1 then d.put 0x2C08 2 (setBit (d.g 0x2C08 2) 1 false) else d
  else if k == 1 then
    let d := (note d 2 t0).raiseAt 3 101 (2 ^ n) 0xFF 0
    if d.role != 1 then d
    else if d.handoverAllowed then ({ d with twin := { d.twin with restartAfter := true } } : Dev).askHandover 3
    else d.startRec { id := 0, event := 101, unit := 0xFF, mask := 2 ^ n, detail := 0, level := 3, start := d.t }
  else
    let d := (note d (k + 1) t0).raiseAt 4 101 (2 ^ n) 0xFF 0
    let d := { d with twin := { d.twin with partner := none, retryForm := false, pledges := [] } }
    let d := if d.role == 0 then d else d.put 0x2C08 2 0
    if d.role == 2 then d.put 0x2C08 1 4 else d

/-- A STATUS page (R269, Table 10.5). -/
def gotStatus (d : Dev) (s page : Nat) (data : Bytes) : Dev :=
  let v := leNat (slice data 0 6)
  if page == 0 then d.put 0x3421 s v
  else if page == 1 then
    let old := d.g 0x3422 s
    -- Reserved bits [7:5] of each byte are ignored (R247).
    let v := leNat ((slice data 0 6).map (fun b => b &&& 0x1F))
    let d := d.put 0x3422 s v
    (List.range 6).foldl (fun d k =>
      if (List.range 5).any (fun i => bit v (8 * k + i) && !bit old (8 * k + i)) then d.raise 54 (2 ^ laneBar s) 0xFF (s * 256 + k) else d) d
  else if page == 2 then d.put 0x3423 s (v % 256 * 256 + v / 256 % 256)
  else d

/-- A MODULE_EVENT (R270, Table 10.6; R263, R265). -/
def gotEvent (d : Dev) (s code seq : Nat) : Dev :=
  if code == 0 || decide (7 < code) then d
  else
    let n := laneBar s
    let v := d.g 0x3428 s
    let k := 8 * (code - 1)
    let b := bits v (k + 7) k
    let d := (d.put 0x3428 s (v - b * 2 ^ k + (b + 1) % 256 * 2 ^ k)).raise 55 (2 ^ n)
    let j := nearLine (d.bar n).next seq
    if code == 2 then d.missingLine n j
    else if code == 4 then
      let d := d.raise 59 (2 ^ n)
      match d.repAt j with
      | some r => d.spoil r.num n 8
      | none => d
    else d

/-- The CHECK field of the nozzles that a lane's outstanding CHECK names, from its first position (R271, Table 12.3). -/
def noteCheck (d : Dev) (s slot pos : Nat) (v : Nat) : Dev :=
  let n := laneBar s
  match (d.logicalOf s).bind (fun l => (List.range (d.gb n 0x5003 1)).find? (fun t => d.gb n 0x5010 (t + 1) % 64 == 8 * l + slot)) with
  | none => d
  | some t =>
    match (List.range 2560).find? (fun i => bits (d.remapEntry n (2 ^ 64) t i) 11 0 == pos) with
    | none => d
    | some i =>
      let k := 4 * (2560 * t + i)
      let recs := d.liveBytes n 0x6230 (4 * d.nozzles n)
      let st := leNat (slice recs k 1)
      d.putDom (0x6230 + n) (recs.take k ++ [byte (st - bits st 6 5 * 32 + v * 32)] ++ recs.drop (k + 1))

/-- The outstanding CHECK of a lane ends with a result for its position. -/
def endCheck (d : Dev) (s slot pos : Nat) (v : Option Nat) : Dev :=
  let d := d.onLane s (fun l => { l with check := none })
  (match v with
    | some x => d.noteCheck s slot pos x
    | none => d).pumpCheck s

/-- HEARTBEAT on every lane that is UP_LOW, UP or SPARE; none on twin lanes while HB_OUT is stopped (R267, R392). -/
def sendHeartbeats (d : Dev) : Dev :=
  (List.range 80).foldl (fun d i =>
    let s := i + 1
    if !d.laneLive s || (decide (73 ≤ s) && d.twin.hbOutStopped) then d
    else
      let c := ((d.lane s).hbTx + 1) % 4294967296
      (d.onLane s (fun l => { l with hbTx := c })).block s 0x66 (leBytes 4 c ++ [byte d.roleCode])) d

/-- A lane falls silent (R268): it is down. -/
def silent (d : Dev) (s : Nat) : Dev := if d.laneLive s || d.inSwap s then d.laneDown s else d

end Dev

/-- TRAIN (R249). -/
def execTrain (lane : Fin 80) (payload : Bytes) (s : State) : Host.Outcome State Fault Refusal :=
  let d := s.begin_
  s.done (if d.laneState (lane + 1) == 0 || d.laneState (lane + 1) == 7 then d else d.gotTrain (lane + 1) payload)

/-- CREDIT (R256). -/
def execCredit (lane : Fin 72) (acked window _epoch : Nat) (s : State) : Host.Outcome State Fault Refusal :=
  let d := s.begin_
  s.done (if d.laneState (lane + 1) == 4 then d.gotCredit (lane + 1) acked (window % 256) else d)

/-- RETRY (R260). -/
def execRetry (lane : Fin 72) (frm reason epoch : Nat) (s : State) : Host.Outcome State Fault Refusal :=
  let d := s.begin_
  s.done (if d.hears (lane + 1) then d.gotRetry (lane + 1) frm reason epoch else d)

/-- RESEND_TIMEOUT (R260): the device goes back to ACKED + 1. -/
def execResendTimeout (lane : Fin 72) (s : State) : Host.Outcome State Fault Refusal :=
  let d := s.begin_
  s.done (d.goBack (lane + 1) ((d.lane (lane + 1)).acked + 1))

/-- COMPARE (R415): the disagreement is counted and named, and the repeat of its line spoiled at the bar. -/
def execCompare (lane : Fin 72) (seq _kind _port : Nat) (s : State) : Host.Outcome State Fault Refusal :=
  let d := s.begin_
  let k := (lane : Nat) + 1
  let n := Dev.laneBar k
  let d' := (d.bump 0x3426 k).put 0x3427 k (seq % 1099511627776)
  let d' := match d'.repAt (Dev.nearLine (d'.bar n).next seq) with
    | some r => d'.spoil r.num n 8
    | none => d'
  s.done (if d.hears k then d'.disagreement n else d)

/-- STATUS (R269). -/
def execStatus (lane : Fin 72) (page : Nat) (data : Bytes) (s : State) : Host.Outcome State Fault Refusal :=
  let d := s.begin_
  s.done (if d.hears (lane + 1) then d.gotStatus (lane + 1) page data else d)

/-- MODULE_EVENT (R270). -/
def execModuleEvent (lane : Fin 72) (code seq _slot : Nat) (s : State) : Host.Outcome State Fault Refusal :=
  let d := s.begin_
  s.done (if d.hears (lane + 1) then d.gotEvent (lane + 1) code seq else d)

/-- CHECK_RSP (R271): only the answer that carries the outstanding ID counts. -/
def execCheckRsp (lane : Fin 72) (id result pass : Nat) (s : State) : Host.Outcome State Fault Refusal :=
  let d := s.begin_
  s.done (match (d.lane (lane + 1)).check with
    | some (i, slot, pos, _) =>
      if i != id then d
      else d.endCheck (lane + 1) slot pos (if result == 0 then some (if bit pass 0 then 1 else 2) else none)
    | none => d)

/-- CHECK_TIMEOUT (R271): counted, with EV_CHECK_TIMEOUT; the record shows no answer. -/
def execCheckTimeout (lane : Fin 72) (s : State) : Host.Outcome State Fault Refusal :=
  let d := s.begin_
  let k := (lane : Nat) + 1
  s.done (match (d.lane k).check with
    | some (_, slot, pos, _) => (((d.bump 0x3429 k).raise 56 (2 ^ Dev.laneBar k))).endCheck k slot pos (some 3)
    | none => d)

/-- HEARTBEAT (R267). -/
def execHeartbeat (lane : Fin 80) (count _state : Nat) (s : State) : Host.Outcome State Fault Refusal :=
  let d := s.begin_
  s.done (if d.hears (lane + 1) then d.onLane (lane + 1) (fun l => { l with hbRx := count % 4294967296 }) else d)

/-- HEARTBEAT_SEND (R267). -/
def execHeartbeatSend (s : State) : Host.Outcome State Fault Refusal := s.done s.begin_.sendHeartbeats

/-- HEARTBEAT_TIMEOUT (R268). -/
def execHeartbeatTimeout (lane : Fin 80) (s : State) : Host.Outcome State Fault Refusal := s.done (s.begin_.silent (lane + 1))

/-- ACK_STALL_TIMEOUT (R268): lines are outstanding and ACKED has not advanced for 2 ms. -/
def execAckStallTimeout (lane : Fin 72) (s : State) : Host.Outcome State Fault Refusal :=
  let d := s.begin_
  let k := (lane : Nat) + 1
  let l := d.lane k
  s.done (if d.laneState k == 4 && (l.carries || d.readySpare k) && decide (l.acked + 1 < l.next) then d.laneDown k else d)

end Sys2Proof.Machine
end

