-- ==== Sys2Proof/Machine/Keeper.lean ====
section
/-! DEFINITION. The keeper's and the census's commands: forming a generation, a trim reset, gate edges and the close of a
gap's windows (chapter 12). -/
namespace Sys2Proof.Machine

open Sys2Proof

namespace Dev

/-- A gate of Bn has been active longer than its window is wide, at instant `e` in 2.5 ns (R316). -/
def heldLong (d : Dev) (n since e : Nat) : Bool :=
  decide (2 * (d.g (0x3A20 + n) 4 - d.g (0x3A20 + n) 3) < 5 * (e - since))

/-- An edge of a gate of Bn to or from its active level (R313, R316). -/
def gateEdge (d : Dev) (n g e : Nat) (high : Bool) : Dev :=
  let active := high != (d.g (0x3A20 + n) 6 == 1)
  let c := d.census n
  if active then (d.setCensus n { c with heldSince := c.heldSince.set g e }).takeEdge n g e
  else match c.heldSince.find? g with
    | none => d
    | some st =>
      let c := { c with heldSince := c.heldSince.erase g }
      d.setCensus n (if d.heldLong n st e && !c.heldGates.contains g then { c with heldGates := c.heldGates ++ [g] } else c)

/-- Gates of Bn that are still active, and have been for too long. -/
def holdGates (d : Dev) (n : Nat) : Dev :=
  let c := d.census n
  let long := [0, 1].filter (fun g => match c.heldSince.find? g with
    | some st => !c.heldGates.contains g && d.heldLong n st (d.t * 2 / 5)
    | none => false)
  if long.isEmpty then d else d.setCensus n { c with heldGates := c.heldGates ++ long }

/-- Every test line of the gap in progress at Bn has been fired or dropped. -/
def testsOver (d : Dev) (n : Nat) : Bool :=
  let c := d.census n
  c.tests.all (fun t => t.start.isSome || t.discarded || decide (c.gapLine + t.g < (d.bar n).next))

/-- A write of 0x3A01:00: the trims of the bars named are set to zero by a generation (R312). -/
def writeTrimReset (d : Dev) (mask : Nat) : Dev × Nat :=
  let m := (d.barList.filter (fun n => bit mask n)).foldl (fun m n => m + 2 ^ n) 0
  if m == 0 || d.role == 2 then (d, 0) else ((d.holdContent { resets := m }).formGen, 0)

end Dev

/-- KEEPER_GENERATION_FORM (R307, R308, R310). -/
def execKeeperGenerationForm (s : State) : Host.Outcome State Fault Refusal := s.done s.begin_.formGen

/-- TRIM_RESET (R312). -/
def execTrimReset (sess mask : Nat) (s : State) : Host.Outcome State Fault Refusal :=
  s.hostWrite sess 0x3A01 (fun d => d.writeTrimReset mask)

/-- GATE_EDGE (R313): an edge of a gate to level `high` at `t`, in 2.5 ns. -/
def execGateEdge (gate : Fin 16) (t : Nat) (high : Bool) (s : State) : Host.Outcome State Fault Refusal :=
  let d := s.begin_
  s.done (if decide ((gate : Nat) / 2 < d.nbars) then d.gateEdge ((gate : Nat) / 2) ((gate : Nat) % 2) t high else d)

/-- TEST_WINDOW_CLOSE (R316): with the gap's last window the gates are judged and its tests classified. -/
def execTestWindowClose (bar : Fin 8) (s : State) : Host.Outcome State Fault Refusal :=
  let d := s.begin_
  s.done (if (d.keeper.sweeps.find? bar).isSome || !d.testsOver bar then d else (d.holdGates bar).closeGap bar)

end Sys2Proof.Machine
end

