-- ==== Sys2Proof/Machine/Clocks.lean ====
section
/-! DEFINITION. Network time: the PTP domains, the domain in force, timed outputs and captures (chapter 14). -/
namespace Sys2Proof.Machine

open Sys2Proof

namespace Dev

/-- State of PTP domain k (0x2404:01). -/
def ptpState (d : Dev) (k : Nat) : Nat := d.g (0x2404 + k) 1

/-- PTP domain k is enabled. -/
def ptpOn (d : Dev) (k : Nat) : Bool := d.g (0x2400 + k) 1 == 1

/-- The domain that is preferred (0x2402:01). -/
def preferred (d : Dev) : Nat := d.g 0x2402 1

/-- The service timescale has stepped, switched or first locked: its generation rises (R336). -/
def newGeneration (d : Dev) : Dev := d.bump 0x2406 2

/-- Reading, in ns, of the timescale that timed output k follows. -/
def toutNow (d : Dev) (k : Nat) : Nat := if d.g (0x2410 + k) 2 == 1 then d.t else d.serviceNow

/-- Smallest m at or above `from_` whose edge is not earlier than the present reading (R345). -/
def toutSeek (d : Dev) (k from_ : Nat) : Nat :=
  let start := d.g (0x2410 + k) 3
  let period := d.g (0x2410 + k) 4
  let now_ := d.toutNow k
  if period == 0 then (if decide (now_ ≤ start) then from_ else max from_ 1)
  else max from_ (ceilDiv (now_ - start) period)

/-- The next m of timed output k set. -/
def setTout (d : Dev) (k m : Nat) : Dev := { d with time := { d.time with toutNext := d.time.toutNext.set k m } }

/-- Timed output k begins a pulse, where its device drives it (R344, R347). -/
def toutPulse (d : Dev) (k time : Nat) : Dev :=
  if d.g (0x2410 + k) 8 == 1 && !d.drives then d else d.emit (.tout k time (d.g (0x2410 + k) 5))

/-- The edges of armed outputs on the service timescale are found again after a step; those passed over are counted
(R345). -/
def seekTouts (d : Dev) : Dev :=
  (List.range 8).foldl (fun d k =>
    if d.g (0x2410 + k) 1 == 0 || d.g (0x2410 + k) 2 == 1 then d
    else
      let m := d.time.toutNext.get 0 k
      let m' := d.toutSeek k m
      let d := if decide (m < m') then d.bumpBy (0x2418 + k) 2 (m' - m) else d
      let d := d.setTout k m'
      if d.g (0x2410 + k) 4 == 0 && decide (m < m') then d.put (0x2410 + k) 1 0 else d) d

/-- The service timescale has stepped: the edges of timed outputs are found again, and the next process-data cycle instant is
at the first multiple after the step (R337, R345). -/
def timeStepped (d : Dev) : Dev :=
  let d := d.seekTouts
  { d with time := { d.time with cyclePast := some d.serviceNow } }

/-- Timed output k as committed: its first edge, or a one-shot edge already passed (R345). -/
def commitTout (d : Dev) (k : Nat) : Dev :=
  if d.g (0x2410 + k) 1 == 0 then d.setTout k 0
  else
    let m := d.toutSeek k 0
    if d.g (0x2410 + k) 4 == 0 && m != 0 then
      let d := (d.setTout k 0).put (0x2410 + k) 1 0
      if d.g (0x2410 + k) 7 == 1 then
        (((d.toutPulse k (d.toutNow k)).bump (0x2418 + k) 3).put (0x2418 + k) 4 (d.toutNow k)).raise 81
      else d.raise 81
    else d.setTout k m

/-- The service timescale takes domain k (R341, R342). -/
def switchTo (d : Dev) (k : Nat) : Dev :=
  let c := (if d.time.inForce == 2 then (d.t : Int) * 65536 else d.ptpReading d.time.inForce d.t) - d.ptpBase k d.t
  let step := decide (65536000000 ≤ c.natAbs)
  let d := d.setPtp k { d.ptp k with carried := if step then 0 else c }
  let d := { d with time := { d.time with inForce := k, slewAt := d.t, wantSwitch := false, away := k != d.preferred } }
  let d := ((d.put 0x2406 1 k).newGeneration).raise 80
  if step then (d.raise 77).timeStepped else d

/-- EV_TIME_LOCK with the domain in bits [15:8] and the new state in bits [7:0] of the detail (R339). -/
def lockEvent (d : Dev) (k st : Nat) : Dev := d.raise 78 0 0xFF (k * 256 + st)

/-- Domain k has become LOCKED (R339, R341). -/
def locked (d : Dev) (k : Nat) : Dev :=
  let d := (d.put (0x2404 + k) 1 3).setPtp k { d.ptp k with lockedSince := d.t, outRow := 0 }
  let d := d.lockEvent k 3
  if d.time.inForce == 2 then
    if k == d.preferred || !d.ptpOn d.preferred then
      let was := d.serviceNow
      let d := { d with time := { d.time with inForce := k, slewAt := d.t, away := false } }
      let d := (d.put 0x2406 1 k).newGeneration
      if was == d.serviceNow then d else d.timeStepped
    else d
  else if d.time.wantSwitch && d.time.inForce != k then d.switchTo k
  else d

/-- The counts of Syncs within the lock threshold, and beyond twice it, after one with this offset (R339). -/
def countLock (d : Dev) (k off : Nat) : Dev :=
  let p := d.ptp k
  let thr := d.g (0x2400 + k) 8 * 65536
  let p := { p with inRow := if decide (off ≤ thr) then p.inRow + 1 else 0
                    outRow := if decide (2 * thr < off) then p.outRow + 1 else 0 }
  let d := d.setPtp k p
  if d.ptpState k == 3 then
    if decide (4 ≤ p.outRow) then (d.put (0x2404 + k) 1 2).lockEvent k 2 else d
  else
    let d := d.put (0x2404 + k) 1 2
    if decide (16 ≤ p.inRow) then d.locked k else d

/-- A Sync of domain k that left its master at `origin` and arrived at local value `arrival` (R339). -/
def measure (d : Dev) (k origin arrival : Nat) : Dev :=
  let p := d.ptp k
  let master : Int := (origin : Int) * 65536 + p.pathDelay
  let read := d.ptpBase k arrival
  let off := read - master
  let d := d.setPtp k { p with waiting := none, syncOrigin := origin, syncArrival := arrival }
  let p := d.ptp k
  let d := d.put (0x2404 + k) 2 (ofSigned 64 (Int.fdiv off 65536))
  let d :=
    if decide (d.g (0x2400 + k) 9 * 65536 ≤ off.natAbs) then
      let d := d.setPtp k { p with anchorL := (arrival : Int) * 65536, anchorT := master, carried := 0 }
      let d := (d.bump (0x2404 + k) 6).raise 77
      if d.time.inForce == k then d.newGeneration.timeStepped else d
    else
      let r := clampInt (Config.servoRate off p.rate p.interval) (-2147484) 2147484
      (d.setPtp k { p with anchorL := (arrival : Int) * 65536, anchorT := read, rate := r }).put (0x2404 + k) 3 (ofSigned 32 r)
  d.countLock k off.natAbs

/-- Mean path delay of domain k set, in ns with 16 fraction bits. -/
def setDelay (d : Dev) (k : Nat) (v : Int) : Dev :=
  (d.setPtp k { d.ptp k with pathDelay := v, reqSent := none }).put (0x2404 + k) 4 ((max 0 (Int.fdiv v 65536)).toNat % 4294967296)

/-- A capture at local instant `t`, in 2.5 ns, enters the queue of TIN input k, or finds it full (R346). -/
def capture (d : Dev) (k : Nat) (falling : Bool) (t : Nat) : Dev :=
  let q := d.time.queues.get [] k
  if decide (16 ≤ q.length) then (d.bump (0x2428 + k) 2).raiseLimited 1000000000 82 0 0xFF 0
  else
    let n := d.time.seqs.get 0 k + 1
    let c : Capture := { time := d.serviceAt (t * 5 / 2), seq := n % 4294967296, falling := falling, gen := d.g 0x2406 2 % 256 }
    let d := { d with time := { d.time with queues := d.time.queues.set k (q ++ [c]), seqs := d.time.seqs.set k n } }
    d.bump (0x2428 + k) 1

/-- The oldest capture of input k in its 16 bytes, and the device without it; zeros from an empty queue (R346). -/
def popCapture (d : Dev) (k : Nat) : Dev × Bytes :=
  match d.time.queues.get [] k with
  | [] => (d, List.replicate 16 0)
  | c :: r =>
    ({ d with time := { d.time with queues := d.time.queues.set k r } },
      leBytes 8 c.time ++ leBytes 4 c.seq ++ [byte (if c.falling then 1 else 0), byte c.gen, 0, 0])

/-- A read by a session of an object that a read changes. -/
def readRequest (d : Dev) (sess idx : Nat) (read : Dev → Dev × Bytes) : Dev :=
  match d.session? sess with
  | none => d
  | some x =>
    if x.port != 0 || !d.sys.verified then d
    else if d.com.op.isSome then d.emit (.answer sess 0x0F000010)
    else if d.gated idx then d.emit (.answer sess 0x08000022)
    else
      let (d, b) := read d
      d.emit (.value sess b)

end Dev

/-- SYNC (R339): a two-step master's Sync waits for its Follow_Up. -/
def execSync (dom : Fin 2) (twoStep : Bool) (origin : Nat) (logInterval : Int) (arrival : Nat) (s : State) :
    Host.Outcome State Fault Refusal :=
  let d := s.begin_
  let e := d.setPtp dom { d.ptp dom with lastSync := arrival, interval := logInterval }
  s.done (if !d.ptpOn dom then d
    else if twoStep then e.setPtp dom { e.ptp dom with waiting := some arrival }
    else e.measure dom origin arrival)

/-- FOLLOW_UP (R339). -/
def execFollowUp (dom : Fin 2) (origin : Nat) (s : State) : Host.Outcome State Fault Refusal :=
  let d := s.begin_
  s.done (match (d.ptp dom).waiting with
    | some a => if d.ptpOn dom then d.measure dom origin a else d
    | none => d)

/-- ANNOUNCE (R338): the best master's identity and receipt timeout are kept; another's changes nothing. -/
def execAnnounce (dom : Fin 2) (identity : Nat) (best : Bool) (receiptTimeout : Nat) (s : State) : Host.Outcome State Fault Refusal :=
  let d := s.begin_
  let e := (d.setPtp dom { d.ptp dom with lastAnnounce := d.t, receiptTimeout := receiptTimeout }).put (0x2404 + dom) 5 identity
  s.done (if !d.ptpOn dom || !best then d else if d.ptpState dom == 0 then e.put (0x2404 + dom) 1 1 else e)

/-- DELAY_REQ_SEND (R338): Delay_Req, or Pdelay_Req where the domain measures peer delay. -/
def execDelayReqSend (dom : Fin 2) (s : State) : Host.Outcome State Fault Refusal :=
  let d := s.begin_
  let e := d.setPtp dom { d.ptp dom with reqSent := some d.t }
  s.done (if d.ptpOn dom then e.emit (.ptp dom (if d.g (0x2400 + dom) 5 == 1 then 2 else 1) d.t) else d)

/-- DELAY_RESP (R339): half the sum of the Sync's path and the request's, in the domain's own time. -/
def execDelayResp (dom : Fin 2) (received : Nat) (s : State) : Host.Outcome State Fault Refusal :=
  let d := s.begin_
  let p := d.ptp dom
  s.done (match p.reqSent with
    | some l =>
      if d.ptpOn dom && d.g (0x2400 + dom) 5 == 0 then
        d.setDelay dom (Int.fdiv (d.ptpBase dom p.syncArrival - d.ptpBase dom l + ((received : Int) - p.syncOrigin) * 65536) 2)
      else d
    | none => d)

/-- PDELAY_REQ (R338): answered one-step, or two-step with a follow-up. -/
def execPdelayReq (dom : Fin 2) (arrival : Nat) (s : State) : Host.Outcome State Fault Refusal :=
  let d := s.begin_
  s.done (if !d.ptpOn dom then d
    else if d.g (0x2400 + dom) 6 == 1 then d.emit (.ptp dom 3 arrival)
    else d.emits [.ptp dom 3 arrival, .ptp dom 4 d.t])

/-- PDELAY_RESP (R339): ((t4 − t1) − (t3 − t2)) ÷ 2. -/
def execPdelayResp (dom : Fin 2) (t1 t2 t3 t4 : Nat) (s : State) : Host.Outcome State Fault Refusal :=
  let d := s.begin_
  s.done (if d.ptpOn dom && d.g (0x2400 + dom) 5 == 1 then
      d.setDelay dom (Int.fdiv ((((t4 : Int) - t1) - ((t3 : Int) - t2)) * 65536) 2)
    else d)

/-- MASTER_LOSS (R340, R341): HOLDOVER, and a switch where the reaction asks for one. -/
def execMasterLoss (dom : Fin 2) (s : State) : Host.Outcome State Fault Refusal :=
  let d := s.begin_
  let k : Nat := dom
  let st := d.ptpState k
  s.done (if !d.ptpOn k || st == 0 || st == 4 then d
    else
      let e := ((d.put (0x2404 + k) 1 4).setPtp k { d.ptp k with inRow := 0, outRow := 0, waiting := none }).raise 79
      if d.time.inForce != k || d.g (0x2400 + k) 0x0A == 0 then e
      else if e.ptpState (1 - k) == 3 then e.switchTo (1 - k)
      else { e with time := { e.time with wantSwitch := true } })

/-- PREFERRED_RETURN (R341). -/
def execPreferredReturn (s : State) : Host.Outcome State Fault Refusal :=
  let d := s.begin_
  s.done (if d.time.away && d.ptpState d.preferred == 3 then d.switchTo d.preferred else d)

/-- TOUT_EDGE (R344): the edge of the next m; a one-shot output then returns to mode 0. -/
def execToutEdge (k : Fin 8) (s : State) : Host.Outcome State Fault Refusal :=
  let d := s.begin_
  let i : Nat := k
  let m := d.time.toutNext.get 0 i
  let at_ := d.g (0x2410 + i) 3 + m * d.g (0x2410 + i) 4
  let e := (((d.toutPulse i at_).bump (0x2418 + i) 1).put (0x2418 + i) 4 at_)
  s.done (if d.g (0x2410 + i) 1 == 0 || !d.fast then d
    else if d.g (0x2410 + i) 4 == 0 then e.put (0x2410 + i) 1 0 else e.setTout i (m + 1))

/-- CAPTURE_READ (R346). -/
def execCaptureRead (sess : Nat) (k : Fin 8) (s : State) : Host.Outcome State Fault Refusal :=
  s.done (s.begin_.readRequest sess (0x2428 + k) (fun d => d.popCapture k))

end Sys2Proof.Machine
end

