-- ==== Sys2Proof/Machine/Motion.lean ====
section
/-! DEFINITION. Encoders, index supervision, sheet captures, position compare and the Reckoner (chapters 07 and 08, R204 to
R209 and R213). -/
namespace Sys2Proof.Machine

open Sys2Proof

/-- pi, to 30 places. -/
def piRat : Rat := 3141592653589793238462643383279 / 1000000000000000000000000000000

/-- omega of R204 for a bandwidth in Hz: 2 pi B times 40 ns. -/
def omega (b : Nat) : Rat := 2 * piRat * (b : Nat) / 25000000

/-- One step through the hysteresis of R183. -/
def Enc.step (e : Enc) (st : Int) : Enc :=
  if e.held then
    if st == e.last then { e with held := false }
    else { e with held := false, count := e.count + st, last := st, reversal := true }
  else if st == e.last then { e with count := e.count + st }
  else { e with held := true }

/-- `k` steps in one direction through the hysteresis (R183). -/
def Enc.stepBy (st : Int) : Nat → Enc → Enc
  | 0, e => e
  | k + 1, e => stepBy st k (e.step st)

/-- Among `n` samples at level `new`, the one with which the input takes that level: it has then held for the filter's length, or is
the first where the filter is off (R180). -/
def accepts (level raw new : Bool) (run n filter : Nat) : Option Nat :=
  let k := max 1 (filter - (if new == raw then run else 0))
  if new != level && decide (k ≤ n) then some k else none

namespace Dev

/-- The web channel the Reckoner follows. -/
def web (d : Dev) : Nat := d.g 0x3200 1

/-- Fault flags of encoder channel c (Table 7.8). -/
def encFlags (d : Dev) (c : Nat) : Nat := d.g (0x3008 + c) 0x0A

/-- A fault flag of encoder channel c set or cleared. -/
def setFlag (d : Dev) (c i : Nat) (b : Bool) : Dev := d.put (0x3008 + c) 0x0A (setBit (d.encFlags c) i b)

/-- The channel counts: enabled, its domain running, no signal fault (R186). -/
def counting (d : Dev) (c : Nat) : Bool :=
  d.g (0x3000 + c) 1 == 1 && d.fast && !bit (d.encFlags c) 0 && !bit (d.encFlags c) 1

/-- A channel's state after steps, with its count published. -/
def putEnc (d : Dev) (c : Nat) (e : Enc) : Dev := (d.setEnc c e).put (0x3008 + c) 1 (ofSigned 64 e.count)

/-- A step in the sense of the input, turned by the direction bit (R181, R183). -/
def encStep (d : Dev) (c : Nat) (up : Bool) : Dev :=
  let st : Int := if up != (d.g (0x3000 + c) 4 == 1) then 1 else -1
  d.putEnc c ((d.enc c).step st)

/-- An accepted A, B sample (R181). -/
def encSample (d : Dev) (c : Nat) (a b : Bool) : Dev :=
  let e := d.enc c
  let d1 := d.setEnc c { e with a := a, b := b }
  if e.a != a && e.b != b then
    (d1.bump (0x3008 + c) 2).raiseLimited 100000000 32 0 c (ofSigned 32 e.count)
  else if e.a != a then d1.encStep c (a != b)
  else if e.b != b then d1.encStep c (a == b)
  else d1

/-- The Reckoner re-anchors at the present counter and position (R205). -/
def reAnchor (d : Dev) : Dev :=
  let r := d.reck
  { d with reck := { r with anchorC := (d.enc d.web).count, anchorP := r.p, trim := d.gi 32 (0x3008 + d.web) 9 } }

/-- The Reckoner's state with 0x3208:04. -/
def reckState (d : Dev) (st : Nat) : Dev := ({ d with reck := { d.reck with state := st } } : Dev).put 0x3208 4 st

/-- The index trim of a channel set, in 0.01 ppm; where it changes, the Reckoner re-anchors at its next update (R189, R205). -/
def setTrim (d : Dev) (c : Nat) (t : Int) : Dev := d.put (0x3008 + c) 9 (ofSigned 32 t)

/-- An index fault is declared, with its detail (R188). -/
def indexFault (d : Dev) (c : Nat) (detail : Nat) : Dev :=
  ((d.setFlag c 2 true).bump (0x3008 + c) 8).raise 36 0 c detail

/-- The soft correction of a drift, in 0.01 ppm, and whether it meets its limit (R187). -/
def softTrim (d : Dev) (c : Nat) (drift : Int) : Int × Bool :=
  let raw := Int.tdiv (drift * 100000000) (d.g (0x3000 + c) 7 : Nat)
  let t := d.gi 32 (0x3008 + c) 9 - clampInt raw (-5000) 5000
  let lim : Int := (d.g (0x3000 + c) 0x0B * 100 : Nat)
  (clampInt t (-lim) lim, decide (lim < t.natAbs))

/-- An index edge is classified against its predecessor (R187). -/
def classifyIndex (d : Dev) (c : Nat) (latch : Int) : Dev :=
  let e := d.enc c
  let d := match e.lastLatch with
    | none => d
    | some was =>
      if e.reversal || bit (d.encFlags c) 3 then d
      else
        let cpr : Int := (d.g (0x3000 + c) 7 : Nat)
        let tol := d.g (0x3000 + c) 9
        let drift := latch - was - cpr
        let dt := ofSigned 32 drift
        let d := d.put (0x3008 + c) 5 dt
        if decide (drift.natAbs ≤ tol) then d.setFlag c 2 false
        else if decide (drift.natAbs ≤ 4 * tol) then
          let d := (d.raise 35 0 c dt).bump (0x3008 + c) 7
          if d.g (0x3000 + c) 0x0A == 1 && c == d.web && !bit (d.encFlags c) 2 && d.role != 2 then
            let (t, hit) := d.softTrim c drift
            let d := if hit then d.indexFault c dt else d
            let d := d.setTrim c t
            d.mirror { kind := 9, barMask := 0, repeatNo := d.g (0x3008 + c) 6, line := c, value := ofSigned 32 t }
          else d
        else d.indexFault c dt
  let e := d.enc c
  (d.setFlag c 3 false).setEnc c { e with lastLatch := some latch, reversal := false, absent := false }

/-- A gated index edge at local instant `t`, in 2.5 ns: the latch, its number and time, its classification, and a mirrored trim that
names it (R184, R187, R188, R190, R386). -/
def indexEdge (d : Dev) (c t : Nat) : Dev :=
  let e := d.enc c
  let time := d.serviceAt (t * 5 / 2)
  let d := ((d.put (0x3008 + c) 4 (ofSigned 64 e.count)).bump (0x3008 + c) 6).put (0x2408 + c) 1 time
  let n := d.g (0x3008 + c) 6
  let d := if d.g (0x3000 + c) 8 == 1 then d.classifyIndex c e.count else d.setEnc c { e with lastLatch := none }
  let d := match (d.enc c).mirrored.find? (fun m => m.1 == n) with
    | some m => (d.setTrim c m.2).setEnc c { d.enc c with mirrored := (d.enc c).mirrored.filter (fun x => decide (n < x.1)) }
    | none => d
  if c != d.web then d
  else if d.role == 1 then
    d.twinSend 8 (leBytes 4 n ++ leBytes 8 time ++ leBytes 8 (ofSigned 64 e.count) ++ leBytes 8 d.posn)
  else if d.role == 2 || d.role == 3 then
    { d with twin := { d.twin with marks := ({ time := time, count := e.count, out := d.reck.hwm } :: d.twin.marks).take 8 } }
  else d

/-- The Reckoner starts coasting (R208). -/
def coast (d : Dev) : Dev :=
  if decide (2 ≤ d.reck.state) then d
  else
    let d := ({ d with reck := { d.reck with coastStart := d.t } } : Dev).reckState 2
    (d.bump 0x3208 7).raise 42 0 d.web

/-- Bn has passed the end boundary of a stop: no repeat is in progress there (R460). -/
def pastEnd (d : Dev) (n : Nat) : Bool := match d.print.endRep.bind d.boundary with
  | some e => decide (ceilLine e ≤ (d.bar n).next)
  | none => false

/-- Position is lost after 20 ms of coasting (R209). -/
def losePosition (d : Dev) : Dev :=
  let d := ({ d with reck := { d.reck with vel := 0 } } : Dev).reckState 3
  let d := (((d.put 0x3208 2 0).put 0x3208 3 0).bump 0x3208 8).raise 43 (2 ^ d.nbars - 1) d.web
  if !d.printingLike then d
  else (d.barList.filter (fun n => !d.pastEnd n)).foldl (fun d n => (d.spoil (d.barRep n) n 9).onBar n (fun b => { b with posLost := true })) d

/-- Channel c holds a signal fault (R186). -/
def signalFault (d : Dev) (c : Nat) : Bool := bit (d.encFlags c) 0 || bit (d.encFlags c) 1

/-- A condition of R186 has lasted 16 samples: the channel declares its signal fault, and holds its count; a second condition while
one holds only sets its flag. The Reckoner coasts where it follows the channel (R208). -/
def declareSignal (d : Dev) (c : Nat) (out rapid : Bool) : Dev :=
  let held := d.signalFault c
  let d := if out then d.setFlag c 0 true else d
  let d := if rapid then d.setFlag c 1 true else d
  if held then d
  else
    let d := d.raise 34 0 c (d.encFlags c)
    if c == d.web then d.coast else d

/-- The signal fault clears: the count resumes with a phase change within the period, half a period forward, and the discontinuity
flag is set (R186). -/
def clearSignal (d : Dev) (c : Nat) (phase : Int) : Dev :=
  let n : Int := (d.g (0x3000 + c) 0x0F : Nat)
  let m := phase % n
  let step := if n < 2 * m then m - n else m
  let e := d.enc c
  (((d.setFlag c 0 false).setFlag c 1 false).setFlag c 3 true).putEnc c { e with count := e.count + step }

/-- The Reckoner tracks again from where it stands, once its channel holds no signal fault (R205, R208, R209). -/
def trackAgain (d : Dev) (c : Nat) : Dev :=
  if c == d.web && decide (2 ≤ d.reck.state) then d.reAnchor.reckState 0 else d

/-- An ADC sample of a sin/cos channel: its amplitude ratio is published, its interpolated count steps, and the conditions of R185
and R186 are judged over 16 and 256 samples. At 5 MS/s a period takes 20 samples at 250 kHz, and 50 M counts/s are 10 a sample. -/
def adcSample (d : Dev) (c : Nat) (sin cos : Int) : Dev :=
  let i := 0x3000 + c
  let n := d.g i 0x0F
  let a := d.g i 0x0C
  let ratio := min 65535 ((sin * sin + cos * cos).toNat * 256 / (a * a))
  let out := decide (ratio < d.g i 0x0D) || decide (d.g i 0x0E < ratio)
  let now := Config.phase sin cos n % n
  let e := d.enc c
  let moved : Int := ((now : Int) - (match e.phase with
    | some _ => e.lastPhase
    | none => now : Nat)) % (n : Int)
  let delta : Int := if (n : Int) < 2 * moved then moved - n else moved
  let rapid := decide (n < 20 * delta.natAbs) || decide (10 < delta.natAbs)
  let e := { e with
    a := decide (0 < cos), b := decide (0 < sin), lastPhase := now
    phase := if e.phase.isNone then some now else e.phase
    badRun := if out then e.badRun + 1 else 0
    fastRun := if rapid then e.fastRun + 1 else 0
    goodRun := if out || rapid then 0 else e.goodRun + 1 }
  let d := (d.setEnc c e).put (0x3008 + c) 0x0B ratio
  let d := if decide (16 ≤ e.badRun) || decide (16 ≤ e.fastRun) then d.declareSignal c (decide (16 ≤ e.badRun)) (decide (16 ≤ e.fastRun)) else d
  if !d.signalFault c then
    let up := decide (0 < delta)
    let st : Int := if up != (d.g i 4 == 1) then 1 else -1
    d.putEnc c { (Enc.stepBy st delta.natAbs e) with phase := some now }
  else if decide (256 ≤ e.goodRun) then
    let back : Int := (now : Int) - ((e.phase.getD now : Nat) : Int)
    let d := d.clearSignal c (if d.g i 4 == 1 then -back else back)
    (d.setEnc c { d.enc c with phase := some now }).trackAgain c
  else d

/-- The Z input takes a level at local instant `t` in a sample whose accepted A, B state is given. Its transition to the active level is an index edge: inside
the gate quadrant it latches, outside it is counted and reported, and Z held active gives no other (R182, R184). -/
def indexSample (d : Dev) (c : Nat) (a b z : Bool) (t : Nat) : Dev :=
  let e := d.enc c
  let active := z != (d.g (0x3000 + c) 6 == 1)
  let d := d.setEnc c { e with z := z }
  if z == e.z || !active then d
  else
    let gate := d.g (0x3000 + c) 5
    let inside := gate == 4 || (gate == 0 && !a && !b) || (gate == 1 && a && !b) || (gate == 2 && a && b) || (gate == 3 && !a && b)
    if inside then d.indexEdge c t
    else (d.bump (0x3008 + c) 3).raiseLimited 100000000 33 0 c (ofSigned 32 e.count)

/-- `n` samples of A, B and Z in a row pass the glitch filter (R180): each input takes its new level with the sample that completes the
filter's length, and inputs that do so together change in one accepted sample. -/
def rawSamples (d : Dev) (c : Nat) (a b z : Bool) (n : Nat) : Dev :=
  let e := d.enc c
  let len := d.g (0x3000 + c) 3
  let ta := accepts e.a e.raw.1 a e.runs.1 n len
  let tb := accepts e.b e.raw.2.1 b e.runs.2.1 n len
  let tz := accepts e.z e.raw.2.2 z e.runs.2.2 n len
  let run (new raw : Bool) (k : Nat) : Nat := if new == raw then k + n else n
  let d := d.setEnc c { e with raw := (a, b, z), runs := (run a e.raw.1 e.runs.1, run b e.raw.2.1 e.runs.2.1, run z e.raw.2.2 e.runs.2.2) }
  let digital := d.g (0x3000 + c) 2 == 0
  let one (d : Dev) (k : Nat) : Dev :=
    let a' := if ta == some k && digital then a else (d.enc c).a
    let b' := if tb == some k && digital then b else (d.enc c).b
    let d := if digital then d.encSample c a' b' else d
    if tz == some k then d.indexSample c a' b' z (d.t * 2 / 5) else d
  (([ta, tb, tz].filterMap id).dedup.insertionSort (· ≤ ·)).foldl one d

/-- The demand ratio of Bn under a context, for its primary or its alternate screen (R213); 0 where no dots are laid. -/
def demand (d : Dev) (n : Nat) (c : Option Nat) (alt : Bool) : Rat :=
  match c with
  | none => 0
  | some c =>
    if !bit (d.cg c 0x4000 2) n then 0
    else
      let (f, cn) := d.fireLimits c n
      let v : Rat := (d.lineRate : Nat)
      let fire : Rat := (d.cg c (0x4060 + n) 1 : Nat)
      if alt then max (if cn = 0 then 0 else v / cn) (v / (2 * fire)) else if f = 0 then 0 else v / f

/-- A demand ratio in 0.1 %, held to 16 bits (0x5006:02). -/
def permille (x : Rat) : Nat := min 65535 (x * 1000).floor.toNat

/-- WARNING of every bar (R213). -/
def fireWarn (d : Dev) : Dev :=
  let one (d : Dev) (n : Nat) : Bool × Bool :=
    let x := d.demand n (d.bar n).ctx (d.bar n).alternate
    (decide (97 / 100 ≤ x), decide (x < 95 / 100))
  let new_ := d.barList.filter (fun n => !(d.bar n).warning && (one d n).1)
  let d := d.barList.foldl (fun d n =>
    let (hi, lo) := one d n
    if hi || ((d.bar n).warning && lo) then d.onBar n (fun b => { b with warning := hi }) else d) d
  match new_ with
  | [] => d
  | n :: _ => d.raise 44 (new_.foldl (fun m k => m + 2 ^ k) 0) 0xFF (permille (d.demand n (d.bar n).ctx (d.bar n).alternate))

/-- The margin of R86 as Bn sees it has been crossed for a boundary at `b`. -/
def marginCrossed (d : Dev) (n b : Nat) : Bool := decide (500 * (b + d.offset n) < 500 * d.posn + d.margin500)

/-- A bar under its alternate screen is judged for its return, once for each boundary whose margin is crossed (R216). -/
def altReturn (d : Dev) (n : Nat) : Dev :=
  let b := d.bar n
  if !b.alternate || b.altAt.isSome || d.role == 2 then d
  else
    let k := max (d.barRep n) b.altTried + 1
    match d.boundary k with
    | none => d
    | some at_ =>
      if !d.marginCrossed n at_ then d
      else
        let d := d.onBar n (fun b => { b with altTried := k })
        let c := match d.rep? k with
          | some r => if (r.ctxs.find? n).isSome then none else r.ctx
          | none => d.ctxAt k
        if d.demand n c false < 95 / 100 ∧ b.rend ≤ ceilLine at_ then
          (d.onBar n (fun b => { b with altAt := some (false, k) })).mirror { kind := 8, barMask := 2 ^ n, repeatNo := k, line := 0, value := 4 }
        else d

/-- Reverse depth and what it leads to, after an update (R207). `rose` tells that the output rose. -/
def reverse (d : Dev) (rose : Bool) (q : Rat) : Dev :=
  let c := (d.enc d.web).count
  let r := d.reck
  let top := if rose then c else max r.maxC c
  let rho := (top - c).toNat
  let d := ({ d with reck := { r with maxC := top, reported := r.reported && !rose, undone := r.undone && !rose } } : Dev).put 0x3208 5 rho
  let d := if decide (d.g 0x3200 5 < rho) && !d.reck.reported then
      (({ d with reck := { d.reck with reported := true } } : Dev).bump 0x3208 6).raise 41 0 d.web rho
    else d
  if decide (96 < (rho : Rat) * q) && !d.reck.undone then
    let d := ({ d with reck := { d.reck with undone := true } } : Dev).bump 0x3208 9
    if d.printingLike then d.barList.foldl (fun d n => d.undo n (d.bar n).next) d else d
  else d

/-- The output moves on: lines that waited for their firing instant while it held fire from now on at the earliest (R207, R214). -/
def resumeWaits (d : Dev) : Dev :=
  d.barList.foldl (fun d n => match (d.bar n).wait with
    | some (due, t) => d.onBar n (fun b => { b with wait := some (due, max t (d.t * 2 / 5)) })
    | none => d) d

/-- Rounding of the loop's arithmetic, within 2^-32 line (R204). -/
def loopRound (d : Dev) (place : Nat) : Int := clampInt (Config.reckonerRounding d.free place) (-4294967296) 4294967296

/-- One update of the Reckoner (R204 to R207, R386), and its publication (R206). -/
def reckon (d : Dev) : Dev :=
  -- A change of the web channel may bring a signal fault or leave one behind (R208).
  let d := if d.signalFault d.web then d.coast else d.trackAgain d.web
  let d := if d.gi 32 (0x3008 + d.web) 9 != d.reck.trim then d.reAnchor else d
  -- A standby's slew of its position (R386).
  let d := if d.twin.slewLeft == 0 then d else { d with
    reck := { d.reck with anchorP := d.reck.anchorP + d.twin.slew }
    twin := { d.twin with slewLeft := d.twin.slewLeft - 1 } }
  let r := d.reck
  let c := (d.enc d.web).count
  let q : Rat := (d.g 0x3200 2 : Nat) / (d.g 0x3200 3 : Nat) * (1 + (r.trim : Rat) / 100000000)
  let w := omega (d.g 0x3200 4)
  let e : Int := r.anchorP + (((c - r.anchorC : Int) : Rat) * q * 18446744073709551616).floor - r.p
  let (vel, p) :=
    if decide (r.state ≤ 1) then
      let vel := r.vel + (w * w * (e : Rat)).floor + d.loopRound 0
      (vel, r.p + vel + (14142 / 10000 * w * (e : Rat)).floor + d.loopRound 1)
    else if r.state == 2 then (r.vel, r.p + r.vel)
    else (r.vel, r.p)
  let hwm := max r.hwm p
  let rose := decide (r.hwm < hwm)
  let d := ({ d with reck := { r with vel := vel, p := p, hwm := hwm, at_ := d.t } } : Dev).drew
  let rate := ((max 0 vel) * 25000000 / 18446744073709551616).toNat
  let d := ((d.put 0x3208 1 (hwm / 281474976710656).toNat).put 0x3208 2 rate).put 0x3208 3 (rate * 100000 / 787402)
  let d := if decide (r.state ≤ 1) then d.reckState (if decide (p < hwm) then 1 else 0) else d
  let d := if r.state == 1 && d.reck.state == 0 then d.resumeWaits else d
  let d := (d.reverse rose q).fireWarn
  if d.printingLike then d.barList.foldl altReturn d.retireAll else d.retireAll

/-- The output moves: the loop's position is at the high-water mark and rises (R204, R209). -/
def moving (d : Dev) : Bool := d.reck.p == d.reck.hwm && decide (0 < d.reck.vel) && d.reck.state != 3

/-- Instant, in 2.5 ns, at which the output reaches a position in 2^-64 line: interpolated towards the next update, of which this one
knows the velocity, or no later than the last update where the output has reached it; none where it has not, or holds
(R207, R210; log 92). -/
def reachedAt (d : Dev) (target : Int) : Option Nat :=
  let r := d.reck
  if r.state == 1 then none
  else if target ≤ r.hwm then some (r.at_ * 2 / 5)
  else if d.moving && target ≤ r.hwm + r.vel then some (r.at_ * 2 / 5 + (((target - r.hwm) * 16 + r.vel - 1) / r.vel).toNat)
  else none

/-- The output at instant `t`, in 2.5 ns, in 2^-64 line: interpolated in sixteenths from the last update on (R210). -/
def outAt (d : Dev) (t : Nat) : Int :=
  d.reck.hwm + (if d.moving then d.reck.vel * ((min 16 (t - d.reck.at_ * 2 / 5) : Nat) : Int) / 16 else 0)

/-- Instant at which line j of Bn falls due: the output reaches O_n + j (R210). -/
def lineDue (d : Dev) (n j : Nat) : Option Nat := d.reachedAt ((d.offset n * 281474976710656 + j * 18446744073709551616 : Nat) : Int)

/-- Entry i of a compare unit's list: target, width, flags (Table 7.1). -/
def cmpEntry (d : Dev) (u i : Nat) : Nat × Nat × Nat :=
  let b := slice (d.dom [] (0x6300 + u)) (16 * i) 16
  (leNat (slice b 0 8), leNat (slice b 8 2), leNat (slice b 10 1))

/-- The value a unit in once mode compares against: count or position (R196). -/
def cmpValue (d : Dev) (u : Nat) : Nat := if d.g (0x3020 + u) 3 == 1 then d.g (0x3008 + d.web) 1 else d.posn

/-- A target has been reached by that value. -/
def cmpReached (d : Dev) (u target : Nat) : Bool :=
  if d.g (0x3020 + u) 3 == 1 then decide (toSigned 64 target ≤ (d.enc d.web).count) else decide (target ≤ d.posn)

/-- Length of repeat k on the web where its boundaries are known (R197). -/
def repLength (d : Dev) (k : Nat) : Option Nat :=
  if d.sheet then (d.rep? k).map (fun r => r.len)
  else match d.boundary k, d.boundary (k + 1) with
    | some a, some b => some (b - a)
    | _, _ => none

/-- An entry's status set. -/
def setCmpSt (d : Dev) (u i : Nat) (x : CmpSt) : Dev := d.setCmp u { d.cmp u with status := (d.cmp u).status.set i x }

/-- Level of a unit's output: active during a pulse; at rest the inactive level of the entry that fired last, or of entry 0 until one
fires (R199). -/
def cmpLevel (d : Dev) (u : Nat) : Bool :=
  let x := d.cmp u
  let low := if x.anyFired then x.activeLow else bit (d.cmpEntry u 0).2.2 0
  if decide (d.t < x.pulseEnd) then !low else low

/-- A unit's pulse for an entry, from `at_` in ns: the output, a merge where one is active, cameras and strobes with its tag (R199,
R200). -/
def cmpPulse (d : Dev) (u i : Nat) (rep : Option Nat) (at_ : Nat) : Dev :=
  let (target, width, flags) := d.cmpEntry u i
  let x := d.cmp u
  let d := if decide (at_ < x.pulseEnd) then d.bump (0x3030 + u) 4 else d
  let d := d.setCmp u { d.cmp u with activeLow := bit flags 0, anyFired := true, pulseEnd := at_ + 10 * width }
  let driven := !(!d.drives && bit (d.g 0x2C00 8) u)
  let d := if driven then d.emit (.compare u i rep width (bit flags 0)) else d
  (d.trigger u i rep target).ledStrobes u

/-- The unit fires now: its list holds the entry, its domain runs, and the Reckoner neither holds nor has lost position (R195, R200). -/
def cmpFires (d : Dev) (u i : Nat) : Bool :=
  decide (i < d.g (0x3020 + u) 2) && d.fast && (d.reck.state == 0 || d.reck.state == 2)

/-- The pending instance of an entry: the instant at which it falls due in 2.5 ns, its repeat in per-repeat mode, and whether it is
skipped; none where it is not due (R196, R197). -/
def entryDue (d : Dev) (u i : Nat) : Option (Nat × Option Nat × Bool) :=
  let target := (d.cmpEntry u i).1
  if d.g (0x3020 + u) 1 == 0 then
    if ((d.cmp u).status.get {} i).state != 0 then none
    else if d.g (0x3020 + u) 3 == 1 then (if d.cmpReached u target then some (d.t * 2 / 5, none, false) else none)
    else (d.reachedAt ((target * 281474976710656 : Nat) : Int)).map (fun t => (t, none, false))
  else
    let k := (d.cmp u).nextRep.get d.print.runFirst i
    match d.rep? k, d.repLength k with
    | some r, some len =>
      (d.reachedAt (((r.d + d.g (0x3020 + u) 4 + target) * 281474976710656 : Nat) : Int)).map (fun t => (t, some k, decide (len ≤ target)))
    | _, _ => none

/-- An entry's instance is marked FIRED or SKIPPED and counted; in per-repeat mode the next repeat's is pending then (R197, R201). -/
def markEntry (d : Dev) (u i : Nat) (rep : Option Nat) (skip : Bool) : Dev :=
  let d := match rep with
    | some k => d.setCmp u { d.cmp u with nextRep := (d.cmp u).nextRep.set i (k + 1) }
    | none => d
  let v := match rep with
    | some _ => d.posn
    | none => d.cmpValue u
  if skip then (d.setCmpSt u i { state := 4, value := v, rep := rep.getD 0 }).bump (0x3030 + u) 5
  else (d.setCmpSt u i { state := 1, value := v, rep := rep.getD 0 }).bump (0x3030 + u) 1

/-- The entries of a unit that fall due in one 2.5 ns cycle and are not skipped, with their repeats (R199). -/
def dueWith (d : Dev) (u t : Nat) : List (Nat × Option Nat) :=
  (List.range (d.g (0x3020 + u) 2)).filterMap (fun i => match d.entryDue u i with
    | some (t', k, false) => if t' == t then some (i, k) else none
    | _ => none)

/-- An entry falls due: with those due in the same cycle it gives one pulse, of the highest-numbered of them; one that is skipped gives
none (R196, R197, R199). -/
def cmpDue (d : Dev) (u i : Nat) : Dev :=
  if !d.cmpFires u i then d
  else match d.entryDue u i with
    | none => d
    | some (_, k, true) => d.markEntry u i k true
    | some (t, _, false) =>
      let es := d.dueWith u t
      let d := es.foldl (fun d e => d.markEntry u e.1 e.2 false) d
      match es.getLast? with
      | some e => d.cmpPulse u e.1 e.2 (t * 5 / 2)
      | none => d

/-- An entry found passed at a commit: MISSED, or fired LATE (R198); a LATE one stays pending while the unit may not fire (R200;
log 93). The detail of EV_CMP_MISSED holds the unit in bits
[31:16] and the entry in bits [15:0]. -/
def cmpPassed (d : Dev) (u i : Nat) (rep : Option Nat) : Dev :=
  let v := if d.g (0x3020 + u) 1 == 0 then d.cmpValue u else d.posn
  let k := rep.getD 0
  if bit (d.cmpEntry u i).2.2 1 then
    if !d.cmpFires u i then d
    else ((d.setCmpSt u i { state := 3, value := v, rep := k }).bump (0x3030 + u) 3).cmpPulse u i rep d.t
  else ((d.setCmpSt u i { state := 2, value := v, rep := k }).bump (0x3030 + u) 2).raise 40 0 0xFF (u * 65536 + i)

/-- The newest repeat of the run whose instance of an entry has been reached (R198). -/
def cmpLatest (d : Dev) (u target : Nat) : Option Nat :=
  let r0 := d.g (0x3020 + u) 4
  ((d.print.reps.find? (fun r => decide (d.print.runFirst ≤ r.num) && decide (r.d + r0 + target ≤ d.posn) &&
    (match d.repLength r.num with
      | some len => decide (target < len)
      | none => true)))).map (fun r => r.num)

/-- A unit's list as committed, each entry tested against the present value (R198). -/
def commitCompare (d : Dev) (u : Nat) : Dev :=
  let d := d.setCmp u { d.cmp u with status := [], nextRep := [] }
  (List.range (d.g (0x3020 + u) 2)).foldl (fun d i =>
    let t := (d.cmpEntry u i).1
    if d.g (0x3020 + u) 1 == 0 then (if d.cmpReached u t then d.cmpPassed u i none else d)
    else if !d.printingLike then d
    else match d.cmpLatest u t with
      | some k =>
        let next := if bit (d.cmpEntry u i).2.2 1 && !d.cmpFires u i then k else k + 1
        (d.setCmp u { d.cmp u with nextRep := (d.cmp u).nextRep.set i next }).cmpPassed u i (some k)
      | none => d) d

/-- A unit's status table as it reads (Table 7.3). -/
def cmpStatusBytes (d : Dev) (u : Nat) : Bytes :=
  (List.range 1024).flatMap (fun i =>
    let x := (d.cmp u).status.get {} i
    let st := if decide (d.g (0x3020 + u) 2 ≤ i) then 5 else x.state
    byte st :: (List.replicate 7 0 ++ leBytes 8 x.value ++ leBytes 8 x.rep))

/-- A sheet boundary is placed for the next repeat (R191, R193). -/
def placeSheet (d : Dev) (pos : Nat) : Dev :=
  let n := d.print.nextNum
  if d.print.sheetStart then
    let c := d.print.startCtx
    let d := { d with print := { d.print with sheetStart := false } }
    ((d.place pos c (match c with
      | some x => d.lenOf x
      | none => 16777216)).firstLine (ceilLine pos)).bump 0x3040 6
  else
    let c := d.ctxAt n
    let d := { d with print := { d.print with reps := match d.print.reps with
      | r :: rest => { r with fin := some pos } :: rest
      | [] => [] } }
    let len := match c, d.print.reps with
      | some x, _ => d.lenOf x
      | none, r :: _ => r.len
      | none, [] => 16777216
    (d.barList.foldl resumeBar ((d.place pos c len).reachHeld n pos)).bump 0x3040 6

/-- Two proposals of one sheet boundary, less than half the last repeat's length apart (R194; log 94). -/
def sameSheet (d : Dev) (a b : Nat) : Bool :=
  let len := match d.print.reps with
    | r :: _ => r.len
    | [] => 16777216
  decide (2 * (a - b + (b - a)) < len)

/-- A standby's own capture and the mirrored boundary of the same sheet are held against each other: EV_SHEET_MISMATCH where they lie
more than a line apart. The first of the two to come waits for the other (R194). -/
def compareSheet (d : Dev) (own : Bool) (pos : Nat) : Dev :=
  let others := if own then d.print.mirroredSheets else d.print.ownSheets
  let mine := if own then d.print.ownSheets else d.print.mirroredSheets
  let set (d : Dev) (mine others : List Nat) : Dev := { d with print := { d.print with
    ownSheets := if own then mine else others, mirroredSheets := if own then others else mine } }
  match others.find? (fun x => d.sameSheet x pos) with
  | some x =>
    let d := set d mine (others.filter (fun y => decide (x < y)))
    if decide (pos + 65536 < x ∨ x + 65536 < pos) then d.raise 39 else d
  | none => set d ((mine ++ [pos]).drop (mine.length - 7)) others

/-- A leading-edge capture at local instant `t`, in 2.5 ns, in sheet mode (R191 to R194). -/
def sheetCapture (d : Dev) (t : Nat) : Dev :=
  let pc := (d.outAt t / 281474976710656).toNat
  let pos := pc + d.g 0x3040 4
  let note (d : Dev) : Dev := { d with print := { d.print with lastCapture := some pc } }
  let last := match d.print.reps with
    | r :: _ => if decide (d.print.runFirst ≤ r.num) && !d.print.sheetStart then some r else none
    | [] => none
  let ended := match d.print.endRep with
    | some e => decide (e < d.print.nextNum)
    | none => false
  if d.phase != .printing || ended || (last.isNone && !d.print.sheetStart) then d
  else if (match d.print.lastCapture with
      | some p => decide (pc < p + d.g 0x3040 5 * 65536)
      | none => false) then d.bump 0x3040 9
  else if d.role == 2 then (note d).compareSheet true pos
  else if (match last with
      | some r => decide (pos < r.d + r.len)
      | none => false) then (d.bump 0x3040 7).raise 37
  else if decide (8 ≤ (d.print.reps.filter (fun r => decide (d.print.runFirst ≤ r.num ∧ pc < r.d))).length) then (d.bump 0x3040 8).raise 38
  else if d.role == 1 && d.twin.linked then
    (note d).mirror { kind := 10, barMask := 0, repeatNo := d.print.nextNum, line := ceilLine pos, value := pos }
  else (note d).placeSheet pos

end Dev

/-- ENCODER_EDGE (R180 to R186). A channel that is off, or whose domain is stopped, takes nothing; one that holds a signal fault holds
its count and still samples. -/
def execEncoderEdge (c : Fin 4) (input : EncInput) (s : State) : Host.Outcome State Fault Refusal :=
  let d := s.begin_
  let on := d.g (0x3000 + c) 1 == 1 && d.fast
  s.done (match input with
    | .ab a b => if d.counting c && d.g (0x3000 + c) 2 == 0 then d.encSample c a b else d
    | .interp up => if d.counting c && d.g (0x3000 + c) 2 == 1 then d.encStep c up else d
    | .raw a b z n => if on then d.rawSamples c a b z n else d
    | .adc sin cos => if on && d.g (0x3000 + c) 2 == 1 then d.adcSample c sin cos else d)

/-- INDEX_EDGE (R182, R184, R187): Z takes its level in a sample of A, B and Z, at local instant `t` in 2.5 ns. -/
def execIndexEdge (c : Fin 4) (x : EncLevels) (t : Nat) (s : State) : Host.Outcome State Fault Refusal :=
  let d := s.begin_
  s.done (if d.g (0x3000 + c) 1 != 1 || !d.fast then d else d.indexSample c x.a x.b x.z t)

/-- INDEX_ABSENT (R187): the counter has run forward 1.5 revolutions past the last latch; declared once for each absence. -/
def execIndexAbsent (c : Fin 4) (s : State) : Host.Outcome State Fault Refusal :=
  let d := s.begin_
  let e := d.enc c
  s.done (match e.lastLatch with
    | none => d
    | some was =>
      if d.g (0x3000 + c) 8 != 1 || e.absent || !d.fast || decide (e.count < was + (ceilDiv (3 * d.g (0x3000 + c) 7) 2 : Nat)) then d
      else (d.setEnc c { e with absent := true }).indexFault c 0)

/-- ANALOG_SIGNAL_FAULT (R186): `ratio` is the amplitude ratio, times 2^-8. -/
def execAnalogSignalFault (c : Fin 4) (ratio : Nat) (overspeed : Bool) (s : State) : Host.Outcome State Fault Refusal :=
  let d := s.begin_
  let i := 0x3000 + (c : Nat)
  let out := decide (ratio < d.g i 0x0D) || decide (d.g i 0x0E < ratio)
  s.done (if d.g i 1 != 1 || d.g i 2 != 1 || !d.fast then d
    else
      let d := d.put (0x3008 + c) 0x0B (ratio % 65536)
      if out || overspeed then d.declareSignal c out overspeed else d)

/-- SIGNAL_FAULT_CLEAR (R186, R205, R209): `phase` is the phase change within the present period, in counts. -/
def execSignalFaultClear (c : Fin 4) (phase : Int) (s : State) : Host.Outcome State Fault Refusal :=
  let d := s.begin_
  s.done (if d.signalFault c then (d.clearSignal c phase).trackAgain c else d)

/-- POSITION_LOST (R209): coasting has lasted 20 ms. -/
def execPositionLost (s : State) : Host.Outcome State Fault Refusal :=
  let d := s.begin_
  s.done (if d.reck.state == 2 then d.losePosition else d)

/-- TIN_CAPTURE (R191, R346): an edge at its local instant; sheet mode takes its capture before the edge is queued. -/
def execTinCapture (k : Fin 8) (x : TinEdge) (s : State) : Host.Outcome State Fault Refusal :=
  let d := s.begin_
  let d1 := if d.sheet && d.g 0x3040 2 == (k : Nat) && (d.g 0x3040 3 == 1) == x.falling then d.sheetCapture x.instant else d
  let sel := d.g (0x2420 + k) 1
  s.done (if !d.fast then d else if sel == 2 || (sel == 0 && !x.falling) || (sel == 1 && x.falling) then d1.capture k x.falling x.instant else d1)

/-- COMPARE_DUE (R196 to R200). -/
def execCompareDue (u : Fin 16) (entry : Nat) (s : State) : Host.Outcome State Fault Refusal := s.done (s.begin_.cmpDue u entry)

/-- RECKONER_UPDATE (R204 to R207, R213). -/
def execReckonerUpdate (s : State) : Host.Outcome State Fault Refusal :=
  let d := s.begin_
  s.done (if d.fast then d.reckon else d)

end Sys2Proof.Machine
end

