-- ==== Sys2Proof/Machine/Render.lean ====
section
/-! DEFINITION. Rendering a line ahead of its bar, with the run-ahead window, the choice of instances, the cache tiles lost,
the gap's test dots and the prediction (R99, R100, R104, R130, R131, R139 to R141, R144, R153, R314, R391). -/
namespace Sys2Proof.Machine

open Sys2Proof

/-- Repeat line of line j (R135). -/
def Rep.lineOf (r : Rep) (j : Nat) : Nat := j - ceilLine r.d

/-- Whole lines of a repeat (R82). -/
def Rep.lines (r : Rep) : Nat := ceilLine r.end_ - ceilLine r.d

namespace Dev

/-- Bn prints repeat k of context c under its alternate screen (R168, R216). -/
def altIn (d : Dev) (n c k : Nat) : Bool :=
  d.cg c (0x4050 + n) 3 != 0xFF && (match (d.bar n).altAt with
    | some (v, m) => if decide (m ≤ k) then v else (d.bar n).alternate
    | none => (d.bar n).alternate)

/-- Line j lies in one of the ranges retired blank at Bn, or in a splice blank: the range. -/
def blankedAt (d : Dev) (n j : Nat) : Option Blank :=
  match (d.bar n).blanks.find? (fun b => decide (b.lo ≤ j ∧ j < b.hi)) with
  | some b => some b
  | none => d.print.splices.find? (fun b => decide (b.lo ≤ j ∧ j < b.hi))

/-- The bar lays no dots in repeat r: no context, or one that does not enable it (R85). -/
def barOff (d : Dev) (n : Nat) (r : Rep) : Bool :=
  match ledgerCtx r n with
  | none => true
  | some c => !bit (d.cg c 0x4000 2) n

/-- The schedule calls for no drops in line j of repeat r at Bn (R85, R168, R255, Table 3.6). -/
def noDots (d : Dev) (n j : Nat) (r : Rep) : Bool :=
  d.barOff n r || (d.blankedAt n j).isSome || (match r.ctx with
    | some c => d.altIn n c r.num && r.lineOf j % 2 == 1
    | none => true)

/-- A hot pair whose link lives: the partner is asked before a substitution (R391). -/
def asks (d : Dev) : Bool := d.paired && d.g 0x2C00 1 == 2 && d.twin.linked

/-- The partner has been asked for a frame and has not answered. -/
def fetching (d : Dev) (kind tile : Nat) : Bool := d.twin.fetches.any (fun f => f.1 == kind && f.2.1 == tile)

/-- TILE_REQ for a frame (R391). -/
def askTile (d : Dev) (kind tile : Nat) : Dev :=
  let d := d.twinSend 9 ([byte kind] ++ leBytes 8 tile ++ leBytes 8 (d.t + 1000000))
  { d with twin := { d.twin with fetches := d.twin.fetches ++ [(kind, tile, d.t)] } }

/-- Live layers whose placement holds repeat line y (R137). -/
def layersAt (d : Dev) (c y : Nat) : List Nat :=
  (List.range (d.cg c 0x4003 5)).filter (fun l =>
    decide (d.cg c (0x4030 + l) 5 ≤ y ∧ y < d.cg c (0x4030 + l) 5 + d.cg c (0x4030 + l) 7))

/-- Bn has chosen what layer l prints in a repeat. -/
def choiceOf (d : Dev) (n rep l : Nat) : Option Choice := (d.bar n).choices.find? (fun x => x.rep == rep && x.layer == l)

/-- Instances that a repeat line needs, that are not held and that no choice has been made for: their tiles. -/
def missingTiles (d : Dev) (n c y : Nat) (r : Rep) : List Nat :=
  ((d.layersAt c y).filter (fun l => (d.choiceOf n r.num l).isNone)).filterMap (fun l =>
    let t := d.instanceTile c l r.v
    if (d.frameOk 2 t).isNone then some t else none)

/-- Render lead and send lead in force at a bar: those of the repeat that contains the line it last fired (R99). -/
def lead (d : Dev) (n sub : Nat) : Nat := d.live n (d.leadRep n) 0x5001 sub

/-- A graphic instance is decoded by the first bar that needs it (R144). -/
def decodeGraphic (d : Dev) (n tile : Nat) : Dev :=
  if d.jobs.decoded.contains tile then d
  else ({ d with jobs := { d.jobs with decoded := tile :: d.jobs.decoded } } : Dev).bump (0x5002 + 0x100 * n) 2

/-- Bn chooses what layer l prints in repeat r (R139 to R141, R130, R131). -/
def choose (d : Dev) (n c : Nat) (r : Rep) (l : Nat) : Dev :=
  if (d.choiceOf n r.num l).isSome then d
  else
    let t := d.instanceTile c l r.v
    let take (d : Dev) (tile : Option (Nat × Nat)) (held : Bool) : Dev :=
      d.onBar n (fun b => { b with choices := { rep := r.num, layer := l, tile := tile, withheld := held } :: b.choices })
    match d.fallback c l t with
    | none =>
      let d := take d (some (2, t)) false
      if d.cg c (0x4030 + l) 1 == 2 then d.decodeGraphic n t else d
    | some lost =>
      if (d.frameOk 2 t).isNone && d.fetching 2 t then take d none true
      else
        let d := (take d none false).onRep r.num (fun r => { r with varSubst := setBit r.varSubst n true })
        let d := (d.raise 23 (2 ^ n) 0xFF l).bump (0x5002 + 0x100 * n) 1
        if lost then d.spoil r.num n 7 else d

/-- A column of repeat line y lies in a cache tile of Bn that is lost (R130; tiles of 128 lines by 4,096 columns). -/
def inLost (d : Dev) (c n col y : Nat) : Bool :=
  let k := if d.cg c 0x4003 2 == 1 then 1 else 2
  (d.ctx c).lost.contains (n, col / k / 4096, y / k / 128)

/-- Cache tiles of Bn that repeat line y needs and that are lost. -/
def lostTiles (d : Dev) (c n y : Nat) : List (Nat × Nat × Nat) :=
  let k := if d.cg c 0x4003 2 == 1 then 1 else 2
  (d.ctx c).lost.filter (fun x => x.1 == n && x.2.2 == y / k / 128)

/-- Job-store identity of a cache tile: context, bar, tile column, tile row. -/
def cacheTile (c : Nat) (k : Nat × Nat × Nat) : Nat := c * 2 ^ 56 + k.1 * 2 ^ 48 + k.2.1 * 2 ^ 40 + k.2.2

/-- A lost cache tile reaches the renderer: its columns carry no drops and the repeat is spoiled, unless the partner has
been asked and its copies print (R130, R391). -/
def loseTile (d : Dev) (n c y : Nat) (r : Rep) (k : Nat × Nat × Nat) : Dev :=
  if d.fetching 1 (cacheTile c k) then d
  else
    let q := if d.cg c 0x4003 2 == 1 then 128 else 256
    let d := if y % q == 0 || !bit r.spoiled n then d.raise 22 (2 ^ n) else d
    d.spoil r.num n 7

/-- Sums of line y of a repeat enter its prediction at Bn; the last line completes it (R153). -/
def predict (d : Dev) (n c cols y : Nat) (r : Rep) (sums : List Nat) (last : Bool) : Dev :=
  let p := (d.jobs.preds.find? (fun p => p.bar == n && p.rep == r.num)).getD { bar := n, rep := r.num, ctx := c, columns := cols }
  let p := { p with lines := p.lines.set y sums, done := last }
  { d with jobs := { d.jobs with preds := p :: d.jobs.preds.filter (fun p => !(p.bar == n && p.rep == r.num)) } }

/-- Zones whose centre shift is clamped, counted once for each repeat at a bar that prints it (R169); tiles that do not overlap have no
zones (R158). -/
def countClamps (d : Dev) (n : Nat) (r : Rep) : Dev :=
  match r.ctx with
  | none => d
  | some c =>
    let (t, _, w, _) := d.geom n r.num
    let k := if w == 0 || d.barOff n r then 0
      else ((List.range (t - 1)).filter (fun i => (d.zoneWindow c n r.num (i + 1)).1)).length
    if k == 0 then d else d.bumpBy (0x5005 + 0x100 * n) 2 k

/-- Decoder states saved as line j of repeat r, its line y, is rendered at Bn: at every 32nd cache line of each tile across the bar, and
at every 32nd source line of each variable-layer frame that carries history (R104). -/
def ckptsAt (d : Dev) (n c j y : Nat) (r : Rep) : List Ckpt :=
  let k := if d.cg c 0x4003 2 == 1 then 1 else 2
  let q := y / k
  let planes := if y % k == 0 && q % 32 == 0 && (d.ctx c).stripes.get 0 n != 0 then
      (List.range (ceilDiv (d.planeSize c (d.geom n r.num).2.2.2).1 4096)).map (fun col =>
        ({ bar := n, kind := 1, tile := c * 2 ^ 56 + n * 2 ^ 48 + col * 2 ^ 40 + q / 128, rep := r.num, line := q % 128, at_ := j } : Ckpt))
    else []
  let source (l : Nat) (h : FrameHdr) (i : Nat) : Nat :=
    if d.cg c (0x4030 + l) 1 == 1 then i * h.lines / d.cg c (0x4030 + l) 7 else i
  planes ++ (d.layersAt c y).filterMap (fun l =>
    let t := d.instanceTile c l r.v
    let i := y - d.cg c (0x4030 + l) 5
    match d.frameOk 2 t with
    | some f =>
      let s := source l f.hdr i
      if bit f.hdr.flags 2 && s % 32 == 0 && (i == 0 || source l f.hdr (i - 1) != s) then
        some { bar := n, kind := 2, tile := t, rep := r.num, line := s, at_ := j }
      else none
    | none => none)

/-- A checkpoint kept, with those of its stream's current tile and the one before (R104). -/
def saveCkpt (d : Dev) (x : Ckpt) : Dev :=
  let mine := d.jobs.checkpoints.filter (fun y => y.sameStream x && y.at_ != x.at_)
  let cur (y : Ckpt) : Bool := y.rep == x.rep && y.tile == x.tile
  let prev := mine.find? (fun y => !cur y)
  let kept (y : Ckpt) : Bool := cur y || prev.any (fun p => y.rep == p.rep && y.tile == p.tile)
  { d with jobs := { d.jobs with
    checkpoints := x :: mine.filter kept ++ d.jobs.checkpoints.filter (fun y => !y.sameStream x) } }

/-- A line placed in the line store, in place of an earlier rendering of it (R172). -/
def storeLine (d : Dev) (n : Nat) (x : Stored) : Dev :=
  d.onBar n (fun b => { b with store := b.store.filter (fun y => y.line != x.line) ++ [x], rend := x.line + 1 })

/-- The gap's test list is fixed with its first line (R314 to R319). -/
def gapTests (d : Dev) (n : Nat) (r : Rep) : Dev :=
  let c := d.census n
  if (c.fixed && c.gapRep == r.num) || decide (ceilLine r.end_ ≤ r.gapStart d.sheet) then d
  else
    let first := r.gapStart d.sheet
    let lane := match (d.bar n).swap with
      | some w => if w.planned && !w.started then some w.logical else none
      | none => none
    d.fixTests n r.num first (ceilLine r.end_ - first) (d.barOff n r || (d.blankedAt n first).isSome) lane

/-- Dots and tiles of a gap line: the tested nozzles at the test level, every other dot 0 (R314). -/
def gapDots (d : Dev) (n rep j : Nat) : List Nat × List Nat :=
  let (_, m, w, p) := d.geom n rep
  let ts := d.testDots n j
  let at_ (col : Nat) : Option (Nat × Nat) := ts.find? (fun x => x.1 * (m - w) + x.2 == col)
  if ts.isEmpty then ([], [])
  else ((List.range p).map (fun c => if (at_ c).isSome then d.g (0x3A20 + n) 5 else 0), (List.range p).map (fun c => match at_ c with
    | some x => x.1
    | none => 0))

/-- A printed line of repeat r under context c is rendered: choices, ink, screen, prediction (Table 6.1). -/
def renderDots (d : Dev) (n c j : Nat) (r : Rep) (last : Bool) : Dev :=
  let y := r.lineOf j
  let d := (d.layersAt c y).foldl (fun d l => d.choose n c r l) d
  let held := (d.layersAt c y).any (fun l => (d.choiceOf n r.num l).any (fun x => x.withheld)) ||
    (d.lostTiles c n y).any (fun k => d.fetching 1 (cacheTile c k))
  let d := (d.lostTiles c n y).foldl (fun d k => d.loseTile n c y r k) d
  let cols := (d.geom n r.num).2.2.2
  let pick (l : Nat) : Option Nat := ((d.choiceOf n r.num l).bind (fun x => x.tile)).map (fun t => t.2)
  let ink (col : Nat) : Nat := d.inkAt c n cols r.lines col y pick
  let (dots, tiles, cut) := d.screenLine c n r.num j (d.altIn n c r.num) ink (fun col => d.inLost c n col y)
  let d := if cut == 0 then d else d.bumpBy (0x5005 + 0x100 * n) 3 cut
  let d := d.predict n c cols y r (blockSums cols ink) last
  d.storeLine n { line := j, rep := r.num, dots := dots, tiles := tiles, held := held }

/-- Repeat r has been rendered at every bar that its context enables. -/
def renderedAll (d : Dev) (r : Rep) : Bool := match r.ctx with
  | none => true
  | some c => d.barList.all (fun n => !bit (d.cg c 0x4000 2) n || decide (ceilLine r.end_ ≤ (d.bar n).rend))

/-- A repeat still to be rendered somewhere, or one still to be scheduled under a context that prints, uses the instance (R144). -/
def graphicWanted (d : Dev) (tile : Nat) : Bool :=
  d.print.reps.any (fun r => !d.renderedAll r && r.ctx.any (fun c =>
    (List.range (d.cg c 0x4003 5)).any (fun l => d.instanceTile c l r.v == tile))) ||
  d.ctxs.any (fun x => x.2.code == 5 && (List.range (d.cg x.1 0x4003 5)).any (fun l =>
    d.cg x.1 (0x4030 + l) 2 == tile / 4294967296 &&
      decide ((tile + 8589934592 - d.cg x.1 (0x4030 + l) 3 - x.2.v % 4294967296) % 4294967296 < 2147483648)))

/-- Instances that no repeat needs any more are no longer held decoded, and requests may expire (R129, R144). -/
def repeatRendered (d : Dev) (r : Rep) : Dev :=
  let d := if d.renderedAll r then { d with jobs := { d.jobs with decoded := d.jobs.decoded.filter d.graphicWanted } } else d
  d.expireRequests

/-- Line j of repeat r is rendered at Bn (R100). -/
def renderNow (d : Dev) (n j : Nat) (r : Rep) : Dev :=
  let y := r.lineOf j
  let gap := decide (r.gapStart d.sheet ≤ j)
  let last := decide (ceilLine r.end_ ≤ j + 1)
  let d := if gap then d.gapTests n r else d
  let blank (d : Dev) : Dev :=
    let d := d.storeLine n { line := j, rep := r.num, dots := [], tiles := [], gap := gap }
    match r.ctx with
    | some c => if d.barOff n r then d else d.predict n c (d.geom n r.num).2.2.2 y r [] last
    | none => d
  let d :=
    if d.noDots n j r then blank d
    else match r.ctx with
      | none => blank d
      | some c =>
        let d := (d.ckptsAt n c j y r).foldl saveCkpt d
        if gap then
          let (dots, tiles) := d.gapDots n r.num j
          (d.predict n c (d.geom n r.num).2.2.2 y r [] last).storeLine n { line := j, rep := r.num, dots := dots, tiles := tiles, gap := true }
        else d.renderDots n c j r last
  if last then d.repeatRendered r else d

/-- The engine that serves Bn is out of service and nothing stands in for its lines (R406). -/
def engineOut (d : Dev) (n j : Nat) : Bool :=
  match (d.bar n).engineSwap with
  | some e => !e.ready && (d.blankedAt n j).isNone
  | none => false

/-- The next line of Bn is rendered, within the render lead, unless it waits for the partner's answer (R99, R391). -/
def renderLine (d : Dev) (n : Nat) : Dev :=
  let b := d.bar n
  let j := b.rend
  if !(d.printingLike && d.fast) || d.sys.st = .restarting || d.print.sheetStart || decide (d.nbars ≤ n) || decide (d.upNext n + d.lead n 1 ≤ j) then d
  else
    let d := d.ensure j
    match d.repAt j with
    | none => d
    | some r =>
      if (match d.print.endRep with
          | some e => decide (e ≤ r.num)
          | none => false) || d.engineOut n j then d
      else
        let want := match r.ctx with
          | some c => if d.noDots n j r || decide (r.gapStart d.sheet ≤ j) || !d.asks then [] else d.missingTiles n c (r.lineOf j) r
          | none => []
        let unasked := want.filter (fun t => !d.fetching 2 t && !d.twin.denied.contains (2, t))
        if !unasked.isEmpty then unasked.foldl (fun d t => d.askTile 2 t) d
        else if want.any (fun t => d.fetching 2 t) && decide (d.upNext n + d.lead n 2 ≤ j) then d
        else d.renderNow n j r

end Dev

/-- RENDER_LINE (R99, R100). -/
def execRenderLine (bar : Fin 8) (s : State) : Host.Outcome State Fault Refusal := s.done (s.begin_.renderLine bar)

end Sys2Proof.Machine
end

