-- ==== Sys2Proof/Machine/Send.lean ====
section
/-! DEFINITION. Line packets: which lane sends which line and when, the payload built from the line store through the remap
table, and the packet's blocks (R99, R174 to R176, R212, R251 to R257, R391, R398). -/
namespace Sys2Proof.Machine

open Sys2Proof

namespace Dev

/-- This device sends, tags and strobes line j of a bar: as its role has it, or up to or from the boundary of a handover
(R398, Table 16.2). -/
def lineSends (d : Dev) (j : Nat) : Bool :=
  if d.g 0x2C00 1 == 2 then d.sends
  else match d.twin.handover with
    | some (k, _) => match d.boundary k with
      | some b => if d.twin.incoming then decide (ceilLine b ≤ j) else decide (j < ceilLine b)
      | none => d.sends
    | none => d.sends

/-- Logical lane whose lines a lane carries. -/
def carriedLane (d : Dev) (s : Nat) : Option Nat :=
  if d.readySpare s then (d.bar (laneBar s)).swap.map (fun w => w.logical) else d.logicalOf s

/-- A line of a bar's store; a line not rendered reads as all dots 0 (R172). -/
def stored (d : Dev) (n j : Nat) : Stored :=
  ((d.bar n).store.find? (fun x => x.line == j)).getD { line := j, rep := 0, dots := [], tiles := [] }

/-- Tile t prints column c in a stored line, by the geometry of a repeat: the tile that serves the column, or in a zone the one that the
line's selection bit names (R158, R169, R174). A column that had no selection bit in the line, under another geometry, goes by the side on
which its tile lay (DESIGN CHOICE, log 96). -/
def printsAt (d : Dev) (n rep t c : Nat) (x : Stored) : Bool :=
  match d.tilesOf n rep c with
  | [] => false
  | [u] => u == t
  | left :: right :: _ => (if decide (x.tiles.getD c 0 ≤ left) then left else right) == t

/-- Drop level of column c that tile t prints in a stored line. -/
def Stored.levelOf (x : Stored) (t c : Nat) : Nat := if x.tiles.getD c 0 == t then x.dots.getD c 0 else 0

/-- Drop levels at the shift positions of tile t in line j, by the remap table and geometry of the repeat that contains j; a missing
nozzle's position carries 0, but for the test dots of a gap line (R174, R314). -/
def tilePayload (d : Dev) (n rep t j : Nat) : List Nat :=
  let (_, m, w, _) := d.geom n rep
  let put (p : List Nat) (i : Nat) : List Nat :=
    let e := d.remapEntry n rep t i
    let c := t * (m - w) + i
    let x := d.stored n (j - bits e 15 12)
    let v := if x.gap then Stored.levelOf x t c
      else if d.missingNozzle n rep t i || !d.printsAt n rep t c x then 0 else x.dots.getD c 0
    if bits e 11 0 == 0xFFF then p else p.set (bits e 11 0) v
  (List.range m).foldl put (List.replicate 2560 0)

/-- The tile assigned to a slot of logical lane l in a repeat (R176). -/
def slotTile (d : Dev) (n rep l slot : Nat) : Option Nat :=
  (List.range (d.geom n rep).1).find? (fun t =>
    let a := d.live n rep 0x5010 (t + 1)
    bits a 5 3 == l && bits a 2 0 == slot)

/-- Dot depth of a repeat at a bar; 1 where it has no context. -/
def depthOf (d : Dev) (n : Nat) (r : Rep) : Nat := match r.ctx with
  | some c => d.cg c (0x4050 + n) 1
  | none => 1

/-- Shift positions packed b bits each (R253). -/
def packSlot (b : Nat) (p : List Nat) : Bytes := leBytes (320 * b) (p.foldr (fun v acc => v % 2 ^ b + 2 ^ b * acc) 0)

/-- The packet of line j on logical lane l of Bn at dot depth b (R252 to R254), with the module's populated slots. -/
def packetOf (d : Dev) (n l slots j b : Nat) (r : Rep) : Bytes :=
  let each := (List.range 6).map (fun k => match d.slotTile n r.num l k with
    | some t => if bit slots k then some (t, d.tilePayload n r.num t j) else none
    | none => none)
  let lit (k : Nat) : Bool := match each.getD k none with
    | some (_, p) => p.any (fun v => v != 0)
    | none => false
  let mask := (List.range 6).foldl (fun m k => if lit k then m + 2 ^ k else m) 0
  let delay := (List.range 6).foldl (fun v k => match each.getD k none with
    | some (t, _) => v + d.live n r.num 0x5020 (t + 1) % 64 * 64 ^ k
    | none => v) 0
  let desc := delay + n % 8 * 2 ^ 36 + b % 4 * 2 ^ 39 + (if decide (r.gapStart d.sheet ≤ j) then 2 ^ 41 else 0)
  let body := leBytes 8 desc ++ (List.range 6).flatMap (fun k => if lit k then (match each.getD k none with
    | some (_, p) => packSlot b p
    | none => []) else [])
  let head := leBytes 5 (j % 1099511627776) ++ [byte mask]
  let blocks := body.length / 8 + 2
  [byte 0x78] ++ head ++ [byte (d.epoch n)] ++ body ++
    [byte 0x87] ++ leBytes 4 (crc32c (head ++ body)) ++ leBytes 2 blocks ++ [0]

/-- The packet of line j of a repeat. -/
def packet (d : Dev) (n l slots j : Nat) (r : Rep) : Bytes := d.packetOf n l slots j (d.depthOf n r) r

/-- The lane may send its next line: it is UP with a CREDIT since its BASE, the line is rendered, within the send lead and
within the module's window (R99, R256, R257). Lines rendered again after a reversal wait until the output passes its high-water mark
(R207). -/
def maySend (d : Dev) (s : Nat) : Bool :=
  let n := laneBar s
  let l := d.lane s
  let b := d.bar n
  d.printingLike && d.fast && d.sys.st != .restarting && decide (n < d.nbars) && d.laneState s == 4 && !l.refused &&
    (l.carries || d.readySpare s) && l.baseSent && l.credited &&
    !d.reck.undone && decide (l.next < b.rend) && decide (l.next < d.upNext n + d.lead n 2) && decide (l.next ≤ l.acked + l.window) && d.lineSends l.next

/-- Line j of Bn is withheld: the partner's copies print (R391, R405). -/
def withheldLine (d : Dev) (n j : Nat) : Bool :=
  (d.stored n j).held || (bit d.twin.withheld n && decide (j < d.twin.withheldUpto.get 0 n) && !(d.bar n).store.any (fun x => x.line == j))

/-- The next line of a lane is sent, or passed over where it is withheld. -/
def sendLine (d : Dev) (s : Nat) : Dev :=
  if !d.maySend s then d
  else
    let n := laneBar s
    let j := (d.lane s).next
    match d.repAt j, d.carriedLane s with
    | some r, some l =>
      let d := (d.onLane s (fun x => { x with next := j + 1 })).onBar n (fun b => { b with sent := max b.sent (j + 1) })
      if d.withheldLine n j then d
      else d.emit (.linePacket (s - 1) (j % 1099511627776) (d.packet n l (bits (d.g 0x3420 s) 31 24) j r))
    | _, _ => d

end Dev

/-- SEND_LINE_PACKET (R99, R256). -/
def execSendLinePacket (lane : Fin 72) (s : State) : Host.Outcome State Fault Refusal := s.done (s.begin_.sendLine (lane + 1))

end Sys2Proof.Machine
end

