-- ==== Sys2Proof/Machine/PairOps.lean ====
section
/-! DEFINITION. What a standby adopts from the active device, and its resynchronisation (R385, R390). -/
namespace Sys2Proof.Machine

open Sys2Proof

/-- The adoption values show the active device with a context in force at a bar. -/
def adoptPrinting (a : Adopt) : Bool := a.contexts.any (fun c => c != 0xFF)

namespace Dev

/-- Live objects and tables of a bar's group as bytes, for its digest (R388): the rws objects in ascending order, then the
tables with their lengths. -/
def groupBytes (d : Dev) (n : Nat) : Bytes :=
  (List.range 256).flatMap (fun i =>
    ((rowsOf d.product (0x5000 + 0x100 * n + i)).filter (fun r => r.acc == .rws)).flatMap (fun r =>
      (List.range (r.hi + 1 - r.lo)).flatMap (fun k => leBytes r.ty.size (d.gb n (0x5000 + i) (r.lo + k))))) ++
  [0x6200, 0x6210, 0x6218, 0x6228].flatMap (fun i =>
    let b := d.dom [] (i + n)
    leBytes 4 b.length ++ b)

/-- DIGEST of Bn's committed set (R388). -/
def digestOf (d : Dev) (n : Nat) : Nat := crc32 (d.groupBytes n)

/-- DIGEST sent for a bar's group at a repeat (R388, Table 16.4). -/
def sendDigest (d : Dev) (n rep : Nat) : Dev := d.twinSend 7 ([byte (16 + n)] ++ leBytes 8 rep ++ leBytes 4 (d.digestOf n))

/-- Values of every bar that the standby adopts: revoke epoch, overspeed and alternate screen (R385). -/
def adoptBars (d : Dev) (a : Adopt) : Dev :=
  d.barList.foldl (fun d n =>
    (d.put 0x342A (n + 1) (a.epochs.getD n 0 % 256)).onBar n (fun b =>
      { b with overspeed := bit a.overspeedMask n, alternate := bit a.altMask n })) d

/-- Camera generation numbers and LED group trims adopted (R298, R333, R385). -/
def adoptCameras (d : Dev) (a : Adopt) : Dev :=
  let d := (List.range 6).foldl (fun d c =>
    match a.camGens[c]? with
    | none => d
    | some g =>
      if d.g (0x3800 + c) 1 == 1 then
        let x := d.cams.get {} c
        let d := { d with cams := d.cams.set c { x with
          inForce := g
          gens := x.gens.map (fun (y : CamGen) => if y.num == x.inForce then { y with num := g } else y) } }
        d.put (0x3820 + c) 3 g
      else d) d
  (List.range 8).foldl (fun d g => match a.ledTrims[g]? with
    | some k => d.put 0x3C2A (g + 1) k
    | none => d) d

/-- Keeper trims, census maps, nozzle records and the generation in force adopted (R311, R385). -/
def adoptTables (d : Dev) (a : Adopt) : Dev :=
  let ok (i : Nat) : Bool :=
    decide (0x6208 ≤ i ∧ i < 0x6210) || decide (0x6220 ≤ i ∧ i < 0x6228) || decide (0x6230 ≤ i ∧ i < 0x6238)
  let d := (a.tables.filter (fun t => ok t.1)).foldl (fun d t => d.putDom t.1 t.2) d
  { d.put 0x3A08 1 a.keeperGen with keeper := { d.keeper with gen := none, held := {}, lastNum := max d.keeper.lastNum a.keeperGen } }

/-- Pending, locked or finished flying change adopted (R385). -/
def adoptChange (d : Dev) (a : Adopt) : Dev :=
  let c : Chg := { ctx := a.fcCtx, n := a.fcRepeat, deferred := a.fcStatus == 2 }
  let p := { d.print with pending := none, locked := none, progress := none, shown := none }
  let st := a.fcStatus % 128
  { d with print :=
    if st == 1 || st == 2 then { p with pending := some c, rest := 0 }
    else if st == 3 then { p with locked := some c, rest := 0 }
    else { p with rest := if st == 5 || st == 4 then 5 else 0, restCtx := a.fcCtx, restRep := a.fcRepeat } }

/-- Request counters of PD-OUT that the active device has acted on (R381, R385). -/
def adoptAcks (d : Dev) (a : Adopt) : Dev :=
  { d with com := { d.com with pd := { d.com.pd with
    ackFc := a.acks.getD 0 d.com.pd.ackFc
    ackSpoil := a.acks.getD 1 d.com.pd.ackSpoil
    ackSplice := a.acks.getD 2 d.com.pd.ackSplice
    ackCancel := a.acks.getD 3 d.com.pd.ackCancel
    ackCmd := a.acks.getD 4 d.com.pd.ackCmd } } }

/-- V of each context's next repeat, the same on both devices (R138). -/
def adoptV (d : Dev) (a : Adopt) : Dev := a.counts.foldl (fun d x => d.onCtx x.1 (fun y => { y with v := x.2 })) d

/-- The repeat sequence adopted: the repeat in progress at the active device's B0, from whose next boundary the standby
prints in step (R385). -/
def adoptRepeats (d : Dev) (a : Adopt) : Dev :=
  if !adoptPrinting a then { d.adoptV a with print := { d.print with nextNum := max d.print.nextNum a.repeatNo } }
  else if d.printingLike && (match d.rep? a.repeatNo with
      | some r => r.d == a.boundary
      | none => false) then d
  else
    let c := (a.contexts.find? (fun c => c != 0xFF)).getD 0
    let d := d.adoptV a
    let r : Rep :=
      { num := a.repeatNo, d := a.boundary, len := d.lenOf c, gap := d.cg c 0x4000 4, ctx := some c, ceiling := (d.ctx c).ceiling
        opened := true, gen := a.keeperGen, v := (d.ctx c).v - 1 }
    let d := { d with print := { d.print with reps := r :: d.print.reps.filter (fun (x : Rep) => decide (x.num < r.num)), nextNum := r.num + 1, runFirst := r.num } }
    -- In step from the boundary at B0 that comes next.
    let f := max (ceilLine r.d) ((d.posn - d.offset 0) / 65536)
    let d := d.ensure f
    let j := match d.repAt f with
      | some x => ceilLine x.end_
      | none => ceilLine r.end_
    let d := (d.ensure j).firstLine j
    d.barList.foldl (fun d n =>
      let k := a.contexts.getD n 0xFF
      (d.onBar n (fun b => { b with ctx := if k == 0xFF then none else some k })).put 0x2016 (n + 1) k) d

/-- The values a standby adopts, as this device holds them (R385). -/
def ownAdopt (d : Dev) : Adopt :=
  let (num, pos) := match d.repAt (d.bar 0).next with
    | some r => if d.printingLike then (r.num, r.d) else (d.print.nextNum, 0)
    | none => (d.print.nextNum, 0)
  let p := d.com.pd
  { repeatNo := num
    boundary := pos
    contexts := d.barList.map (fun n => (d.bar n).ctx.getD 0xFF)
    fcCtx := d.fcNamed.1
    fcRepeat := d.fcNamed.2
    fcStatus := d.fcStatus
    keeperGen := d.g 0x3A08 1
    trimPpm := d.gi 32 (0x3008 + d.web) 9
    overspeedMask := (d.barList.filter (fun n => (d.bar n).overspeed)).foldl (fun m n => m + 2 ^ n) 0
    altMask := (d.barList.filter (fun n => (d.bar n).alternate)).foldl (fun m n => m + 2 ^ n) 0
    epochs := d.barList.map d.epoch
    camGens := (List.range 6).map (fun c => (d.cams.get {} c).inForce)
    ledTrims := (List.range 8).map (fun g => d.g 0x3C2A (g + 1))
    acks := [p.ackFc, p.ackSpoil, p.ackSplice, p.ackCancel, p.ackCmd]
    tables := d.barList.flatMap (fun n => [0x6208, 0x6220, 0x6230].map (fun i => (i + n, d.dom [] (i + n))))
    counts := (d.ctxs.keysWhere (fun _ x => decide (4 ≤ x.code ∧ x.code ≤ 6))).map (fun c =>
      (c, ((d.print.reps.filter (fun r => r.ctx == some c && decide (num < r.num))).map (fun r => r.v)).foldl min (d.ctx c).v)) }

/-- The adoption list in the order of R385, little-endian; the spec fixes no layout of STATE pages (DESIGN CHOICE, log 57). -/
def adoptBytes (a : Adopt) : Bytes :=
  leBytes 8 a.repeatNo ++ leBytes 8 a.boundary ++ a.contexts.map byte ++ [byte a.fcCtx] ++ leBytes 8 a.fcRepeat ++ [byte a.fcStatus] ++
  a.tables.flatMap (fun x => leBytes 2 x.1 ++ leBytes 4 x.2.length ++ x.2) ++ leBytes 4 a.keeperGen ++
  leBytes 4 (ofSigned 32 a.trimPpm) ++ [byte a.overspeedMask, byte a.altMask] ++ a.epochs.map byte ++
  a.camGens.flatMap (leBytes 4) ++ a.ledTrims.flatMap (leBytes 2) ++ a.acks.map byte ++
  a.counts.flatMap (fun x => byte x.1 :: leBytes 8 x.2)

/-- STATE sent to the standby (R385). -/
def sendState (d : Dev) : Dev := d.twinSend 2 (adoptBytes d.ownAdopt)

/-- The standby adopts the active device's state (R385). -/
def adoptState (d : Dev) (a : Adopt) : Dev :=
  let d := ((d.adoptTables a).adoptRepeats a).adoptChange a
  let d := ((d.adoptBars a).adoptCameras a).adoptAcks a
  d.setTrim d.web a.trimPpm

/-- The standby is synchronised: its four flags are set, and it prints in step with an active device that prints. -/
def syncDone (d : Dev) (a : Adopt) : Dev :=
  let d := { d.put 0x2C08 2 15 with twin := { d.twin with resync := false, posBad := false, clearSince := none, adopt := none, retryForm := false } }
  if adoptPrinting a && d.sys.st = .armed then d.enter .printing else d

/-- The standby's lanes resume: BASE at each bar's next line on every lane that is UP (R390). -/
def lanesResume (d : Dev) : Dev :=
  if d.sends && d.printingLike then d.headLanes.foldl (fun d s =>
    if d.laneState s == 4 then (d.onLane s (fun l => { l with carries := true })).sendBase s (d.bar (laneBar s)).next else d) d
  else d

/-- Disagreements resynchronised now are counted from this instant (R415). -/
def noteResync (d : Dev) : Dev :=
  { d with fl := { d.fl with disagreements := d.fl.disagreements.mapVal (fun _ x => if x.1 == 1 then (1, d.t) else x) } }

/-- At a boundary at B0: a standby whose cause has cleared for 1 s adopts again, sends BASE and resumes its role (R390). -/
def resynchronise (d : Dev) : Dev :=
  match d.twin.adopt, d.twin.clearSince with
  | some a, some t =>
    if d.role == 2 && d.twin.resync && d.twin.linked && decide (t + 1000000000 ≤ d.t) && !d.twin.posBad then
      ((d.adoptState a).syncDone a).noteResync.lanesResume
    else d
  | _, _ => d

end Dev

end Sys2Proof.Machine
end

