-- ==== Sys2Proof/Machine/Fire.lean ====
section
/-! DEFINITION. Firing: what a repeat boundary changes at a bar, why a line is retired blank, saturation and overspeed, fire
tags, missing lines, the end of a stop, and the strobe watchdog (R20, R73, R82, R97, R101, R210 to R219, R240, R261, R309,
R319, R390, R398, R406, R460, R461). -/
namespace Sys2Proof.Machine

open Sys2Proof

namespace Dev

/-- A mask of every bar present. -/
def allBars (d : Dev) : Nat := 2 ^ d.nbars - 1

/-- A generation that the partner has not acknowledged in time is withdrawn, with EV_KEEPER_MIRROR (R310). -/
def mirrorLate (d : Dev) : Dev :=
  match d.keeper.gen with
  | some g => if g.acked then d else d.withdrawGen.raise 69
  | none => d

/-- The pending generation takes effect at B0, and held content is formed (R308, R309). -/
def genAtB0 (d : Dev) (r : Rep) : Dev :=
  let d := match d.keeper.gen with
    | some g => if decide (g.rep ≤ r.num) then d.mirrorLate else d
    | none => d
  match d.keeper.gen with
  | some g =>
    if decide (g.rep ≤ r.num) then
      let d := { d with keeper := { d.keeper with gen := none } }
      ((((d.put 0x3A08 1 g.num).put 0x3A08 2 0).put 0x3A08 3 0).raise 70).formGen
    else d
  | none => d

/-- The flying change at a boundary at B0: IN_PROGRESS, and a deferred change is tested again as "next" (R87, Table 3.4). -/
def changeAtB0 (d : Dev) (r : Rep) : Dev :=
  let hit (c : Option Chg) : Bool := match c with
    | some c => decide (c.n ≤ r.num) && !c.waiting
    | none => false
  let d :=
    if hit d.print.locked then
      { d with print := { d.print with progress := d.print.locked, locked := none, shown := none } }
    else if hit d.print.pending then
      { d with print := { d.print with progress := d.print.pending, pending := none, shown := none } }
    else d
  match d.print.pending with
  | some c =>
    if c.waiting && d.print.locked.isNone then
      d.schedule { c with n := d.nextMet (r.num + 1), deferred := true, waiting := false }
    else d
  | none => d

/-- The records kept of a newest-first list: every repeat still to open, and the `k` opened last (R97). -/
def keepRecords : Nat → List Rep → List Rep
  | _, [] => []
  | k, r :: rs =>
    if !r.opened then r :: keepRecords k rs
    else match k with
      | 0 => []
      | k + 1 => r :: keepRecords k rs

/-- The repeat's ledger record opens, with the ceiling its context has then (R97, R156, R461); the number is saved after every 65,536
repeats and with the first of a boot (R83). -/
def openRecord (d : Dev) (r : Rep) : Dev :=
  let ceiling := match r.ctx with
    | some c => (d.ctx c).ceiling
    | none => r.ceiling
  let d := d.onRep r.num (fun r => { r with opened := true, open_ := d.allBars, gen := d.g 0x3A08 1, ceiling := ceiling })
  let reps := keepRecords 4096 d.print.reps
  let oldest := match reps.getLast? with
    | some x => x.num
    | none => r.num
  let d := { d with
    print := { d.print with reps := reps, sinceSave := d.print.sinceSave + 1 }
    jobs := { d.jobs with preds := d.jobs.preds.filter (fun (p : Pred) => decide (oldest ≤ p.rep)) } }
  let d := if d.print.stopNow then d.barList.foldl (fun d n => d.spoil r.num n 11) d else d
  if decide (65536 ≤ d.print.sinceSave) then
    ({ d with print := { d.print with sinceSave := 0, saved := some r.num } } : Dev).saveNv { kind := 9, obj := 0, val := r.num }
  else d

/-- The lists of the coming gap are mirrored, and wait for their acknowledgement (R319). -/
def listsAtB0 (d : Dev) (r : Rep) : Dev :=
  let agreed := !(d.paired && d.twin.linked)
  let d := d.barList.foldl (fun d n => d.setCensus n { d.census n with agreed := agreed }) d
  if d.role == 1 then d.mirror { kind := 7, barMask := d.allBars, repeatNo := r.num, line := 0, value := 0 } else d

/-- An active device whose standby is not synchronised sends it the adoption values (R385, R390). -/
def stateAtB0 (d : Dev) : Dev :=
  if d.role == 1 && d.twin.linked && !d.synced then d.sendState else d

/-- A handover's repeat comes at a bar: the decision role moves at B0, the output role at each bar (R398). -/
def handoverAt (d : Dev) (n : Nat) (r : Rep) : Dev :=
  match d.twin.handover with
  | none => d
  | some (k, cause) =>
    if decide (r.num < k) then d
    else
      let d :=
        if n != 0 then d
        else if d.twin.incoming then d.takeover cause
        else ((({ d with twin := { d.twin with lastHandover := d.t } } : Dev).put 0x2C08 1 2).put 0x2C08 2 15).camsRelease
      let d := { d with twin := { d.twin with switched := setBit d.twin.switched n true } }
      if d.twin.switched != d.allBars then d
      else
        let restart := d.twin.restartAfter
        let d := { d with twin := { d.twin with
          handover := none, switched := 0, incoming := false, restartAfter := false, rehearsing := if cause == 4 then some d.t else none } }
        if restart then d.startRec { id := 0, event := 101, unit := 0xFF, mask := 0, detail := 0, level := 3, start := d.t } else d

/-- What a boundary at B0 does for the whole device. -/
def boundaryB0 (d : Dev) (r : Rep) : Dev :=
  let d := ((d.genAtB0 r).changeAtB0 r).openRecord r
  (d.listsAtB0 r).stateAtB0.resynchronise

/-- The context in force at Bn changes with repeat r; one in force at no bar is Retiring, one in force is Live (R73, R74). -/
def contextAt (d : Dev) (n : Nat) (r : Rep) : Dev :=
  let old := (d.bar n).ctx
  let new_ := if (r.ctxs.find? n).isSome then none else r.ctx
  let d := (d.onBar n (fun b => { b with ctx := new_, rep := r.num })).put 0x2016 (n + 1) (new_.getD 0xFF)
  let d := match new_ with
    | some c => d.onCtx c (fun x => { x with code := 5 })
    | none => d
  match old with
  | some c =>
    if old != new_ && (d.ctx c).code == 5 && d.barList.all (fun m => (d.bar m).ctx != some c) then
      (d.onCtx c (fun x => { x with code := 6 })).retire c
    else d
  | none => d

/-- Tables replaced at repeat r at Bn move its keeper basis, or clear the columns a map change touches (R302, R309). -/
def tablesAt (d : Dev) (n : Nat) (r : Rep) : Dev :=
  let hs := (d.dict.held.get [] n).filter (fun h => decide (h.upto ≤ r.num))
  let gens := hs.filter (fun h => h.val != 0 && (h.key == key (0x6208 + n) 0 || h.key == key (0x6220 + n) 0))
  let d := match gens.getLast? with
    | some h => d.put (0x5008 + 0x100 * n) 4 h.val
    | none => d
  (d.tablesMoved n r.num r.num hs).dropHeld n r.num

/-- The context that rules overspeed at Bn in a repeat. -/
def overCtx (r : Rep) (n : Nat) : Option Nat := if (r.ctxs.find? n).isSome then none else r.ctx

/-- At a boundary: the switch to or from the alternate screen that falls there, and the exit from overspeed (R215, R216). A
standby follows its active device's decisions (R217). -/
def overspeedAt (d : Dev) (n : Nat) (r : Rep) : Dev :=
  let b := d.bar n
  let c := overCtx r n
  let canAlt := match c with
    | some x => d.cg x (0x4050 + n) 3 != 0xFF && bit (d.cg x 0x4000 2) n
    | none => false
  let due := match b.altAt with
    | some (v, k) => if decide (k ≤ r.num) then some v else none
    | none => none
  let d := match due with
    | some true =>
      if canAlt then d.onBar n (fun b => { b with alternate := true, overspeed := false, altPolicy := false, altAt := none })
      else d.onBar n (fun b => { b with altPolicy := false, altAt := none })
    | some false => d.onBar n (fun b => { b with alternate := false, altAt := none })
    | none => d
  let b := d.bar n
  let alt := match c with
    | some x => d.altIn n x r.num
    | none => false
  let d := if alt then d.onRep r.num (fun r => { r with alt := setBit r.alt n true }) else d
  if !b.overspeed || b.altPolicy || (d.paired && d.role == 2) then d
  else if d.demand n c false < 95 / 100 then
    (d.onBar n (fun b => { b with overspeed := false, altPolicy := false })).mirror
      { kind := 8, barMask := 2 ^ n, repeatNo := r.num, line := ceilLine r.d, value := 3 }
  else d

/-- The prepared engine serves the bar: EV_ENGINE_SUBST, and the pool has one unit less (R406, R440). -/
def takeEngine (d : Dev) (n : Nat) (e : EngineSwap) : Dev :=
  let d := (d.put 0x2E07 (e.old + 1) 2).put 0x2E07 (e.new_ + 1) 0
  let d := d.onBar n (fun b => { b with engine := e.new_, engineSwap := none })
  let d := d.saveNv d.engineRec
  ((d.raise 26 (2 ^ n) e.new_ e.old).consume 1).substitute 1

/-- The engine that was prepared takes the bar from its boundary on (R406, R440). -/
def engineAt (d : Dev) (n : Nat) (r : Rep) : Dev :=
  match (d.bar n).engineSwap with
  | some e =>
    match e.atRep with
    | some k =>
      if e.ready && decide (k ≤ r.num) then d.takeEngine n e else d
    | none => d
  | none => d

/-- A standby that has no committed set of the digest mirrored for this repeat applies nothing and loses TABLES (R388). -/
def digestAt (d : Dev) (n : Nat) (r : Rep) : Dev :=
  match d.twin.digests.find? (16 + n) with
  | some (k, crc) =>
    if k != r.num then d
    else
      let d := { d with twin := { d.twin with digests := d.twin.digests.erase (16 + n) } }
      if d.role == 2 && d.digestOf n != crc then d.loseFlag 1 else d
  | none => d

/-- Everything scheduled for repeat r's boundary applies together at Bn (R20, R82). -/
def boundaryAt (d : Dev) (n : Nat) (r : Rep) : Dev :=
  let d := if n == 0 then d.boundaryB0 r else d
  let r := (d.rep? r.num).getD r
  let d := d.put 0x2015 (n + 1) r.num
  let d := d.put (0x5006 + 0x100 * n) 3 (min (d.bar n).lagNow 65535)
  let d := d.onBar n (fun b => { b with
    lagNow := 0
    strobeWait := false
    posLost := b.posLost && d.reck.state == 3
    choices := b.choices.filter (fun x => decide (r.num ≤ x.rep)) })
  let d := (d.digestAt n r).contextAt n r
  let d := ((d.tablesAt n r).countClamps n r).rateMoved n
  let d := ((d.overspeedAt n r).engineAt n r).exchange n
  let d := d.handoverAt n r
  match d.print.progress with
  | some c =>
    match d.boundary c.n with
    | some b =>
      if (d.barList.filter (fun m => m != n)).all (fun m => decide (ceilLine b < (d.bar m).next)) && decide (c.n ≤ r.num) then
        { d with print := { d.print with progress := none, rest := 5, restCtx := c.ctx, restRep := c.n, shown := none } }
      else d
    | none => d
  | none => d

/-- The bar would leave overspeed at the first line of repeat r. -/
def exits (d : Dev) (n : Nat) (r : Rep) : Bool :=
  let c := overCtx r n
  if (d.bar n).altPolicy then (match (d.bar n).altAt, c with
    | some (true, k), some x => decide (k ≤ r.num) && d.cg x (0x4050 + n) 3 != 0xFF && bit (d.cg x 0x4000 2) n
    | _, _ => false)
  else decide (d.demand n c false < 95 / 100)

/-- Why line j of repeat r is retired blank at Bn: the spoil cause, 0 where its schedule calls for it; none where it fires
(R211). -/
def retireFor (d : Dev) (n j : Nat) (r : Rep) : Option Nat :=
  let b := d.bar n
  let first := j == ceilLine r.d
  if d.sys.st = .restarting then some 8
  else match d.blankedAt n j with
  | some x => some x.cause
  | none =>
    if d.barOff n r then some 0
    else if b.strobeFault || (b.strobeWait && !first) then some 10
    else if b.posLost && !(first && d.reck.state != 3) then some 9
    else if b.overspeed && !(first && d.exits n r) then some 5
    else if (match r.ctx with
        | some c => d.altIn n c r.num && r.lineOf j % 2 == 1
        | none => true) then some 0
    else if b.warmGap then some 8
    else none

/-- PERIOD of a fire tag: the line period in REFCLK_LANE cycles (R211). -/
def tagPeriod (d : Dev) : Nat :=
  if d.lineRate == 0 then 16777215 else min 16777215 ((312500000 + d.lineRate) / (2 * d.lineRate))

/-- The fire tag of line j, due as the line before it fires, on every lane of the bar, and on a spare that takes over with that line (R211, R239, R261). -/
def sendTag (d : Dev) (n j : Nat) (blank : Bool) : Dev :=
  let down := (d.lanesOf n).any (fun s => d.laneState s != 4 || !(d.lane s).carries)
  let d := d.onBar n (fun b => { b with tagBlank := some blank, tagDown := down })
  if !d.lineSends j || d.sys.st = .restarting then d
  else
    let first := match d.repAt j with
      | some r => ceilLine r.d == j
      | none => false
    let spare := d.spareOf n + 1
    let ss := (d.lanesOf n).filter (fun s => d.laneState s == 4 && (d.lane s).carries) ++ (if first && d.readySpare spare then [spare] else [])
    ss.foldl (fun d s => d.block s (if blank then 0x4E else 0x4B) (leBytes 4 (j % 4294967296) ++ leBytes 3 d.tagPeriod)) d

/-- The tag of the line that follows, with the flag its schedule and the bar's state give it now. -/
def nextTag (d : Dev) (n j : Nat) : Dev :=
  let d := d.ensure j
  let ended := match (d.print.endRep.bind d.boundary) with
    | some b => decide (ceilLine b ≤ j)
    | none => false
  match d.repAt j with
  | some r => if ended then d else d.sendTag n j (d.retireFor n j r).isSome
  | none => d

/-- Line j of Bn has not been delivered on every lane in use, as a solo device knows it: not rendered, not sent, or a lane was down when
its tag was due, or now where no tag has been sent (R101, R263). -/
def undelivered (d : Dev) (n j : Nat) : Bool :=
  let b := d.bar n
  let down := if b.tagBlank.isSome then b.tagDown else (d.lanesOf n).any (fun s => d.laneState s != 4 || !(d.lane s).carries)
  decide (b.rend ≤ j) || down || (d.lanesOf n).any (fun s => decide ((d.lane s).next ≤ j))

/-- A line that was not delivered at a solo device; a replay that came too late makes its recovery visible (R101, R404). -/
def checkDelivered (d : Dev) (n j : Nat) (printed : Bool) : Dev :=
  if d.paired || !d.undelivered n j then d
  else
    let late := printed && decide (j < (d.bar n).replay)
    let d := if late then (d.bump 0x2208 8).onBar n (fun b => { b with replay := 0 }) else d
    d.missingLine n j

end Dev

/-- A bar's entry into overspeed, for the event that names every bar entering at one instant (Table 17.9). -/
structure Entry where
  t : Nat
  bar : Nat
  policy : Nat
  ratio : Nat

namespace Dev

/-- Bn enters overspeed with line j at `t`: the policy, its count, and the alternate screen's boundary (R214 to R217). A standby
only counts it. -/
def enterOverspeed (d : Dev) (n j t : Nat) (r : Rep) : Dev × List Entry :=
  let c := overCtx r n
  let b := d.bar n
  let blank := match c with
    | none => true
    | some x => d.cg x (0x4050 + n) 3 == 0xFF || b.alternate || decide ((d.fireLimits x n).2 * 95 / 100 ≤ (d.lineRate : Nat))
  let d := d.bump (0x5006 + 0x100 * n) 4
  if d.paired && d.role == 2 then (d, [])
  else
    let k := if !blank && decide (ceilLine r.end_ ≤ j + 3) then r.num + 2 else r.num + 1
    let policy := if blank then 1 else 2
    let e : Entry := { t := t, bar := n, policy := policy, ratio := permille (d.demand n c b.alternate) }
    let d := d.onBar n (fun b => { b with overspeed := true, altPolicy := !blank, altAt := if blank then b.altAt else some (true, k) })
    let d := d.mirror { kind := 8, barMask := 2 ^ n, repeatNo := k, line := j, value := policy }
    if blank then (d, [e])
    else match d.boundary k with
      | some at_ => if decide (ceilLine at_ < (d.bar n).rend) then (d.undo n (ceilLine at_), [e]) else (d, [e])
      | none => (d, [e])

/-- EV_OVERSPEED of the entries, taken in bar order: one event for the bars that enter at one instant under one policy, with the
lowest bar's demand ratio (R215, Table 17.9). -/
def announce (d : Dev) (es : List Entry) : Dev :=
  es.foldl (fun d e =>
    let same := es.filter (fun x => x.t == e.t && x.policy == e.policy)
    if same.any (fun x => decide (x.bar < e.bar)) then d
    else d.raise 45 (same.map (fun x => 2 ^ x.bar)).sum 0xFF (e.policy * 16777216 + e.ratio)) d

/-- Line j of Bn lays no ink after all: its prediction counts 0 there (R153). -/
def inkless (d : Dev) (n j : Nat) (r : Rep) : Dev :=
  let hit (p : Pred) : Bool := p.bar == n && p.rep == r.num
  { d with jobs := { d.jobs with preds := d.jobs.preds.map (fun (p : Pred) => if hit p then { p with lines := p.lines.set (r.lineOf j) [] } else p) } }

/-- A line retired blank at its due instant (R211): its tag carries the flag, its repeat is spoiled where the cause asks. -/
def retireBlank (d : Dev) (n j : Nat) (r : Rep) (cause : Nat) (printed : Bool) : Dev :=
  let d := if (d.bar n).tagBlank == some true then d else d.sendTag n j true
  let d := d.bump (0x5006 + 0x100 * n) 6
  let d := if cause == 5 || cause == 10 then d.inkless n j r else d
  if cause == 5 || (printed && (cause == 10 || (cause == 8 && d.role != 2))) then d.spoil r.num n cause else d

/-- Line j fires at `t`, in 2.5 ns (R210, R214). -/
def strobe (d : Dev) (n j t : Nat) (r : Rep) (saturated : Bool) (lag : Nat) : Dev :=
  let d := if (d.bar n).tagBlank == some false then d else d.sendTag n j false
  let d := if saturated then d.bump (0x5006 + 0x100 * n) 5 else d
  let d := d.onBar n (fun b => { b with tPrev := some t, saturated := saturated, lagNow := max b.lagNow lag })
  let d := d.startTests n j t d.tagPeriod
  if d.lineSends j then d.emit (.strobe n j t (d.live n r.num 0x5007 1) (d.live n r.num 0x5007 3)) else d

/-- The firing instant of a line due at `due`, in 2.5 ns: no sooner than 1 / f_eff after the strobe before (R214). -/
def fireInstant (d : Dev) (n due : Nat) (r : Rep) : Nat :=
  let gap := match overCtx r n with
    | some c => d.strobeGap c n
    | none => 0
  match (d.bar n).tPrev with
  | some p => max due (p + gap)
  | none => due

/-- The alternate screen does not allow the present line rate (R214). -/
def altTooFast (d : Dev) (n : Nat) (r : Rep) : Bool :=
  match overCtx r n with
  | some c => (d.bar n).alternate && decide ((d.fireLimits c n).2 < (d.lineRate : Nat))
  | none => (d.bar n).alternate && decide (0 < d.lineRate)

/-- The lines of the alternate screen that lay no dots: odd repeat lines (R214, R216). -/
def oddAlt (d : Dev) (n j : Nat) (r : Rep) : Bool := match overCtx r n with
  | some c => d.altIn n c r.num && r.lineOf j % 2 == 1
  | none => false

/-- Lag of line j of Bn at `t`, in 2^-64 line: the output there less O_n + j (R206, R214). -/
def lagAt (d : Dev) (n j t : Nat) : Int :=
  d.outAt t - ((d.offset n * 281474976710656 + j * 18446744073709551616 : Nat) : Int)

/-- The gap of repeat r from its first line holds 2 ms of lines and the send lead (R240, R435). -/
def gapHolds (d : Dev) (n j : Nat) (r : Rep) : Bool := decide (ceilDiv d.lineRate 500 + d.lead n 2 ≤ ceilLine r.end_ - j)

/-- A lane of Bn that carries lines and is due for calibration begins with the gap, one lane in a gap; in a gap too short it waits and the
wait is counted (R435). Codes of a commanded calibration that wait for a gap are set (R436). -/
def gapCal (d : Dev) (n j : Nat) (r : Rep) : Dev :=
  let mine (s : Nat) : Bool := decide (1 ≤ s ∧ s ≤ 72) && laneBar s == n
  match d.cal.codes.find? (fun x => mine x.1) with
  | some x =>
    if d.gapHolds n j r then
      (({ d with cal := { d.cal with codes := d.cal.codes.erase x } } : Dev).setLaneCode x.1 x.2).skipLane n ((d.logicalOf x.1).getD 8)
    else d
  | none => match d.cal.due.find? (fun k => k / 256 == 1 && mine (k % 256 + 1) && (d.lane (k % 256 + 1)).carries) with
    | some k =>
      if d.gapHolds n j r then
        ({ d with cal := { d.cal with running := d.cal.running ++ [k], due := d.cal.due.erase k } } : Dev).skipLane n
          ((d.logicalOf (k % 256 + 1)).getD 8)
      else ((d.bump 0x270C 1).put 0x270A 1 3).raise 110
    | none => d

/-- With the first gap line of a repeat a planned swap whose spare has stepped up begins, or is deferred; a calibration of the bar's lanes
waits for the next gap then (R240). -/
def plannedSwap (d : Dev) (n j : Nat) (r : Rep) : Dev :=
  if j != r.gapStart d.sheet || d.barOff n r then d
  else match (d.bar n).swap with
  | some w =>
    if !w.planned || !w.stepped || w.started then d.gapCal n j r
    else if d.gapHolds n j r then d.startSwap n
    else
      let v := d.g 0x3418 (n + 1)
      d.put 0x3418 (n + 1) (if v % 256 == 255 then v / 256 * 256 + Config.overflow (key 0x3418 (n + 1)) 256 % 256 else v + 1)
  | none => d.gapCal n j r

/-- What follows a line fired or retired: the next line, the store, the record's open bit (R97, R175). -/
def lineDone (d : Dev) (n j : Nat) (r : Rep) : Dev :=
  let d := d.onBar n (fun b => { b with
    next := j + 1
    fired := true
    tagBlank := none
    rend := max b.rend (j + 1)
    store := b.store.filter (fun x => decide (j < x.line + 16))
    blanks := b.blanks.filter (fun x => decide (j + 1 < x.hi)) })
  let d := if bit d.twin.withheld n && decide (d.twin.withheldUpto.get 0 n ≤ j + 1) then
      { d with twin := { d.twin with withheld := setBit d.twin.withheld n false } } else d
  let d := if decide (ceilLine r.end_ ≤ j + 1) then d.onRep r.num (fun r => { r with open_ := setBit r.open_ n false }) else d
  let d := if d.barList.all (fun m => decide (j < (d.bar m).next)) then
      { d with print := { d.print with splices := d.print.splices.filter (fun x => decide (j < x.hi)) } } else d
  (d.altReturn n).retireAll

/-- No lane carries lines any more. -/
def lanesIdle (d : Dev) : Dev :=
  (d.headLanes ++ d.barList.map (fun n => d.spareOf n + 1)).foldl (fun d s =>
    d.onLane s (fun l => { l with carries := false, baseSent := false, credited := false })) d

/-- Contexts that were Live are Retiring (R73). -/
def liveOver (d : Dev) : Dev :=
  let cs := d.ctxs.mapVal (fun _ (c : Ctx) => if c.code == 5 then { c with code := 6 } else c)
  { d with ctxs := cs }

/-- Stopping ends: the device enters Armed, its contexts leave Live (R454, R460, R461). -/
def stopped (d : Dev) : Dev :=
  let d := d.printOver.liveOver.lanesIdle
  (match d.sys.st with
  | .restarting => { d with sys := { d.sys with before := .armed } }
  | _ => d.enter .armed).retireAll

/-- Bn reaches the end boundary of a stop (R217, R460). -/
def endBar (d : Dev) (n j : Nat) : Dev :=
  let d := if n == 0 && d.phase == .printing then
      (if d.sys.st = .restarting then { d with sys := { d.sys with before := .stopping } } else d.enterStopping)
    else d
  let old := (d.bar n).ctx
  let d := (d.onBar n (fun b => { b with
    next := j + 1, ctx := none, overspeed := false, alternate := false, altAt := none, altPolicy := false })).put 0x2016 (n + 1) 0xFF
  let d := match old with
    | some c => if (d.ctx c).code == 5 && d.barList.all (fun m => (d.bar m).ctx != some c) then d.onCtx c (fun x => { x with code := 6 }) else d
    | none => d
  if d.barList.all (fun m => decide (j < (d.bar m).next)) then d.stopped else d.retireAll

/-- STOP_NOW is over: every bar has fired its line u − 1 (R461). -/
def stopNowOver (d : Dev) : Dev :=
  if d.print.stopNow && d.barList.all (fun n => match (d.bar n).blanks.find? (fun b => b.cause == 11) with
      | some b => decide (b.lo ≤ (d.bar n).next)
      | none => true) then d.stopped else d

/-- Line of the end boundary of a stop, where it is placed. -/
def endLine (d : Dev) : Option Nat := (d.print.endRep.bind d.boundary).map ceilLine

/-- What follows line j of Bn at once. -/
def afterLine (d : Dev) (n j : Nat) (r : Rep) : Dev := ((d.lineDone n j r).nextTag n (j + 1)).stopNowOver

/-- Line j of repeat r lays dots at Bn: outside the gap, in an enabled bar, on a line its screen fires. -/
def prints (d : Dev) (n j : Nat) (r : Rep) : Bool :=
  let odd := match r.ctx with
    | some c => d.altIn n c r.num && r.lineOf j % 2 == 1
    | none => true
  !decide (r.gapStart d.sheet ≤ j) && !d.barOff n r && !odd

/-- The next line of Bn falls due at `due`, in 2.5 ns (R210): it fires, is retired blank, or waits where its strobe would come too
soon (R214). -/
def dueLine (d : Dev) (n due : Nat) : Dev :=
  let j := (d.bar n).next
  let d := d.ensure j
  match d.endLine with
  | some e =>
    if e == j then d.endBar n j
    else if decide (e < j) then d
    else go d j
  | none => go d j
where
  /-- Line j of Bn, before any end boundary. -/
  go (d : Dev) (j : Nat) : Dev :=
    match d.repAt j with
    | none => d
    | some r =>
      let d := if j == ceilLine r.d then d.boundaryAt n r else d
      let r := (d.rep? r.num).getD r
      let printed := d.prints n j r
      let d := d.plannedSwap n j r
      match d.retireFor n j r with
      | some c =>
        -- An odd line is judged with the even ones: the bar enters overspeed where v exceeds c_n (R214).
        if c == 0 && d.oddAlt n j r && d.altTooFast n r then d.onBar n (fun b => { b with wait := some (due, due) })
        else (d.retireBlank n j r c printed).afterLine n j r
      | none =>
        let t := d.fireInstant n due r
        if decide (due < t) || d.altTooFast n r then d.onBar n (fun b => { b with wait := some (due, t) })
        else ((d.checkDelivered n j printed).strobe n j t r false 0).afterLine n j r

/-- Lines that have fallen due at Bn, in order, until one waits (R214). -/
def dueLines (d : Dev) (n : Nat) : List Nat → Dev
  | [] => d
  | due :: rest =>
    let d := d.dueLine n due
    if (d.bar n).wait.isSome then d.onBar n (fun b => { b with dues := rest }) else dueLines d n rest

/-- The waiting line of Bn comes to its firing instant t: it fires with its lag, or the bar enters overspeed (R214). -/
def fireWaiting (d : Dev) (n due t : Nat) : Dev × List Entry :=
  let j := (d.bar n).next
  let d := d.onBar n (fun b => { b with wait := none })
  match d.repAt j with
  | none => (d, [])
  | some r =>
    let printed := d.prints n j r
    match d.retireFor n j r with
    | some c =>
      let (d, es) := if c == 0 && d.oddAlt n j r && d.altTooFast n r then d.enterOverspeed n j t r else (d, [])
      ((d.retireBlank n j r (if (d.bar n).overspeed then 5 else c) printed).afterLine n j r, es)
    | none =>
      let lag : Int := if due == t then 0 else d.lagAt n j t
      let shown := (max 0 lag / 288230376151711744).toNat
      let d := d.checkDelivered n j printed
      if decide (9223372036854775808 < lag) || d.altTooFast n r then
        let (d, es) := d.enterOverspeed n j t r
        if (d.bar n).overspeed then ((d.retireBlank n j r 5 printed).afterLine n j r, es)
        else ((d.strobe n j t r (decide (due < t)) shown).afterLine n j r, es)
      else ((d.strobe n j t r (decide (due < t)) shown).afterLine n j r, [])

/-- The waiting line of Bn is settled, and then the lines that have fallen due behind it. -/
def settleBar (d : Dev) (n due t : Nat) : Dev × List Entry :=
  let (d, es) := d.fireWaiting n due t
  let dues := (d.bar n).dues
  let d := d.onBar n (fun b => { b with dues := [] })
  (if d.printingLike then d.dueLines n dues else d, es)

/-- The fire tag of the next of those lines is sent, unless its flag has been (R211). -/
def tailTag (d : Dev) (n : Nat) : Dev :=
  match (d.bar n).tail with
  | [] => d
  | (j, w) :: _ =>
    let blank := w.isNone || (d.bar n).strobeFault
    if (d.bar n).tagBlank == some blank then d else d.sendTag n j blank

/-- After a controlled stop the lines below u still come due at Bn: each fires as held, no sooner than 1 / f_eff after the strobe
before, or is retired blank, as every line is under a strobe fault (R409, R211, R214, R219). -/
def tailLine (d : Dev) (n due : Nat) : Dev :=
  match (d.bar n).tail with
  | [] => d
  | (j, w) :: rest =>
    let d := d.tailTag n
    let b := d.bar n
    let d := d.onBar n (fun b => { b with next := j + 1, tail := rest, tagBlank := none })
    (match w with
    | some (w, gap) =>
      if b.strobeFault then d.bump (0x5006 + 0x100 * n) 6
      else
        let t := match b.tPrev with
          | some p => max due (p + gap)
          | none => due
        let d := d.onBar n (fun b => { b with tPrev := some t, saturated := decide (due < t) })
        let d := if decide (due < t) then d.bump (0x5006 + 0x100 * n) 5 else d
        if d.lineSends j then d.emit (.strobe n j t w (d.gb n 0x5007 3)) else d
    | none => d.bump (0x5006 + 0x100 * n) 6).tailTag n

/-- Instant at which line j of Bn has fallen due by instant `t`, in 2.5 ns (R210). -/
def lineDueBy (d : Dev) (n j t : Nat) : Option Nat := (d.lineDue n j).filter (fun due => decide (due ≤ t))

/-- The next line of Bn falls due where the output has reached it by `t` (R210), never while the output holds (R207). While a line waits,
the instants of the lines behind it are kept. -/
def fireLine (d : Dev) (n t : Nat) : Dev :=
  let b := d.bar n
  if d.sys.st = .fault && d.fast && decide (n < d.nbars) then
    match b.tail.head?.bind (fun x => d.lineDueBy n x.1 t) with
    | some due => d.tailLine n due
    | none => d
  else if !(d.printingLike && d.fast) || decide (d.nbars ≤ n) || d.print.reps.isEmpty || d.print.sheetStart then d
  else
    let behind := if b.wait.isSome then 1 + b.dues.length else 0
    match d.lineDueBy n (b.next + behind) t with
    | none => d
    | some due => if b.wait.isSome then d.onBar n (fun b => { b with dues := b.dues ++ [due] }) else d.dueLine n due

/-- The bars whose waiting line has reached its firing instant, with its two instants; none while the output holds (R207). -/
def waitsOver (d : Dev) : List (Nat × Nat × Nat) :=
  if d.reck.state == 1 then [] else d.barList.filterMap (fun n => match (d.bar n).wait with
    | some (due, t) => if decide (5 * t ≤ 2 * d.t) then some (n, due, t) else none
    | none => none)

/-- At a tick the waiting lines whose instant has come are settled, bar by bar (R214). -/
def settle (d : Dev) : Dev :=
  let (d, es) : Dev × List Entry := d.waitsOver.foldl (fun (x : Dev × List Entry) w =>
    let (d, es) := x.1.settleBar w.1 w.2.1 w.2.2
    (d, x.2 ++ es)) (d, [])
  d.announce es

/-- The watchdog has cut a FIRE output of Bn: cause 1 width, 2 rate (R218, R219). -/
def strobeCut (d : Dev) (n fire cause : Nat) : Dev :=
  let b := d.bar n
  let i := 0x5006 + 0x100 * n
  let d := (((d.onBar n (fun b => { b with strobeFault := true, strobeWait := false })).bump i 7).put i 8 cause).raise 46 (2 ^ n) fire cause
  -- The line whose strobe was cut counts as fired with other dots.
  match d.repAt (b.next - 1) with
  | some r =>
    if b.fired && d.printingLike && decide (b.next - 1 < r.gapStart d.sheet) && !d.barOff n r then d.spoil r.num n 10 else d
  | none => d

/-- A write of 0x5007:04 of Bn (R219). -/
def strobeClear (d : Dev) (n value : Nat) : Dev × Nat :=
  if value == 0 then (d, 0)
  else if value != 1 then (d, 0x06090030)
  else (d.onBar n (fun b => { b with strobeFault := false, strobeWait := (b.strobeFault || b.strobeWait) && d.printingLike }), 0)

end Dev

/-- A tick of the 25 MHz clock, on an empty queue: the local counter advances 40 ns (R334), and a line that waited for its firing
instant is settled (R214). Nothing else moves. -/
def tick (s : State) : Host.Outcome State Fault Refusal :=
  let s := { s with now := s.now + 40 }
  if s.begin_.waitsOver.isEmpty then .next s else s.done s.begin_.settle

/-- FIRE_LINE: the output reaches the bar's next line by local instant `t`, in 2.5 ns (R210). -/
def execFireLine (bar : Fin 8) (t : Nat) (s : State) : Host.Outcome State Fault Refusal := s.done (s.begin_.fireLine bar t)

/-- Least interval that the watchdog lets pass between active edges of Bn, in 2.5 ns: 1 / (1.1 fire limit) of the context in force, and
no less than 4.545 us (R218). -/
def Dev.watchdogGap (d : Dev) (n : Nat) : Rat :=
  match (d.bar n).ctx with
  | some c => if d.cg c (0x4060 + n) 1 == 0 then 1818 else max 1818 (4000000000 / ((11 * d.cg c (0x4060 + n) 1 : Nat) : Rat))
  | none => 1818

/-- STROBE_WATCHDOG (R218, R219): FIRE output `fire` belongs to bar `fire / 2`. The watchdog acts on an active edge too soon after
the one before (cause 2) and on a pulse beyond the maximum width in force at the bar (cause 1). -/
def execStrobeWatchdog (fire : Fin 16) (seen : StrobeSeen) (s : State) : Host.Outcome State Fault Refusal :=
  let d := s.begin_
  let n := (fire : Nat) / 2
  let soon := match seen.since with
    | some k => decide ((k : Rat) < d.watchdogGap n)
    | none => false
  s.done (if decide (d.nbars ≤ n) || !d.fast then d
    else if soon then d.strobeCut n fire 2
    else if decide (4 * d.live n (d.bar n).rep 0x5007 2 < seen.active) then d.strobeCut n fire 1
    else d)

end Sys2Proof.Machine
end

