-- ==== Sys2Proof/Machine/Arm.lean ====
section
/-! DEFINITION. Arm: the validation rules of every owning chapter, the order in which they are taken, the ceiling, flattening
and the checksum (R60, R78 to R80, R137, R149, R150, R154, R179, R222, R321, R353). -/
namespace Sys2Proof.Machine

open Sys2Proof

/-- A failing rule: the object named for it, as index * 256 + subindex, and its code. -/
abbrev Fail := Nat × Nat

/-- `f` when the condition holds. -/
def failIf (b : Bool) (k code : Nat) : List Fail := if b then [(k, code)] else []

/-- The first failing rule: objects are taken in ascending order (R78). -/
def firstFail : List Fail → Option Fail
  | [] => none
  | f :: r => match firstFail r with
    | some g => if decide (g.1 < f.1) then some g else some f
    | none => some f

/-- The samples never fall. -/
def nonDecreasing : List Nat → Bool
  | a :: b :: r => decide (a ≤ b) && nonDecreasing (b :: r)
  | _ => true

/-- A table of UNSIGNED16 values as numbers. -/
def u16s : Bytes → List Nat
  | a :: b :: r => (a.toNat + 256 * b.toNat) :: u16s r
  | _ => []

/-- A scaler set has its length and every phase sums to 4,096 (R142). -/
def scalerOk (b : Bytes) : Bool :=
  b.length == 1792 &&
    (List.range 64).all (fun p => ((List.range 8).map (fun t => i16 b (8 * p + t))).sum == 4096) &&
    (List.range 64).all (fun p => ((List.range 6).map (fun t => i16 b (512 + 6 * p + t))).sum == 4096)

namespace Dev

/-- A committed scaler table, where one has been written, meets R142; the default set does. -/
def scalerFails (d : Dev) (c idx : Nat) : List Fail := match (d.ctx c).dom.find? idx with
  | some b => failIf (!scalerOk b) (key idx 0) 0x0F000022
  | none => []

/-- The rules of R3 and R80. -/
def failsOwn (d : Dev) (c : Nat) : List Fail :=
  let mask := d.cg c 0x4000 2
  let l := d.lenOf c
  let k := key 0x4000
  failIf (mask == 0) (k 2) 0x0F00001E ++ failIf (d.product == 0x2204 && decide (16 ≤ mask)) (k 2) 0x0F00001D ++
  failIf (!decide (256 * 65536 ≤ l ∧ l ≤ 4294967295 * 65536)) (k 3) 0x0F00001E ++
  failIf (decide (l ≤ (d.cg c 0x4000 4 + 64) * 65536)) (k 3) 0x0F00001E ++
  failIf (decide (16777215 < d.cg c 0x4000 5)) (k 5) 0x0F00001E

/-- Printed width of the narrowest enabled bar. -/
def narrowest (d : Dev) (c : Nat) : Nat := match (d.enabledBars c).map d.columns with
  | [] => 0
  | w :: r => r.foldl min w

/-- The rules of Table 5.4 for live layer l. -/
def failsLive (d : Dev) (c l : Nat) : List Fail :=
  let o := 0x4030 + l
  let v (s : Nat) : Nat := d.cg c o s
  let n := channels (d.cg c 0x4003 1)
  failIf (decide (d.narrowest c < v 4 + v 6)) (key o 4) 0x0F000020 ++
  failIf (decide (d.lenOf c / 65536 < v 5 + v 7 + d.cg c 0x4000 4)) (key 0x4000 3) 0x0F000020 ++
  (if v 1 == 1 then
    failIf (v 8 == 0 || decide (8192 < v 8)) (key o 8) 0x0F000021 ++
    failIf (decide (67108864 < v 8 * v 9 * (n + v 0x0D) * 2)) (key 0x4003 1) 0x0F000025
  else if v 1 == 2 then failIf (!decide (1 ≤ v 0x0A ∧ v 0x0A ≤ 3)) (key o 0x0A) 0x0F000024
  else failIf true (key o 1) 0x0F000024) ++
  failIf ((d.cdom c (0x6110 + l)).length != 4608) (key (0x6110 + l) 0) 0x0F000022 ++ d.scalerFails c (0x6120 + l)

/-- At most four video and eight graphic layers (R137); the first layer of the kind is named. -/
def failsCount (d : Dev) (c : Nat) : List Fail :=
  let of (t : Nat) : List Nat := (List.range (d.cg c 0x4003 5)).filter (fun l => d.cg c (0x4030 + l) 1 == t)
  let over_ (t m : Nat) : List Fail := match of t with
    | l :: r => failIf (decide (m < r.length + 1)) (key (0x4030 + l) 1) 0x0F000024
    | [] => []
  over_ 1 4 ++ over_ 2 8

/-- The frames of static layer s against R134 and R150. -/
def failsFrames (d : Dev) (c s : Nat) : List Fail :=
  let o := 0x4020 + s
  let n := channels (d.cg c 0x4003 1)
  let fs := (List.range (d.cg c o 2)).map (fun i => d.frameOk 2 (d.cg c o 1 * 4294967296 + i))
  let hs := fs.filterMap (fun f => f.map (fun f => f.hdr))
  let chans := match hs with
    | h :: _ => h.channels
    | [] => n
  failIf (fs.any (fun f => f.isNone)) (key o 1) 0x0F000023 ++
  failIf (!(chans == n || chans == n + 1)) (key 0x4003 1) 0x0F000023 ++
  failIf (hs.any (fun h => h.sampleBits != 16 || h.columns != d.cg c o 7 || h.channels != chans)) (key o 1) 0x0F000023 ++
  failIf (!fs.any (fun f => f.isNone) && (hs.map (fun h => h.lines)).sum != d.cg c o 8) (key o 1) 0x0F000023

/-- The rules of Table 5.4 for static layer s. -/
def failsStatic (d : Dev) (c s : Nat) : List Fail :=
  let o := 0x4020 + s
  let v (k : Nat) : Nat := d.cg c o k
  let (w, h) := d.planeSize c (d.narrowest c)
  failIf (decide (w < v 3 + v 5)) (key 0x4003 2) 0x0F000020 ++ failIf (decide (h < v 4 + v 6)) (key 0x4000 3) 0x0F000020 ++
  failIf (decide (8 * v 5 < v 7 ∨ 8 * v 7 < v 5)) (key o 5) 0x0F000020 ++ failIf (decide (8 * v 6 < v 8 ∨ 8 * v 8 < v 6)) (key o 6) 0x0F000020 ++
  failIf (decide (v 7 < 1 ∨ 8192 < v 7)) (key o 7) 0x0F000021 ++ d.failsFrames c s ++ d.scalerFails c (0x6130 + s)

/-- The lattice and tone-map rules of Table 5.4 for Bn. -/
def failsTone (d : Dev) (c n : Nat) : List Fail :=
  let space := d.cg c 0x4003 1
  let t := 0x4040 + n
  let user := u16s (d.cdom c (0x6108 + n))
  failIf ((d.cdom c (0x6100 + n)).length != 2 * gridPoints space ^ channels space) (key 0x4003 1) 0x0F000022 ++
  (if d.cg c t 1 == 1 then
    failIf ((d.cdom c (0x6108 + n)).length != 514 || !nonDecreasing user) (key (0x6108 + n) 0) 0x0F000022
  else failIf (decide (d.cg c t 4 ≤ d.cg c t 2)) (key t 2) 0x0F000022)

/-- The matrix of a set and level (R166). -/
def matrixOf (d : Dev) (c set l : Nat) : Bytes := d.cdom c (0x6140 + 8 * set + l - 1)

/-- The matrix rules of Table 6.4 for one set up to level `top`. -/
def failsMatrix (d : Dev) (c set top : Nat) : List Fail :=
  (List.range top).flatMap (fun i =>
    let b := d.matrixOf c set (i + 1)
    let below := d.matrixOf c set i
    failIf (b.length != 131072 || (u16s b).any (fun v => decide (65534 < v))) (key (0x6140 + 8 * set + i) 0) 0x0F000028 ++
    failIf (i != 0 && b.length == 131072 && below.length == 131072 && ((u16s b).zip (u16s below)).any (fun p => decide (p.1 < p.2)))
      (key (0x6140 + 8 * set + i - 1) 0) 0x0F000028)

/-- An odd ROW_OFFSET is in force at Bn (R222). -/
def oddRow (d : Dev) (n : Nat) : Bool :=
  (List.range (d.gb n 0x5003 1)).any (fun t => (List.range (d.gb n 0x5003 2)).any (fun i =>
    let e := d.remapEntry n (2 ^ 64) t i
    bits e 11 0 != 0xFFF && bits e 15 12 % 2 == 1))

/-- The rules of Table 6.4 and R222 for Bn. -/
def failsScreen (d : Dev) (c n : Nat) : List Fail :=
  let o := 0x4050 + n
  let v (s : Nat) : Nat := d.cg c o s
  let sets := if v 3 == v 2 then [v 2] else [v 2, v 3]
  failIf (!decide (1 ≤ v 1 ∧ v 1 ≤ 3)) (key o 1) 0x0F00002B ++ failIf (decide (3 < v 2)) (key o 2) 0x0F00002B ++
  failIf (decide (3 < v 3) && v 3 != 0xFF) (key o 3) 0x0F00002B ++ failIf (decide (98304 < 2 * (v 7 + v 8))) (key o 7) 0x0F00002A ++
  failIf (!decide (1 ≤ v 9 ∧ v 9 ≤ 128)) (key o 9) 0x0F00002B ++ failIf (!decide (1 ≤ v 0x0A ∧ v 0x0A ≤ 63)) (key o 0x0A) 0x0F00002B ++
  failIf ((d.ctx c).dom.find? (0x6160 + n) |>.any (fun b => b.length != 1024)) (key (0x6160 + n) 0) 0x0F000029 ++
  (if decide (1 ≤ v 1 ∧ v 1 ≤ 3) then (sets.filter (fun s => decide (s ≤ 3))).flatMap (fun s => d.failsMatrix c s (2 ^ v 1 - 1)) else []) ++
  failIf (!decide (1 ≤ d.cg c (0x4060 + n) 1 ∧ d.cg c (0x4060 + n) 1 ≤ 200000)) (key (0x4060 + n) 1) 0x0F000037 ++
  failIf (v 3 != 0xFF && d.oddRow n) (key (0x6228 + n) 0) 0x0F000037

/-- The rules of R321 for Bn. -/
def failsKeeper (d : Dev) (c n : Nat) : List Fail :=
  let o := 0x4080 + n
  let v (s : Nat) : Nat := d.cg c o s
  let shape := u16s (d.cdom c (0x6170 + n))
  failIf (decide (3 < v 1)) (key o 1) 0x0F000049 ++
  failIf (decide (v 1 ≤ 3) && v 5 != 0 && decide (u16 (d.cbytes c o 2 8) (v 1) < 100)) (key o 2) 0x0F000049 ++
  failIf (!decide (1 ≤ v 3 ∧ v 3 ≤ 500)) (key o 3) 0x0F000049 ++ failIf (!decide (1 ≤ v 4 ∧ v 4 ≤ 100000)) (key o 4) 0x0F000049 ++
  failIf ((d.cdom c (0x6170 + n)).length != 514 || shape.head? != some 0 || shape.getLast? != some 65535 || !nonDecreasing shape)
    (key (0x6170 + n) 0) 0x0F000049

/-- Every rule of arm step 1 that a context fails. -/
def armFails (d : Dev) (c : Nat) : List Fail :=
  let bs := d.enabledBars c
  let statics := (List.range 16).filter (fun s => bit (d.cg c 0x4003 4) s)
  d.failsOwn c ++ d.failsCount c ++ (if bs.isEmpty then [] else
    (List.range (d.cg c 0x4003 5)).flatMap (d.failsLive c) ++ statics.flatMap (d.failsStatic c)) ++
  bs.flatMap (fun n => d.failsTone c n ++ d.failsScreen c n) ++ d.barList.flatMap (d.failsKeeper c)

/-- The frames of the enabled static layers as they are flattened (R150). -/
def staticPlanes (d : Dev) (c : Nat) : List (Nat × Nat × FrameHdr × Bytes) :=
  (d.staticTiles c).eraseDups.filterMap (fun t => (d.frameOk 2 t).map (fun f => (2, t, f.hdr, f.data)))

/-- ARM is written: validation and the ceiling, then flattening runs (R78). A rule that fails is named in 0x2013 (R79). -/
def armStart (d : Dev) (sess c : Nat) : Dev :=
  match firstFail (d.armFails c) with
  | some (k, code) =>
    let d := d.onCtx c (fun x => { x with code := 2 })
    (((d.put 0x2013 1 c).put 0x2013 2 k).put 0x2013 3 code).beginOp 1 sess c 0x0F000019
  | none =>
    if decide (81920000000 ≤ d.fixedLoad) then (d.onCtx c (fun x => { x with code := 2 })).beginOp 1 sess c 0x0F00001A
    else
      let ps := d.staticPlanes c
      let ts := d.barList.map (fun n => (n, d.toneTable c n))
      let d := d.onCtx c (fun x => { x with code := 3, planes := ps, lost := [], tones := ts })
      (d.setCeiling c 0).beginOp 1 sess c

/-- Context command ARM (Table 3.2). -/
def writeArm (d : Dev) (sess c : Nat) : Dev × Nat :=
  let x := d.ctx c
  if decide (127 < c) then (d, 0x06090030)
  else if x.code != 1 then (d, 0x0F000017)
  else if x.owner != some sess then (d, 0x0F000013)
  else (d.armStart sess c).started

/-- Cache bytes of Bn among the contexts that hold planes, c apart. -/
def stripeUsed (d : Dev) (c n : Nat) : Nat := (d.ctxs.map (fun x => if x.1 == c then 0 else x.2.stripes.get 0 n)).sum

/-- The planes fit the cache store: under address order 2 each bar's stripe of it (R114, R353). -/
def cacheFits (d : Dev) (c : Nat) (by_ : Table Nat) : Bool :=
  let room := d.g 0x2A00 2 * 1048576
  if d.cap 1 == 2 then by_.all (fun b => decide (d.stripeUsed c b.1 + b.2 ≤ room / d.nbars))
  else decide ((d.barList.map (d.stripeUsed c)).sum + (by_.map (fun b => b.2)).sum ≤ room)

/-- Arm steps 3 and 4 have ended (R79). -/
def armEnd (d : Dev) (o : Op) (crcFailed : Bool) : Dev :=
  let c := o.arg
  let ts := d.cacheTiles c
  let by_ : Table Nat := ts.foldl (fun t x => t.set x.bar (t.get 0 x.bar + x.hdr.clen)) []
  let bytes := (ts.map (fun x => x.hdr.clen)).sum
  let gains := (ts.filter (fun x => x.noGain)).length
  if !d.cacheFits c by_ then (d.armFailed o 0 0x0F00001B 0x0F00001B).endOp 0x0F00001B
  else if crcFailed then (d.armFailed o 0 0x0F00001C 0x0F00001C).endOp 0x0F00001C
  else
    let terms := d.ceilingTerms c bytes
    let (v, w) := ceilingOf terms
    let sum := d.contextChecksum c ts
    let d := d.onCtx c (fun x =>
      { x with code := 4, owner := none, ceiling := v, limiting := w, terms := terms, checksum := sum, noGain := gains, bytes := bytes
               stripes := by_, v := 0, lastEnd := 0, lastRep := 0 })
    let d := d.bumpBy 0x2B00 4 gains
    (((d.raise 28 0 c 0).endOp 0).sendChecksum c).compareSums c

/-- The running arm ends: Armed, or back to Staging or Empty with the failure recorded (R79). -/
def armComplete (d : Dev) (crcFailed : Bool) : Dev :=
  match d.com.op with
  | some o =>
    if o.cls != 1 then d
    else if o.result == 0x0F000019 then (d.armFailed o (d.g 0x2013 2) (d.g 0x2013 3) o.result).endOp o.result
    else if o.result != 0 then (d.armFailed o 0 o.result o.result).endOp o.result
    else d.armEnd o crcFailed
  | none => d

end Dev

/-- ARM (R78, Table 3.2). -/
def execArm (sess ctx : Nat) (s : State) : Host.Outcome State Fault Refusal := s.hostWrite sess 0x2012 (fun d => d.writeArm sess ctx)

/-- ARM_COMPLETE; `tileCrcFailed` when a cache tile failed its CRC on two successive decodes (R79, Table 3.3). -/
def execArmComplete (tileCrcFailed : Bool) (s : State) : Host.Outcome State Fault Refusal := s.done (s.begin_.armComplete tileCrcFailed)

end Sys2Proof.Machine
end

