-- ==== Sys2Proof/Machine/Print.lean ====
section
/-! DEFINITION. Context commands, the flying change, START, STOP and STOP_NOW, SPOIL, SPLICE and CANCEL, and the decisions
they become in a pair (R58, R76, R84 to R95, R102, R381, R389, R456 to R461, R498, R500). -/
namespace Sys2Proof.Machine

open Sys2Proof

namespace Dev

/-- The device follows an active partner: it is the standby, or forming as one (R381, R459). -/
def follows (d : Dev) : Bool := d.role == 2 || d.role == 3

/-- A context without its planes and what arm computed, in Staging under a session. -/
def Ctx.staged (x : Ctx) (sess : Nat) : Ctx := { code := 1, owner := some sess, val := x.val, dom := x.dom }

/-- The context is the target of a pending or locked change. -/
def targeted (d : Dev) (c : Nat) : Bool :=
  (match d.print.locked with
    | some x => x.ctx == c
    | none => false) ||
  (match d.print.pending with
    | some x => x.ctx == c
    | none => false)

/-- Context command DISCARD (Table 3.2). -/
def writeDiscard (d : Dev) (sess c : Nat) : Dev × Nat :=
  let x := d.ctx c
  if decide (127 < c) then (d, 0x06090030)
  else if x.code != 1 then (d, 0x0F000017)
  else if x.owner != some sess then (d, 0x0F000013)
  else (d.setCtx c {}, 0)

/-- Context command UNARM (Table 3.2). -/
def writeUnarm (d : Dev) (sess c : Nat) : Dev × Nat :=
  let x := d.ctx c
  if decide (127 < c) then (d, 0x06090030)
  else if x.code != 4 then (d, 0x0F000017)
  else if d.targeted c then (d, 0x0F000018)
  else ((d.setCtx c (Ctx.staged x sess)).sendChecksum c, 0)

/-- Context command RELEASE (Table 3.2). -/
def writeRelease (d : Dev) (c : Nat) : Dev × Nat :=
  let x := d.ctx c
  if decide (127 < c) then (d, 0x06090030)
  else if x.code != 4 then (d, 0x0F000017)
  else if d.targeted c then (d, 0x0F000018)
  else ((d.setCtx c {}).sendChecksum c, 0)

/-- Context command CLONE (Table 3.2): the committed values of the source, or the staged ones where it is the session's own
Staging context. -/
def writeClone (d : Dev) (sess src c : Nat) : Dev × Nat :=
  let x := d.ctx src
  if decide (127 < c ∨ 127 < src) then (d, 0x06090030)
  else if (d.ctx c).code != 0 || x.code == 0 then (d, 0x0F000017)
  else if x.code == 1 && x.owner != some sess then (d.setCtx c { code := 1, owner := some sess }, 0)
  else (d.setCtx c (Ctx.staged x sess), 0)

/-- A scheduled change is cancelled; repeats already placed under it return to what was scheduled before it (R95). -/
def dropChange (d : Dev) (n : Nat) : Dev :=
  if d.print.reps.any (fun r => decide (n ≤ r.num)) then
    d.rescope n (match d.rep? (n - 1) with
      | some r => if r.last then none else r.ctx
      | none => d.print.startCtx)
  else d

/-- The pending or locked change to a context is cancelled, and the status returns to IDLE (R95). -/
def cancelChange (d : Dev) (c : Nat) : Dev :=
  let idle (d : Dev) : Dev := { d with print := { d.print with rest := 0, restCtx := 0xFF, restRep := 0, shown := none } }
  let d := match d.print.pending with
    | some x => if x.ctx == c then idle (({ d with print := { d.print with pending := none } } : Dev).dropChange x.n) else d
    | none => d
  match d.print.locked with
  | some x => if x.ctx == c then idle (({ d with print := { d.print with locked := none } } : Dev).dropChange x.n) else d
  | none => d

/-- START takes effect: the first boundary is placed, or in sheet mode the first capture is awaited (R84, R193). -/
def startAt (d : Dev) (c num pos : Nat) : Dev :=
  let cs := d.cmps.mapVal (fun _ (x : Cmp) => { x with nextRep := [] })
  let p := { d.print with
    nextNum := num, runFirst := num, startCtx := some c, endRep := none, stopNow := false, sheetStart := d.sheet
    lastCapture := none, ownSheets := [], mirroredSheets := [], splices := [], revoke := [], shown := none }
  let d := { d with cmps := cs, print := p }
  if d.sheet then d.enter .printing
  else
    let j := ceilLine pos
    let d := ((d.place pos (some c) (d.lenOf c)).firstLine j).enter .printing
    d.barList.foldl (fun d n => d.nextTag n j) d

/-- D of the first repeat: ⌈P⌉ + 96 + 0.002 v (R84), in 48.16 lines. -/
def startPos (d : Dev) : Nat := (ceilLine d.posn + 96) * 65536 + d.lineRate * 65536 / 500

/-- STOP_NOW acts (R461). -/
def stopNowAt (d : Dev) : Dev :=
  if d.print.stopNow || !d.printingLike then d
  else
    let bs := d.barList.filter (fun n => match d.endLine with
      | some e => decide ((d.bar n).next ≤ e)
      | none => true)
    let d := if d.print.sheetStart then d else bs.foldl (fun d n =>
      let u := d.uRevoke n
      (d.blank n u (2 ^ 60) 11).undo n u) d
    let d := (d.print.reps.filter (fun r => r.open_ != 0)).foldl (fun d r =>
      (d.barList.filter (fun n => bit r.open_ n)).foldl (fun d n => d.spoil r.num n 11) d) d
    let d := { d with print := { d.print with stopNow := true } }
    let d := if d.phase == .printing then d.enterStopping else d
    -- In sheet mode before the first capture no bar has a line to fire.
    if d.print.sheetStart then d.stopped else d

/-- A handover is scheduled (R398): in a warm pair the incoming device sends BASE for the lines from its boundary on. -/
def scheduleHandover (d : Dev) (n cause : Nat) : Dev :=
  let d := { d with twin := { d.twin with handover := some (n, cause), switched := 0, incoming := d.role == 2 } }
  if d.role == 2 && d.g 0x2C00 1 == 1 then
    match d.boundary n with
    | some b => d.headLanes.foldl (fun d s =>
        if d.laneState s == 4 then (d.onLane s (fun l => { l with carries := true })).sendBase s (ceilLine b) else d) d
    | none => d
  else d

/-- A decision takes effect on this device: kinds 1 to 5, 10, 13 and 14 of Table 16.5. `value` below 2^24. -/
def applyDecision (d : Dev) (m : DecisionMsg) : Dev :=
  let v := m.value % 16777216
  match m.kind with
  | 1 => d.schedule { ctx := v % 256, n := m.repeatNo, deferred := bit v 8 }
  | 2 => d.applyNow (v % 256) m.line
  | 3 => d.applySpoil m.repeatNo
  | 4 => d.applySplice m.line v
  | 5 =>
    let c := v % 256
    let d := if d.targeted c then d.cancelChange c else d
    if (d.ctx c).code == 5 then d.applyAbort c else d
  | 10 => d.placeSheet m.value
  | 13 =>
    if v % 256 == 1 then d.startAt (v / 256) m.repeatNo m.line
    else if v % 256 == 2 then d.applyStop m.repeatNo
    else d.stopNowAt
  | 14 => d.scheduleHandover m.repeatNo (v % 256)
  | _ => d

/-- Last acted request counters as the decision carries them (R381). -/
def acksOf (d : Dev) : Nat :=
  d.com.pd.ackFc + 256 * d.com.pd.ackSpoil + 65536 * d.com.pd.ackSplice + 16777216 * d.com.pd.ackCancel + 4294967296 * d.com.pd.ackCmd

/-- A decision is resolved: at once, or in a pair once the standby has acknowledged it (R389). -/
def resolve (d : Dev) (m : DecisionMsg) : Dev :=
  if d.role == 1 && d.twin.linked && d.twin.partner.isSome then
    d.mirror { m with value := m.value + 16777216 * (d.acksOf % 1099511627776) }
  else d.applyDecision m

/-- Context command ABORT (Table 3.2, R95). The standby leaves it to the active device's decision (R102). -/
def writeAbort (d : Dev) (c : Nat) : Dev × Nat :=
  let x := d.ctx c
  if decide (127 < c) then (d, 0x06090030)
  else if !(x.code == 5 || (x.code == 4 && d.targeted c)) then (d, 0x0F000017)
  else if d.follows then (d, 0)
  else (d.resolve { kind := 5, barMask := d.liveMask c, repeatNo := 0, line := 0, value := c }, 0)

/-- A write of 0x2012 (R76). -/
def writeCtxCommand (d : Dev) (sess v : Nat) : Dev × Nat :=
  let (cmd, src, c) := ctxCommand v
  if ctxReserved v != 0 || decide (127 < c) then (d, 0x06090030)
  else match cmd with
    | 1 => d.writeArm sess c
    | 2 => d.writeDiscard sess c
    | 3 => d.writeUnarm sess c
    | 4 => d.writeRelease c
    | 5 => d.writeAbort c
    | 6 => d.writeClone sess src c
    | _ => (d, 0x06090030)

/-- Every head lane in use that carries tiles of a bar enabled in a context is UP (R458). -/
def lanesReady (d : Dev) (c : Nat) : Bool :=
  (d.enabledBars c).all (fun n => (d.lanesInUse n).all (fun l => d.tilesOnLane n l == 0 || d.laneState (d.laneOf n l) == 4))

/-- Device command START (R84, R458, R459): the abort code, or 0. -/
def writeStart (d : Dev) : Dev × Nat :=
  if d.sys.st != .armed || d.follows then (d, 0x08000022)
  else match d.print.startCtx with
    | none => (d, 0x0F000017)
    | some c =>
      if (d.ctx c).code != 4 then (d, 0x0F000017)
      else if !d.lanesReady c then (d, 0x08000022)
      else
        let n := d.print.nextNum
        let d := if d.role == 1 then d.barList.foldl (fun d b => d.sendDigest b n) d else d
        (d.resolve { kind := 13, barMask := d.allBars, repeatNo := n, line := d.startPos, value := 1 + 256 * c }, 0)

/-- Device command STOP (R459, R460). -/
def writeStop (d : Dev) : Dev × Nat :=
  if d.sys.st != .printing || d.follows then (d, 0x08000022)
  else if d.print.endRep.isSome then (d, 0)
  else (d.resolve { kind := 13, barMask := d.allBars, repeatNo := d.nextMet d.nextNum, line := 0, value := 2 }, 0)

/-- Device command STOP_NOW (R459, R461). -/
def writeStopNow (d : Dev) : Dev × Nat :=
  if !(d.sys.st == .printing || d.sys.st == .stopping) || d.follows then (d, 0x08000022)
  else (d.resolve { kind := 13, barMask := d.allBars, repeatNo := d.nextNum, line := 0, value := 3 }, 0)

/-- One second after STOP_NOW Stopping ends, and lines still held are revoked (R461). -/
def stopNowTimeout (d : Dev) : Dev :=
  if !d.print.stopNow || !d.printingLike then d
  else
    let d := d.barList.foldl (fun d n => if decide ((d.bar n).next < (d.bar n).sent) then d.revoke n (d.bar n).next else d) d
    d.stopped

/-- The margin to a pending change's boundary is crossed: the change locks, or is deferred while another is locked (R87). A
generation whose margin is crossed unacknowledged is withdrawn (R310). -/
def changeLock (d : Dev) : Dev :=
  let d := match d.keeper.gen with
    | some g => if !g.acked && !d.met g.rep then d.mirrorLate else d
    | none => d
  match d.print.pending with
  | some c =>
    if c.waiting || d.met c.n || !d.printingLike then d
    else if d.print.locked.isSome then { d with print := { d.print with pending := some { c with deferred := true, waiting := true } } }
    else { d with print := { d.print with locked := some c, pending := none, shown := none } }
  | none => d

/-- A new value of a request counter (R498). -/
def newCount (counter last : Nat) : Bool := counter % 256 != 0 && counter % 256 != last

/-- A request ends in REFUSED_STATE or SAME (R90). -/
def showFc (d : Dev) (st : Nat) : Dev := { d with print := { d.print with shown := some st } }

/-- The start context is set, and the status reads DONE (R94). -/
def setStart (d : Dev) (c : Nat) : Dev :=
  let p := { d.print with
    startCtx := some c, rest := 5, restCtx := c, restRep := d.print.endRep.getD d.nextNum, shown := none }
  { d with print := p }

/-- Index of the first line of B0 not yet sent; before any line of a start is sent, the one the send lead reaches (R93). -/
def unsent (d : Dev) : Nat :=
  let b := d.bar 0
  if b.fired || decide (b.next < b.sent) then b.sent else min b.next (d.upNext 0 + d.lead 0 2)

/-- A flying-change request while repeats are scheduled (R86, R91, R93). -/
def fcPrinting (d : Dev) (c at_ : Nat) : Dev :=
  if at_ == 0xFFFFFFFFFFFFFFFE then
    let line := d.unsent + 16 + (if d.role == 1 then 16 else 0)
    d.resolve { kind := 2, barMask := d.allBars, repeatNo := d.nextNum, line := line, value := c }
  else
    let base := match d.print.locked with
      | some x => max d.nextNum (x.n + 1)
      | none => d.nextNum
    let fits := at_ != 0xFFFFFFFFFFFFFFFF && decide (base ≤ at_) && d.met at_
    let n := if fits then at_ else if at_ == 0xFFFFFFFFFFFFFFFF then d.nextMet base else d.nextMet (max base (at_ + 1))
    if d.ctxAt n == some c then d.showFc 7
    else
      let late := !fits && at_ != 0xFFFFFFFFFFFFFFFF
      d.resolve { kind := 1, barMask := d.allBars, repeatNo := n, line := 0, value := c + (if late then 256 else 0) }

/-- The flying-change request of a PD-OUT acts (R86 to R94, R456, R460). -/
def fcRequest (d : Dev) (counter c at_ : Nat) : Dev :=
  if !newCount counter d.com.pd.ackFc then d
  else if d.fromReady && d.follows then d
  else
    let d := ({ d with com := { d.com with pd := { d.com.pd with ackFc := counter % 256 } } } : Dev).put 0x2014 4 (counter % 256)
    if !d.fromReady then d
    else if !d.usable c then d.showFc 6
    else if d.phase == .printing && d.print.endRep.isNone then d.fcPrinting c at_
    else d.setStart c

/-- A cancel request acts (R58). The standby leaves it to the active device (R381). -/
def cancelRequest (d : Dev) (counter opId : Nat) : Dev :=
  if !newCount counter d.com.pd.ackCancel then d
  else
    let res (d : Dev) (ack code : Nat) : Dev :=
      { d with com := { d.com with pd := { d.com.pd with ackCancel := ack, resCancel := code } } }
    let mine := match d.com.op with
      | some o => o.id == opId
      | none => false
    if !d.fromReady then res d (counter % 256) 1
    else if d.role == 2 then res d d.com.pd.ackCancel 2
    else if mine then res (d.abandonOp 0x0F000016) (counter % 256) 0
    else res d (counter % 256) 1

/-- A command request acts: START, STOP or STOP_NOW (Table 22.4). -/
def cmdRequest (d : Dev) (counter cmd : Nat) : Dev :=
  if !newCount counter d.com.pd.ackCmd then d
  else
    let ack (d : Dev) (k : Nat) : Dev := { d with com := { d.com with pd := { d.com.pd with ackCmd := k } } }
    let res (d : Dev) (code : Nat) : Dev := { d with com := { d.com with pd := { d.com.pd with resCmd := code } } }
    if !d.fromReady then res (ack d (counter % 256)) 1
    else if d.follows then res d 2
    else
      let d := ack d (counter % 256)
      if !(decide (5 ≤ cmd ∧ cmd ≤ 7)) then res d 3
      else
        let (d, code) := if cmd == 5 then d.writeStart else if cmd == 6 then d.writeStop else d.writeStopNow
        res d (if code == 0 then 0 else 1)

/-- A spoil request acts (R102, R500). -/
def spoilRequest (d : Dev) (counter num : Nat) : Dev :=
  if !newCount counter d.com.pd.ackSpoil then d
  else
    let ack (d : Dev) (k : Nat) : Dev := { d with com := { d.com with pd := { d.com.pd with ackSpoil := k } } }
    let res (d : Dev) (code : Nat) : Dev := { d with com := { d.com with pd := { d.com.pd with resSpoil := code } } }
    if !d.fromReady then res (ack d (counter % 256)) 1
    else if d.follows then res d 2
    else
      let d := ack d (counter % 256)
      match d.rep? num with
      | some r =>
        if r.open_ != 0 || (d.printingLike && !r.opened && decide (ceilLine r.d < (d.bar 0).rend)) then
          res (d.resolve { kind := 3, barMask := d.allBars, repeatNo := num, line := ceilLine r.d, value := 0 }) 0
        else res d 1
      | none => res d 1

/-- The splice blank length that applies at line s (Table 3.6). -/
def spliceLength (d : Dev) (s : Nat) : Nat :=
  let len (c : Nat) : Nat := d.cg c 0x4000 5
  match d.repAt s with
  | some r => match r.ctx with
    | some c => len c
    | none => match d.ctxAt (r.num + 1) with
      | some c => len c
      | none => 2362
  | none => 2362

/-- A splice request acts (R102, R500). A line at or beyond the end boundary of a stop belongs to no repeat to cut. -/
def spliceRequest (d : Dev) (counter : Nat) : Dev :=
  if !newCount counter d.com.pd.ackSplice then d
  else
    let ack (d : Dev) (k : Nat) : Dev := { d with com := { d.com with pd := { d.com.pd with ackSplice := k } } }
    let res (d : Dev) (code : Nat) : Dev := { d with com := { d.com with pd := { d.com.pd with resSplice := code } } }
    if !d.fromReady then res (ack d (counter % 256)) 1
    else if d.follows then res d 2
    else
      let d := ack d (counter % 256)
      let s := d.upNext 0 + 4
      let d := if d.phase == .printing then d.ensure s else d
      let first := match (d.print.reps.filter (fun r => decide (d.print.runFirst ≤ r.num))).getLast? with
        | some r => decide (ceilLine r.d ≤ s)
        | none => false
      let inside := d.print.splices.any (fun b => decide (b.lo ≤ s ∧ s < b.hi))
      let ended := match d.endLine with
        | some e => decide (e ≤ s)
        | none => false
      if d.phase != .printing || !first || inside || ended then res d 1
      else res (d.resolve { kind := 4, barMask := d.allBars, repeatNo := d.nextNum, line := s, value := d.spliceLength s }) 0

end Dev

/-- DISCARD (Table 3.2). -/
def execDiscard (sess ctx : Nat) (s : State) : Host.Outcome State Fault Refusal := s.hostWrite sess 0x2012 (fun d => d.writeDiscard sess ctx)

/-- UNARM (Table 3.2). -/
def execUnarm (sess ctx : Nat) (s : State) : Host.Outcome State Fault Refusal := s.hostWrite sess 0x2012 (fun d => d.writeUnarm sess ctx)

/-- RELEASE (Table 3.2). -/
def execRelease (sess ctx : Nat) (s : State) : Host.Outcome State Fault Refusal := s.hostWrite sess 0x2012 (fun d => d.writeRelease ctx)

/-- ABORT (Table 3.2, R95). -/
def execAbort (sess ctx : Nat) (s : State) : Host.Outcome State Fault Refusal := s.hostWrite sess 0x2012 (fun d => d.writeAbort ctx)

/-- CLONE (Table 3.2). -/
def execClone (sess source target : Nat) (s : State) : Host.Outcome State Fault Refusal :=
  s.hostWrite sess 0x2012 (fun d => d.writeClone sess source target)

/-- START (R84, R458). -/
def execStart (sess : Nat) (s : State) : Host.Outcome State Fault Refusal := s.hostWrite sess 0x2000 (fun d => d.writeStart)

/-- STOP (R460). -/
def execStop (sess : Nat) (s : State) : Host.Outcome State Fault Refusal := s.hostWrite sess 0x2000 (fun d => d.writeStop)

/-- STOP_NOW (R461). -/
def execStopNow (sess : Nat) (s : State) : Host.Outcome State Fault Refusal := s.hostWrite sess 0x2000 (fun d => d.writeStopNow)

/-- STOP_NOW_TIMEOUT (R461). -/
def execStopNowTimeout (s : State) : Host.Outcome State Fault Refusal := s.done s.begin_.stopNowTimeout

/-- CHANGE_LOCK (R87). -/
def execChangeLock (s : State) : Host.Outcome State Fault Refusal := s.done s.begin_.changeLock

/-- FLYING_CHANGE_REQUEST (R86). -/
def execFlyingChangeRequest (counter ctx atRepeat : Nat) (s : State) : Host.Outcome State Fault Refusal :=
  s.done (s.begin_.fcRequest counter ctx atRepeat)

/-- CANCEL_REQUEST (R58). -/
def execCancelRequest (counter opId : Nat) (s : State) : Host.Outcome State Fault Refusal := s.done (s.begin_.cancelRequest counter opId)

/-- SPOIL_REQUEST (R102). -/
def execSpoilRequest (counter rep : Nat) (s : State) : Host.Outcome State Fault Refusal := s.done (s.begin_.spoilRequest counter rep)

/-- SPLICE_REQUEST (R102). -/
def execSpliceRequest (counter : Nat) (s : State) : Host.Outcome State Fault Refusal := s.done (s.begin_.spliceRequest counter)

end Sys2Proof.Machine
end

