-- ==== Sys2Proof/Machine/Sweep.lean ====
section
/-! DEFINITION. The maintenance sweep: a full drop census in Ready, strobed by a timer (R320). -/
namespace Sys2Proof.Machine

open Sys2Proof

namespace Dev

/-- Bars of the sweep mask, 0x3A28:01. -/
def sweepBars (d : Dev) : List Nat := d.barList.filter (fun n => bit (d.g 0x3A28 1) n)

/-- The sweep of a bar as it begins: every testable nozzle of both gates (R320). -/
def newSweep (d : Dev) (n : Nat) : Sweep :=
  let of (g : Nat) : List Nat :=
    let (lo, hi) := d.gateRange n g
    ((List.range (hi - lo)).map (fun i => lo + i)).filter (d.testable n)
  { todo := [(0, (of 0, 0)), (1, (of 1, 0))]
    total := ((of 0).length + (of 1).length) * d.g 0x3A28 3
    recs := d.liveBytes n 0x6230 (4 * d.nozzles n) }

/-- A write of 0x3A29 (R320). -/
def writeSweep (d : Dev) (sess value : Nat) : Dev × Nat :=
  if value == 0 then (d, 0)
  else if value != 1 then (d, 0x06090030)
  else if d.sys.st != .ready then (d, 0x0F00004A)
  else
    let bs := d.sweepBars
    let d := bs.foldl (fun d n =>
      let d := { d with keeper := { d.keeper with sweeps := d.keeper.sweeps.set n (d.newSweep n) } }
      (d.setCensus n { d.census n with tests := [], strays := [], heldGates := [], gapLine := 0, gapRep := 2 ^ 63, fixed := true }).stepUpBar n) d
    (d.beginOp 5 sess 0).started

/-- The sweep of a bar set. -/
def setSweep (d : Dev) (n : Nat) (w : Sweep) : Dev := { d with keeper := { d.keeper with sweeps := d.keeper.sweeps.set n w } }

/-- The tests in hand at a bar are classified into the working records; a test whose line was missing is made again (R316,
R320). -/
def sweepClassify (d : Dev) (n : Nat) : Dev :=
  match d.keeper.sweeps.find? n with
  | none => d
  | some w =>
    let i := 0x5009 + 0x100 * n
    let ts := (d.census n).tests.filter (fun t => !t.discarded && t.start.isSome)
    let d := ts.foldl (fun d t =>
      let r := testResult t
      let d := d.bump i 1
      if r == 2 then d.bump i 2 else if r == 3 then d.bump i 3 else d) d
    let step (w : Sweep) (t : CensusTest) : Sweep :=
      let (zs, k) := w.todo.get ([], 0) t.gate
      { w with
        recs := (recAfter w.recs t).1
        done := w.done + 1
        todo := w.todo.set t.gate (if decide (d.g 0x3A28 3 ≤ k + 1) then (zs.drop 1, 0) else (zs, k + 1)) }
    let w := ts.foldl step w
    (d.setCensus n { d.census n with tests := [] }).setSweep n w

/-- The next nozzles of both gates are placed on line j. -/
def sweepPlace (d : Dev) (n j : Nat) (w : Sweep) : Dev :=
  let ts : List CensusTest := [0, 1].filterMap (fun g => ((w.todo.get ([], 0) g).1.head?).map (fun z => { gate := g, g := j, nozzle := z }))
  d.setCensus n { d.census n with tests := ts }

/-- The pseudo-repeat a sweep's lines belong to: all gap. -/
def sweepRep (d : Dev) : Rep := { num := 2 ^ 63, d := 0, len := 2 ^ 60, gap := 2 ^ 60, ctx := none, gen := d.g 0x3A08 1 }

/-- Line j of a swept bar: its packets, its tag and its strobe. Drop levels are sent at 3 bits, which hold every test
level. -/
def sweepLine (d : Dev) (n j : Nat) (w : Sweep) : Dev :=
  let rate := d.g 0x3A28 2
  let s := d.testSpacing n rate false
  let d := if j % s == 0 && j != 0 then
      let d := d.sweepClassify n
      d.sweepPlace n j (d.keeper.sweeps.get w n)
    else d
  let (dots, tiles) := d.gapDots n (2 ^ 63) j
  let d := d.onBar n (fun b => { b with
    store := (b.store.filter (fun x => decide (j < x.line + 16))) ++ [{ line := j, rep := 2 ^ 63, dots := dots, tiles := tiles, gap := true }] })
  let d := ((d.lanesOf n).filter (fun k => d.laneState k == 4)).foldl (fun d k =>
    match d.logicalOf k with
    | some l =>
      let x := d.lane k
      if decide (j ≤ x.acked + x.window) then
        let d := d.onLane k (fun y => { y with next := j + 1 })
        (d.emit (.linePacket (k - 1) (j % 1099511627776) (d.packetOf n l (bits (d.g 0x3420 k) 31 24) j 3 d.sweepRep))).block k 0x4B
          (leBytes 4 (j % 4294967296) ++ leBytes 3 (min 16777215 ((312500000 + rate) / (2 * rate))))
      else d
    | none => d) d
  let at_ := d.t * 2 / 5
  let d := (d.startTests n j at_ (min 16777215 ((312500000 + rate) / (2 * rate)))).emit (.strobe n j at_ (d.g (0x5007 + 0x100 * n) 1) (d.g (0x5007 + 0x100 * n) 3))
  { d with keeper := { d.keeper with sweeps := d.keeper.sweeps.set n { d.keeper.sweeps.get w n with line := j + 1 } } }

/-- The timer's strobe at one swept bar: it waits for the bar's lanes to step up and for their CREDITs after BASE. -/
def sweepBar (d : Dev) (n : Nat) : Dev :=
  match d.keeper.sweeps.find? n with
  | none => d
  | some w =>
    let up := (d.lanesOf n).filter (fun s => d.laneState s == 4)
    if up.isEmpty || !(d.lanesOf n).all d.laneSettled || (d.bar n).strobeFault then d
    else if up.any (fun s => !(d.lane s).baseSent) then
      (up.filter (fun s => !(d.lane s).baseSent)).foldl (fun d s => (d.onLane s (fun l => { l with carries := true })).sendBase s w.line) d
    else if up.any (fun s => !(d.lane s).credited) then d
    else d.sweepLine n w.line w

/-- SWEEP_STROBE at every swept bar. -/
def sweepStrobe (d : Dev) : Dev := match d.com.op with
  | some o => if o.cls == 5 then (d.keeper.sweeps.keysWhere (fun _ _ => true)).foldl sweepBar d else d
  | none => d

/-- Gates of a bar whose results the sweep discards (R316). -/
def sweepDiscards (d : Dev) (n : Nat) : Dev × List Nat :=
  let d := d.holdGates n
  let bad := [0, 1].filter (fun g => d.gateDiscarded n g)
  (bad.foldl (fun d g =>
    let d := d.bump (0x5009 + 0x100 * n) 9
    if (d.census n).heldGates.contains g then d.raise 71 (2 ^ n) 0xFF 0 else d) d, bad)

/-- The records of a swept bar are replaced, and its map changes collected (R318, R320). -/
def sweepApply (d : Dev) (n : Nat) (w : Sweep) : Dev × List (Nat × Nat × Bool) :=
  let (d, bad) := d.sweepDiscards n
  let old := d.liveBytes n 0x6230 (4 * d.nozzles n)
  let zs := ((List.range (d.nozzles n)).filter (fun z => !bad.contains (d.gateOf n z)))
  let recs := (List.range (d.nozzles n)).flatMap (fun z => if bad.contains (d.gateOf n z) then nozRec old z else nozRec w.recs z)
  let was (z : Nat) : Bool := bit (leNat (nozRec old z)) 0
  let now (z : Nat) : Bool := bit (leNat (nozRec recs z)) 0
  let moved := zs.filter (fun z => was z != now z)
  let d := (d.putDom (0x6230 + n) recs).setCensus n { d.census n with retest := [], streak := [], tests := [] }
  let d := (zs.filter (fun z => bit (leNat (nozRec recs z)) 1)).foldl (fun d z => d.queueTest n z false) d
  let d := moved.foldl (fun d z =>
    if now z then ((d.bump (0x5009 + 0x100 * n) 4).raise 72 (2 ^ n)).sendCheck n z else (d.bump (0x5009 + 0x100 * n) 5).raise 73 (2 ^ n)) d
  (d, moved.map (fun z => (n, z, now z)))

/-- Map changes of a sweep form the generation in force from the first repeat of the next start (R320). -/
def sweepGen (d : Dev) (ms : List (Nat × Nat × Bool)) : Dev :=
  if ms.isEmpty then d
  else
    let (d, c) := match d.keeper.gen with
      | some g => (({ d.unwriteGen g with keeper := { d.keeper with gen := none } } : Dev), joinContent g.content { maps := ms })
      | none => (d, { maps := ms })
    let n := d.nextNum
    let num := (d.keeper.lastNum + 1) % 4294967296
    let g : Gen := { num := num, rep := n, content := c, acked := !(d.paired && d.twin.linked) }
    let d := { d with keeper := { d.keeper with lastNum := num, gen := some g } }
    let d := ((d.put 0x3A08 2 num).put 0x3A08 3 n).bump 0x3A08 4
    (d.writeGen g).mirrorGen g

/-- The sweep ends with every test done: states and maps are replaced, the lanes step down (R320). A standby's gate results
move nothing (R319). -/
def sweepComplete (d : Dev) : Dev :=
  match d.com.op with
  | some o =>
    if o.cls != 5 then d
    else
      let bs := d.keeper.sweeps.keysWhere (fun _ _ => true)
      let d := bs.foldl sweepClassify d
      let (d, ms) := if d.role == 2 then (d, []) else bs.foldl (fun (st : Dev × List (Nat × Nat × Bool)) n =>
        let (d, ms) := st.1.sweepApply n (st.1.keeper.sweeps.get {} n)
        (d, st.2 ++ ms)) (d, [])
      let d := d.sweepGen ms
      let d := bs.foldl (fun d n => ((d.lanesOf n).foldl stepDown d).onBar n (fun b => { b with store := [] })) d
      ({ d with keeper := { d.keeper with sweeps := [] } } : Dev).endOp 0
  | none => d

end Dev

/-- SWEEP_START (R320). -/
def execSweepStart (sess value : Nat) (s : State) : Host.Outcome State Fault Refusal :=
  s.hostWrite sess 0x3A29 (fun d => d.writeSweep sess value)

/-- SWEEP_STROBE (R320). -/
def execSweepStrobe (s : State) : Host.Outcome State Fault Refusal := s.done s.begin_.sweepStrobe

/-- SWEEP_COMPLETE (R320). -/
def execSweepComplete (s : State) : Host.Outcome State Fault Refusal := s.done s.begin_.sweepComplete

end Sys2Proof.Machine
end

