-- ==== Sys2Proof/Machine/Recover.lean ====
section
/-! DEFINITION. Recoveries ending, the L3 restart's completion, state saves, and ALERT_N (R122, R402 to R423, R463). -/
namespace Sys2Proof.Machine

open Sys2Proof

namespace Dev

/-- Events of block faults that are detected by nothing else of the table: their recovery starts on the ladder (R402). -/
def blockEvents : List Nat := [18, 19, 20, 25, 27, 47, 66, 91, 120]

/-- A decode has failed a rule of R120: retried once as an L1 recovery; a second failure on the same tile loses it (R122).
`k` is the frame's key. -/
def decodeFault (d : Dev) (unit mask k : Nat) : Dev :=
  if d.fl.decodeFails.contains k then
    let d := { d with fl := { d.fl with decodeFails := d.fl.decodeFails.erase k } }
    (d.raise 18 mask).tileLost (k / 2 ^ 64) (k % 2 ^ 64) false
  else
    ({ d with fl := { d.fl with decodeFails := k :: d.fl.decodeFails } } : Dev).fault 1 18 unit mask 0

/-- A fault detected in a block (R402, R404, R414). An engine's fault concerns the bar it serves. -/
def blockFault (d : Dev) (e unit mask detail : Nat) : Dev :=
  let mask := mask % 2 ^ d.nbars
  if !blockEvents.contains e then d
  else if e == 18 then d.decodeFault unit mask detail
  else if blockKind e == 25 then d.fault 1 e unit (match d.barOf unit with
    | some n => 2 ^ n
    | none => 0) 0
  else d.fault (evLevel e) e unit mask 0

/-- The spare engine of an L2 recovery is ready: it takes the bar at the first boundary more than the render lead ahead, or
at once where the bar does not print (R406). -/
def engineReady (d : Dev) (old : Nat) : Dev :=
  match d.barList.findSome? (fun n => match (d.bar n).engineSwap with
    | some e => if e.old == old then some (n, e) else none
    | none => none) with
  | none => d
  | some (n, e) =>
    if !d.printingLike || d.print.sheetStart then d.takeEngine n e
    else
      let b := d.bar n
      let from_ := b.next + d.lead n 1
      let open_ := b.blanks.any (fun x => x.hi == 2 ^ 60) || bit d.twin.withheld n
      let d := d.onBar n (fun b => { b with engineSwap := some { e with ready := true }, resumeAt := some from_ })
      (if open_ then d else d.blank n (d.uRevoke n) (2 ^ 60) 8).resumeBar n

/-- A recovery of L1 or L2 ends; queued faults may start (R412). Lane swaps end with their switch, L3 with its restart. -/
def recoveryComplete (d : Dev) (id : Nat) : Dev :=
  match d.fl.running.find? (fun r => r.id == id) with
  | none => d
  | some r =>
    if decide (3 ≤ r.level) || r.event == 50 then d
    else
      let d := { d with fl := { d.fl with running := d.fl.running.filter (fun x => x.id != id) } }
      (if r.level == 2 && blockKind r.event == 25 then d.engineReady r.unit else d).startQueued

/-- A recovery overruns its bound (R412). -/
def recoveryTimeout (d : Dev) (id : Nat) : Dev :=
  match d.fl.running.find? (fun r => r.id == id) with
  | none => d
  | some r => if decide (4 ≤ r.level) then d else d.overrun r

/-- The warm-restart state set as it stands (R408). -/
def warmSet (d : Dev) : WarmSet :=
  { windows := d.keeper.windows
    census := d.keeper.census
    recs := d.barList.map (fun n => (n, d.dom [] (0x6230 + n)))
    camGens := d.cams.map (fun x => (x.1, x.2.inForce))
    epochs := d.barList.map (fun n => (n, d.epoch n))
    lightTrims := (List.range 8).map (fun g => (g, d.g 0x3C2A (g + 1)))
    checkpoints := d.jobs.checkpoints }

/-- A state set is written into the older slot, or abandoned for want of a buffer (R408). Its bytes have an internal layout, encoded at
level 1 with dynamic codes (R123): whether the encoder returned NO_GAIN for it, which 0x2B00:04 counts, is a free value (log 97). -/
def stateSave (d : Dev) (outOfBuffers : Bool) : Dev :=
  if d.sys.st != .printing then d
  else if outOfBuffers then d.raise 11
  else
    let k := d.fl.saveNext % 2
    let d := { d with
      saves := d.saves.set k d.warmSet
      fl := { d.fl with saveSlots := d.fl.saveSlots.set k d.t, saveNext := 1 - k, savePoison := setBit d.fl.savePoison k false } }
    (d.drew.bumpBy 0x2B00 4 (d.freeNat % 2)).put 0x220A 2 d.serviceNow

/-- The slot an L3 restart restores: the newer one, the other where the newer reads POISON (R408). -/
def saveSlot (d : Dev) : Option Nat :=
  [1 - d.fl.saveNext % 2, d.fl.saveNext % 2].find? (fun k => (d.saves.find? k).isSome && !bit d.fl.savePoison k)

/-- A camera's generation is written again after the restart, and the pending one after it (R290, R407, R408). -/
def rewriteCamera (d : Dev) (c gen : Nat) : Dev :=
  let x := d.cam c
  if d.g (0x3800 + c) 1 != 1 then d
  else
    let num := if x.gens.any (fun g => g.num == gen) then gen else x.inForce
    let newest := match x.gens with
      | g :: _ => g.num
      | [] => num
    let pending := if newest == num then 0 else newest
    let d := d.setCam c { x with inForce := num, pending := pending, seq := 0, passed := false, cci := [], atTag := none }
    let d := (d.put (0x3820 + c) 3 num).put (0x3820 + c) 4 pending
    d.cciStart c num 5

/-- A warm-restart state set is restored (R408). -/
def restoreSet (d : Dev) (w : WarmSet) : Dev :=
  let d := { d with
    keeper := { d.keeper with windows := w.windows, census := w.census.mapVal (fun _ (c : Census) => { c with tests := [] }) }
    jobs := { d.jobs with checkpoints := w.checkpoints } }
  let d := w.recs.foldl (fun d x => d.putDom (0x6230 + x.1) x.2) d
  let d := w.epochs.foldl (fun d x => d.put 0x342A (x.1 + 1) x.2) d
  w.lightTrims.foldl (fun d x => d.put 0x3C2A (x.1 + 1) x.2) d

/-- The bar prints again from its first boundary at least 96 + 0.002 v lines beyond the restart's completion (R407). -/
def resumeAfter (d : Dev) (n : Nat) : Dev :=
  let b := d.bar n
  let from_ := ceilDiv (d.posn - d.offset n) 65536 + 96 + ceilDiv d.lineRate 500
  let d := (d.onBar n (fun b => { b with
    resumeAt := some from_, engineSwap := b.engineSwap.map (fun e => { e with ready := true }), warmGap := false })).blank n b.next (2 ^ 60) 8
  d.resumeBar n

/-- Printing resumes after an L3 restart: blank until the boundary, BASE on every lane that is UP (R407, R408). -/
def resumePrint (d : Dev) : Dev :=
  if !d.printingLike || d.print.sheetStart || d.print.reps.isEmpty then d
  else
    let d := d.barList.foldl (fun d n => d.moveBasis n (d.liveRep n)) d
    let d := d.barList.foldl resumeAfter d
    (d.headLanes.filter (fun s => d.laneState s == 4)).foldl carry d

/-- The L3 restart is over: pins, queues, heartbeats and the state held before it (R407, R504, Table 17.2). -/
def endL3 (d : Dev) : Dev :=
  let us := (d.t - d.sys.restartStart) / 1000 % 4294967296
  let d := (d.put 0x2208 9 us).raise 14 0 0xFF us
  let before := d.sys.before
  let d := { d with
    pins := { d.pins with faultN := false }
    jobs := { d.jobs with paused := !(d.jobs.link && d.sys.pcieRef) }
    twin := { d.twin with hbOutStopped := false, retryForm := d.twin.retryForm || d.role == 4 }
    sys := { d.sys with laneRef := true }
    fl := { d.fl with running := [] } }
  ((d.enter before).resumePrint).prepareDone.startQueued

/-- The L3 restart completes; it takes L4 in its place when every saved set reads POISON (R407, R408). -/
def warmRestartComplete (d : Dev) : Dev :=
  if d.sys.st != .restarting then d
  else match d.saveSlot with
    | none =>
      if d.saves.isEmpty || !d.printingLike then d.endL3
      else d.takeL4 { id := 0, event := 14, unit := 0xFF, mask := 0, detail := 0, level := 4, start := d.t }
    | some k =>
      let w := d.saves.get {} k
      let d := if d.printingLike then d.restoreSet w else d
      let d := (List.range 6).foldl (fun d c => d.rewriteCamera c (if d.printingLike then w.camGens.get (d.cam c).inForce c else (d.cam c).inForce)) d
      d.endL3

/-- The management watchdog expires: an L1 recovery that closes every session; in Boot the second restart in succession marks
the image invalid (R411, R463, Table 20.7). -/
def watchdog (d : Dev) : Dev :=
  if d.sys.st = .boot then
    let d := (d.fault 1 10 0xFF 0 0).closeAll
    let d := { d with sys := { d.sys with bootTries := d.sys.bootTries + 1 } }
    if d.sys.bootTries == 2 then
      let best := d.sys.slots.foldl (fun (b : Option (Nat × Nat)) x =>
        if x.2.1 != 1 && x.2.1 != 3 then b else match b with
          | some y => if decide (y.2 < x.2.2.1) then some (x.1, x.2.2.1) else b
          | none => some (x.1, x.2.2.1)) none
      let d := { d with sys := { d.sys with bootTries := 0 } }
      match best with
      | some (k, _) =>
        let x := d.sys.slots.get (0, 0, []) k
        ({ d with sys := { d.sys with slots := d.sys.slots.set k (2, x.2) } } : Dev).raise 2
      | none => d
    else d
  else d.fault 1 10 0xFF 0 0

/-- A write of 0x2204:01 (R421). -/
def writeAlertClear (d : Dev) (v : Nat) : Dev × Nat :=
  if v == 0 then (d, 0)
  else if v != 1 then (d, 0x06090030)
  else if d.pins.faultN then (d, 0x08000022)
  else ({ d with pins := { d.pins with alertN := false } }, 0)

/-- A write of 0x2204:02 (Table 17.8). -/
def writeTestEvent (d : Dev) (v : Nat) : Dev × Nat :=
  if v == 0 then (d, 0) else if v != 1 then (d, 0x06090030) else (d.raise 126, 0)

/-- Device command WARM_RESTART (R407, Table 20.5). -/
def writeWarmRestart (d : Dev) : Dev × Nat :=
  match d.sys.st with
  | .ready | .armed | .printing | .stopping =>
    if d.fl.running.any (fun r => decide (3 ≤ r.level)) then (d, 0x08000022) else (d.commandedL3, 0)
  | _ => (d, 0x08000022)

end Dev

/-- BLOCK_FAULT (R402, R404). -/
def execBlockFault (event : Nat) (unit barMask detail : Nat) (s : State) : Host.Outcome State Fault Refusal :=
  s.done (s.begin_.blockFault event unit barMask detail)

/-- RECOVERY_COMPLETE (R412). -/
def execRecoveryComplete (id : Nat) (s : State) : Host.Outcome State Fault Refusal := s.done (s.begin_.recoveryComplete id)

/-- RECOVERY_TIMEOUT (R412). -/
def execRecoveryTimeout (id : Nat) (s : State) : Host.Outcome State Fault Refusal := s.done (s.begin_.recoveryTimeout id)

/-- WARM_RESTART_COMPLETE (R407). -/
def execWarmRestartComplete (s : State) : Host.Outcome State Fault Refusal := s.done s.begin_.warmRestartComplete

/-- MGMT_WATCHDOG (R411). -/
def execMgmtWatchdog (s : State) : Host.Outcome State Fault Refusal := s.done s.begin_.watchdog

/-- FABRIC_TIMEOUT: L1 of the requesting block (R411). -/
def execFabricTimeout (unit barMask : Nat) (s : State) : Host.Outcome State Fault Refusal :=
  s.done (s.begin_.fault 1 9 unit (barMask % 2 ^ s.begin_.nbars) 0)

/-- STATE_SAVE (R408). -/
def execStateSave (outOfBuffers : Bool) (s : State) : Host.Outcome State Fault Refusal := s.done (s.begin_.stateSave outOfBuffers)

/-- ALERT_CLEAR (R421). -/
def execAlertClear (sess value : Nat) (s : State) : Host.Outcome State Fault Refusal :=
  s.hostWrite sess 0x2204 (fun d => d.writeAlertClear value)

/-- TEST_EVENT (R423). -/
def execTestEvent (sess value : Nat) (s : State) : Host.Outcome State Fault Refusal :=
  s.hostWrite sess 0x2204 (fun d => d.writeTestEvent value)

/-- WARM_RESTART (R407). -/
def execWarmRestart (sess : Nat) (s : State) : Host.Outcome State Fault Refusal :=
  s.hostWrite sess 0x2000 (fun d => d.writeWarmRestart)

end Sys2Proof.Machine
end

