-- ==== Sys2Proof/Machine/Twin.lean ====
section
/-! DEFINITION. The pair: formation and adoption, mirrored decisions on both sides, position alignment, the twin link's
acknowledgements, the failed partner, handover and rehearsal (R232, R383 to R399). -/
namespace Sys2Proof.Machine

open Sys2Proof

namespace Dev

/-- A twin message has been received: it is acknowledged on a lane that is UP (R383). -/
def gotMsg (d : Dev) (seq : Nat) : Dev :=
  let d := { d with twin := { d.twin with rxSeq := seq % 4294967296 } }
  d.block (73 + d.twinUp.headD 0) 0xB4 (leBytes 4 (seq % 4294967296))

/-- The next message in sequence. -/
def gotNext (d : Dev) : Dev := d.gotMsg (d.twin.rxSeq + 1)

/-- The first field of the partner's IDENT that does not meet R378, by its place in Table 16.4 from 1. -/
def identMismatch (d : Dev) (i : Ident) : Option Nat :=
  if i.product != 0x2208 || d.product != 0x2208 then some 1
  else if i.revision != d.g 0x1018 3 then some 2
  else if i.firmware != d.g 0x100A 0 then some 3
  else if i.mode != d.g 0x2C00 1 then some 5
  else if i.position == d.g 0x2C00 2 then some 6
  else none

/-- CHECKSUM of every context that is Armed, Live or Retiring (R387). -/
def sendSums (d : Dev) : Dev :=
  (d.ctxs.keysWhere (fun _ x => decide (4 ≤ x.code ∧ x.code ≤ 6))).foldl (fun d c => d.sendChecksum c) d

/-- LANE_SYNC for every head lane in use, named by 8 times its bar plus its logical lane: the rate it has or will step up to, its next
marker number and that marker's departure (R232, Table 16.4; DESIGN CHOICE, log 105: the order of the fields). -/
def sendLaneSync (d : Dev) : Dev :=
  d.twinSend 11 (d.barList.flatMap (fun n => (d.lanesInUse n).flatMap (fun l =>
    let s := d.laneOf n l
    let x := d.lane s
    [byte (8 * n + l), byte (d.termCode s)] ++ leBytes 4 ((x.marker + 1) % 4294967296) ++ leBytes 8 x.markDue)))

/-- This device takes the active role of a pair that forms (R384). -/
def formActive (d : Dev) (i : Ident) : Dev :=
  let d := { d with twin := { d.twin with partner := some i, retryForm := false, lastHandover := d.t, sums := [], digests := [], clearSince := none, handover := none } }
  let d := ((d.put 0x2C08 1 1).put 0x2C08 2 0).put 0x2C08 4 i.serial
  d.sendSums.sendLaneSync.sendState

/-- This device forms as standby: a long operation of class 6 (R384). -/
def formStandby (d : Dev) (i : Ident) : Dev :=
  let d := { d with twin := { d.twin with partner := some i, aligned := false, adopt := none, sums := [], digests := [], marks := [], dc := none, lastHandover := d.t } }
  let d := d.put 0x2C08 4 i.serial
  if d.com.op.isSome then
    ({ d with twin := { d.twin with retryForm := true } } : Dev).put 0x2C08 1 4
  else ((((d.put 0x2C08 1 3).put 0x2C08 2 0).beginOp 6 0 0).sendSums).camsRelease

/-- The partner's IDENT (R378, R384). -/
def gotIdent (d : Dev) (i : Ident) : Dev :=
  if d.g 0x2C00 1 == 0 || !d.twin.linked then d
  else match d.identMismatch i with
    | some k => d.raise 92 0 0xFF k
    | none =>
      if d.paired && d.g 0x2C08 4 == i.serial then
        let d := { d with twin := { d.twin with partner := some i } }
        if d.role == 1 && !d.synced then d.sendState else d
      else if d.role == 3 then d
      else
        let mine := d.phase == .printing
        let theirs := i.state == 6
        if mine && theirs then d
        else if mine || (!theirs && d.g 0x2C00 2 == 0) then d.formActive i
        else d.formStandby i

/-- A formation that expired is tried again (R384). -/
def retryFormation (d : Dev) : Dev :=
  if d.role != 4 || !d.twin.retryForm || !d.twin.linked then d
  else
    let d := d.twinSend 1 d.identBytes
    match d.twin.partner with
    | some i => d.gotIdent i
    | none => d

/-- Formation ends on the standby: it has adopted, and its position is aligned where the active device prints (R385, R386). -/
def formDone (d : Dev) : Dev :=
  match d.twin.adopt with
  | none => d
  | some a =>
    if d.role != 3 || (adoptPrinting a && !d.twin.aligned) then d
    else
      let d := ((d.put 0x2C08 1 2).adoptState a).syncDone a
      (d.endOp 0).lanesResume

/-- STATE (R385, R390). -/
def gotState (d : Dev) (a : Adopt) : Dev :=
  if d.role == 3 then ({ d with twin := { d.twin with adopt := some a } } : Dev).formDone
  else if d.role == 2 then
    let d := { d with twin := { d.twin with adopt := some a } }
    -- A standby that is not printing reaches no boundary of its own.
    if d.twin.resync && !d.printingLike && !d.twin.posBad then (((d.adoptState a).syncDone a).noteResync).lanesResume else d
  else d

/-- A decision's point has not been passed on this device (R389, Table 16.5). -/
def ahead (d : Dev) (m : DecisionMsg) : Bool :=
  match m.kind with
  | 1 | 6 | 12 | 14 => decide (d.nextNum ≤ m.repeatNo)
  | 2 | 4 => decide ((d.bar 0).next ≤ m.line)
  | 10 => d.barList.all (fun n => decide ((d.bar n).next ≤ ceilLine m.value))
  | 11 => d.triggerAhead m.barMask m.repeatNo m.line
  | 13 =>
    if m.value % 256 == 1 then decide (d.posn ≤ m.line)
    else if m.value % 256 == 2 then decide (d.nextNum ≤ m.repeatNo)
    else true
  | _ => true

/-- Why the standby cannot apply a decision: 1 its point has passed, 2 its context or state does not allow it (R389). -/
def cannot (d : Dev) (m : DecisionMsg) : Option Nat :=
  let okCtx (c : Nat) : Bool := decide (4 ≤ (d.ctx c).code ∧ (d.ctx c).code ≤ 6)
  let c := m.value % 256
  if !d.ahead m then some 1
  else if (m.kind == 1 || m.kind == 2) && !okCtx c then some 2
  else if m.kind == 13 && m.value % 256 == 1 && (d.sys.st != .armed || (d.ctx (m.value / 256 % 256)).code != 4) then some 2
  else none

/-- Request counters of PD-OUT that a decision carries (R381). -/
def adoptCounts (d : Dev) (m : DecisionMsg) : Dev :=
  if [1, 2, 3, 4, 5, 13].contains m.kind then
    let v := m.value / 16777216
    { d with com := { d.com with pd := { d.com.pd with
      ackFc := v % 256, ackSpoil := v / 256 % 256, ackSplice := v / 65536 % 256, ackCancel := v / 16777216 % 256, ackCmd := v / 4294967296 % 256 } } }
  else d

/-- DECISION at the standby: held until its COMMIT, or refused (R389). -/
def gotDecision (d : Dev) (seq : Nat) (m : DecisionMsg) : Dev :=
  let d := d.gotMsg seq
  if d.role != 2 then d
  else match d.cannot m with
    | some c => d.twinSend 5 (leBytes 4 seq ++ [byte c])
    | none =>
      let d := d.adoptCounts m
      { d with twin := { d.twin with pledges := d.twin.pledges ++ [{ seq := seq, msg := m }] } }

/-- A keeper generation that the active device has formed takes effect here at its repeat (R309, R310). -/
def standbyGen (d : Dev) (m : DecisionMsg) : Dev :=
  let g : Gen := { num := m.value, rep := m.repeatNo, content := {}, seq := none, acked := true }
  let d := m.data.foldl (fun (d : Dev) x =>
    let n := x.1 % 8
    let d := d.putLiveDom n (x.1 - n) m.repeatNo x.2
    let hs := (d.dict.held.get [] n).map (fun (h : Held) => if h.upto == m.repeatNo && h.key == key x.1 0 then { h with val := m.value } else h)
    { d with dict := { d.dict with held := d.dict.held.set n hs } }) d
  let d := { d with keeper := { d.keeper with gen := some g, lastNum := m.value } }
  (d.put 0x3A08 2 m.value).put 0x3A08 3 m.repeatNo

/-- The active device's overspeed decision at one bar (R217): 1 blank, 2 alternate from the repeat named, 3 exit, 4 return to the
primary screen. -/
def standbyOver (d : Dev) (n : Nat) (m : DecisionMsg) : Dev :=
  match m.value with
  | 1 =>
    let d := d.onBar n (fun b => { b with overspeed := true, altPolicy := false, altAt := none })
    d.raise 45 (2 ^ n) 0xFF (16777216 + permille (d.demand n (d.bar n).ctx (d.bar n).alternate))
  | 2 =>
    let d := d.onBar n (fun b => { b with overspeed := true, altPolicy := true, altAt := some (true, m.repeatNo) })
    let d := d.raise 45 (2 ^ n) 0xFF (33554432 + permille (d.demand n (d.bar n).ctx (d.bar n).alternate))
    match d.boundary m.repeatNo with
    | some p => if decide (ceilLine p < (d.bar n).rend) then d.undo n (ceilLine p) else d
    | none => d
  | 3 => d.onBar n (fun b => { b with overspeed := false, altPolicy := false })
  | _ => d.onBar n (fun b => { b with altAt := some (false, m.repeatNo) })

/-- The active device's index trim, at the edge of its number, or at once where that edge has passed (R190). -/
def standbyTrim (d : Dev) (c num : Nat) (t : Int) : Dev :=
  if decide (d.g (0x3008 + c) 6 < num) then
    d.setEnc c { d.enc c with mirrored := (d.enc c).mirrored ++ [(num, t)] }
  else d.setTrim c t

/-- The active device's sheet boundary; the standby's own capture is compared (R194). -/
def standbySheet (d : Dev) (m : DecisionMsg) : Dev :=
  (d.compareSheet false m.value).applyDecision m

/-- A committed decision takes effect on the standby at its point (R389, Table 16.5). -/
def followDecision (d : Dev) (m : DecisionMsg) : Dev :=
  match m.kind with
  | 6 => d.standbyGen m
  | 7 => d.barList.foldl (fun d n => d.setCensus n { d.census n with agreed := true }) d
  | 8 => (d.barList.filter (fun n => bit m.barMask n)).foldl (fun d n => d.standbyOver n m) d
  | 9 => d.standbyTrim m.line m.repeatNo (toSigned 32 m.value)
  | 10 => d.standbySheet m
  | 11 =>
    let x := d.cam m.barMask
    if d.role == 2 || (x.seq == 3 && x.pending == m.value) then d.setCam m.barMask { x with atTag := some (m.repeatNo, m.line) } else d
  | 12 =>
    (d.barList.filter (fun n => bit m.barMask n)).foldl (fun d n =>
      match d.twin.digests.find? (16 + n) with
      | some (_, crc) => if d.digestOf n == crc then d.moveSets n (2 ^ 60) m.repeatNo else d
      | none => d) d
  | 15 => d.put 0x3C2A (m.barMask + 1) m.value
  | _ => d.applyDecision m

/-- COMMIT at the standby: late, it costs DECISIONS (R389). -/
def gotCommit (d : Dev) (seq : Nat) : Dev :=
  let d := d.gotNext
  match d.twin.pledges.find? (fun p => p.seq == seq) with
  | none => d
  | some p =>
    let d := { d with twin := { d.twin with pledges := d.twin.pledges.filter (fun x => x.seq != seq) } }
    if d.role != 2 then d
    else if d.ahead p.msg then d.followDecision p.msg
    else (d.bump 0x2C08 0x0C).loseFlag 3

/-- The active device withdraws a decision (R389, R310). A live group's repeat is chosen again. -/
def withdraw (d : Dev) (m : DecisionMsg) : Dev :=
  let d := d.bump 0x2C08 0x0C
  match m.kind with
  | 6 => (match d.keeper.gen with
    | some g => if g.num == m.value && !g.acked then d.withdrawGen.raise 69 else d
    | none => d)
  | 12 => (d.barList.filter (fun n => bit m.barMask n)).foldl (fun d n =>
      let k := max (d.liveRep n) (d.nextMet d.nextNum 1)
      ((d.moveSets n m.repeatNo k).sendDigest n k).mirror { m with barMask := 2 ^ n, repeatNo := k }) d
  | _ => d

/-- The acknowledgement came before the decision's deadline (Table 16.5). -/
def inTime (d : Dev) (m : DecisionMsg) : Bool :=
  match m.kind with
  | 1 | 6 | 12 | 14 => d.met m.repeatNo
  | 2 => d.barList.all (fun n => decide ((d.bar n).rend ≤ m.line))
  | 4 => decide ((d.bar 0).next ≤ m.line)
  | 10 => d.barList.all (fun n => decide ((d.bar n).rend ≤ ceilLine m.value))
  | 11 => d.triggerAhead m.barMask m.repeatNo m.line
  | 13 => if m.value % 256 == 1 then d.sheet || d.meets m.line else if m.value % 256 == 2 then d.met m.repeatNo else true
  | _ => true

/-- The partner has acknowledged a decision: it is committed and applied, or withdrawn (R389). -/
def pledged (d : Dev) (p : Pledge) : Dev :=
  if !d.inTime p.msg then d.withdraw p.msg
  else
    let d := d.twinSend 4 (leBytes 4 p.seq)
    match p.msg.kind with
    | 6 => (match d.keeper.gen with
      | some g => if g.num == p.msg.value then { d with keeper := { d.keeper with gen := some { g with acked := true } } } else d
      | none => d)
    | 7 => d.barList.foldl (fun d n => d.setCensus n { d.census n with agreed := true }) d
    | 8 | 9 | 12 | 15 => d
    | 11 => d.followDecision p.msg
    | _ => d.applyDecision p.msg

/-- Sequence a is at or before b, in the ordering of R43. -/
def seqUpTo (a b : Nat) : Bool := decide ((b + 4294967296 - a) % 4294967296 < 2147483648)

/-- MSG_ACK (R383, R389, R390). -/
def gotAck (d : Dev) (seq : Nat) : Dev :=
  let done := d.twin.unacked.filter (fun m => seqUpTo m.seq seq)
  let ps := d.twin.pledges.filter (fun p => seqUpTo p.seq seq)
  let d := { d with twin := { d.twin with unacked := d.twin.unacked.filter (fun m => !seqUpTo m.seq seq) } }
  if d.role != 1 then d
  else
    let d := { d with twin := { d.twin with pledges := d.twin.pledges.filter (fun p => !seqUpTo p.seq seq) } }
    let d := ps.foldl pledged d
    let settled := match d.twin.clearSince with
      | some t => decide (t + 1000000000 ≤ d.t)
      | none => true
    if done.any (fun m => m.kind == 2) && !d.synced && settled then
      ({ d.put 0x2C08 2 15 with twin := { d.twin with clearSince := none } } : Dev).noteResync
    else d

/-- REFUSE: the active device withdraws the decision (R389). -/
def gotRefuse (d : Dev) (seq : Nat) : Dev :=
  let d := d.gotNext
  match d.twin.pledges.find? (fun p => p.seq == seq) with
  | none => d
  | some p =>
    let d := { d with twin := { d.twin with pledges := d.twin.pledges.filter (fun x => x.seq != seq) } }
    if d.role == 1 then d.withdraw p.msg else d

/-- MSG_NAK: everything from the message expected is sent again (R382, R383). -/
def gotNak (d : Dev) (seq : Nat) : Dev :=
  let again := d.twin.unacked.filter (fun m => seqUpTo seq m.seq)
  again.foldl (fun d m => (d.emit (.twin m.kind m.seq m.payload)).bump 0x2C08 0x0B) d

/-- Messages unacknowledged for 50 µs leave again on another lane; one unacknowledged for 2 ms loses the link (R383). -/
def resend (d : Dev) : Dev :=
  if d.twin.unacked.any (fun m => decide (m.first + 2000000 < d.t)) then d.linkLost
  else
    let due (m : TwinMsg) : Bool := decide (m.sent + 50000 ≤ d.t)
    let other (l : Nat) : Nat := match d.twinUp.find? (fun i => decide (l < i)) with
      | some i => i
      | none => d.twinUp.headD l
    let late := d.twin.unacked.filter due
    let d := { d with twin := { d.twin with unacked := d.twin.unacked.map (fun (m : TwinMsg) => if due m then { m with sent := d.t, lane := other m.lane } else m) } }
    late.foldl (fun d m => (d.emit (.twin m.kind m.seq m.payload)).bump 0x2C08 0x0B) d

/-- CHECKSUM (R387, R390). -/
def gotChecksum (d : Dev) (c st crc : Nat) : Dev :=
  let d := d.gotNext
  if d.g 0x2C00 1 == 0 then d
  else ({ d with twin := { d.twin with sums := d.twin.sums.set c (st, crc) } } : Dev).compareSums c

/-- DIGEST (R388). -/
def gotDigest (d : Dev) (group rep crc : Nat) : Dev :=
  let d := d.gotNext
  { d with twin := { d.twin with digests := d.twin.digests.set group (rep, crc) } }

/-- The standby's position set so that its output equals the active device's at the index plus the travel since (R386).
`out` in 48.16 lines. -/
def align (d : Dev) (k : IndexMark) (out : Nat) : Dev :=
  let c := (d.enc d.web).count
  let q : Rat := (d.g 0x3200 2 : Nat) / (d.g 0x3200 3 : Nat) * (1 + (d.reck.trim : Rat) / 100000000)
  let p : Int := (out : Int) * 281474976710656 + (((c - k.count : Int) : Rat) * q * 18446744073709551616).floor
  let d := { d with
    reck := { d.reck with p := p, hwm := p, anchorP := p, anchorC := c }
    twin := { d.twin with aligned := true, posBad := false, slew := 0, slewLeft := 0 } }
  d.put 0x3208 1 ((max p 0) / 281474976710656).toNat

/-- The standby's position error at an index: recorded, slewed, or the position lost (R386). -/
def trackPosition (d : Dev) (k : IndexMark) (out : Nat) (dc : Int) : Dev :=
  let e : Int := (out : Int) * 281474976710656 - k.out
  let e16 := Int.fdiv e 281474976710656
  let d := (d.put 0x2C08 0x0D (ofSigned 64 dc)).put 0x2C08 0x0E (ofSigned 32 e16)
  let moved := match d.twin.dc with
    | some x => decide (2 < (dc - x).natAbs)
    | none => false
  let d := { d with twin := { d.twin with dc := some dc } }
  if moved || decide (9223372036854775808 < e.natAbs) then
    let d := (d.raise 94).loseFlag 2
    { d with twin := { d.twin with posBad := true } }
  else
    let d := if d.twin.posBad then { d with twin := { d.twin with posBad := false, clearSince := some d.t } } else d
    if decide (1152921504606846976 < e.natAbs) then
      { d with twin := { d.twin with slew := Int.fdiv e 4096, slewLeft := 4096 } }
    else d

/-- POSITION: paired with the own index edge within 100 µs (R386). -/
def gotPosition (d : Dev) (time count out : Nat) : Dev :=
  let d := d.gotNext
  if d.role != 2 && d.role != 3 then d
  else match d.twin.marks.find? (fun k => decide (max k.time time - min k.time time ≤ 100000)) with
    | none => d
    | some k =>
      let dc := k.count - toSigned 64 count
      if d.role == 3 && !d.twin.aligned then
        let d := (d.align k out).put 0x2C08 0x0D (ofSigned 64 dc)
        ({ d with twin := { d.twin with dc := some dc } } : Dev).formDone
      else d.trackPosition k out dc

/-- TILE_FETCH_TIMEOUT: a fetch of 1 ms is late; the frame is sought otherwise, and the lines that need it stay withheld
(R128, R391). -/
def fetchLate (d : Dev) : Dev :=
  let late (f : Nat × Nat × Nat) : Bool := f.2.2 != 0 && decide (f.2.2 + 1000000 ≤ d.t)
  let fs := d.twin.fetches.filter late
  let d := { d with twin := { d.twin with fetches := d.twin.fetches.map (fun f => if late f then (f.1, f.2.1, 0) else f) } }
  fs.foldl (fun d f => (d.raise 102).restoreHere f.1 f.2.1) d

/-- One lane's part of LANE_SYNC at the standby, for its lane of the same bar and logical lane: the marker numbering and departure, and a
rate both lanes can reach (R232). -/
def syncLane (d : Dev) (e : LaneSyncEntry) : Dev :=
  let s := d.laneOf (e.lane / 8) (e.lane % 8)
  if !d.lanePresent s || decide (72 < s) || decide (d.nbars ≤ e.lane / 8) then d
  else
    let d := d.onLane s (fun l => { l with marker := (e.marker + 4294967295) % 4294967296, markDue := e.departure })
    if e.rate != 0 && decide (e.rate < (d.lane s).upRate) && d.laneState s == 4 && !(d.lane s).carries then
      ((d.stepDown s).onLane s (fun l => { l with ceilingRate := e.rate + 1 })).stepUp s
    else d.onLane s (fun l => if e.rate == 0 then l else { l with ceilingRate := min l.ceilingRate (e.rate + 1) })

/-- LANE_SYNC (R232). -/
def gotLaneSync (d : Dev) (es : List LaneSyncEntry) : Dev :=
  let d := d.gotNext
  if d.role == 2 || d.role == 3 then es.foldl syncLane d else d

/-- Nothing has been heard of the partner for 500 µs: it is probed (R393). -/
def probePartner (d : Dev) : Dev :=
  if !d.paired || d.twin.probing.isSome then d
  else
    let k := (d.twin.probe + 1) % 4294967296
    let d := { d with twin := { d.twin with probe := k, probing := some d.t } }
    ((d.path 2 false).path 3 false).sendPair 0x40 (beBytes 4 (d.g 0x1018 4) ++ beBytes 4 k)

/-- The partner is failed (R394, R395). -/
def partnerFailed (d : Dev) : Dev :=
  let all := d.role == 2 && d.synced
  let gone := if d.role == 1 then d.twin.pledges.length else 0
  let d := d.raise 98
  let d := { d with twin := { d.twin with probing := none } }
  let d := if gone == 0 then d else d.bumpBy 0x2C08 0x0C gone
  let d := if all then d.takeover 1 else d
  let d := { d with twin := { d.twin with partner := none, pledges := [], handover := none } }
  if d.role == 1 then d.put 0x2C08 2 0 else d

/-- No healthy answer of an active partner came (R394). -/
def probeOver (d : Dev) : Dev := if d.twin.probing.isNone then d else d.partnerFailed

/-- Pair command 1 or a rehearsal (R398, R399). -/
def orderHandover (d : Dev) (cause : Nat) : Dev × Nat :=
  if d.handoverAllowed then
    let d := d.askHandover cause
    (if cause == 4 then d.raise 100 else d, 0)
  else (if cause == 4 then d.put 0x2C08 9 3 else d, 0x0F00006A)

/-- Pair command 3 (R390). -/
def writeResync (d : Dev) : Dev × Nat :=
  if !d.paired then (d, 0x08000022)
  else if d.role == 2 then
    ({ d with twin := { d.twin with resync := true, clearSince := some d.t } }, 0)
  else ((({ d with twin := { d.twin with clearSince := some d.t } } : Dev).put 0x2C08 2 0), 0)

/-- A write of 0x2C02:00. -/
def writePair (d : Dev) (v : Nat) : Dev × Nat :=
  if v == 1 then d.orderHandover 3 else if v == 2 then d.orderHandover 4 else if v == 3 then d.writeResync else (d, 0x06090030)

/-- The rehearsal interval has passed (R399). -/
def rehearse (d : Dev) : Dev :=
  if d.role == 1 && d.paired && d.g 0x2C00 1 == 1 && d.sys.st == .printing && d.g 0x2C00 6 != 0 then (d.orderHandover 4).1 else d

/-- A rehearsal is judged 10 s after its last bar switched; where it failed the new active device hands back (R399). -/
def judgeRehearsal (d : Dev) : Dev :=
  match d.twin.rehearsing with
  | none => d
  | some t =>
    let bad := match d.fl.lastL2 with
      | some x => decide (t ≤ x)
      | none => false
    let d := { d with twin := { d.twin with rehearsing := none } }
    let d := (d.put 0x2C08 8 (d.serviceAt t)).put 0x2C08 9 (if bad then 2 else 1)
    if bad && d.handoverAllowed then d.askHandover 3 else d

end Dev

/-- IDENT (R384). -/
def execIdent (i : Ident) (s : State) : Host.Outcome State Fault Refusal := s.done (s.begin_.gotNext.gotIdent i)

/-- FORMATION_RETRY (R384). -/
def execFormationRetry (s : State) : Host.Outcome State Fault Refusal := s.done s.begin_.retryFormation

/-- STATE (R385). -/
def execState (a : Adopt) (s : State) : Host.Outcome State Fault Refusal := s.done (s.begin_.gotNext.gotState a)

/-- DECISION (R389). -/
def execDecision (seq : Nat) (m : DecisionMsg) (s : State) : Host.Outcome State Fault Refusal := s.done (s.begin_.gotDecision seq m)

/-- COMMIT (R389). -/
def execCommit (seq : Nat) (s : State) : Host.Outcome State Fault Refusal := s.done (s.begin_.gotCommit seq)

/-- REFUSE (R389). -/
def execRefuse (seq _cause : Nat) (s : State) : Host.Outcome State Fault Refusal := s.done (s.begin_.gotRefuse seq)

/-- CHECKSUM (R387). -/
def execChecksum (ctx stateCode crc : Nat) (s : State) : Host.Outcome State Fault Refusal :=
  s.done (s.begin_.gotChecksum ctx stateCode crc)

/-- DIGEST (R388). -/
def execDigest (group rep crc : Nat) (s : State) : Host.Outcome State Fault Refusal := s.done (s.begin_.gotDigest group rep crc)

/-- POSITION (R386). -/
def execPosition (_index time count out : Nat) (s : State) : Host.Outcome State Fault Refusal :=
  s.done (s.begin_.gotPosition time count out)

/-- TILE_REQ (R391). -/
def execTileReq (kind tileId : Nat) (s : State) : Host.Outcome State Fault Refusal := s.done (s.begin_.gotNext.sendTile kind tileId)

/-- TILE_DATA (R391). -/
def execTileData (kind tileId : Nat) (frame : Option (FrameHdr × Bytes)) (s : State) : Host.Outcome State Fault Refusal :=
  s.done (s.begin_.gotNext.tileArrived kind tileId frame)

/-- TILE_FETCH_TIMEOUT (R391). -/
def execTileFetchTimeout (s : State) : Host.Outcome State Fault Refusal := s.done s.begin_.fetchLate

/-- LANE_SYNC (R232). -/
def execLaneSync (entries : List LaneSyncEntry) (s : State) : Host.Outcome State Fault Refusal := s.done (s.begin_.gotLaneSync entries)

/-- MSG_ACK (R383, R389). -/
def execMsgAck (seq : Nat) (s : State) : Host.Outcome State Fault Refusal := s.done (s.begin_.gotAck seq)

/-- MSG_NAK (R382, R383). -/
def execMsgNak (seq _reason : Nat) (s : State) : Host.Outcome State Fault Refusal := s.done (s.begin_.gotNak seq)

/-- TWIN_MSG_RESEND (R383). -/
def execTwinMsgResend (s : State) : Host.Outcome State Fault Refusal := s.done s.begin_.resend

/-- TWIN_LINK_LOSS (R383, R390). -/
def execTwinLinkLoss (s : State) : Host.Outcome State Fault Refusal := s.done s.begin_.linkLost

/-- HB_OUT and HB_IN exist: not on the FJA-2204 (Table 0.1, R5). -/
def Dev.hasHb (d : Dev) : Bool := d.product != 0x2204

/-- HB_IN_PULSE (R392). -/
def execHbInPulse (s : State) : Host.Outcome State Fault Refusal :=
  let d := s.begin_
  s.done (if d.hasHb then ({ d with pins := { d.pins with hbInAlive := true }, twin := { d.twin with hbInAt := d.t } } : Dev).path 1 true else d)

/-- HB_IN_SILENT: a path fault that changes no role (R392). -/
def execHbInSilent (s : State) : Host.Outcome State Fault Refusal :=
  let d := s.begin_
  s.done (if d.hasHb && d.pins.hbInAlive then
      (({ d with pins := { d.pins with hbInAlive := false } } : Dev).path 1 false).raise 96
    else d)

/-- HB_OUT_PULSE (R392). -/
def execHbOutPulse (s : State) : Host.Outcome State Fault Refusal :=
  let d := s.begin_
  s.done (if d.hasHb && d.fast && !d.twin.hbOutStopped && d.sys.st != .restarting then d.emit .hbOut else d)

/-- PARTNER_SILENT (R393). -/
def execPartnerSilent (s : State) : Host.Outcome State Fault Refusal := s.done s.begin_.probePartner

/-- PROBE_TIMEOUT (R394). -/
def execProbeTimeout (s : State) : Host.Outcome State Fault Refusal := s.done s.begin_.probeOver

/-- PAIR_HANDOVER (R398). -/
def execPairHandover (sess : Nat) (s : State) : Host.Outcome State Fault Refusal := s.hostWrite sess 0x2C02 (fun d => d.writePair 1)

/-- PAIR_REHEARSE (R399). -/
def execPairRehearse (sess : Nat) (s : State) : Host.Outcome State Fault Refusal := s.hostWrite sess 0x2C02 (fun d => d.writePair 2)

/-- PAIR_RESYNCHRONISE (R390). -/
def execPairResynchronise (sess : Nat) (s : State) : Host.Outcome State Fault Refusal := s.hostWrite sess 0x2C02 (fun d => d.writePair 3)

/-- REHEARSAL_DUE (R399). -/
def execRehearsalDue (s : State) : Host.Outcome State Fault Refusal := s.done s.begin_.rehearse

/-- REHEARSAL_CHECK (R399). -/
def execRehearsalCheck (s : State) : Host.Outcome State Fault Refusal := s.done s.begin_.judgeRehearsal

end Sys2Proof.Machine
end

