-- ==== Sys2Proof/Machine/Boot.lean ====
section
/-! DEFINITION. Resets and boot: what each reset keeps, the NV restore, and the entry to Standby (R13, R114, R443, R462 to
R467, R484). -/
namespace Sys2Proof.Machine

open Sys2Proof

namespace Dev

/-- What only a loss of power takes: NV store, flash and tally (Table 20.7). The pins other than the device's own outputs keep
the level the board drives. -/
def lasting (d : Dev) : Dev :=
  { product := d.product
    t := d.t
    free := d.free
    out := d.out
    pins := { porst := d.pins.porst, sysrst := d.pins.sysrst, hbInAlive := d.pins.hbInAlive, usbVbus := d.pins.usbVbus, badSupplies := d.pins.badSupplies }
    sys := { slots := d.sys.slots }
    light := { ledLow := d.light.ledLow }
    nv := { stored := d.nv.stored, erases := d.nv.erases, retired := d.nv.retired, spares := d.nv.spares }
    tally := d.tally }

/-- What the AON SRAM keeps over SYSRST_N and REBOOT (R97, R422, R432, R463, Table 20.7); ALERT_N and THERM_N stay as they
are driven (R421, R429). -/
def aonKept (d r : Dev) : Dev :=
  { r with
    fl := { log := d.fl.log, top := d.fl.top }
    nv := { r.nv with staged := d.nv.staged }
    pins := { r.pins with alertN := d.pins.alertN, thermN := d.pins.thermN }
    therm := { recordUnwritten := d.therm.recordUnwritten }
    sys := { r.sys with bootTries := d.sys.bootTries }
    print := { reps := (d.print.reps.filter (fun (x : Rep) => x.opened)).map (fun (x : Rep) => { x with open_ := 0 }) } }

/-- PORST_N low: the device is off (R467). -/
def powerOff (d : Dev) : Dev :=
  let d := { d with t := 0, light := { d.light with ledLow := 0 } }
  let r := d.lasting
  { r with sys := { r.sys with st := .off }, pins := { r.pins with porst := true } }

/-- SYSRST_N or REBOOT: every domain and the management subsystem restart (R467). `cause` as 0x2101:03. -/
def restart (d : Dev) (cause : Nat) : Dev :=
  let old := d.sys.st
  let boots := d.g 0x2101 4
  let r := d.aonKept d.lasting
  let r := { r with sys := { r.sys with st := old } }
  let r := (r.put 0x2101 3 cause).put 0x2101 4 ((boots + 1) % 4294967296)
  if old = .boot then r else r.enter .boot

/-- The values of 0x2A00: C, the usable capacity less 1 GiB, and its shares, in MiB (R114, Table 4.9); fractions of a MiB are dropped
(DESIGN CHOICE, log 102: the rule does not round). -/
def divideStore (d : Dev) : Dev :=
  let c := d.usable_ - 1073741824
  let d := d.put 0x2A00 6 (c / 1048576)
  [(1, 40), (2, 45), (3, 4), (4, 6), (5, 5)].foldl (fun d x => d.put 0x2A00 x.1 (c * x.2 / 100 / 1048576)) d

/-- Saved keeper tables and geometry of Bn match what is committed at boot (R311). -/
def keeperMatches (d : Dev) (rs : List NvRec) (n : Nat) : Bool :=
  match rs.find? (fun r => r.kind == 7 && r.obj == 0x5003 + 0x100 * n) with
  | some r => r.val == d.gb n 0x5003 1 + 256 * d.gb n 0x5003 2 + 2 ^ 32 * d.gb n 0x5003 3 && r.data == d.dom [] (0x6228 + n)
  | none => false

/-- Keeper and census tables are restored for the bars that match (R311). -/
def restoreKeeper (d : Dev) (rs : List NvRec) : Dev :=
  let get (i : Nat) : Option NvRec := rs.find? (fun r => r.kind == 7 && r.obj == i)
  let table (d : Dev) (i : Nat) : Dev := match get i with
    | some r => if r.data.isEmpty then d else d.putDom i r.data
    | none => d
  let d := (d.barList.filter (d.keeperMatches rs)).foldl (fun d n =>
    let d := if d.g 0x3A00 0x0C == 1 then table d (0x6208 + n) else d
    table (table d (0x6220 + n)) (0x6230 + n)) d
  match get 0x6208 with
  | some r =>
    let g := (r.val + 1) % 4294967296
    { d.put 0x3A08 1 g with keeper := { d.keeper with lastNum := g } }
  | none => d

/-- One NV record takes effect at boot (R366, R433, R441, R443, R465). -/
def restoreRec (d : Dev) (r : NvRec) : Dev :=
  let puts (d : Dev) (vs : Table Nat) : Dev := vs.foldl (fun d x => d.put (x.1 / 256) (x.1 % 256) x.2) d
  match r.kind with
  | 1 =>
    let d := d.put 0x280C r.obj (if bit r.val 62 then r.val - 2 ^ 62 else r.val)
    { d with mem := { d.mem with spare := d.mem.spare.set r.obj (List.replicate 256 0, false) } }
  | 2 =>
    let v := toSigned 32 r.val
    let d := { d with cal := { d.cal with values := d.cal.values.set r.obj v } }
    if r.obj / 256 == 6 then { d with therm := { d.therm with trims := d.therm.trims.set (r.obj % 256) v } } else d
  | 3 => puts d r.vals
  | 4 =>
    let d := (List.range 9).foldl (fun d e => d.put 0x2E07 (e + 1) (r.val / 4 ^ e % 4)) d
    r.vals.foldl (fun d x => d.onBar x.1 (fun b => { b with engine := x.2 })) d
  | 5 => d.put 0x260D 0 (leNat r.data)
  | 6 => puts d r.vals
  | 9 => { d with print := { d.print with nextNum := r.val + 65536, saved := some r.val } }
  | 10 => d.put (r.obj / 256) (r.obj % 256) r.val
  | 11 => puts d r.vals
  | 12 =>
    let d := puts d (r.vals.filter (fun x => decide (x.1 < 2 ^ 24)))
    let gs := (r.vals.filter (fun x => decide (2 ^ 24 ≤ x.1))).map (fun x => (x.1 - 2 ^ 24, toSigned 32 x.2))
    { d with therm := { d.therm with guarded := gs } }
  | 13 => { d with tally := { d.tally with repairs := d.tally.repairs.set r.obj r.val } }
  | _ => d

/-- The NV stores are restored, the saved configuration first, and staged records over them (R432, R465). A ledger without a
saved repeat number counts as saved at 0 (R83). -/
def restoreNv (d : Dev) : Dev :=
  let newer (r : NvRec) : Bool := !d.nv.staged.any (fun x => x.kind == r.kind && x.obj == r.obj)
  let rs := d.nv.stored.filter newer ++ d.nv.staged
  let d := (rs.filter (fun r => r.kind == 11)).foldl restoreRec d
  let d := (rs.filter (fun r => r.kind != 11 && r.kind != 7)).foldl restoreRec d
  let d := if d.print.saved.isNone && !d.print.reps.isEmpty then { d with print := { d.print with nextNum := 65536 } } else d
  -- The number of the first repeat after the boot is saved again, so that none is used twice (R83; log 89).
  ({ d with print := { d.print with sinceSave := 65536 } } : Dev).restoreKeeper rs

/-- Marked engines run their self-test: one that passes is the spare (R443). -/
def testEngines (d : Dev) (pass : List Nat) : Dev :=
  let ms := d.tally.marked
  if ms.isEmpty then d
  else
    let d := { d with tally := { d.tally with marked := [] } }
    let d := (ms.filter (fun e => pass.contains e && d.g 0x2E07 (e + 1) == 2)).foldl (fun d e => (d.put 0x2E07 (e + 1) 1).restorePool 1) d
    d.saveNv d.engineRec

/-- The lane-protection switches are written to the lane map, and their readbacks awaited (R238). -/
def writeSwitches (d : Dev) : Dev :=
  (d.barList.filter (fun n => d.g 0x3402 (n + 1) == 1)).foldl (fun d n =>
    let plan := d.switchPlan n
    (d.onBar n (fun b => { b with switchSent := plan })).emits (plan.map (fun c => Out.laneSwitch n c))) d

/-- A slot whose header or signature fails is marked invalid (R463). -/
def slotInvalid (d : Dev) (k : Nat) : Dev :=
  let x := d.sys.slots.get (0, 0, []) k
  ({ d with sys := { d.sys with slots := d.sys.slots.set k (2, x.2) } } : Dev).raise 2

/-- The slot that boots reads "running", and the one that ran "valid". A SEQUENCE the model has not seen is free. -/
def slotRuns (d : Dev) (k : Nat) : Dev :=
  let d := if (d.sys.slots.find? k).isSome then d
    else
      let seq := d.freeNat % 4294967296
      { d.drew with sys := { d.sys with slots := d.sys.slots.set k (3, seq, []) } }
  let slots := d.sys.slots.mapVal (fun i (x : Nat × Nat × Bytes) =>
    if i == k then (3, x.2) else if x.1 == 3 then (1, x.2) else x)
  let d := { d with sys := { d.sys with slots := slots, slot := k, verified := true, bootFailed := false, bootTries := 0, standbySince := d.t, firstWake := true } }
  let image := (d.sys.slots.get (0, 0, []) k).2.2
  let d := if image.isEmpty then d else d.put 0x100A 0 (leNat (slice image 16 16))
  d.put 0x2101 2 k

/-- Enabled PTP domains begin to listen (R339, R340). -/
def ptpListen (d : Dev) : Dev :=
  (List.range 2).foldl (fun d k => if d.ptpOn k then d.put (0x2404 + k) 1 1 else d) d

/-- The device wakes: fast domains start, with counters, index trims and the Reckoner at 0 and every lane in TRAIN; a strobe fault stays
latched until its clear (R183, R189, R205, R219, R468). -/
def beginWake (d : Dev) : Dev :=
  let engines : Table Nat := d.barList.map (fun n => (n, d.engineOf n))
  let d := { d with
    encs := [], cmps := [], reck := {}
    bars := engines.map (fun (x : Nat × Nat) => (x.1, ({ engine := x.2, strobeFault := (d.bar x.1).strobeFault } : Bar)))
    sys := { d.sys with wakeStart := d.t } }
  let d := (List.range 4).foldl (fun d c => (d.put (0x3008 + c) 1 0).put (0x3008 + c) 9 0) d
  let d := [1, 2, 3, 4, 5].foldl (fun d i => d.put 0x3208 i 0) d
  d.lanesTrain.enter .waking

/-- Boot ends: a slot has verified and the NV stores are restored, or no slot verifies (R463 to R465). -/
def bootComplete (d : Dev) (slot : Option Nat) (fallback : Bool) (invalid pass : List Nat) : Dev :=
  if d.sys.st != .boot || d.pins.porst || d.pins.sysrst || d.sys.verified then d
  else
    let d := (invalid.filter (fun k => decide (k < 2))).foldl slotInvalid d
    match slot with
    | none => { d with sys := { d.sys with bootFailed := true } }
    | some k =>
      let d := ((d.slotRuns (k % 2)).restoreNv).testEngines pass
      let d := { d with mem := { d.mem with config := [1, 2, 3, 4, 5].map (d.g 0x2800), formed := false } }
      let d := d.divideStore.writeSwitches.ptpListen
      let d := (if fallback then d.raise 1 else d).raise 0 0 0xFF (k % 2)
      let d := { d with pins := { d.pins with faultN := false } }
      let d := d.enter .standby
      if d.g 0x2100 2 == 1 then d.beginWake else d

end Dev

/-- PORST_N goes low: the whole device resets and is off (R467). -/
def State.powerOff (s : State) : State := { s with now := 0, dram := [], dev := s.begin_.powerOff }

/-- SYSRST_N or REBOOT acts: the DRAM is re-formed (R467). -/
def State.restart (s : State) (d : Dev) (cause : Nat) : State := { s with dram := [], dev := d.restart cause }

/-- PORST_ASSERT (R467). -/
def execPorstAssert (s : State) : Host.Outcome State Fault Refusal := .next s.powerOff

/-- AON_SUPPLY_LOSS: the internal detector acts as PORST_N low (R484). -/
def execAonSupplyLoss (s : State) : Host.Outcome State Fault Refusal := .next s.powerOff

/-- PORST_RELEASE: the device enters Boot (R454). -/
def execPorstRelease (s : State) : Host.Outcome State Fault Refusal :=
  let d := s.begin_
  .next (if d.sys.st = .off then
      { s with now := 0, dev := ((({ d with t := 0, pins := { d.pins with porst := false } } : Dev).put 0x2101 3 1).enter .boot) }
    else { s with dev := d })

/-- SYSTEM_RESET: SYSRST_N low (R467). -/
def execSystemReset (s : State) : Host.Outcome State Fault Refusal :=
  let d := s.begin_
  .next (if d.sys.st = .off then { s with dev := d } else s.restart { d with pins := { d.pins with sysrst := true } } 2)

/-- SYSRST_RELEASE: the boot goes on (R467). -/
def execSysrstRelease (s : State) : Host.Outcome State Fault Refusal :=
  let d := s.begin_
  s.done { d with pins := { d.pins with sysrst := false } }

/-- BOOT_COMPLETE (R463 to R465). -/
def execBootComplete (slot : Option Nat) (fallback : Bool) (invalid : List Nat) (enginePass : List Nat) (s : State) :
    Host.Outcome State Fault Refusal := s.done (s.begin_.bootComplete slot fallback invalid enginePass)

end Sys2Proof.Machine
end

