-- ==== Sys2Proof/Machine/Power.lean ====
section
/-! DEFINITION. Waking and sleeping, device commands, reference clocks, supplies, the service port and the PCIe link, the
saved configuration and firmware updates (R430, R451 to R472). -/
namespace Sys2Proof.Machine

open Sys2Proof

namespace Dev

/-- DMA queues run while the link is up and its reference clock present, and no restart holds them (R407, R452). -/
def queuesGo (d : Dev) : Dev :=
  { d with jobs := { d.jobs with paused := !(d.jobs.link && d.sys.pcieRef) || d.sys.st == .restarting || !d.fast } }

/-- Every wake step has ended: Ready (R289, R468). -/
def wakeComplete (d : Dev) : Dev :=
  if d.sys.st != .waking then d
  else
    let d := { d with
      mem := { d.mem with formed := true, targets := [] }
      sys := { d.sys with firstWake := false, laneRef := true }
      twin := { d.twin with hbOutStopped := false, aligned := false, probing := none } }
    let d := ((List.range 6).foldl firstGen d).lightStart
    let d := (List.range 16).foldl commitCompare d
    let d := (List.range 8).foldl (fun d k => if d.g (0x2410 + k) 1 == 0 then d else d.commitTout k) d
    let d := d.put 0x2101 5 ((d.t - d.sys.wakeStart) / 1000 % 4294967296)
    ((d.enter .ready).queuesGo).raise 3

/-- A wake step fails, or the 2 s expire while it runs (R350, R468). `detail` names the subchannel at step 3; at step 1 it
is 0 for the core or DDR PLL and another value for the motion PLL. -/
def wakeFailed (d : Dev) (step : Nat) (expired : Bool) (detail : Nat) : Dev :=
  if d.sys.st != .waking || step == 0 || decide (6 < step) then d
  else
    let e := if step == 1 then (if detail == 0 then 120 else 47) else [48, 83, 91, 91, 16].getD (step - 2) 16
    let low := if step == 3 then detail % 2147483648 else 0
    let d := d.raise e 0 0xFF ((if expired then 2147483648 else 0) + low)
    d.fastStop.enter .standby

/-- Device command WAKE (Table 20.5). -/
def writeWake (d : Dev) : Dev × Nat := if d.sys.st = .standby then (d.beginWake, 0) else (d, 0x08000022)

/-- The fast domains stop with the DRAM in self-refresh, and the device is in Standby (R469). -/
def toStandby (d : Dev) : Dev :=
  let d := (if d.fast then d.contextsArmed.fastStop else d.contextsArmed)
  let d := { d with sys := { d.sys with standbySince := d.t, asleep := false }, fl := { d.fl with running := [], queued := [] } }
  d.enter .standby

/-- Device command SLEEP (Table 20.5, R469). -/
def writeSleep (d : Dev) : Dev × Nat :=
  match d.sys.st with
  | .ready | .armed => (d.toStandby, 0)
  | _ => (d, 0x08000022)

/-- Device command PREPARE (Table 20.5, R230). -/
def writePrepare (d : Dev) : Dev × Nat :=
  if d.sys.st = .ready then
    let d := { d with sys := { d.sys with preparing := true } }
    ((d.barList.foldl stepUpBar d).prepareDone, 0)
  else (d, 0x08000022)

/-- Device command RELAX (Table 20.5, R230). -/
def writeRelax (d : Dev) : Dev × Nat :=
  if d.sys.st = .armed then ((d.headLanes.foldl stepDown d).enter .ready, 0) else (d, 0x08000022)

/-- The die is still hot after a thermal shutdown (R430). -/
def tooHot (d : Dev) : Bool := d.therm.shutdown && [0, 1].any (fun k => decide (1000 < d.reading k))

/-- Device command CLEAR_FAULT (Table 20.5, R430, R469). -/
def writeClearFault (d : Dev) : Dev × Nat :=
  if d.sys.st != .fault || d.tooHot then (d, 0x08000022)
  else
    let d := d.toStandby
    ({ d with therm := { d.therm with shutdown := false }, pins := { d.pins with faultN := false } }, 0)

/-- Objects of the saved configuration: staged objects of groups 1 to 12 and 16 to 23, DOMAIN tables apart (R465). -/
def configVals (d : Dev) : Table Nat :=
  d.dict.regs.keep (fun k _ => (groupOf (k / 256)).isSome && (match rowOf d.product (k / 256) (k % 256) with
    | some r => r.acc == .rws
    | none => false))

/-- Device command SAVE_CONFIG (Table 20.5, R465). -/
def writeSaveConfig (d : Dev) (sess : Nat) : Dev × Nat :=
  match d.sys.st with
  | .standby | .waking | .ready | .armed | .printing | .stopping =>
    (d.nvOp sess [{ kind := 11, obj := 0, vals := d.configVals }]).started
  | _ => (d, 0x08000022)

/-- A download into an image slot has ended (R466). The image's SEQUENCE field becomes the other slot's plus 1. -/
def writeImage (d : Dev) (sess slot : Nat) (image : Bytes) : Dev × Nat :=
  if d.sys.verified && d.sys.slot == slot then (d, 0x0F000079)
  else
    let other := d.sys.slots.get (0, 0, []) (1 - slot)
    let seq := (other.2.1 + 1) % 4294967296
    let d := { d with sys := { d.sys with slots := d.sys.slots.set slot (0, seq, image.take 4 ++ leBytes 4 seq ++ image.drop 8) } }
    (d.beginOp 4 sess slot).started

/-- A firmware update ends (R466). -/
def imageDone (d : Dev) (verified flashOk : Bool) : Dev :=
  match d.com.op with
  | some o =>
    if o.cls != 4 then d
    else
      let res := if !flashOk then 0x0F00007B else if !verified then 0x0F00007A else 0
      let x := d.sys.slots.get (0, 0, []) o.arg
      let d := { d with sys := { d.sys with slots := d.sys.slots.set o.arg (if res == 0 then 1 else 2, x.2) } }
      (d.endOp res).raise 123
  | none => d

/-- A reference clock input is lost (R224, R452). -/
def refclkLost (d : Dev) : RefClk → Dev
  | .sys =>
    if d.sys.internalOsc || d.sys.st = .off then d
    else ({ d with sys := { d.sys with internalOsc := true } } : Dev).fault 4 117 0xFF 0 0
  | .lane =>
    if !d.fast then d
    else ({ d with sys := { d.sys with laneRef := false } } : Dev).lanesOff.fault 3 48 0xFF 0 0
  | .pcie =>
    if !d.fast || !d.sys.pcieRef then d
    else
      let d := { d with sys := { d.sys with pcieRef := false }, jobs := { d.jobs with paused := true } }
      d.raise 118

/-- The PCIe link is lost (R423). -/
def linkDown (d : Dev) : Dev :=
  if !d.jobs.link then d else ({ d with jobs := { d.jobs with link := false, paused := true } } : Dev).raise 17

/-- The PCIe link is up, with or without its reference clock (R452). -/
def linkIsUp (d : Dev) (refclk : Bool) : Dev :=
  if !(d.fast || d.sys.st = .waking) then d
  else ({ d with jobs := { d.jobs with link := true }, sys := { d.sys with pcieRef := refclk } } : Dev).queuesGo

/-- A configuration request: retried until Ready, else served (R470). -/
def configRequest (d : Dev) (bar0 : Option Nat) : Dev :=
  if d.sys.st = .off || d.sys.st = .boot || d.sys.st = .standby then d
  else if !d.fast then d.emit (.config true)
  else
    let d := { d with jobs := { d.jobs with enumerated := true, bar0 := bar0.getD d.jobs.bar0 } }
    d.emit (.config false)

end Dev

/-- WAKE (R468). -/
def execWake (sess : Nat) (s : State) : Host.Outcome State Fault Refusal := s.hostWrite sess 0x2000 (fun d => d.writeWake)

/-- WAKE_COMPLETE: the first wake has written every page as a clean zero page (R468 step 4). -/
def execWakeComplete (s : State) : Host.Outcome State Fault Refusal :=
  let d := s.begin_
  ({ s with dev := d.wakeComplete, dram := if d.sys.st = .waking && d.sys.firstWake then [] else s.dram } : State).sent

/-- WAKE_TIMEOUT (R468). -/
def execWakeTimeout (step : Nat) (expired : Bool) (detail : Nat) (s : State) : Host.Outcome State Fault Refusal :=
  s.done (s.begin_.wakeFailed step expired detail)

/-- SLEEP (R469). -/
def execSleep (sess : Nat) (s : State) : Host.Outcome State Fault Refusal := s.hostWrite sess 0x2000 (fun d => d.writeSleep)

/-- PREPARE (R230). -/
def execPrepare (sess : Nat) (s : State) : Host.Outcome State Fault Refusal := s.hostWrite sess 0x2000 (fun d => d.writePrepare)

/-- RELAX (R457). -/
def execRelax (sess : Nat) (s : State) : Host.Outcome State Fault Refusal := s.hostWrite sess 0x2000 (fun d => d.writeRelax)

/-- CLEAR_FAULT (R457, R469). -/
def execClearFault (sess : Nat) (s : State) : Host.Outcome State Fault Refusal := s.hostWrite sess 0x2000 (fun d => d.writeClearFault)

/-- What a REBOOT command answers before it acts: none where its session is not served (R430, R456, R464). -/
def Dev.rebootCode (d : Dev) (sess : Nat) : Option Nat :=
  match d.session? sess with
  | none => none
  | some x =>
    if x.port != 0 || !d.served x 0x2000 then none
    else if d.com.op.isSome then some 0x0F000010
    else if d.sys.st = .restarting || d.tooHot then some 0x08000022
    else some 0

/-- REBOOT: it acts as SYSRST_N once the response has been sent (R467). -/
def execReboot (sess : Nat) (s : State) : Host.Outcome State Fault Refusal :=
  let d := s.begin_
  match d.rebootCode sess with
  | none => s.done d
  | some code =>
    let d := d.emit (.answer sess code)
    if code == 0 then .next (s.restart d 3) else s.done d

/-- SAVE_CONFIG (R465). -/
def execSaveConfig (sess : Nat) (s : State) : Host.Outcome State Fault Refusal := s.hostWrite sess 0x2000 (fun d => d.writeSaveConfig sess)

/-- FIRMWARE_UPDATE_COMPLETE (R466). -/
def execFirmwareUpdateComplete (verified flashOk : Bool) (s : State) : Host.Outcome State Fault Refusal :=
  s.done (s.begin_.imageDone verified flashOk)

/-- OP_TIMEOUT: the running operation is abandoned (R59). -/
def execOpTimeout (s : State) : Host.Outcome State Fault Refusal := s.done (s.begin_.abandonOp 0x0F000011)

/-- REFCLK_LOSS (R452). -/
def execRefclkLoss (input : RefClk) (s : State) : Host.Outcome State Fault Refusal := s.done (s.begin_.refclkLost input)

/-- SUPPLY_OUT_OF_RANGE (R484). -/
def execSupplyOutOfRange (supply : Nat) (s : State) : Host.Outcome State Fault Refusal :=
  let d := s.begin_
  s.done (if d.sys.st = .off then d
    else ({ d with pins := { d.pins with badSupplies := if d.pins.badSupplies.contains supply then d.pins.badSupplies else d.pins.badSupplies ++ [supply] } } : Dev).raise 119 0 0xFF supply)

/-- USB_VBUS_CHANGE (R472). -/
def execUsbVbusChange (attached : Bool) (s : State) : Host.Outcome State Fault Refusal :=
  let d := s.begin_
  s.done (if d.sys.st = .off then { d with pins := { d.pins with usbVbus := attached } }
    else if d.pins.usbVbus == attached then d
    else ({ d with pins := { d.pins with usbVbus := attached } } : Dev).raise 121)

/-- PCIE_LINK_DOWN (R423). -/
def execPcieLinkDown (s : State) : Host.Outcome State Fault Refusal := s.done s.begin_.linkDown

/-- PCIE_LINK_UP (R452). -/
def execPcieLinkUp (refclk : Bool) (s : State) : Host.Outcome State Fault Refusal := s.done (s.begin_.linkIsUp refclk)

end Sys2Proof.Machine
end

