-- ==== Sys2Proof/Machine/Flags.lean ====
section
/-! DEFINITION. Status words and flags worked out from the state: the ladder level, the error register, the clock status,
the fire state of a bar, and PD-IN's flags (Tables 2.11, 8.8, 17.8, 20.11, 22.7). -/
namespace Sys2Proof.Machine

open Sys2Proof

/-- A mask of the bars that satisfy `p`. -/
def maskOf (p : Nat → Bool) : Nat := ((List.range 8).map (fun n => if p n then 2 ^ n else 0)).sum

namespace Dev

/-- Highest ladder level in progress, 0xFF for none (0x2208:01). In Fault no recovery is in progress (R453). -/
def levelNow (d : Dev) : Nat :=
  if d.sys.st = .fault then 0xFF
  else match d.fl.running.map (fun r => r.level) with
    | [] => 0xFF
    | l :: r => r.foldl max l

/-- 0x1001: bit 7 while a fault of L3 or above is active. -/
def errorRegister (d : Dev) : Nat :=
  if d.sys.st = .fault || d.sys.st = .restarting || d.fl.running.any (fun r => decide (3 ≤ r.level)) then 0x81 else 0

/-- 0x2101:01 (Table 20.11). -/
def clockStatus (d : Dev) : Nat :=
  let b (i : Nat) (x : Bool) : Nat := if x then 2 ^ i else 0
  b 8 (!d.sys.internalOsc) + b 7 (d.fast && d.sys.pcieRef) + b 6 (d.fast && d.sys.laneRef) + b 5 d.fast + b 4 d.fast + b 3 d.fast +
    b 2 d.sys.pcieRef + b 1 d.sys.laneRef + b 0 d.sys.internalOsc

/-- Fire state of Bn (Table 8.8). -/
def fireState (d : Dev) (n : Nat) : Nat :=
  let b := d.bar n
  let w (i : Nat) (x : Bool) : Nat := if x then 2 ^ i else 0
  w 4 b.strobeFault + w 3 b.alternate + w 2 b.overspeed + w 1 b.saturated + w 0 b.warning

/-- Ceiling of the context in force at B0, 0.01 m/min; 0 with none (Table 22.6). -/
def ceilingNow (d : Dev) : Nat := (d.bar 0).ctx.elim 0 (fun c => (d.ctx c).ceiling)

/-- The intended speed exceeds a ceiling that is not 0: of the context in force, or of the pending or locked target (Table
22.7). -/
def aboveCeiling (d : Dev) : Bool :=
  let over_ (c : Nat) : Bool := c != 0 && decide (c < d.com.pd.intended)
  let of_ (x : Option Chg) : Bool := x.elim false (fun c => over_ (d.ctx c.ctx).ceiling)
  d.com.pd.intended != 0 && (over_ d.ceilingNow || of_ d.print.pending || of_ d.print.locked)

/-- PD-IN's FLAGS (Table 22.7). -/
def pdFlags (d : Dev) : Nat :=
  let w (i : Nat) (x : Bool) : Nat := if x then 2 ^ i else 0
  w 5 d.com.op.isSome + w 4 d.aboveCeiling + w 3 d.com.pd.lost + w 2 d.pins.thermN + w 1 d.pins.alertN + w 0 d.pins.faultN

end Dev

end Sys2Proof.Machine
end

