-- ==== Sys2Proof/Machine/Views.lean ====
section
/-! DEFINITION. What the objects of the dictionary read as: the objects that show what the rules move, the defaults of
tables that no write has touched, the staged view, and the order of the checks on an access (R31 to R34, R72, R98, R422,
R450, R494, R495). -/
namespace Sys2Proof.Machine

open Sys2Proof

/-- An index whose objects belong to the context of the session's window (R72, R495). -/
def ofContext (idx : Nat) : Bool := decide (0x4000 ≤ idx ∧ idx ≤ 0x4FFF) || decide (0x6100 ≤ idx ∧ idx ≤ 0x617F)

/-- One slot of 0x2030 (R40). -/
def Sess.slot (x : Sess) : Nat :=
  x.id * 2 ^ 48 + (if x.bound then 4 else x.via) * 2 ^ 40 + (if decide (2 ≤ x.via) then 0 else x.port * 2 ^ 32 + x.peer)

namespace Dev

/-- The repeats whose ledger record has been opened and is retained, newest first (R97). -/
def retained (d : Dev) : List Rep := (d.print.reps.filter (fun r => r.opened)).take 4096

/-- A ledger record in its 48 bytes (Table 3.5). -/
def ledgerBytes (d : Dev) (r : Rep) : Bytes :=
  leBytes 8 r.num ++ (List.range 8).map (fun n => byte (if decide (n < d.nbars) then (ledgerCtx r n).getD 0xFF else 0xFF)) ++
  leBytes 4 r.ceiling ++ leBytes 4 r.gen ++ [byte r.spoiled, byte r.cause, byte r.alt, byte r.varSubst, byte r.open_, 0, 0, 0] ++
  leBytes 8 r.d ++ leBytes 8 (r.end_ - r.d)

/-- The event record of a number, where the log retains it (R422). -/
def logRecord (d : Dev) (n : Nat) : Option EventRec := if decide (n ≤ d.fl.top) then d.fl.log[d.fl.top - n]? else none

/-- 0x2011 of context c: state code and live bar mask. -/
def ctxState (d : Dev) (c : Nat) : Nat := (d.ctx c).code + 256 * d.liveMask c

/-- Effective fire limit of the context in force at Bn, lines/s (0x5006:09); 0 with none. -/
def fireLimitNow (d : Dev) (n : Nat) : Nat :=
  match (d.bar n).ctx with
  | none => 0
  | some c => if bit (d.cg c 0x4000 2) n then (d.fireLimits c n).1.floor.toNat else 0

/-- Missing nozzles in force at Bn (0x5005:01). -/
def missingCount (d : Dev) (n : Nat) : Nat :=
  let rep := d.barRep n
  let (t, m, _, _) := d.geom n rep
  ((List.range t).map (fun i => ((List.range m).filter (d.missingNozzle n rep i)).length)).sum

/-- A request entry of 0x2A05 in its 16 bytes (R128). -/
def requestBytes (d : Dev) (e : Nat) : Bytes :=
  match d.jobs.requests.find? e with
  | none => List.replicate 16 0
  | some r => [byte r.kind, byte r.state] ++ List.replicate 6 0 ++ leBytes 8 r.tile

/-- Reading of a clock object of 0x2406. -/
def timeView (d : Dev) (sub : Nat) : Nat :=
  if sub == 3 then d.serviceNow % 2 ^ 64
  else if sub == 4 then d.t % 2 ^ 64
  else if d.time.inForce == 2 then 0 else ofSigned 64 (Int.fdiv (d.carriedAt d.t) 65536)

/-- Objects of pages 0x10 to 0x20 that show what the rules move. -/
def viewHost (d : Dev) (x : Sess) (idx sub : Nat) : Option Nat :=
  match idx, sub with
  | 0x1001, _ => some d.errorRegister
  | 0x1420, 3 => some (leNat ((List.range 4).flatMap (fun i => leBytes 4 (d.com.drops.get 0 i))))
  | 0x1450, 5 => some (((List.range 4).map (fun k => if d.g 0x1450 (k + 1) == 0 then 0 else 2 ^ k)).sum)
  | 0x2001, _ => some d.sys.st.code
  | 0x2010, _ => some x.window
  | 0x2011, k => some (d.ctxState (k - 1))
  | 0x2014, 1 => some d.fcNamed.1
  | 0x2014, 2 => some d.fcNamed.2
  | 0x2014, 3 => some d.fcByte
  | 0x2030, k => some ((d.com.sess.find? k).elim 0 Sess.slot)
  | 0x2040, 2 => (d.retained.find? (fun r => r.num == d.g 0x2040 1)).map (fun r => leNat (d.ledgerBytes r))
  | 0x2040, 3 => some (d.retained.getLast?.elim 0 (fun r => r.num))
  | 0x2040, 4 => some (d.retained.head?.elim 0 (fun r => r.num))
  | _, _ => none

/-- Objects of pages 0x21 to 0x28 that show what the rules move. -/
def viewCore (d : Dev) (idx sub : Nat) : Option Nat :=
  match idx, sub with
  | 0x2101, 1 => some d.clockStatus
  | 0x2101, 2 => some d.sys.slot
  | 0x2109, k => some (let s := d.sys.slots.get (0, 0, []) (k - 1); s.2.1 * 2 ^ 32 + s.1)
  | 0x2206, 2 => (d.logRecord (d.g 0x2206 1)).map (fun r => leNat r.bytes)
  | 0x2206, 3 => some (d.fl.top + 1 - d.fl.log.length)
  | 0x2206, 4 => some (d.fl.top % 2 ^ 32)
  | 0x2208, 1 => some d.levelNow
  | 0x2208, 2 => some (min 255 d.escRecent)
  | 0x2406, 3 => some (d.timeView 3)
  | 0x2406, 4 => some (d.timeView 4)
  | 0x2406, 5 => some (d.timeView 5)
  | 0x260C, 1 => some (d.nv.staged.length % 65536)
  | 0x2800, 6 => some (d.fitted / 1048576)
  | 0x280A, 3 => some d.lapPart
  | _, _ => none

/-- Objects of pages 0x2A to 0x3C that show what the rules move. -/
def viewUnits (d : Dev) (idx sub : Nat) : Option Nat :=
  match idx, sub with
  | 0x2A01, k => some (d.regionUsed k)
  | 0x2A05, k => if decide (k ≤ 16) then some (leNat (d.requestBytes k)) else none
  | 0x2C08, 0x0A => some (maskOf (fun i => d.twinUp.contains i))
  | 0x2E0B, k => if decide (k ≤ 2) then some (d.mem.recent.filter (fun e => e.1 == k - 1 && decide (d.t < e.2 + 86400000000000))).length else none
  | 0x3C2B, _ => some d.interlock
  | _, _ => if decide (0x3030 ≤ idx ∧ idx ≤ 0x303F) && sub == 6 then some ((d.nextEntry (idx - 0x3030)).getD (Config.freeValue (2 ^ 64 + d.free) % 65536)) else none

/-- Per-bar objects that show what the rules move. -/
def viewBar (d : Dev) (idx sub : Nat) : Option Nat :=
  let n := (idx - 0x5000) / 256
  match idx % 256, sub with
  | 3, 4 => some (d.columns n)
  | 5, 1 => some (d.missingCount n)
  | 6, 1 => some (d.fireState n)
  | 6, 2 => some (permille (d.demand n (d.bar n).ctx (d.bar n).alternate))
  | 6, 9 => some (d.fireLimitNow n)
  | _, _ => none

/-- A scalar of the context in a session's window. A context in Staging has committed nothing, so that a plain read gives
defaults (R34). -/
def viewCtx (d : Dev) (c idx sub : Nat) (staged : Bool) : Nat :=
  let x := d.ctx c
  match idx, sub with
  | 0x4000, 0x10 => d.ctxState c
  | 0x4000, 0x11 => x.ceiling
  | 0x4000, 0x12 => x.limiting
  | 0x4000, 0x13 => x.checksum
  | 0x4002, 3 => x.noGain
  | 0x4002, 4 => x.bytes
  | _, _ => if x.code == 1 && !staged then dflt d.product idx sub else d.cg c idx sub

/-- A scalar object as it reads; none where 0x2040:02 or 0x2206:02 selects a record that is no longer retained. -/
def viewNat (d : Dev) (x : Sess) (idx sub : Nat) (staged : Bool) : Option Nat :=
  if ofContext idx then some (d.viewCtx x.window idx sub staged)
  else
    let shown := if decide (idx < 0x2100) then d.viewHost x idx sub
      else if decide (idx < 0x2A00) then d.viewCore idx sub
      else if decide (idx < 0x4000) then d.viewUnits idx sub
      else d.viewBar idx sub
    match shown with
    | some v => some v
    | none =>
      if (idx == 0x2040 || idx == 0x2206) && sub == 2 then none
      else some (match if staged then d.dict.staged.find? (key idx sub) else none with
        | some v => v
        | none => d.g idx sub)

/-- Default contents of a DOMAIN table outside the contexts (Tables 6.7, 7.11, 11.8, 12.8, 13.1). -/
def domDefault (d : Dev) (idx : Nat) : Bytes :=
  let t := d.gb (idx % 8) 0x5003 1
  let page := idx / 8 * 8
  let words (k : Nat) (f : Nat → Nat) : Bytes := (List.range k).flatMap (fun i => leBytes 2 (f i))
  match page with
  | 0x6200 => List.replicate (t * 10240) 0
  | 0x6208 => List.replicate (t * 10240) 0
  | 0x6210 => words (t * 33) (fun i => min (2048 * (i % 33)) 65535)
  | 0x6218 => List.replicate (t * 320) 0
  | 0x6220 => List.replicate (t * 320) 0
  | 0x6228 => words (t * 2560) (fun i => i % 2560)
  | 0x6230 => List.replicate (t * 10240) 0
  | 0x6238 => List.replicate 53248 0
  | 0x6408 => words 2244 (fun _ => 4096)
  | _ =>
    if decide (0x6300 ≤ idx ∧ idx < 0x6310) then List.replicate 16384 0
    else if decide (0x6410 ≤ idx ∧ idx < 0x6420) then words 1025 (fun i => densityDefault (min (64 * i) 65535))
    else if decide (0x6500 ≤ idx ∧ idx < 0x6530) then words 65 (fun i => min (1024 * i) 65535)
    else []

/-- The objects of 0x2E00 to 0x2E0D in ascending order behind time and serial number (R450). -/
def tallyExport (d : Dev) (x : Sess) : Bytes :=
  leBytes 8 d.serviceNow ++ leBytes 4 (d.g 0x1018 4) ++ leBytes 4 0 ++
  (List.range 14).flatMap (fun i => (List.range 255).flatMap (fun s => match rowOf d.product (0x2E00 + i) (s + 1) with
    | some r => leBytes r.ty.size ((d.viewNat x (0x2E00 + i) (s + 1) false).getD 0)
    | none => []))

/-- A DOMAIN object as it reads (R34, R495). -/
def viewDom (d : Dev) (x : Sess) (idx : Nat) (staged : Bool) : Bytes :=
  if ofContext idx then
    (if (d.ctx x.window).code == 1 && !staged then ({ d with ctxs := [] } : Dev).cdom x.window idx else d.cdom x.window idx)
  else if idx == 0x2E10 then d.tallyExport x
  else if decide (0x6310 ≤ idx ∧ idx < 0x6320) then d.cmpStatusBytes (idx - 0x6310)
  else match if staged then d.dict.stagedDoms.find? idx else none with
    | some b => b
    | none => match d.dict.doms.find? idx with
      | some b => b
      | none => d.domDefault idx

/-- The row that stands for subindex 0 of an index whose objects begin at subindex 1 (R31). -/
def countRow (idx : Nat) : ObjRow := ⟨idx, 0, 1, 0, 0, .u 1, .ro, 0, .none, .any⟩

/-- The checks of every access, in this order: the index, the subindex, the state, the context window (R33, R72, R407,
R456, R464, R494). -/
def access (d : Dev) (x : Sess) (idx sub : Nat) : Except Nat ObjRow :=
  let rows := rowsOf d.product idx
  let row := match rows.find? (fun r => r.hasSub sub) with
    | some r => some r
    | none => if sub == 0 then some (countRow idx) else none
  if rows.isEmpty then .error 0x06020000
  else match row with
    | none => .error 0x06090011
    | some r =>
      if d.gated idx || !d.served x idx then .error 0x08000022
      else if ofContext idx && decide (127 < x.window) then .error 0x0F000014
      else .ok r

/-- A read of an object: the device after it and the bytes, or the abort code (R33, R34, R98, R346, R422). -/
def readObj (d : Dev) (x : Sess) (idx sub : Nat) (staged : Bool) : Dev × Except Nat Bytes :=
  match d.access x idx sub with
  | .error e => (d, .error e)
  | .ok r =>
    if r.acc == .wo then (d, .error 0x06010001)
    else if (rowsOf d.product idx).all (fun q => !q.hasSub sub) then
      (d, .ok [byte (((rowsOf d.product idx).map (fun q => q.hi)).foldl max 0)])
    else if r.ty == .dom then (d, .ok (d.viewDom x idx staged))
    else if decide (0x2428 ≤ idx ∧ idx < 0x2430) && sub == 3 then
      let (d, b) := d.popCapture (idx - 0x2428)
      (d, .ok b)
    else match d.viewNat x idx sub staged with
      | none => (d, .error 0x08000024)
      | some v => (if decide (0x3030 ≤ idx ∧ idx ≤ 0x303F) && sub == 6 then d.drew else d, .ok (leBytes r.ty.size v))

end Dev

end Sys2Proof.Machine
end

