-- ==== Sys2Proof/Machine/Checks.lean ====
section
/-! DEFINITION. The checks a write meets before anything else looks at its value: access, length and the value on its own
(R10, R32, R33, R65, R502), and the lengths of the DOMAIN tables. -/
namespace Sys2Proof.Machine

open Sys2Proof

/-- The number a scalar's value stands for. -/
def Ty.value : Ty → Nat → Int
  | .i n, v => toSigned (8 * n) v
  | _, v => v

/-- The condition of an object's row on a value: 0, or the abort code (R33, R65, R502). -/
def rangeCode (r : ObjRow) (v : Nat) : Nat :=
  let x := r.ty.value v
  let bad (b : Bool) : Nat := if b then 0x06090030 else 0
  match r.ty with
  | .bool => bad (decide (1 < v))
  | _ =>
    match r.rng with
    | .any => 0
    | .sp => 0
    | .nz => bad (v == 0)
    | .rg lo hi => bad (!decide (lo ≤ x ∧ x ≤ hi))
    | .rgz lo hi => bad (!(v == 0 || decide (lo ≤ x ∧ x ≤ hi)))
    | .rgf lo hi => bad (!(v == 0xFF || decide (lo ≤ x ∧ x ≤ hi)))
    | .one l => bad (!l.contains v)
    | .mask m => bad (v &&& m != v)
    | .ge lo => if v == 0 then 0x06090030 else if decide (x < lo) then 0x06090032 else 0
    | .le hi => if v == 0 then 0x06090030 else if decide (hi < x) then 0x06090031 else 0

/-- A power of two from 4 to 1,024 (R185). -/
def factorOk (v : Nat) : Bool := [4, 8, 16, 32, 64, 128, 256, 512, 1024].contains v

/-- Conditions of a single object beyond its row (R4, R66, R176, R185, R344, R502, Tables 7.6, 8.4, 6.6). -/
def ownCode (product idx sub v : Nat) : Nat :=
  let bad (b : Bool) : Nat := if b then 0x06090030 else 0
  match idx, sub with
  | 0x1430, 1 => bad (!(v == 0 || (decide (250 ≤ v ∧ v ≤ 100000) && v % 50 == 0)))
  | 0x2C00, 1 => bad (decide (2 < v) || (product == 0x2204 && v != 0))
  | 0x2020, k => bad (decide (13 ≤ k ∧ k ≤ 15))
  | 0x3210, k => bad (product == 0x2204 && decide (5 ≤ k) && v != 0)
  | _, _ =>
    if decide (0x3000 ≤ idx ∧ idx < 0x3004) && sub == 2 then bad (decide (1 < v) || (decide (0x3002 ≤ idx) && v != 0))
    else if decide (0x3000 ≤ idx ∧ idx < 0x3004) && sub == 0xF then bad (!factorOk v)
    else if decide (0x5000 ≤ idx ∧ idx < 0x5800) && idx % 256 == 0x10 then bad (decide (64 ≤ v ∨ 5 < v % 8))
    else if decide (0x2410 ≤ idx ∧ idx < 0x2414) && sub == 4 then bad (decide (0 < v ∧ v < 200))
    else 0

/-- ASCII 0x20 to 0x7E (Table 2.1). -/
def printable (b : Bytes) : Bool := b.all (fun c => decide (0x20 ≤ c.toNat ∧ c.toNat ≤ 0x7E))

/-- Every piece of `k` bytes of a table satisfies `p`. -/
def eachOf (k : Nat) (p : Bytes → Bool) (b : Bytes) : Bool := (List.range (b.length / k)).all (fun i => p (slice b (k * i) k))

/-- What the table or the rule asks of an OCTET_STRING: a DOMAIN load names a table and has its reserved bytes zero (R127);
the visual weights sum to 4,096 (R295). -/
def octOk (idx sub : Nat) (b : Bytes) : Bool :=
  if idx == 0x2A06 then slice b 2 2 == [0, 0] && leNat (b.take 2) != 0
  else if decide (0x3808 ≤ idx ∧ idx < 0x380E) && sub == 8 then
    leNat (slice b 0 2) + leNat (slice b 2 2) + leNat (slice b 4 2) == 4096
  else true

/-- What the table or the rule asks of a DOMAIN's entries: an image header's reserved bytes (Table 20.6), a tile curve that
does not fall (R160), a compare entry's reserved bits and bytes (Tables 7.1, 7.2), a CCI write's length and reserved byte
(R290), all under R10 and R502. -/
def domOk (idx : Nat) (b : Bytes) : Bool :=
  if idx == 0x2108 then ((b.drop 32).take 32 ++ (b.drop 192).take 64).all (fun x => x == 0)
  else if idx / 8 * 8 == 0x6210 then
    eachOf 66 (fun t => (List.range 32).all (fun k => decide (leNat (slice t (2 * k) 2) ≤ leNat (slice t (2 * k + 2) 2)))) b
  else if idx / 256 == 0x63 then eachOf 16 (fun e => decide (leNat (slice e 10 1) < 4) && (e.drop 11).all (fun x => x == 0)) b
  else if decide (0x6420 ≤ idx ∧ idx < 0x6426) then
    eachOf 8 (fun e => decide (1 ≤ leNat (slice e 2 1) ∧ leNat (slice e 2 1) ≤ 4) && leNat (slice e 3 1) == 0) b
  else true

/-- The value check of a write of `b` to an object (R502). -/
def valueCode (product idx sub : Nat) (r : ObjRow) (b : Bytes) : Nat :=
  let v := leNat b
  match r.ty with
  | .vis _ => if printable b then 0 else 0x06090030
  | .oct _ => if octOk idx sub b then 0 else 0x06090030
  | .dom => if domOk idx b then 0 else 0x06090030
  | _ => match rangeCode r v with
    | 0 => ownCode product idx sub v
    | e => e

/-- Bytes of one tile in a per-tile table (Table 6.7); 0 for the others. -/
def tileBytes (idx : Nat) : Nat :=
  match idx / 8 * 8 with
  | 0x6200 => 10240
  | 0x6208 => 10240
  | 0x6210 => 66
  | 0x6218 => 320
  | 0x6220 => 320
  | 0x6228 => 5120
  | _ => 0

/-- A length that a DOMAIN table takes (R32; Tables 5.9, 6.7, 7.11, 11.8, 13.1, 20.10). The tables of a context and of a bar's
group take any length: arm and commit judge it (Tables 5.4 and 6.4, R157, R321). -/
def domLength (idx n : Nat) : Bool :=
  let page := idx / 256
  if idx == 0x2108 then decide (0 < n ∧ n ≤ 16777216)
  else if page == 0x63 then n == 16384
  else if page == 0x65 then n == 130
  else if page == 0x64 then
    (if decide (idx < 0x6408) then decide (n % 4 = 0 ∧ n ≤ 16384)
     else if decide (idx < 0x6410) then n == 4488
     else if decide (idx < 0x6420) then n == 2050
     else decide (n % 8 = 0 ∧ n ≤ 512))
  else true

/-- A length that an object of a row takes (R32). -/
def lengthOk (idx : Nat) (r : ObjRow) (n : Nat) : Bool := if r.ty == .dom then domLength idx n else n == r.ty.size

namespace Dev

/-- The checks of a write up to its length: the row, or the abort code (R32, R33, R47). -/
def writable (d : Dev) (x : Sess) (idx sub n : Nat) : Except Nat ObjRow :=
  match d.access x idx sub with
  | .error e => .error e
  | .ok r =>
    if r.acc == .ro then .error 0x06010002
    else if idx == 0x1450 && x.via != 3 then .error 0x0F000015
    else if !lengthOk idx r n then .error 0x06070010
    else .ok r

end Dev

end Sys2Proof.Machine
end

