-- ==== Sys2Proof/Machine/Commit.lean ====
section
/-! DEFINITION. Consistency groups: staging, the cross-field rules that a commit checks over the committed and staged values
together, and what a commit sets in motion (R60 to R64, R159, R173, R175, R176, R195, R203, R220, R221, R245, R289, R293,
R295, R321, R327, R332, R348, R375, R388, R400, R438). A failing rule names the first object that enters it. -/
namespace Sys2Proof.Machine

open Sys2Proof

/-- The samples of a table rise or stay from one to the next, as 64-bit values read by `v`. -/
def rising (v : Nat → Int) (n : Nat) : Bool := (List.range (n - 1)).all (fun i => decide (v i ≤ v (i + 1)))

namespace Dev

/-- Staged values of a group. -/
def stagedOf (d : Dev) (gg : Nat) : Table Nat := d.dict.staged.keep (fun k _ => groupOf (k / 256) == some gg)

/-- Staged tables of a group. -/
def stagedTabs (d : Dev) (gg : Nat) : Table Bytes := d.dict.stagedDoms.keep (fun i _ => groupOf i == some gg)

/-- The device with a group's staged values in place of its committed ones. -/
def merged (d : Dev) (gg : Nat) : Dev :=
  let d1 := (d.stagedOf gg).foldl (fun d x => d.put (x.1 / 256) (x.1 % 256) x.2) d
  (d.stagedTabs gg).foldl (fun d x => d.putDom x.1 x.2) d1

/-- Objects among `ks` that the commit changes fail with `code`. -/
def changes? (d e : Dev) (ks : List (Nat × Nat)) (code : Nat) : List Fail :=
  ks.flatMap (fun x => failIf (d.g x.1 x.2 != e.g x.1 x.2) (key x.1 x.2) code)

/-- The Armed, Live and Retiring contexts that enable Bn (R159). -/
def holders (d : Dev) (n : Nat) : List Nat :=
  d.ctxs.keysWhere (fun c x => decide (4 ≤ x.code ∧ x.code ≤ 6) && bit (d.cg c 0x4000 2) n)

/-- Placements of a context beyond P columns at Bn, each named by its first object. -/
def extents (d : Dev) (c p : Nat) : List Fail :=
  let pw := (d.planeSize c p).1
  (List.range (d.cg c 0x4003 5)).flatMap (fun l =>
    failIf (decide (p < d.cg c (0x4030 + l) 4 + d.cg c (0x4030 + l) 6)) (key (0x4030 + l) 4) 0x0F00002C) ++
  ((List.range 16).filter (fun s => bit (d.cg c 0x4003 4) s)).flatMap (fun s =>
    failIf (decide (pw < d.cg c (0x4020 + s) 3 + d.cg c (0x4020 + s) 5)) (key 0x4003 2) 0x0F00002C)

/-- Tiles that a per-tile table of Bn holds: those written, or the committed T of `d` for one at its default. -/
def tilesHeld (d e : Dev) (n idx : Nat) : Option Nat :=
  match e.dict.doms.find? (idx + n) with
  | some b => if b.length % tileBytes idx == 0 then some (b.length / tileBytes idx) else none
  | none => some (d.gb n 0x5003 1)

/-- Geometry, per-tile tables and leads of Bn (R99, R159, R221). -/
def failsGeometry (d e : Dev) (n : Nat) : List Fail :=
  let o := 0x100 * n
  let t := e.gb n 0x5003 1
  let m := e.gb n 0x5003 2
  let w := e.gb n 0x5003 3
  let p := e.columns n
  failIf (decide (e.gb n 0x5001 1 < e.gb n 0x5001 2)) (key (0x5001 + o) 1) 0x0F000027 ++
  failIf (decide (min 128 (m / 2) < w)) (key (0x5003 + o) 2) 0x0F00002C ++
  failIf (decide (106496 < p)) (key (0x5003 + o) 1) 0x0F00002C ++ (d.holders n).flatMap (fun c => d.extents c p) ++
  failIf ([0x6200, 0x6210, 0x6218, 0x6228].any (fun i => tilesHeld d e n i != some t)) (key (0x5003 + o) 1) 0x0F00002D ++
  failIf (decide (e.gb n 0x5007 2 < e.gb n 0x5007 1)) (key (0x5007 + o) 1) 0x0F000036

/-- The remap table of Bn, where one has been written (R173, R175, R221). -/
def failsRemap (d e : Dev) (n : Nat) : List Fail :=
  match e.dict.doms.find? (0x6228 + n) with
  | none => []
  | some b =>
    let es := u16s b
    let m := e.gb n 0x5003 2
    -- Entries that print: below N and not ABSENT (R173).
    let used := (List.range (es.length / 2560)).flatMap (fun t => ((es.drop (2560 * t)).take m).filter (fun x => bits x 11 0 != 0xFFF))
    let top := (used.map (fun x => bits x 15 12)).foldl max 0
    let twice := (List.range (es.length / 2560)).any (fun t =>
      !decide ((((es.drop (2560 * t)).take m).map (fun x => bits x 11 0)).filter (fun x => x != 0xFFF)).Nodup)
    let odd := used.any (fun x => bits x 15 12 % 2 == 1)
    failIf (es.any (fun x => decide (2560 ≤ bits x 11 0 ∧ bits x 11 0 ≤ 4094))) (key (0x6228 + n) 0) 0x0F00002E ++
    failIf twice (key (0x5003 + 0x100 * n) 2) 0x0F00002E ++
    failIf (decide (64 < e.gb n 0x5001 1 + top)) (key (0x5001 + 0x100 * n) 1) 0x0F00002F ++
    failIf (odd && (d.holders n).any (fun c => d.cg c (0x4050 + n) 3 != 0xFF)) (key (0x6228 + n) 0) 0x0F000037

/-- Tile assignments of Bn (R176). -/
def failsTiles (e : Dev) (n : Nat) : List Fail :=
  let t := e.gb n 0x5003 1
  let a (i : Nat) : Nat := e.gb n 0x5010 (i + 1)
  (List.range t).flatMap (fun i =>
    let k := key (0x5010 + 0x100 * n) (i + 1)
    failIf (decide (5 < bits (a i) 2 0)) k 0x0F000030 ++
    failIf ((List.range t).any (fun j => decide (i < j) && a j == a i)) k 0x0F000030 ++
    failIf (!bit (e.g 0x3401 (n + 1)) (bits (a i) 5 3)) (key 0x3401 (n + 1)) 0x0F000030)

/-- Group 2 (R348). -/
def failsTime (e : Dev) : List Fail :=
  (List.range 2).flatMap (fun k => failIf (e.g (0x2400 + k) 1 == 1 && e.g (0x2400 + k) 2 == 0) (key (0x2400 + k) 1) 0x0F000058) ++
  failIf (e.g 0x2400 3 == e.g 0x2401 3 && (e.g 0x2400 2 &&& e.g 0x2401 2) != 0) (key 0x2400 2) 0x0F000058 ++
  (List.range 8).flatMap (fun k =>
    let p := e.g (0x2410 + k) 4
    failIf (p != 0 && (decide (p < 200) || decide (p ≤ e.g (0x2410 + k) 5))) (key (0x2410 + k) 4) 0x0F000059)

/-- Group 3 (R438). -/
def failsThermal (e : Dev) : List Fail :=
  ((List.range 33).filter (fun s => decide (3 ≤ s))).flatMap (fun s =>
    let hi := e.gi 16 0x2600 s
    failIf (decide (1200 < hi) || decide (hi - 100 < e.gi 16 0x2601 s)) (key 0x2600 s) 0x0F000071)

/-- Group 4 (R375): the fitted capacity follows from 0x2800:03 to 0x2800:05. -/
def failsScrub (e : Dev) : List Fail :=
  failIf (e.g 0x2804 2 != 0 && decide (e.g 0x2804 2 * e.g 0x2804 1 * 100000000 < e.fitted)) (key 0x2800 3) 0x0F000060

/-- Group 6 (R400). -/
def failsPair (d e : Dev) : List Fail :=
  (if d.paired && d.printingLike then changes? d e [(0x2C00, 1), (0x2C00, 2), (0x2C00, 7)] 0x0F000068 else []) ++
  failIf (e.g 0x2C00 1 != 0 && ((e.g 0x2C00 3 == 0 && e.g 0x2C00 4 == 0) || e.g 0x2C00 7 == 0)) (key 0x2C00 1) 0x0F000069

/-- The compare list of unit u (R195, Tables 7.1, 7.2). -/
def failsList (e : Dev) (u : Nat) : List Fail :=
  let o := 0x3020 + u
  let b := e.dom [] (0x6300 + u)
  let n := e.g o 2
  let signed := e.g o 1 == 0 && e.g o 3 == 1
  let at_ (i : Nat) : Int := let v := leNat (slice b (16 * i) 8); if signed then toSigned 64 v else v
  failIf (e.g o 1 == 1 && e.g o 3 == 1) (key o 1) 0x0F000031 ++
  failIf (!rising at_ n) (key o 2) 0x0F000031 ++
  failIf ((List.range n).any (fun i => leNat (slice b (16 * i + 8) 2) == 0 || decide (4 ≤ leNat (slice b (16 * i + 10) 6))))
    (key o 2) 0x0F000031

/-- Group 7 (R195, R203). -/
def failsMotion (d e : Dev) : List Fail :=
  (List.range 16).flatMap (failsList e) ++
  (if d.printingLike then changes? d e ([1, 2, 4, 0xF].map (fun s => (0x3000 + d.web, s)) ++ [(0x3040, 1), (0x3040, 2), (0x3040, 3)]) 0x0F000032
   else []) ++
  failIf (decide (e.g 0x3040 4 < 96 * 65536)) (key 0x3040 4) 0x0F000033

/-- Group 8 (R220). -/
def failsReckoner (d e : Dev) : List Fail :=
  (if d.printingLike then changes? d e ([(0x3200, 1), (0x3200, 2), (0x3200, 3)] ++ (List.range 7).map (fun i => (0x3210, i + 2))) 0x0F000034
   else []) ++
  ((List.range d.nbars).filter (fun n => decide (2 ≤ n))).flatMap (fun n => failIf (decide (e.g 0x3210 (n + 1) < e.g 0x3210 n)) (key 0x3210 n) 0x0F000035)

/-- Group 9 (R245). -/
def failsLanes (d e : Dev) : List Fail :=
  (if d.printingLike then
    changes? d e ([(0x3400, 1), (0x3400, 2)] ++ (List.range 8).flatMap (fun n => [(0x3401, n + 1), (0x3402, n + 1)])) 0x0F000039
   else []) ++
  (d.barList.filter (fun n => !(d.holders n).isEmpty)).flatMap (fun n =>
    let lost (l : Nat) : Bool := bit (d.g 0x3401 (n + 1)) l && !bit (e.g 0x3401 (n + 1)) l
    failIf ((List.range (d.gb n 0x5003 1)).any (fun t => lost (bits (d.gb n 0x5010 (t + 1)) 5 3))) (key 0x3401 (n + 1)) 0x0F000038)

/-- Frame-boundary objects of camera c (R289). -/
def camObjects (c : Nat) : List (Nat × Nat) :=
  [4, 5, 6, 7, 8, 9, 0xF].map (fun s => (0x3800 + c, s)) ++ [1, 2, 3, 4, 5, 6, 7, 8].map (fun s => (0x3808 + c, s))

/-- Tables of camera c, the density tables among them (R289). -/
def camTables (c : Nat) : List Nat := [0x6400 + c, 0x6408 + c, 0x6420 + c] ++ (List.range 16).map (fun i => 0x6410 + i)

/-- The commit creates a generation of camera c: the port stays enabled and a frame-boundary value or table of it changes. -/
def newGen? (d e : Dev) (c : Nat) : List Nat :=
  if d.g (0x3800 + c) 1 == 1 && e.g (0x3800 + c) 1 == 1 then
    ((camObjects c).filter (fun x => d.g x.1 x.2 != e.g x.1 x.2)).map (fun x => key x.1 x.2) ++
    ((camTables c).filter (fun i => d.dict.doms.find? i != e.dict.doms.find? i)).map (fun i => key i 0)
  else []

/-- Group 10 (R283, R293, R295). -/
def failsCameras (d e : Dev) : List Fail :=
  (List.range 6).flatMap (fun c =>
    let o := 0x3800 + c
    let ch := newGen? d e c
    let list := e.dom [] (0x6400 + c)
    let entry (i : Nat) : Int := (leNat (slice list (4 * i) 4) : Nat)
    let weights := e.g (0x3808 + c) 8
    (if (d.cam c).pending != 0 && !ch.isEmpty then (key (0x3820 + c) 4 :: ch).map (fun k => (k, 0x0F000041)) else []) ++
    (if d.g o 1 == 1 && e.g o 1 == 1 then changes? d e [(o, 2), (o, 3), (o, 0xD), (o, 0xE)] 0x0F000042 else []) ++
    failIf (e.g o 5 != 0x24 && (e.g o 7 % 2 == 1 || e.g o 8 % 2 == 1)) (key o 5) 0x0F000040 ++
    failIf (!rising entry (list.length / 4)) (key (0x6400 + c) 0) 0x0F000040 ++
    failIf (weights % 65536 + weights / 65536 % 65536 + weights / 4294967296 != 4096) (key (0x3808 + c) 8) 0x0F000040)

/-- Group 11 (R321). -/
def failsCensus (e : Dev) : List Fail :=
  (List.range 8).flatMap (fun n =>
    let o := 0x3A20 + n
    failIf (decide (48 < e.g o 2)) (key o 2) 0x0F000048 ++
    failIf (decide (e.g o 4 ≤ e.g o 3) || decide (100000 < e.g o 4 - e.g o 3)) (key o 3) 0x0F000048 ++
    failIf (decide (7 < e.g o 5)) (key o 5) 0x0F000048)

/-- Group 12 (R327, R332). -/
def failsLight (d e : Dev) : List Fail :=
  let of (i m : Nat) : Bool := e.g 0x3C00 (i + 1) == m && decide (e.g 0x3C03 (i + 1) < 8)
  let with_ (i m : Nat) : Bool := (List.range 48).any (fun j => of j m && e.g 0x3C03 (j + 1) == e.g 0x3C03 (i + 1))
  (List.range 48).flatMap (fun i =>
    failIf ((of i 1 && with_ i 2) || (of i 2 && with_ i 1)) (key 0x3C00 (i + 1)) 0x0F000050 ++
    (match e.g 0x3C01 (i + 1), e.dict.doms.find? (0x6500 + i) with
     | 3, some b => failIf (u16 b 0 != 0 || b.length != 130 || !nonDecreasing (u16s b)) (key 0x3C01 (i + 1)) 0x0F000051
     | _, _ => [])) ++
  failIf (d.g 0x3C04 0 != e.g 0x3C04 0 && (d.printingLike || d.light.uvLatched)) (key 0x3C04 0) 0x0F000050

/-- Every rule that a commit of group gg fails: `d` as committed, `e` with the staged values. -/
def groupFails (d e : Dev) (gg : Nat) : List Fail :=
  match gg with
  | 2 => failsTime e
  | 3 => failsThermal e
  | 4 => failsScrub e
  | 6 => failsPair d e
  | 7 => failsMotion d e
  | 8 => failsReckoner d e
  | 9 => failsLanes d e
  | 10 => failsCameras d e
  | 11 => failsCensus e
  | 12 => failsLight d e
  | _ => if decide (16 ≤ gg ∧ gg < 16 + d.nbars) then
      failsGeometry d e (gg - 16) ++ failsRemap d e (gg - 16) ++ failsTiles e (gg - 16) else []

/-- Group 1 takes effect: process data turned on begins its supervision anew (R66, R68). -/
def commitPorts (d e : Dev) : Dev :=
  if d.g 0x1430 1 == 0 && e.g 0x1430 1 != 0 then { e with com := { e.com with pd := { e.com.pd with supervised := false, lost := false } } }
  else e

/-- Group 2 takes effect: domains listen or stop, timed outputs are set anew (R339, R345). -/
def commitTime (d : Dev) : Dev :=
  -- The carried offset so far is fixed under the slew limit that applied to it (R342).
  let f := d.time.inForce
  let d := if f == 2 then d else d.setPtp f { d.ptp f with carried := d.carriedAt d.t }
  let d := { d with time := { d.time with slewAt := d.t } }
  let e := d.merged 2
  let e := (List.range 2).foldl (fun e k =>
    if d.ptpOn k == e.ptpOn k then e else e.put (0x2404 + k) 1 (if e.ptpOn k then 1 else 0)) e
  let ks := (d.stagedOf 2).map (fun x => x.1 / 256)
  ((List.range 8).filter (fun k => ks.contains (0x2410 + k) && e.fast)).foldl commitTout e

/-- The device leaves its pair: solo, with the link to be formed again (DESIGN CHOICE, log 32). -/
def leavePair (d : Dev) : Dev :=
  let d := (d.put 0x2C08 1 0).put 0x2C08 2 0
  { d with twin := { d.twin with linked := false, unacked := [], pledges := [], partner := none, retryForm := false, fetches := [], aligned := false } }

/-- Group 6 takes effect: a new mode or position leaves the pair, and twin lanes in use step up for a pair mode (R230, R384). -/
def commitPair (d e : Dev) : Dev :=
  let other := d.g 0x2C00 1 != e.g 0x2C00 1 || d.g 0x2C00 2 != e.g 0x2C00 2
  let e := if other then e.leavePair else e
  if e.g 0x2C00 1 == 0 || !e.fast then e
  else
    let e := ((List.range 8).filter (fun i => bit (e.g 0x2C00 7) i)).foldl (fun e i => e.stepUp (73 + i)) e
    if e.twinUp.isEmpty then e.linkLost else e.linkUp

/-- Group 7 takes effect: compare lists are tested anew, and a trim whose correction is off returns to 0 (R189, R198). -/
def commitMotion (d e : Dev) : Dev :=
  let ks := (d.stagedOf 7).map (fun x => x.1 / 256) ++ (d.stagedTabs 7).map (fun x => x.1)
  let e := (List.range 4).foldl (fun e c => if e.g (0x3000 + c) 0xA == 0 && e.gi 32 (0x3008 + c) 9 != 0 then e.setTrim c 0 else e) e
  ((List.range 16).filter (fun u => ks.contains (0x3020 + u) || ks.contains (0x6300 + u))).foldl commitCompare e

/-- Group 8 takes effect: the Reckoner re-anchors for a new ratio or channel (R205); a new channel's counter starts its highest value
anew (R207; DESIGN CHOICE, log 109). -/
def commitReckoner (d e : Dev) : Dev :=
  if [1, 2, 3].any (fun s => d.g 0x3200 s != e.g 0x3200 s) then
    let e := e.reAnchor
    if d.web == e.web then e else { e with reck := { e.reck with maxC := (e.enc e.web).count } }
  else e

/-- Group 10 takes effect: ports open or close, and generations form (R289, R293, R294). -/
def commitCameras (d e : Dev) : Dev :=
  (List.range 6).foldl (fun x c =>
    let was := d.g (0x3800 + c) 1 == 1
    let now_ := e.g (0x3800 + c) 1 == 1
    if !x.fast then x
    else if !was && now_ then
      let y := x.firstGen c
      y.setCam c { y.cam c with frames := (x.cam c).frames, corrected := (x.cam c).corrected }
    else if was && !now_ then
      ((x.setCam c { frames := (x.cam c).frames, corrected := (x.cam c).corrected }).put (0x3820 + c) 1 0).put (0x3820 + c) 4 0
    else if (newGen? d e c).isEmpty then x else x.newGen c) e

/-- Objects of group 4 that act at the next boot, as NV records (R375). -/
def bootRecords (d e : Dev) : List NvRec :=
  ([1, 2, 3, 4, 5].filter (fun s => d.g 0x2800 s != e.g 0x2800 s)).map (fun s => { kind := 10, obj := key 0x2800 s, val := e.g 0x2800 s })

/-- Staged values of Bn are committed to act from repeat `upto`, or at once (R62). -/
def commitLive (d : Dev) (n : Nat) (upto : Option Nat) (reach : Nat := 0) : Dev :=
  let vs := d.stagedOf (16 + n)
  let ts := d.stagedTabs (16 + n)
  let ks := vs.map (fun x => x.1) ++ ts.map (fun x => key x.1 0)
  match upto with
  | some u => d.merged (16 + n) |> fun e => { e with dict := { e.dict with held := (ks.foldl (fun d k => d.holdOld n k u reach) d).dict.held } }
  | none =>
    let hs := (d.dict.held.get [] n).filter (fun h => !ks.contains h.key)
    let old := ks.map (fun k => ({ key := k, upto := 0, val := d.g (k / 256) (k % 256), dom := d.dict.doms.find? (k / 256) } : Held))
    (({ d with dict := { d.dict with held := d.dict.held.set n hs } } : Dev).merged (16 + n)).tablesMoved n (2 ^ 64) d.print.nextNum old

/-- EV_LINK_MODULE where the commit has assigned a tile of Bn to a slot its module does not hold; `e` is the device after it (R249). -/
def slotsAssigned (d e : Dev) (n : Nat) : Dev :=
  let bad (s : Nat) : Bool := e.g 0x3420 s != 0 && (match e.logicalOf s with
    | some l => (e.badTiles n l (bits (e.g 0x3420 s) 29 24)).any (fun t => d.gb n 0x5010 (t + 1) != e.gb n 0x5010 (t + 1) || decide (d.gb n 0x5003 1 ≤ t))
    | none => false)
  if e.headLanes.any (fun s => laneBar s == n && bad s) then e.raise 53 (2 ^ n) else e

/-- Group 16 + n takes effect: at once, or while Printing at a boundary that the active device fixes and mirrors in a pair
(R62, R388). -/
def commitSets (d : Dev) (n : Nat) : Dev :=
  -- While the bars print their last repeats the new values wait for the end, so that no repeat changes part-way (R20).
  if d.phase == .stopping then d.commitLive n (some (2 ^ 60))
  else if d.phase != .printing then d.commitLive n none
  else if d.role == 2 then
    let d := d.commitLive n (some (2 ^ 60))
    match d.twin.digests.find? (16 + n) with
    | some (rep, crc) => if crc == d.digestOf n && decide (d.barRep n < rep) then d.moveSets n (2 ^ 60) rep else d
    | none => d
  else if d.role == 1 && d.twin.linked && d.twin.partner.isSome then
    let k := max (d.liveRep n) (d.nextMet d.nextNum 1)
    ((d.commitLive n (some k)).sendDigest n k).mirror { kind := 12, barMask := 2 ^ n, repeatNo := k, line := 0, value := 0 }
  else d.commitLive n (some (if d.print.sheetStart then d.print.nextNum else d.liveRep n)) (500 * d.posn + d.margin500)

/-- Group 16 + n commits, and what its new tile assignments call for (R62, R249). -/
def commitBar (d : Dev) (n : Nat) : Dev := slotsAssigned d (d.commitSets n) n

/-- A commit that has passed its rules takes effect; the answer is BUSY where it writes NV (R60, R375). -/
def commitEffect (d : Dev) (sess gg : Nat) : Dev × Nat :=
  let e := d.merged gg
  match gg with
  | 1 => (commitPorts d e, 0)
  | 2 => (d.commitTime, 0)
  | 4 => match bootRecords d e with
    | [] => (e, 0)
    | rs => (e.nvOp sess rs).started
  | 6 => (commitPair d e, 0)
  | 7 => (commitMotion d e, 0)
  | 8 => (commitReckoner d e, 0)
  | 10 => (commitCameras d e, 0)
  | 11 =>
    let r : NvRec := { kind := 10, obj := key 0x3A00 0xC, val := e.g 0x3A00 0xC }
    (if d.g 0x3A00 0xC == e.g 0x3A00 0xC then e else e.saveNv r, 0)
  | _ => (if decide (16 ≤ gg) then d.commitBar (gg - 16) else e, 0)

/-- Another session owns the group (R61). -/
def ownedByOther (d : Dev) (sess gg : Nat) : Bool := match d.dict.owners.find? gg with
  | some o => o != sess
  | none => false

/-- A commit of group gg (R60, R61). -/
def writeCommit (d : Dev) (sess gg : Nat) : Dev × Nat :=
  if d.commitGated gg then (d, 0x08000022)
  else if d.ownedByOther sess gg then (d, 0x0F000013)
  else match firstFail (groupFails d (d.merged gg) gg) with
    | some (k, code) => (((d.put 0x2021 1 gg).put 0x2021 2 k).put 0x2021 3 code, 0x0F000012)
    | none =>
      let (d, code) := d.commitEffect sess gg
      (d.dropStaged gg, code)

/-- A discard of group gg's staged values (R60, R61). -/
def writeDrop (d : Dev) (sess gg : Nat) : Dev × Nat :=
  if d.ownedByOther sess gg then (d, 0x0F000013) else (d.dropStaged gg, 0)

/-- A write of 0x2020 (R60, R72). -/
def writeGroup (d : Dev) (sess gg v : Nat) : Dev × Nat :=
  if gg == 0 || decide (23 < gg) then (d, 0x06090011)
  else if decide (13 ≤ gg ∧ gg ≤ 15) || !(v == 1 || v == 2) then (d, 0x06090030)
  else if v == 1 then d.writeCommit sess gg else d.writeDrop sess gg

end Dev

/-- GROUP_COMMIT (R60). -/
def execGroupCommit (sess gg : Nat) (s : State) : Host.Outcome State Fault Refusal :=
  s.hostWrite sess 0x2020 (fun d => d.writeGroup sess gg 1)

/-- GROUP_DISCARD (R60). -/
def execGroupDiscard (sess gg : Nat) (s : State) : Host.Outcome State Fault Refusal :=
  s.hostWrite sess 0x2020 (fun d => d.writeGroup sess gg 2)

end Sys2Proof.Machine
end

