-- ==== Sys2Proof/Machine/Write.lean ====
section
/-! DEFINITION. One write of one object: the device commands, the commands of the other chapters, context objects, staged
and immediate objects, and the DOMAIN load (R33, R47, R60, R61, R63, R72, R75, R98, R127, R422, R457). -/
namespace Sys2Proof.Machine

open Sys2Proof

namespace Dev

/-- Device command of Table 20.5. REBOOT acts once its response has been sent (R467): here only its answer. -/
def writeCommand (d : Dev) (sess v : Nat) : Dev × Nat :=
  match v with
  | 0 => (d, 0)
  | 1 => d.writeWake
  | 2 => d.writeSleep
  | 3 => d.writePrepare
  | 4 => d.writeRelax
  | 5 => d.writeStart
  | 6 => d.writeStop
  | 7 => d.writeStopNow
  | 8 => d.writeClearFault
  | 9 => d.writeWarmRestart
  | 10 => (d, if d.tooHot then 0x08000022 else 0)
  | 11 => d.writeSaveConfig sess
  | _ => (d, 0x06090030)

/-- A write of a key slot over USB; 32 zero bytes empty it (R47). -/
def writeKey (d : Dev) (slot v : Nat) : Dev × Nat := ((d.put 0x1450 slot v).raise 122 0 (slot - 1) (if v == 0 then 0 else 1), 0)

/-- The context window of the session set (R72). -/
def writeWindow (d : Dev) (x : Sess) (v : Nat) : Dev × Nat :=
  match d.slotOf x.id with
  | some k => ({ d with com := { d.com with sess := d.com.sess.set k { x with window := v } } }, 0)
  | none => (d, 0)

/-- A ledger record is selected where it is retained (R98). -/
def writeLedger (d : Dev) (rep : Nat) : Dev × Nat :=
  if d.retained.any (fun r => r.num == rep) then (d.put 0x2040 1 rep, 0) else (d, 0x08000024)

/-- A log record is selected where it is retained (R422). -/
def writeLog (d : Dev) (n : Nat) : Dev × Nat := if (d.logRecord n).isSome then (d.put 0x2206 1 n, 0) else (d, 0x08000024)

/-- An object of chapter 20 that acts at the next boot goes to NV on its write (R465). -/
def writeBoot (d : Dev) (sess v : Nat) : Dev × Nat :=
  ((d.put 0x2100 2 v).nvOp sess [{ kind := 10, obj := key 0x2100 2, val := v }]).started

/-- What a context accepts a write with: its new owner and code, or the abort code (R61, R75). -/
def stageCtx (d : Dev) (sess c : Nat) (f : Ctx → Ctx) : Dev × Nat :=
  let x := d.ctx c
  if x.code == 0 then (d.setCtx c (f { code := 1, owner := some sess }), 0)
  else if x.code != 1 then (d, 0x0F000017)
  else if x.owner != some sess then (d, 0x0F000013)
  else (d.setCtx c (f x), 0)

/-- A value is staged in its group, which the session then owns (R60, R61). -/
def stage (d : Dev) (sess gg : Nat) (f : Dict → Dict) : Dev × Nat :=
  if d.ownedByOther sess gg then (d, 0x0F000013)
  else ({ d with dict := { f d.dict with owners := d.dict.owners.set gg sess } }, 0)

/-- A write of a scalar whose value has passed its checks. -/
def writeScalar (d : Dev) (x : Sess) (r : ObjRow) (idx sub v : Nat) : Dev × Nat :=
  match idx with
  | 0x1450 => d.writeKey sub v
  | 0x2000 => d.writeCommand x.id v
  | 0x2010 => d.writeWindow x v
  | 0x2012 => d.writeCtxCommand x.id v
  | 0x2020 => d.writeGroup x.id sub v
  | 0x2040 => d.writeLedger v
  | 0x2204 => if sub == 1 then d.writeAlertClear v else d.writeTestEvent v
  | 0x2206 => d.writeLog v
  | 0x2702 => d.writeCalibration x.id v
  | 0x2C02 => d.writePair v
  | 0x2E0F => d.writeRequalify v
  | 0x3406 => d.writeLane v
  | 0x3A01 => d.writeTrimReset v
  | 0x3A29 => d.writeSweep x.id v
  | 0x3C20 => d.writeTarget (sub - 1) v
  | 0x3C22 => d.writeUvClear v
  | _ =>
    if idx == 0x2100 && sub == 2 then d.writeBoot x.id v
    else if ofContext idx then d.stageCtx x.id x.window (fun c => { c with val := c.val.set (key idx sub) v })
    else if r.acc == .wo then d.strobeClear ((idx - 0x5000) / 256) v
    else match r.acc, groupOf idx with
      | .rws, some gg => d.stage x.id gg (fun t => { t with staged := t.staged.set (key idx sub) v })
      | _, _ => (d.put idx sub v, 0)

/-- A write of a whole DOMAIN table (R52, R63, R466). -/
def writeDom (d : Dev) (x : Sess) (idx sub : Nat) (b : Bytes) : Dev × Nat :=
  if idx == 0x2108 then d.writeImage x.id (sub - 1) b
  else if ofContext idx then d.stageCtx x.id x.window (fun c => { c with dom := c.dom.set idx b })
  else match groupOf idx with
    | some gg => d.stage x.id gg (fun t => { t with stagedDoms := t.stagedDoms.set idx b })
    | none => (d.putDom idx b, 0)

/-- A write that a download or a DOMAIN load makes, with all its checks: 0, or the abort code. -/
def writeTable (d : Dev) (x : Sess) (idx sub : Nat) (b : Bytes) : Dev × Nat :=
  match d.writable x idx sub b.length with
  | .error e => (d, e)
  | .ok r => match valueCode d.product idx sub r b with
    | 0 => d.writeDom x idx sub b
    | e => (d, e)

/-- A DOMAIN load from a stored kind 3 frame (R127). An index that is no table does not exist as a target. -/
def loadTable (d : Dev) (x : Sess) (b : Bytes) : Dev × Nat :=
  let idx := leNat (b.take 2)
  match d.frameOk 3 (leNat (slice b 4 8)) with
  | none => (d, 0x0F00001F)
  | some f =>
    if (rowsOf d.product idx).any (fun r => r.ty == .dom && r.hasSub 0) then d.writeTable x idx 0 (f.data.take f.hdr.ulen)
    else (d, 0x06020000)

/-- A write of one object, with all its checks but that of 0x280E (R33, R502). -/
def write (d : Dev) (x : Sess) (idx sub : Nat) (b : Bytes) : Dev × Nat :=
  match d.writable x idx sub b.length with
  | .error e => (d, e)
  | .ok r => match valueCode d.product idx sub r b with
    | 0 =>
      if r.ty == .dom then d.writeDom x idx sub b
      else if idx == 0x2A06 then d.loadTable x b
      else d.writeScalar x r idx sub (leNat b)
    | e => (d, e)

/-- The write is REBOOT, and it is not refused: the device restarts once it has been answered (R467). -/
def reboots (idx sub : Nat) (b : Bytes) (code : Nat) : Bool := idx == 0x2000 && sub == 1 && leNat b == 10 && code == 0

end Dev

namespace State

/-- A write of one object. A remap command also moves its page (R366). -/
def write (s : State) (x : Sess) (idx sub : Nat) (b : Bytes) : State × Nat :=
  if idx == 0x280E then
    match s.dev.writable x idx sub b.length with
    | .error e => (s, e)
    | .ok _ => match s.dev.remapCheck (leNat b) with
      | 0 => (s.remap (leNat b), 0)
      | e => (s, e)
  else
    let (d, code) := s.dev.write x idx sub b
    ({ s with dev := d }, code)

/-- A host write given as a command of its own: its session, the BUSY rule, the write, its answer (R55). -/
def hostObject (s : State) (sess idx sub : Nat) (b : Bytes) : Host.Outcome State Fault Refusal :=
  let d := s.begin_
  match d.session? sess with
  | none => s.done d
  | some x =>
    if x.port != 0 || !d.serves x.via then s.done d
    else if d.com.op.isSome then s.done (d.emit (.answer sess 0x0F000010))
    else
      let (s, code) := ({ s with dev := d } : State).write x idx sub b
      let d := s.dev.emit (.answer sess code)
      if Dev.reboots idx sub b code then .next (s.restart d 3) else s.done d

end State

/-- OBJECT_WRITE: `data` written whole by a session (R33, R60). -/
def execObjectWrite (sess index sub : Nat) (data : Bytes) (s : State) : Host.Outcome State Fault Refusal :=
  s.hostObject sess index sub data

/-- STROBE_FAULT_CLEAR: 1 written to 0x5007:04 of the bar, which does not exist where the bar is absent (R2, R219). -/
def execStrobeFaultClear (sess : Nat) (bar : Fin 8) (s : State) : Host.Outcome State Fault Refusal :=
  s.hostObject sess (0x5007 + 0x100 * bar) 4 [1]

/-- FIRMWARE_UPDATE: an image downloaded into a slot (R466). -/
def execFirmwareUpdate (sess slot : Nat) (image : Bytes) (s : State) : Host.Outcome State Fault Refusal :=
  s.hostObject sess 0x2108 (slot + 1) image

/-- KEY_SLOT_WRITE (R47). -/
def execKeySlotWrite (sess : Nat) (slot : Fin 4) (key : Bytes) (s : State) : Host.Outcome State Fault Refusal :=
  s.hostObject sess 0x1450 (slot + 1) key

/-- LEDGER_SELECT (R98). -/
def execLedgerSelect (sess rep : Nat) (s : State) : Host.Outcome State Fault Refusal := s.hostObject sess 0x2040 1 (leBytes 8 rep)

/-- LOG_SELECT (R422). -/
def execLogSelect (sess number : Nat) (s : State) : Host.Outcome State Fault Refusal := s.hostObject sess 0x2206 1 (leBytes 4 number)

/-- DOMAIN_LOAD (R127). -/
def execDomainLoad (sess : Nat) (value : Bytes) (s : State) : Host.Outcome State Fault Refusal := s.hostObject sess 0x2A06 0 value

end Sys2Proof.Machine
end

