-- ==== Sys2Proof/Machine/Sdo.lean ====
section
/-! DEFINITION. Service data: the commands of Table 2.5 with their answers, segmented and block transfers, BUSY (R32 to R34,
R49 to R57). -/
namespace Sys2Proof.Machine

open Sys2Proof

/-- An SDO Abort (0xE0) with its code. -/
def abortMsg (code : Nat) : Bytes := 0xE0 :: beBytes 4 code

/-- The payload is an initiate (R49): with one, what R53 remembers of an abandoned transfer is over. -/
def sdoInitiates (p : Bytes) : Bool := [0x20, 0x21, 0x40, 0x50, 0x80, 0xA0, 0xB0].contains (sdoCommand p)

namespace Dev

/-- A session changed by its identifier. -/
def onSess (d : Dev) (id : Nat) (f : Sess → Sess) : Dev :=
  { d with com := { d.com with sess := d.com.sess.mapVal (fun _ x => if x.id == id then f x else x) } }

/-- The transfer of a session set, or closed. -/
def setXfer (d : Dev) (id : Nat) (t : Option Xfer) : Dev := d.onSess id (fun x => { x with xfer := t })

/-- A transfer opened by an initiate: it replaces any other. -/
def openXfer (d : Dev) (id : Nat) (t : Xfer) : Dev := d.setXfer id (some t)

/-- BUSY's payload (Table 2.6). -/
def busyMsg (d : Dev) (id cls percent : Nat) : Bytes :=
  0xF0 :: beBytes 4 0x0F000010 ++ beBytes 4 id ++ [byte cls, byte percent] ++ beBytes 4 (Config.remain d.free)

/-- PERCENT of a running operation: of an arm the share of its cache tiles stored, how many being a free value (R149); of a maintenance
sweep the share of its tests done (R320); of a commanded calibration the share of units measured (R436); of any other a free value (R56, log 24). -/
def opPercent (d : Dev) (o : Op) : Nat :=
  let share (k n : Nat) : Nat := if n == 0 then Config.percent d.free % 101 else 100 * k / n
  if o.cls == 1 then
    let n := ((d.barList.filter (fun n => bit (d.cg o.arg 0x4000 2) n)).map (fun n => (d.tileGrid o.arg n).1 * (d.tileGrid o.arg n).2)).sum
    share (Config.percent d.free % (n + 1)) n
  else if o.cls == 5 then
    share ((d.keeper.sweeps.map (fun x => x.2.done)).sum) ((d.keeper.sweeps.map (fun x => x.2.total)).sum)
  else if o.cls == 2 then share d.cal.results.length (d.cal.results.length + d.cal.left.length)
  else Config.percent d.free % 101

/-- BUSY while an operation runs: its remaining time is a free value (R55, R56). -/
def busyNow (d : Dev) (o : Op) : Dev × List Bytes :=
  (d.drew, [d.busyMsg o.id o.cls (d.opPercent o)])

/-- BUSY in answer to the write that started an operation, be it over already (R55, R432). -/
def busyStarted (d : Dev) : Dev × List Bytes :=
  (d.drew, [d.busyMsg d.com.ops (match d.com.op with
    | some o => o.cls
    | none => d.g 0x2002 2) 0])

/-- A transfer message that finds no transfer of its kind (R49, R53). -/
def noXfer (d : Dev) (x : Sess) : Dev × List Bytes :=
  if x.abandoned && x.xfer.isNone then (d.onSess x.id (fun y => { y with abandoned := false }), [abortMsg 0x05040000])
  else (d, [abortMsg 0x05040001])

/-- The open transfer ends with an abort. -/
def endXfer (d : Dev) (x : Sess) (code : Nat) : Dev × List Bytes := (d.setXfer x.id none, [abortMsg code])

/-- The checks of a download's initiate, its declared length among them (R52, R65): 0, or the abort code. -/
def initiateCode (d : Dev) (x : Sess) (idx sub total : Nat) : Nat :=
  match d.writable x idx sub total with
  | .error e => if e == 0x06070010 && total == 0 then 0x06090030 else e
  | .ok _ => if total == 0 then 0x06090030 else 0

/-- Segmented download initiate (0x21). -/
def segDownStart (d : Dev) (x : Sess) (p : Bytes) : Dev × List Bytes :=
  let (idx, sub) := sdoIndex p
  let total := sdoTotal p
  match d.initiateCode x idx sub total with
  | 0 => (d.openXfer x.id { kind := .segDown, index := idx, sub := sub, total := total }, [[0x60]])
  | e => (d, [abortMsg e])

/-- Block download initiate (0x80). -/
def blkDownStart (d : Dev) (x : Sess) (p : Bytes) : Dev × List Bytes :=
  let (idx, sub) := sdoIndex p
  let total := sdoTotal p
  let size := field p 8 1
  match d.initiateCode x idx sub total with
  | 0 =>
    if size == 0 || decide (127 < size) then (d, [abortMsg 0x05040002])
    else (d.openXfer x.id { kind := .blkDown, index := idx, sub := sub, total := total, block := size }, [[0x88, byte size]])
  | e => (d, [abortMsg e])

/-- Block segment (0x81). -/
def blkSegment (d : Dev) (x : Sess) (p : Bytes) : Dev × List Bytes :=
  match x.xfer with
  | some t =>
    if t.kind != .blkDown then d.noXfer x
    else
      let seq := field p 1 1
      let data := p.drop 4
      if seq != t.ctr + 1 then (d.setXfer x.id (some { t with ctr := 0 }), [[0x89, byte t.ctr]])
      else if field p 2 2 != data.length || decide (t.total < t.data.length + data.length) then d.endXfer x 0x06070010
      else
        let all := t.data ++ data
        if seq == t.block || all.length == t.total then (d.setXfer x.id (some { t with ctr := 0, data := all }), [[0x89, byte seq]])
        else (d.setXfer x.id (some { t with ctr := seq, data := all }), [])
  | none => d.noXfer x

/-- Upload initiate (0x40, 0x50). -/
def upStart (d : Dev) (x : Sess) (staged : Bool) (p : Bytes) : Dev × List Bytes :=
  let (idx, sub) := sdoIndex p
  match d.readObj x idx sub staged with
  | (d, .error e) => (d, [abortMsg e])
  | (d, .ok b) =>
    if decide (b.length ≤ 1432) then (d, [0x43 :: beBytes 4 b.length ++ b])
    else (d.openXfer x.id { kind := .segUp, index := idx, sub := sub, total := b.length, data := b }, [0x41 :: beBytes 4 b.length])

/-- Upload segment request (0x42). -/
def upSegment (d : Dev) (x : Sess) (p : Bytes) : Dev × List Bytes :=
  match x.xfer with
  | some t =>
    let ctr := sdoCounter p
    if t.kind != .segUp then d.noXfer x
    else if ctr != t.ctr then d.endXfer x 0x05030000
    else
      let part := (t.data.drop t.pos).take segMax
      let last := decide (t.total ≤ t.pos + part.length)
      (d.setXfer x.id (if last then none else some { t with ctr := ctr + 1, pos := t.pos + part.length }),
        [0x44 :: beBytes 2 ctr ++ [byte (if last then 1 else 0)] ++ part])
  | none => d.noXfer x

/-- The segments of a block from byte `pos` of a value (0xA9). -/
def blockMsgs (data : Bytes) (pos block : Nat) : List Bytes :=
  let left := data.length - pos
  (List.range (min block (ceilDiv left segMax))).map (fun i =>
    let part := (data.drop (pos + segMax * i)).take segMax
    [0xA9, byte (i + 1)] ++ beBytes 2 part.length ++ part)

/-- Block upload initiate (0xA0, 0xB0): the total, then the first block; a value of no bytes ends at once. -/
def blkUpStart (d : Dev) (x : Sess) (staged : Bool) (p : Bytes) : Dev × List Bytes :=
  let (idx, sub) := sdoIndex p
  let size := field p 4 1
  if size == 0 || decide (127 < size) then
    (d, [abortMsg (match d.access x idx sub with
      | .error e => e
      | .ok _ => 0x05040002)])
  else match d.readObj x idx sub staged with
    | (d, .error e) => (d, [abortMsg e])
    | (d, .ok b) =>
      let ms := blockMsgs b 0 size
      let head : Bytes := 0xA8 :: beBytes 4 b.length
      if b.isEmpty then (d, [head, 0xAA :: beBytes 2 (crc16 0 b)])
      else (d.openXfer x.id { kind := .blkUp, index := idx, sub := sub, total := b.length, data := b, block := size, ctr := ms.length }, head :: ms)

/-- Block upload acknowledge (0xA1): the next block, or the CRC-16 after the last. -/
def blkUpNext (d : Dev) (x : Sess) (p : Bytes) : Dev × List Bytes :=
  match x.xfer with
  | some t =>
    if t.kind != .blkUp then d.noXfer x
    else
      let pos := min t.total (t.pos + segMax * min t.ctr (field p 1 1))
      if pos == t.total then (d.setXfer x.id none, [0xAA :: beBytes 2 (crc16 0 t.data)])
      else
        let ms := blockMsgs t.data pos t.block
        (d.setXfer x.id (some { t with pos := pos, ctr := ms.length }), ms)
  | none => d.noXfer x

end Dev

/-- What an SDO_REQ comes to: the device, the responses, and whether it restarts once they have been sent (R467). -/
structure SdoResult where
  state : State
  answers : List Bytes
  restart : Bool := false

namespace State

/-- A result that touches the device only. -/
def sdoDev (s : State) (r : Dev × List Bytes) : SdoResult := { state := { s with dev := r.1 }, answers := r.2 }

/-- A whole value is written, and its answer is `ok`, an abort, or BUSY (R52, R55). -/
def sdoWrite (s : State) (x : Sess) (idx sub : Nat) (b ok : Bytes) : SdoResult :=
  let (s, code) := s.write x idx sub b
  if code == 0 then { state := s, answers := [ok], restart := Dev.reboots idx sub b code }
  else if code == 0x0F000010 then s.sdoDev s.dev.busyStarted
  else { state := s, answers := [abortMsg code] }

/-- Expedited download (0x20). -/
def expedited (s : State) (x : Sess) (p : Bytes) : SdoResult :=
  let (idx, sub) := sdoIndex p
  let b := p.drop 4
  if b.isEmpty || decide (4 < b.length) then s.sdoDev (s.dev, [abortMsg 0x06070010])
  else s.sdoWrite x idx sub b (0x60 :: slice p 1 3)

/-- Download segment (0x22): the last one writes the value. -/
def segment (s : State) (x : Sess) (p : Bytes) : SdoResult :=
  let d := s.dev
  match x.xfer with
  | none => s.sdoDev (d.noXfer x)
  | some t =>
    let ctr := sdoCounter p
    let last := bit (field p 3 1) 0
    let all := t.data ++ p.drop 4
    if t.kind != .segDown then s.sdoDev (d.noXfer x)
    else if ctr != t.ctr then s.sdoDev (d.endXfer x 0x05030000)
    else if decide (t.total < all.length) || (last && all.length != t.total) then s.sdoDev (d.endXfer x 0x06070010)
    else if last then ({ s with dev := d.setXfer x.id none } : State).sdoWrite x t.index t.sub all (0x62 :: beBytes 2 ctr)
    else s.sdoDev (d.setXfer x.id (some { t with ctr := (ctr + 1) % 65536, data := all }), [0x62 :: beBytes 2 ctr])

/-- Block download end (0x82). -/
def blkDownEnd (s : State) (x : Sess) (p : Bytes) : SdoResult :=
  let d := s.dev
  match x.xfer with
  | none => s.sdoDev (d.noXfer x)
  | some t =>
    if t.kind != .blkDown then s.sdoDev (d.noXfer x)
    else if t.data.length != t.total then s.sdoDev (d.endXfer x 0x06070010)
    else if crc16 0 t.data != field p 1 2 then s.sdoDev (d.endXfer x 0x05040004)
    else ({ s with dev := d.setXfer x.id none } : State).sdoWrite x t.index t.sub t.data [0x8A]

/-- One SDO_REQ payload of a session (Table 2.5, R49, R55). -/
def sdo (s : State) (x : Sess) (p : Bytes) : SdoResult :=
  let d := s.dev
  match d.com.op with
  | some o => s.sdoDev (d.busyNow o)
  | none =>
    match sdoCommand p with
    | 0x20 => s.expedited x p
    | 0x21 => s.sdoDev (d.segDownStart x p)
    | 0x22 => s.segment x p
    | 0x40 => s.sdoDev (d.upStart x false p)
    | 0x50 => s.sdoDev (d.upStart x true p)
    | 0x42 => s.sdoDev (d.upSegment x p)
    | 0x80 => s.sdoDev (d.blkDownStart x p)
    | 0x81 => s.sdoDev (d.blkSegment x p)
    | 0x82 => s.blkDownEnd x p
    | 0xA0 => s.sdoDev (d.blkUpStart x false p)
    | 0xB0 => s.sdoDev (d.blkUpStart x true p)
    | 0xA1 => s.sdoDev (d.blkUpNext x p)
    | 0xE0 => s.sdoDev (d.setXfer x.id none, [])
    | _ => s.sdoDev (d, [abortMsg 0x05040001])

end State

end Sys2Proof.Machine
end

