-- ==== Sys2Proof/Machine/Serve.lean ====
section
/-! DEFINITION. COT messages as they arrive: the checks of R38, sessions, service data, process data, events, and the
session-free messages of the pair and of a wake (R35 to R48, R53, R66 to R71, R107, R393 to R395, R401, R455, R497 to R501). -/
namespace Sys2Proof.Machine

open Sys2Proof

/-- TYPEs a host or a partner sends, on the UDP port that Table 2.4 gives them. -/
def typeServed (typ udp : Nat) : Bool :=
  if typ == 1 || typ == 3 then decide (34980 ≤ udp ∧ udp ≤ 34982)
  else if typ == 0x10 || typ == 0x42 then udp == 34980
  else if typ == 0x20 then udp == 34981
  else (typ == 0x31 || typ == 0x40 || typ == 0x41 || typ == 0x43) && udp == 34982

/-- TYPEs whose payload may be empty (Table 2.10): CLOSE, EVENT_ACK of nothing, WAKE. -/
def mayBeEmpty (typ : Nat) : Bool := typ == 3 || typ == 0x31 || typ == 0x42

/-- The header and length checks of R38. -/
def headerOk (m : Dgram) : Bool :=
  let auth := m.flags % 2 == 1
  m.proto == 0xC0A5 && m.version == 1 && m.reserved == 0 && decide (m.flags < 32) && decide (m.len ≤ 1440) && (m.len != 0 || mayBeEmpty m.typ) &&
    m.payload.length == m.len && m.tag.length == (if auth then 16 else 0) && !m.fragments && typeServed m.typ m.udpPort

/-- SEQ `seq` follows `last` under R43. -/
def seqNext (last seq : Nat) : Bool :=
  let k := (seq + 4294967296 - last) % 4294967296
  decide (1 ≤ k ∧ k ≤ 2147483648)

namespace Dev

/-- Index of a field port's settings: 0x1400 for FA, 0x1401 for FB. -/
def portIdx (via : Nat) : Nat := 0x1400 + via

/-- The port carries no COT now: its transport is not served, or its IPv4 address is 0 (R456, Table 2.10). -/
def deaf (d : Dev) (via : Nat) : Bool := !d.serves via || d.portOff via

/-- The source address passes a field port's allow-list (R48). -/
def allowed (d : Dev) (via src : Nat) : Bool :=
  let n := d.g (portIdx via) 5
  decide (2 ≤ via) || n == 0 || (List.range (min n 8)).any (fun i =>
    let e := d.g (0x1410 + via) (i + 1)
    e % 2 ^ 32 != 0 && src &&& (e % 2 ^ 32) == (e / 2 ^ 32) &&& (e % 2 ^ 32))

/-- The tag is right, or none is needed (R38, R46). -/
def authentic (d : Dev) (m : Dgram) : Bool :=
  let via := viaCode m.via
  if m.flags % 2 == 1 then
    let k := d.keySlot (m.flags / 2 % 4)
    k.any (fun b => b != 0) && m.tag == cotTag k (cotHeader m.typ m.session m.flags m.seq m.len) m.payload
  else decide (2 ≤ via) || d.g (portIdx via) 4 == 0

/-- A datagram dropped and counted (R38). -/
def dropMsg (d : Dev) (via : Nat) : Dev :=
  let v := d.com.drops.get 0 via + 1
  let v := if decide (v < 2 ^ 32) then v else Config.overflow (key 0x1420 3 * 4 + via) v % 2 ^ 32
  { d with com := { d.com with drops := d.com.drops.set via v } }

/-- A message of the device leaves on a transport, untagged (DESIGN CHOICE, log 87: the spec does not say that the device tags
what it sends); in the mailbox it waits while the window is full (R107), and a port that is off sends nothing. -/
def sendMsg (d : Dev) (via typ sess seq : Nat) (payload : Bytes) (flags : Nat := 0) : Dev :=
  if via == 2 then
    let b := cotHeader typ sess flags seq payload.length ++ payload
    if d.jobs.d2hFull then { d with jobs := { d.jobs with d2hWait := d.jobs.d2hWait ++ [b] } } else d.fillWindow b
  else if d.portOff via then d
  else d.emit (.datagram via typ sess flags seq payload [])

/-- The session a message names, open on its transport and UDP port (R38, R42). -/
def sessionOf (d : Dev) (m : Dgram) : Option Sess :=
  match d.session? m.session with
  | some x => if x.port == cotPort m.udpPort && (x.via == viaCode m.via || (x.bound && decide (viaCode m.via < 2))) then some x else none
  | none => none

/-- OPEN_ACK (R39). -/
def openAck (d : Dev) (via st id seq : Nat) : Dev :=
  d.sendMsg via 2 id seq (byte st :: beBytes 2 id ++ beBytes 2 (d.g 0x1420 1))

/-- The next session identifier: one never assigned, then the one freed longest ago, so that every other identifier has been
assigned since it was freed (R39). -/
def nextId (d : Dev) : Nat := if decide (d.com.lastId < 65535) then d.com.lastId + 1 else d.com.freed.headD 1

/-- That identifier is taken. -/
def takeId (d : Dev) : Com :=
  if decide (d.com.lastId < 65535) then { d.com with lastId := d.com.lastId + 1 } else { d.com with freed := d.com.freed.tail }

/-- OPEN of a new session (R39, R40). Its messages are numbered on from the SEQ that it carries (DESIGN CHOICE, log 88: the spec
does not say that the first must be 1). -/
def openNew (d : Dev) (m : Dgram) : Dev :=
  let via := viaCode m.via
  let port := cotPort m.udpPort
  let slot := (List.range 7).find? (fun i => (d.com.sess.find? (i + 1)).isNone)
  if decide (2 ≤ via) && port != 0 then d.openAck via 2 0 1
  else match slot with
    | none => d.openAck via 1 0 1
    | some i =>
      if decide ([4, 1, 2].getD port 0 ≤ (d.com.sess.filter (fun x => x.2.port == port)).length) then d.openAck via 1 0 1
      else
        let id := d.nextId
        let x : Sess := { id := id, via := via, port := port, peer := if decide (2 ≤ via) then 0 else m.src, rxSeq := m.seq, txSeq := 1 }
        ({ d with com := { d.takeId with sess := d.com.sess.set (i + 1) x } } : Dev).openAck via 0 id 1

/-- OPEN with BIND: the named process-data session on the other field port (R42). One that names no session gets status 1
(DESIGN CHOICE, log 20: R39 gives no status for it). -/
def openBind (d : Dev) (m : Dgram) : Dev :=
  let via := viaCode m.via
  match d.session? m.session with
  | none => d.openAck via 1 0 1
  | some x =>
    if decide (2 ≤ via ∨ 2 ≤ x.via) || x.port != 1 || cotPort m.udpPort != 1 then d.openAck via 2 0 1
    else if x.bound || x.via == via then d.openAck via 1 0 1
    else if !seqNext x.rxSeq m.seq then d.dropMsg via
    else
      let seq := (x.txSeq + 1) % 4294967296
      (d.onSess x.id (fun y => { y with bound := true, rxSeq := m.seq, txSeq := seq })).openAck via 0 x.id seq

/-- PD_OUT in its session: held for the next cycle instant (R45, R67, R68, R497). The copy of one that a bound session has
taken on the other port is dropped uncounted. -/
def gotPd (d : Dev) (m : Dgram) (x : Sess) : Dev :=
  let via := viaCode m.via
  if !seqNext x.rxSeq m.seq then
    if x.bound && x.taken.any (fun u => u.1 == m.seq && u.2 != via) then
      d.onSess x.id (fun y => { y with taken := y.taken.filter (fun u => u.1 != m.seq) })
    else d.dropMsg via
  else if !pdOk m.payload then d.dropMsg via
  else
    let d := d.onSess x.id (fun y => { y with rxSeq := m.seq, taken := if y.bound then (m.seq, via) :: y.taken else [] })
    { d with com := { d.com with pd := { d.com.pd with
      held := some m.payload, supervised := true, lost := false, intended := (pdOut m.payload).intended } } }

/-- Messages up to `seq`, in the ordering of R43, are no longer resent (R71). -/
def ackEvents (x : Sess) (seq : Nat) : Sess := { x with unacked := x.unacked.filter (fun u => !seqUpTo u.1 seq) }

/-- EVENT_ACK in its session (R71): four bytes with the highest SEQ held, or none of them. -/
def gotEventAck (d : Dev) (m : Dgram) (x : Sess) : Dev :=
  if !seqNext x.rxSeq m.seq then d.dropMsg (viaCode m.via)
  else d.onSess x.id (fun y =>
    let y := { y with rxSeq := m.seq }
    if m.payload.length == 4 then ackEvents y (beNat m.payload) else y)

/-- Unacknowledged EVENT messages of a slot leave again (R71). -/
def resendEvents (d : Dev) (slot : Nat) : Dev :=
  match d.com.sess.find? slot with
  | none => d
  | some x =>
    if x.port != 2 || d.g 0x1440 1 == 0 || d.portOff x.via then d
    else d.emits (x.unacked.map (fun u => .datagram x.via 0x30 x.id 16 u.1 (u.2.flatMap EventRec.bytes) []))

/-- A field message of the pair is acceptable: from a partner address, with the probe key where one is named, and with a SEQ
not seen from its sender (R393, R401). -/
def pairOk (d : Dev) (m : Dgram) (size : Nat) : Bool :=
  let k := d.g 0x2C00 5
  let from_ := pairSender m.payload
  decide (viaCode m.via < 2) && m.session == 0 && m.payload.length == size && m.src != 0 && (m.src == d.g 0x2C00 3 || m.src == d.g 0x2C00 4) &&
    (k == 0xFF || (m.flags % 2 == 1 && m.flags / 2 % 4 == k)) && !(d.twin.seenFrom == from_ && d.twin.seen.contains m.seq)

/-- The SEQ of a field message is remembered, for the sender it came from last (R401). -/
def noteSeq (d : Dev) (m : Dgram) : Dev :=
  let from_ := pairSender m.payload
  { d with twin := { d.twin with seen := if d.twin.seenFrom == from_ then m.seq :: d.twin.seen else [m.seq], seenFrom := from_ } }

/-- The device answers healthy (R393). -/
def healthy (d : Dev) : Bool :=
  (d.sys.st == .printing || d.sys.st == .armed || d.sys.st == .ready) && !d.fl.running.any (fun r => decide (3 ≤ r.level))

/-- TWIN_PROBE: answered with TWIN_PROBE_RSP (R393, Table 16.9). -/
def gotProbe (d : Dev) (m : Dgram) : Dev :=
  d.sendPair 0x41 (beBytes 4 (d.g 0x1018 4) ++ slice m.payload 4 4 ++ [byte d.role, byte (if d.healthy then 1 else 0), byte d.sys.st.code] ++
    List.replicate 5 0 ++ beBytes 8 (d.g 0x2015 1))

/-- TWIN_PROBE_RSP (R393, R394). A response to another probe is ignored. -/
def gotProbeRsp (d : Dev) (m : Dgram) : Dev :=
  if d.twin.probing.isNone || pairValue m.payload != d.twin.probe then d
  else
    let d := d.path (2 + viaCode m.via) true
    if slice m.payload 9 1 == [1] && slice m.payload 8 1 == [1] && d.role == 2 then
      (({ d with twin := { d.twin with probing := none } } : Dev).raise 97).loseFlag 3
    else d

/-- HANDOVER (R395, R401): a standby it names takes over at once, when synchronised. -/
def gotHandover (d : Dev) (target : Nat) : Dev :=
  if d.role != 2 || target != d.g 0x1018 4 then d else if d.synced then d.takeover 2 else d.raise 97

/-- WAKE: a wake frame acts in Standby while 0x2100:01 is set (R455). -/
def gotWake (d : Dev) (m : Dgram) : Dev :=
  if d.sys.st = .standby && d.g 0x2100 1 == 1 && decide (viaCode m.via < 2) then
    (if m.session == 0 && m.len == 0 then d.beginWake else d.dropMsg (viaCode m.via))
  else d

/-- A session-free message of the pair, after the checks of R38. -/
def gotPair (d : Dev) (m : Dgram) : Dev :=
  if !d.pairOk m (if m.typ == 0x40 then 8 else 24) then d.dropMsg (viaCode m.via)
  else
    let d := d.noteSeq m
    if m.typ == 0x40 then d.gotProbe m else if m.typ == 0x41 then d.gotProbeRsp m else d.gotHandover (pairValue m.payload)

/-- An SDO_RSP on the transport of its request, with the request's SEQ (R44); RESENT where it is the cached one (R37). -/
def respond (d : Dev) (via : Nat) (x : Sess) (seq : Nat) (ps : List Bytes) (flags : Nat := 0) : Dev :=
  ps.foldl (fun d p => d.sendMsg via 0x11 x.id seq p flags) d

/-- A message in a session other than an SDO request. -/
def inSession (d : Dev) (m : Dgram) (x : Sess) : Dev :=
  if m.typ == 0x20 then d.gotPd m x
  else if m.typ == 0x31 then d.gotEventAck m x
  else if !seqNext x.rxSeq m.seq then d.dropMsg (viaCode m.via)
  else match d.slotOf x.id with
    | some k => d.closeSess k
    | none => d

end Dev

namespace State

/-- An SDO_REQ in its session (R44, R55, R57). -/
def gotSdo (s : State) (m : Dgram) (x : Sess) : SdoResult :=
  let via := viaCode m.via
  if m.seq == x.rxSeq && x.cached.isSome then s.sdoDev (s.dev.respond via x m.seq (x.cached.getD []) 16, [])
  else if !seqNext x.rxSeq m.seq then s.sdoDev (s.dev.dropMsg via, [])
  else
    let r := s.sdo x m.payload
    let keeps := s.dev.com.op.isSome || !sdoInitiates m.payload
    let d := r.state.dev.onSess x.id (fun y => { y with rxSeq := m.seq, cached := some r.answers, abandoned := y.abandoned && keeps })
    { r with state := { r.state with dev := d.respond via x m.seq r.answers } }

/-- One COT message as it arrives (R38). -/
def receive (s : State) (m : Dgram) : SdoResult :=
  let d := s.dev
  let via := viaCode m.via
  if d.deaf via then s.sdoDev (d, [])
  else if !headerOk m || !d.allowed via m.src || !d.authentic m then s.sdoDev (d.dropMsg via, [])
  else if m.typ == 1 then s.sdoDev (if bit m.flags 3 then d.openBind m else d.openNew m, [])
  else if m.typ == 0x42 then s.sdoDev (d.gotWake m, [])
  else if decide (0x40 ≤ m.typ) then s.sdoDev (d.gotPair m, [])
  else match d.sessionOf m with
    | none => s.sdoDev (d.dropMsg via, [])
    | some x => if m.typ == 0x10 then s.gotSdo m x else s.sdoDev (d.inSession m x, [])

/-- A message is served, and the device restarts where it was REBOOT, its response sent (R467). -/
def serve (s : State) (m : Dgram) : Host.Outcome State Fault Refusal :=
  let r := ({ s with dev := s.begin_ } : State).receive m
  if r.restart then .next (r.state.restart r.state.dev 3) else r.state.sent

end State

end Sys2Proof.Machine
end

