-- ==== Sys2Proof/Machine/Cyclic.lean ====
section
/-! DEFINITION. The mailbox doorbell, the timers of sessions and transfers, and process data at its cycle instants (R41, R53,
R66 to R71, R107, R497 to R501). -/
namespace Sys2Proof.Machine

open Sys2Proof

/-- The reserved bytes of a process-data payload are zero; this many of them. -/
def zeros (k : Nat) : Bytes := List.replicate k 0

namespace Dev

/-- No valid message has arrived in a session for its idle timeout: it closes (R41). -/
def idleOut (d : Dev) (id : Nat) : Dev :=
  match d.slotOf id, d.session? id with
  | some k, some x => (d.closeSess k).raise 7 0 (if x.bound then 4 else x.via) id
  | _, _ => d

/-- A second has passed between two messages of a transfer: it is abandoned, and the session's next transfer message learns
of it (R53). The interval does not run while a long operation does. -/
def abandonXfer (d : Dev) (id : Nat) : Dev :=
  if d.com.op.isSome then d else d.onSess id (fun x => if x.xfer.isSome then { x with xfer := none, abandoned := true } else x)

/-- The open process-data session. -/
def pdSession (d : Dev) : Option Sess := (List.find? (fun (x : Nat × Sess) => x.2.port == 1) d.com.sess).map Prod.snd

/-- What the held PD-OUT asks for, in the order of R499. -/
def actPd (d : Dev) : Dev :=
  match d.com.pd.held with
  | none => d
  | some p =>
    let r := pdOut p
    let d := d.cancelRequest r.cancelCount r.cancelOp
    let d := d.fcRequest r.fcCount r.nextCtx r.atRepeat
    let d := d.cmdRequest r.cmdCount r.command
    let d := d.spoilRequest r.spoilCount r.spoilRepeat
    let d := d.spliceRequest r.spliceCount
    { d with com := { d.com with pd := { d.com.pd with held := none } } }

/-- The first 48 bytes of PD-IN (Table 22.6). -/
def pdHead (d : Dev) : Bytes :=
  let (opId, cls, percent) := match d.com.op with
    | some o => (o.id, o.cls, d.opPercent o)
    | none => (0, 0, 0)
  [1, byte d.sys.st.code, byte d.role, byte d.pdFlags] ++ beBytes 8 d.serviceNow ++
  [byte (d.g 0x2406 2), byte d.fcByte, byte d.fcNamed.1, byte d.levelNow] ++ beBytes 8 d.fcNamed.2 ++
  beBytes 4 opId ++ [byte cls, byte percent] ++ zeros 2 ++ beBytes 4 d.ceilingNow ++ beBytes 4 (d.g 0x3208 3) ++ beBytes 8 d.posn

/-- The last 96 bytes of PD-IN (Table 22.6, R501). -/
def pdTail (d : Dev) : Bytes :=
  let p := d.com.pd
  let has (n : Nat) : Bool := decide (n < d.nbars)
  let mask (f : Bar → Bool) : Byte := byte (maskOf (fun n => has n && f (d.bar n)))
  (List.range 8).flatMap (fun n => beBytes 8 (if has n then d.g 0x2015 (n + 1) else 0)) ++
  (List.range 8).map (fun n => byte (if has n then d.g 0x2016 (n + 1) else 0xFF)) ++
  [mask (fun b => b.warning), mask (fun b => b.overspeed), mask (fun b => b.alternate), mask (fun b => b.strobeFault)] ++
  [p.ackFc, p.ackSpoil, p.ackSplice, p.ackCancel, p.ackCmd, p.resSpoil, p.resSplice, p.resCancel, p.resCmd].map byte ++
  zeros 3 ++ beBytes 4 d.fl.top ++ zeros 4

/-- PD-IN in its 144 bytes (R497). -/
def pdIn (d : Dev) : Bytes := d.pdHead ++ d.pdTail

/-- PD-IN leaves in the open process-data session, on both field ports where it is bound (R42, R66). -/
def sendPd (d : Dev) : Dev :=
  match d.pdSession with
  | none => d
  | some x =>
    let seq := (x.txSeq + 1) % 4294967296
    let m := d.pdIn
    let e := (d.onSess x.id (fun y => { y with txSeq := seq })).drew
    if x.bound then (e.sendMsg 0 0x21 x.id seq m).sendMsg 1 0x21 x.id seq m else e.sendMsg x.via 0x21 x.id seq m

/-- A multiple of the process-data cycle has come on the service timescale since the last instant, or since a step of that timescale,
and at least half a cycle has passed since the last instant (R66, R337). -/
def cycleDue (d : Dev) : Bool :=
  let c := d.g 0x1430 1 * 1000
  d.time.cyclePast.all (fun p => decide (p / c < d.serviceNow / c)) && d.time.cycleAt.all (fun a => decide (c ≤ 2 * (d.t - a)))

/-- The cycle instant is taken now (R337). -/
def takeCycle (d : Dev) : Dev := { d with time := { d.time with cycleAt := some d.t, cyclePast := some d.serviceNow } }

/-- A cycle instant that is due: the last accepted PD-OUT acts, then PD-IN is sampled and sent (R66, R67, R337, R499). -/
def cycleInstant (d : Dev) : Dev :=
  if d.g 0x1430 1 == 0 || !d.sys.verified || !d.cycleDue then d else d.takeCycle.actPd.sendPd

/-- No PD-OUT has been accepted for the loss limit: the loss is counted, raised and reacted to, once (R68). -/
def pdLost (d : Dev) : Dev :=
  if !d.com.pd.supervised || d.com.pd.lost || d.g 0x1430 1 == 0 || d.g 0x1430 2 == 0 then d
  else
    let d := d.bump 0x1430 4
    let d := d.raise 6 0 (d.pdSession.elim 0xFF (fun x => if x.bound then 4 else x.via)) (d.cnt 0x1430 4)
    let d := { d with com := { d.com with pd := { d.com.pd with lost := true } } }
    if d.g 0x1430 3 == 1 then d.writeStop.1 else d

end Dev

/-- The host rings the doorbell: the message of the mailbox window is taken, or dropped where its length word is out of
range, and the length word is 0 again (R107). -/
def State.doorbell (s : State) (length : Nat) (m : Dgram) : Host.Outcome State Fault Refusal :=
  let d := s.begin_
  if !d.jobs.link || !d.sys.verified then s.done d
  else if decide (length < 16 ∨ 1472 < length) then s.done (d.emptyIn.dropMsg 2)
  else ({ s with dev := s.dev.emptyIn } : State).serve { m with via := .mailbox, udpPort := 34980, src := 0, fragments := false }

/-- OPEN (R39). -/
def execOpen (d : Dgram) (s : State) : Host.Outcome State Fault Refusal := s.serve d

/-- CLOSE (R41). -/
def execClose (d : Dgram) (s : State) : Host.Outcome State Fault Refusal := s.serve d

/-- SESSION_IDLE_TIMEOUT (R41). -/
def execSessionIdleTimeout (sess : Nat) (s : State) : Host.Outcome State Fault Refusal := s.done (s.begin_.idleOut sess)

/-- EXPEDITED_DOWNLOAD (R49). -/
def execExpeditedDownload (d : Dgram) (s : State) : Host.Outcome State Fault Refusal := s.serve d

/-- SEGMENTED_DOWNLOAD_INITIATE (R50). -/
def execSegmentedDownloadInitiate (d : Dgram) (s : State) : Host.Outcome State Fault Refusal := s.serve d

/-- DOWNLOAD_SEGMENT (R50). -/
def execDownloadSegment (d : Dgram) (s : State) : Host.Outcome State Fault Refusal := s.serve d

/-- UPLOAD_INITIATE (R50). -/
def execUploadInitiate (d : Dgram) (s : State) : Host.Outcome State Fault Refusal := s.serve d

/-- UPLOAD_SEGMENT_REQUEST (R50). -/
def execUploadSegmentRequest (d : Dgram) (s : State) : Host.Outcome State Fault Refusal := s.serve d

/-- BLOCK_DOWNLOAD_INITIATE (R51). -/
def execBlockDownloadInitiate (d : Dgram) (s : State) : Host.Outcome State Fault Refusal := s.serve d

/-- BLOCK_SEGMENT (R51). -/
def execBlockSegment (d : Dgram) (s : State) : Host.Outcome State Fault Refusal := s.serve d

/-- BLOCK_DOWNLOAD_END (R51). -/
def execBlockDownloadEnd (d : Dgram) (s : State) : Host.Outcome State Fault Refusal := s.serve d

/-- BLOCK_UPLOAD_INITIATE (R51). -/
def execBlockUploadInitiate (d : Dgram) (s : State) : Host.Outcome State Fault Refusal := s.serve d

/-- BLOCK_UPLOAD_ACKNOWLEDGE (R51). -/
def execBlockUploadAcknowledge (d : Dgram) (s : State) : Host.Outcome State Fault Refusal := s.serve d

/-- SDO_ABORT (R49). -/
def execSdoAbort (d : Dgram) (s : State) : Host.Outcome State Fault Refusal := s.serve d

/-- TRANSFER_TIMEOUT (R53). -/
def execTransferTimeout (sess : Nat) (s : State) : Host.Outcome State Fault Refusal := s.done (s.begin_.abandonXfer sess)

/-- PD_OUT (R67). -/
def execPdOut (d : Dgram) (s : State) : Host.Outcome State Fault Refusal := s.serve d

/-- PD_CYCLE_INSTANT (R66). -/
def execPdCycleInstant (s : State) : Host.Outcome State Fault Refusal := s.done s.begin_.cycleInstant

/-- PD_LOSS (R68). -/
def execPdLoss (s : State) : Host.Outcome State Fault Refusal := s.done s.begin_.pdLost

/-- EVENT_ACK (R71). -/
def execEventAck (d : Dgram) (s : State) : Host.Outcome State Fault Refusal := s.serve d

/-- EVENT_RESEND (R71). -/
def execEventResend (slot : Nat) (s : State) : Host.Outcome State Fault Refusal := s.done (s.begin_.resendEvents slot)

/-- MB_H2D_DOORBELL (R107). -/
def execMbH2dDoorbell (length : Nat) (d : Dgram) (s : State) : Host.Outcome State Fault Refusal := s.doorbell length d

/-- TWIN_PROBE (R393). -/
def execTwinProbe (d : Dgram) (s : State) : Host.Outcome State Fault Refusal := s.serve d

/-- TWIN_PROBE_RSP (R393). -/
def execTwinProbeRsp (d : Dgram) (s : State) : Host.Outcome State Fault Refusal := s.serve d

/-- HANDOVER (R395). -/
def execHandover (d : Dgram) (s : State) : Host.Outcome State Fault Refusal := s.serve d

/-- WAKE_FRAME (R455). -/
def execWakeFrame (d : Dgram) (s : State) : Host.Outcome State Fault Refusal := s.serve d

end Sys2Proof.Machine
end

