-- ==== Sys2Proof/Machine/Bar0.lean ====
section
/-! DEFINITION. The PCIe function's configuration space and BAR0: queue registers, mirrors, the MSI-X table and the mailbox
windows (R106 to R108, R470, Tables 4.1 to 4.4). -/
namespace Sys2Proof.Machine

open Sys2Proof

namespace Dev

/-- Q_CTRL as read (Table 4.3). -/
def qCtrl (x : Queue) : Nat := x.order * 4096 + x.irqEn.toNat * 4 + x.enabled.toNat

/-- Q_STATUS (Table 4.4). -/
def qStatus (x : Queue) : Nat := x.lastErr * 256 + x.cfgErr.toNat * 4 + x.halted.toNat * 2 + (x.enabled && !x.halted).toNat

/-- A queue register as read, by its offset in the queue's 256 bytes (Table 4.2). -/
def queueWord (x : Queue) (r : Nat) : Nat :=
  match r with
  | 0x00 => x.ringBase % 2 ^ 32
  | 0x04 => x.ringBase / 2 ^ 32
  | 0x08 => x.cplBase % 2 ^ 32
  | 0x0C => x.cplBase / 2 ^ 32
  | 0x10 => qCtrl x
  | 0x14 => x.tail
  | 0x18 => x.head
  | 0x1C => qStatus x
  | _ => 0

/-- A 32-bit word of BAR0 as read; a reserved offset reads 0 (Table 4.1). H2D_FREE reads 1: the device takes a message within the
step of its doorbell. -/
def barWord (d : Dev) (off : Nat) : Nat :=
  if decide (off < 0x1000) then queueWord (d.queue (off / 256)) (off % 256)
  else if off == 0x1000 then d.product
  else if off == 0x1004 then d.g 0x1018 3
  else if off == 0x1008 then d.sys.st.code
  else if decide (0x2000 ≤ off ∧ off < 0x2110) then leNat (winGet d.jobs.msixTable (off - 0x2000) 4)
  else if decide (0x3000 ≤ off ∧ off < 0x3008) then d.jobs.msixPending / 2 ^ (8 * (off - 0x3000)) % 2 ^ 32
  else if decide (0x8000 ≤ off ∧ off < 0x9000) then leNat (winGet d.jobs.mbIn (off - 0x8000) 4)
  else if decide (0x9000 ≤ off ∧ off < 0xA000) then leNat (winGet d.jobs.mbOut (off - 0x9000) 4)
  else if off == 0xA008 then 1 + 2 * d.jobs.d2hFull.toNat
  else 0

/-- One half of a ring base written; bases are 64-byte aligned, so their six low bits stay 0 (R108). -/
def halfBase (base v : Nat) (high : Bool) : Nat :=
  (if high then v * 2 ^ 32 + base % 2 ^ 32 else base / 2 ^ 32 * 2 ^ 32 + v) / 64 * 64

/-- Q_CTRL written: RING_ORDER and IRQ_EN at any time, ENABLE 1 or 0, and RESTART (Table 4.3). ENABLE is written 1 where the queue was
not enabled. -/
def writeCtrl (d : Dev) (q v : Nat) : Dev :=
  let order := v / 4096 % 16
  let irq := bit v 2
  let d := if !bit v 0 then (d.setQueue q { d.queue q with order := order, irqEn := irq }).disableQueue q
    else if (d.queue q).enabled then d.setQueue q { d.queue q with order := order, irqEn := irq }
    else d.enableQueue q order irq
  if bit v 1 then d.restartQueue q else d

/-- A 32-bit write of a queue register; the read-only ones and reserved offsets ignore it (Table 4.2). -/
def writeQueueWord (d : Dev) (q r v : Nat) : Dev :=
  let x := d.queue q
  match r with
  | 0x00 => d.setQueue q { x with ringBase := halfBase x.ringBase v false }
  | 0x04 => d.setQueue q { x with ringBase := halfBase x.ringBase v true }
  | 0x08 => d.setQueue q { x with cplBase := halfBase x.cplBase v false }
  | 0x0C => d.setQueue q { x with cplBase := halfBase x.cplBase v true }
  | 0x10 => d.writeCtrl q v
  | 0x14 => d.writeTail q v
  | _ => d

/-- A 32-bit write of BAR0, the doorbell apart; read-only and reserved offsets ignore it (Table 4.1). -/
def writeWord (d : Dev) (off v : Nat) : Dev :=
  if decide (off < 0x1000) then d.writeQueueWord (off / 256) (off % 256) v
  else if decide (0x2000 ≤ off ∧ off < 0x2110) then
    { d with jobs := { d.jobs with msixTable := winPut d.jobs.msixTable (off - 0x2000) (leBytes 4 v) } }
  else if decide (0x8000 ≤ off ∧ off < 0x9000) then
    { d with jobs := { d.jobs with mbIn := winPut d.jobs.mbIn (off - 0x8000) (leBytes 4 v) } }
  else if off == 0xA004 && v == 1 then d.ackWindow
  else d

/-- The 32-bit words of a BAR0 write, each with its offset; 64-bit data are two words, the lower first. -/
def barWords : Nat → Bytes → List (Nat × Nat)
  | off, a :: b :: c :: e :: rest => (off, leNat [a, b, c, e]) :: barWords (off + 4) rest
  | _, _ => []

/-- The host reaches BAR0: the endpoint serves and enumeration has given it its address (R470). -/
def barOpen (d : Dev) : Bool := d.fast && d.jobs.link && d.jobs.enumerated

/-- The message of the host-to-device window, from its header onward (Table 2.2, R107). -/
def windowMsg (d : Dev) : Dgram :=
  let n := leNat (winGet d.jobs.mbIn 0 4)
  let m := winGet d.jobs.mbIn 4 (min n 1472)
  let f (i k : Nat) : Nat := beNat ((m.drop i).take k)
  let flags := f 6 2
  let body := m.drop 16
  let cut := body.length - (if flags % 2 == 1 then 16 else 0)
  { via := .mailbox, udpPort := 34980, src := 0, fragments := false, proto := f 0 2, version := f 2 1, typ := f 3 1, session := f 4 2,
    flags := flags, seq := f 8 4, len := f 12 2, reserved := f 14 2, payload := body.take cut, tag := body.drop cut }

/-- A PCIe request of the host, the doorbell apart: configuration requests are retried until Ready, then served; BAR0 is read and
written where it is open (R106, R470). -/
def pcieRequest (d : Dev) : PcieReq → Dev
  | .config bar0 => d.configRequest bar0
  | .readId =>
    if d.fast then d.emit (.pcie (leBytes 2 0x57E4 ++ leBytes 2 d.product)) else d.configRequest none
  | .barRead off n =>
    if d.barOpen then d.emit (.pcie ((List.range (n / 4)).flatMap (fun i => leBytes 4 (d.barWord (off + 4 * i))))) else d
  | .barWrite off b => if d.barOpen then (barWords off b).foldl (fun d w => d.writeWord w.1 w.2) d else d

end Dev

/-- PCIE_CONFIG_REQUEST (R106, R470). A 1 written to MB_H2D_DOORBELL submits the message that stands in the window (R107). -/
def execPcieConfigRequest (request : PcieReq) (s : State) : Host.Outcome State Fault Refusal :=
  let d := s.begin_
  match request with
  | .barWrite off b =>
    if d.barOpen && (Dev.barWords off b).contains (0xA000, 1) then s.doorbell (leNat (Dev.winGet d.jobs.mbIn 0 4)) d.windowMsg
    else s.done (d.pcieRequest request)
  | _ => s.done (d.pcieRequest request)

end Sys2Proof.Machine
end

