-- ==== Sys2Proof/Machine/Dispatch.lean ====
section
/-! DEFINITION. The meaning of each command: one arm per constructor. -/
namespace Sys2Proof.Machine

open Sys2Proof

/-- The effect of a command on everything but the queue. -/
def exec (i : Instr) (s : State) : Host.Outcome State Fault Refusal :=
  match i with
  | .open_ d => Sys2Proof.Machine.execOpen d s
  | .close d => Sys2Proof.Machine.execClose d s
  | .sessionIdleTimeout sess => Sys2Proof.Machine.execSessionIdleTimeout sess s
  | .expeditedDownload d => Sys2Proof.Machine.execExpeditedDownload d s
  | .segmentedDownloadInitiate d => Sys2Proof.Machine.execSegmentedDownloadInitiate d s
  | .downloadSegment d => Sys2Proof.Machine.execDownloadSegment d s
  | .uploadInitiate d => Sys2Proof.Machine.execUploadInitiate d s
  | .uploadSegmentRequest d => Sys2Proof.Machine.execUploadSegmentRequest d s
  | .blockDownloadInitiate d => Sys2Proof.Machine.execBlockDownloadInitiate d s
  | .blockSegment d => Sys2Proof.Machine.execBlockSegment d s
  | .blockDownloadEnd d => Sys2Proof.Machine.execBlockDownloadEnd d s
  | .blockUploadInitiate d => Sys2Proof.Machine.execBlockUploadInitiate d s
  | .blockUploadAcknowledge d => Sys2Proof.Machine.execBlockUploadAcknowledge d s
  | .sdoAbort d => Sys2Proof.Machine.execSdoAbort d s
  | .transferTimeout sess => Sys2Proof.Machine.execTransferTimeout sess s
  | .objectWrite sess index sub data => Sys2Proof.Machine.execObjectWrite sess index sub data s
  | .groupCommit sess gg => Sys2Proof.Machine.execGroupCommit sess gg s
  | .groupDiscard sess gg => Sys2Proof.Machine.execGroupDiscard sess gg s
  | .keySlotWrite sess slot key => Sys2Proof.Machine.execKeySlotWrite sess slot key s
  | .ledgerSelect sess rep => Sys2Proof.Machine.execLedgerSelect sess rep s
  | .logSelect sess number => Sys2Proof.Machine.execLogSelect sess number s
  | .pdOut d => Sys2Proof.Machine.execPdOut d s
  | .pdCycleInstant => Sys2Proof.Machine.execPdCycleInstant s
  | .pdLoss => Sys2Proof.Machine.execPdLoss s
  | .flyingChangeRequest counter ctx atRepeat => Sys2Proof.Machine.execFlyingChangeRequest counter ctx atRepeat s
  | .cancelRequest counter opId => Sys2Proof.Machine.execCancelRequest counter opId s
  | .spoilRequest counter rep => Sys2Proof.Machine.execSpoilRequest counter rep s
  | .spliceRequest counter => Sys2Proof.Machine.execSpliceRequest counter s
  | .eventAck d => Sys2Proof.Machine.execEventAck d s
  | .eventResend slot => Sys2Proof.Machine.execEventResend slot s
  | .arm sess ctx => Sys2Proof.Machine.execArm sess ctx s
  | .armComplete tileCrcFailed => Sys2Proof.Machine.execArmComplete tileCrcFailed s
  | .discard sess ctx => Sys2Proof.Machine.execDiscard sess ctx s
  | .unarm sess ctx => Sys2Proof.Machine.execUnarm sess ctx s
  | .release sess ctx => Sys2Proof.Machine.execRelease sess ctx s
  | .abort sess ctx => Sys2Proof.Machine.execAbort sess ctx s
  | .clone sess source target => Sys2Proof.Machine.execClone sess source target s
  | .start sess => Sys2Proof.Machine.execStart sess s
  | .stop sess => Sys2Proof.Machine.execStop sess s
  | .stopNow sess => Sys2Proof.Machine.execStopNow sess s
  | .stopNowTimeout => Sys2Proof.Machine.execStopNowTimeout s
  | .changeLock => Sys2Proof.Machine.execChangeLock s
  | .renderLine bar => Sys2Proof.Machine.execRenderLine bar s
  | .sendLinePacket lane => Sys2Proof.Machine.execSendLinePacket lane s
  | .mbH2dDoorbell length d => Sys2Proof.Machine.execMbH2dDoorbell length d s
  | .mbD2hAck => Sys2Proof.Machine.execMbD2hAck s
  | .qTailWrite q tail => Sys2Proof.Machine.execQTailWrite q tail s
  | .queueEnable q ringOrder irqEn => Sys2Proof.Machine.execQueueEnable q ringOrder irqEn s
  | .queueDisable q => Sys2Proof.Machine.execQueueDisable q s
  | .queueRestart q => Sys2Proof.Machine.execQueueRestart q s
  | .putFrame q desc hdr payload => Sys2Proof.Machine.execPutFrame q desc hdr payload s
  | .frameCheckDone q => Sys2Proof.Machine.execFrameCheckDone q s
  | .frameCheckTimeout q => Sys2Proof.Machine.execFrameCheckTimeout q s
  | .getExport q desc => Sys2Proof.Machine.execGetExport q desc s
  | .freeFrame q desc => Sys2Proof.Machine.execFreeFrame q desc s
  | .freeStream q desc => Sys2Proof.Machine.execFreeStream q desc s
  | .dmaTimeout q desc => Sys2Proof.Machine.execDmaTimeout q desc s
  | .dmaError q desc => Sys2Proof.Machine.execDmaError q desc s
  | .exportResume cam => Sys2Proof.Machine.execExportResume cam s
  | .exportTimeout cam => Sys2Proof.Machine.execExportTimeout cam s
  | .domainLoad sess value => Sys2Proof.Machine.execDomainLoad sess value s
  | .requestEntryFree entry => Sys2Proof.Machine.execRequestEntryFree entry s
  | .encoderEdge c input => Sys2Proof.Machine.execEncoderEdge c input s
  | .indexEdge c sample t => Sys2Proof.Machine.execIndexEdge c sample t s
  | .indexAbsent c => Sys2Proof.Machine.execIndexAbsent c s
  | .analogSignalFault c ratio overspeed => Sys2Proof.Machine.execAnalogSignalFault c ratio overspeed s
  | .signalFaultClear c phase => Sys2Proof.Machine.execSignalFaultClear c phase s
  | .positionLost => Sys2Proof.Machine.execPositionLost s
  | .tinCapture k edge => Sys2Proof.Machine.execTinCapture k edge s
  | .captureRead sess k => Sys2Proof.Machine.execCaptureRead sess k s
  | .compareDue u entry => Sys2Proof.Machine.execCompareDue u entry s
  | .reckonerUpdate => Sys2Proof.Machine.execReckonerUpdate s
  | .fireLine bar t => Sys2Proof.Machine.execFireLine bar t s
  | .strobeWatchdog fire seen => Sys2Proof.Machine.execStrobeWatchdog fire seen s
  | .strobeFaultClear sess bar => Sys2Proof.Machine.execStrobeFaultClear sess bar s
  | .lanePllLoss => Sys2Proof.Machine.execLanePllLoss s
  | .laneTrained lane mask => Sys2Proof.Machine.execLaneTrained lane mask s
  | .laneAttemptTimeout lane => Sys2Proof.Machine.execLaneAttemptTimeout lane s
  | .trainRetry lane => Sys2Proof.Machine.execTrainRetry lane s
  | .rateSwitch lane openings => Sys2Proof.Machine.execRateSwitch lane openings s
  | .laneVerified lane => Sys2Proof.Machine.execLaneVerified lane s
  | .eyeScan openings => Sys2Proof.Machine.execEyeScan openings s
  | .markSend lane => Sys2Proof.Machine.execMarkSend lane s
  | .blockLockLoss run => Sys2Proof.Machine.execBlockLockLoss run s
  | .lossOfSignal lane => Sys2Proof.Machine.execLossOfSignal lane s
  | .relockTimeout lane => Sys2Proof.Machine.execRelockTimeout lane s
  | .retrainTimeout lane => Sys2Proof.Machine.execRetrainTimeout lane s
  | .swapComplete bar readback => Sys2Proof.Machine.execSwapComplete bar readback s
  | .laneQualifyDone lane pass => Sys2Proof.Machine.execLaneQualifyDone lane pass s
  | .retrain sess lane => Sys2Proof.Machine.execRetrain sess lane s
  | .loopback sess lane arg => Sys2Proof.Machine.execLoopback sess lane arg s
  | .prbs sess lane arg => Sys2Proof.Machine.execPrbs sess lane arg s
  | .bitslip sess lane => Sys2Proof.Machine.execBitslip sess lane s
  | .protect sess lane logical => Sys2Proof.Machine.execProtect sess lane logical s
  | .requalify sess lane => Sys2Proof.Machine.execRequalify sess lane s
  | .train lane payload => Sys2Proof.Machine.execTrain lane payload s
  | .credit lane acked window epoch => Sys2Proof.Machine.execCredit lane acked window epoch s
  | .retry lane frm reason epoch => Sys2Proof.Machine.execRetry lane frm reason epoch s
  | .resendTimeout lane => Sys2Proof.Machine.execResendTimeout lane s
  | .compare lane seq kind port => Sys2Proof.Machine.execCompare lane seq kind port s
  | .status lane page data => Sys2Proof.Machine.execStatus lane page data s
  | .moduleEvent lane code seq slot => Sys2Proof.Machine.execModuleEvent lane code seq slot s
  | .checkRsp lane id result pass => Sys2Proof.Machine.execCheckRsp lane id result pass s
  | .checkTimeout lane => Sys2Proof.Machine.execCheckTimeout lane s
  | .heartbeat lane count state => Sys2Proof.Machine.execHeartbeat lane count state s
  | .heartbeatSend => Sys2Proof.Machine.execHeartbeatSend s
  | .heartbeatTimeout lane => Sys2Proof.Machine.execHeartbeatTimeout lane s
  | .ackStallTimeout lane => Sys2Proof.Machine.execAckStallTimeout lane s
  | .frameStart cam => Sys2Proof.Machine.execFrameStart cam s
  | .imageLine cam vc dt headerBad eccFixed crcBad fifoFull payload => Sys2Proof.Machine.execImageLine cam vc dt headerBad eccFixed crcBad fifoFull payload s
  | .embeddedData cam vc headerBad eccFixed payload => Sys2Proof.Machine.execEmbeddedData cam vc headerBad eccFixed payload s
  | .frameEnd cam => Sys2Proof.Machine.execFrameEnd cam s
  | .frameTimeout cam => Sys2Proof.Machine.execFrameTimeout cam s
  | .triggerTimeout cam => Sys2Proof.Machine.execTriggerTimeout cam s
  | .cciWriteDone cam => Sys2Proof.Machine.execCciWriteDone cam s
  | .cciTimeout cam => Sys2Proof.Machine.execCciTimeout cam s
  | .keeperGenerationForm => Sys2Proof.Machine.execKeeperGenerationForm s
  | .trimReset sess mask => Sys2Proof.Machine.execTrimReset sess mask s
  | .gateEdge gate t high => Sys2Proof.Machine.execGateEdge gate t high s
  | .testWindowClose bar => Sys2Proof.Machine.execTestWindowClose bar s
  | .sweepStart sess value => Sys2Proof.Machine.execSweepStart sess value s
  | .sweepStrobe => Sys2Proof.Machine.execSweepStrobe s
  | .sweepComplete => Sys2Proof.Machine.execSweepComplete s
  | .pwmPeriod => Sys2Proof.Machine.execPwmPeriod s
  | .targetLevelWrite sess led level => Sys2Proof.Machine.execTargetLevelWrite sess led level s
  | .lightMeasurement g samples => Sys2Proof.Machine.execLightMeasurement g samples s
  | .ledEnLow => Sys2Proof.Machine.execLedEnLow s
  | .uvLatchClear sess value => Sys2Proof.Machine.execUvLatchClear sess value s
  | .sync dom twoStep origin logInterval arrival => Sys2Proof.Machine.execSync dom twoStep origin logInterval arrival s
  | .followUp dom origin => Sys2Proof.Machine.execFollowUp dom origin s
  | .announce dom identity best receiptTimeout => Sys2Proof.Machine.execAnnounce dom identity best receiptTimeout s
  | .delayReqSend dom => Sys2Proof.Machine.execDelayReqSend dom s
  | .delayResp dom received => Sys2Proof.Machine.execDelayResp dom received s
  | .pdelayReq dom arrival => Sys2Proof.Machine.execPdelayReq dom arrival s
  | .pdelayResp dom t1 t2 t3 t4 => Sys2Proof.Machine.execPdelayResp dom t1 t2 t3 t4 s
  | .masterLoss dom => Sys2Proof.Machine.execMasterLoss dom s
  | .preferredReturn => Sys2Proof.Machine.execPreferredReturn s
  | .toutEdge k => Sys2Proof.Machine.execToutEdge k s
  | .pageRead port addr ask => Sys2Proof.Machine.execPageRead port addr ask s
  | .pageWrite addr data => Sys2Proof.Machine.execPageWrite addr data s
  | .partialWrite addr off data => Sys2Proof.Machine.execPartialWrite addr off data s
  | .remapCommand sess addr => Sys2Proof.Machine.execRemapCommand sess addr s
  | .scrubRead sub user => Sys2Proof.Machine.execScrubRead sub user s
  | .scrubStarved => Sys2Proof.Machine.execScrubStarved s
  | .bucketLeak ch => Sys2Proof.Machine.execBucketLeak ch s
  | .dramRetrain sub plausible => Sys2Proof.Machine.execDramRetrain sub plausible s
  | .dramRefresh sub => Sys2Proof.Machine.execDramRefresh sub s
  | .ident x => Sys2Proof.Machine.execIdent x s
  | .formationRetry => Sys2Proof.Machine.execFormationRetry s
  | .state a => Sys2Proof.Machine.execState a s
  | .decision seq m => Sys2Proof.Machine.execDecision seq m s
  | .commit seq => Sys2Proof.Machine.execCommit seq s
  | .refuse seq cause => Sys2Proof.Machine.execRefuse seq cause s
  | .checksum ctx stateCode crc => Sys2Proof.Machine.execChecksum ctx stateCode crc s
  | .digest group rep crc => Sys2Proof.Machine.execDigest group rep crc s
  | .position index time count out => Sys2Proof.Machine.execPosition index time count out s
  | .tileReq kind tileId => Sys2Proof.Machine.execTileReq kind tileId s
  | .tileData kind tileId frame => Sys2Proof.Machine.execTileData kind tileId frame s
  | .tileFetchTimeout => Sys2Proof.Machine.execTileFetchTimeout s
  | .laneSync entries => Sys2Proof.Machine.execLaneSync entries s
  | .msgAck seq => Sys2Proof.Machine.execMsgAck seq s
  | .msgNak seq reason => Sys2Proof.Machine.execMsgNak seq reason s
  | .twinMsgResend => Sys2Proof.Machine.execTwinMsgResend s
  | .twinLinkLoss => Sys2Proof.Machine.execTwinLinkLoss s
  | .hbInPulse => Sys2Proof.Machine.execHbInPulse s
  | .hbOutPulse => Sys2Proof.Machine.execHbOutPulse s
  | .partnerSilent => Sys2Proof.Machine.execPartnerSilent s
  | .twinProbe d => Sys2Proof.Machine.execTwinProbe d s
  | .twinProbeRsp d => Sys2Proof.Machine.execTwinProbeRsp d s
  | .probeTimeout => Sys2Proof.Machine.execProbeTimeout s
  | .handover d => Sys2Proof.Machine.execHandover d s
  | .pairHandover sess => Sys2Proof.Machine.execPairHandover sess s
  | .pairRehearse sess => Sys2Proof.Machine.execPairRehearse sess s
  | .pairResynchronise sess => Sys2Proof.Machine.execPairResynchronise sess s
  | .rehearsalDue => Sys2Proof.Machine.execRehearsalDue s
  | .rehearsalCheck => Sys2Proof.Machine.execRehearsalCheck s
  | .blockFault event unit barMask detail => Sys2Proof.Machine.execBlockFault event unit barMask detail s
  | .recoveryComplete id => Sys2Proof.Machine.execRecoveryComplete id s
  | .recoveryTimeout id => Sys2Proof.Machine.execRecoveryTimeout id s
  | .warmRestartComplete => Sys2Proof.Machine.execWarmRestartComplete s
  | .mgmtWatchdog => Sys2Proof.Machine.execMgmtWatchdog s
  | .fabricTimeout unit barMask => Sys2Proof.Machine.execFabricTimeout unit barMask s
  | .stateSave outOfBuffers => Sys2Proof.Machine.execStateSave outOfBuffers s
  | .alertClear sess value => Sys2Proof.Machine.execAlertClear sess value s
  | .testEvent sess value => Sys2Proof.Machine.execTestEvent sess value s
  | .sensorSample readings => Sys2Proof.Machine.execSensorSample readings s
  | .rateWindow => Sys2Proof.Machine.execRateWindow s
  | .nvStagedWrite => Sys2Proof.Machine.execNvStagedWrite s
  | .nvWriteComplete ok => Sys2Proof.Machine.execNvWriteComplete ok s
  | .calibrationRun item unit => Sys2Proof.Machine.execCalibrationRun item unit s
  | .calibrationDone item unit plausible value => Sys2Proof.Machine.execCalibrationDone item unit plausible value s
  | .calibrationCommand sess mask => Sys2Proof.Machine.execCalibrationCommand sess mask s
  | .sensorTrim means => Sys2Proof.Machine.execSensorTrim means s
  | .wearMinute meanTj => Sys2Proof.Machine.execWearMinute meanTj s
  | .tallyHour => Sys2Proof.Machine.execTallyHour s
  | .eyeDaily => Sys2Proof.Machine.execEyeDaily s
  | .sramRepair array bar => Sys2Proof.Machine.execSramRepair array bar s
  | .engineRequalify sess engine => Sys2Proof.Machine.execEngineRequalify sess engine s
  | .porstAssert => Sys2Proof.Machine.execPorstAssert s
  | .porstRelease => Sys2Proof.Machine.execPorstRelease s
  | .systemReset => Sys2Proof.Machine.execSystemReset s
  | .bootComplete slot fallback invalid enginePass => Sys2Proof.Machine.execBootComplete slot fallback invalid enginePass s
  | .wake sess => Sys2Proof.Machine.execWake sess s
  | .wakeFrame d => Sys2Proof.Machine.execWakeFrame d s
  | .wakeComplete => Sys2Proof.Machine.execWakeComplete s
  | .wakeTimeout step expired detail => Sys2Proof.Machine.execWakeTimeout step expired detail s
  | .sleep sess => Sys2Proof.Machine.execSleep sess s
  | .prepare sess => Sys2Proof.Machine.execPrepare sess s
  | .relax sess => Sys2Proof.Machine.execRelax sess s
  | .clearFault sess => Sys2Proof.Machine.execClearFault sess s
  | .warmRestart sess => Sys2Proof.Machine.execWarmRestart sess s
  | .reboot sess => Sys2Proof.Machine.execReboot sess s
  | .saveConfig sess => Sys2Proof.Machine.execSaveConfig sess s
  | .firmwareUpdate sess slot image => Sys2Proof.Machine.execFirmwareUpdate sess slot image s
  | .firmwareUpdateComplete verified flashOk => Sys2Proof.Machine.execFirmwareUpdateComplete verified flashOk s
  | .opTimeout => Sys2Proof.Machine.execOpTimeout s
  | .refclkLoss input => Sys2Proof.Machine.execRefclkLoss input s
  | .supplyOutOfRange supply => Sys2Proof.Machine.execSupplyOutOfRange supply s
  | .usbVbusChange attached => Sys2Proof.Machine.execUsbVbusChange attached s
  | .blockLockRegained lane => Sys2Proof.Machine.execBlockLockRegained lane s
  | .hbInSilent => Sys2Proof.Machine.execHbInSilent s
  | .pcieLinkDown => Sys2Proof.Machine.execPcieLinkDown s
  | .pcieLinkUp refclk => Sys2Proof.Machine.execPcieLinkUp refclk s
  | .pcieConfigRequest request => Sys2Proof.Machine.execPcieConfigRequest request s
  | .sysrstRelease => Sys2Proof.Machine.execSysrstRelease s
  | .aonSupplyLoss => Sys2Proof.Machine.execAonSupplyLoss s
  | .camBudgetMeasure traffic => Sys2Proof.Machine.execCamBudgetMeasure traffic s
  | .dramTargetRecompute => Sys2Proof.Machine.execDramTargetRecompute s

end Sys2Proof.Machine
end

