-- ==== Sys2Proof/Safety.lean ====
section
/-! DEFINITION. The words that claims about the block use: what a command leaves untouched, what it makes of the device, what it
sends and reports, when a host's write or request is served, and the invariant that every step keeps. -/
namespace Sys2Proof.Machine

open Sys2Proof

/-- A session without its waiting and unacknowledged event records and its own sequence number: what sending the waiting
records at the end of a command (R71) leaves as it is. -/
def Sess.still (x : Sess) : Sess := { x with queue := [], unacked := [], overrun := 0, txSeq := 0 }

/-- The device apart from the model's own latches (the counter's copy and what was sent) and from what sending the waiting event
records changes in a session. Equal bodies agree on every register, table, queue, pin, bar, lane and context. -/
def Dev.body (d : Dev) : Dev :=
  { d with t := 0, out := [], com := { d.com with sess := d.com.sess.mapVal (fun _ x => x.still) } }

/-- A dictionary key is an event counter's: 0x2202, or 0x1440:02 of dropped records (R71, R421). -/
def eventKey (k : Nat) : Bool := k / 256 == 0x2202 || k == key 0x1440 2

/-- The device's body apart from what raising an event changes: the log, the event counters and ALERT_N (R70, R421, R422). -/
def Dev.bare (d : Dev) : Dev :=
  { d.body with
    fl := { d.fl with log := [], top := 0 }
    pins := { d.pins with alertN := false }
    dict := { d.dict with regs := d.dict.regs.keep (fun k _ => !eventKey k) } }

/-- The clock, the DRAM pages and the command queue are as they were. -/
def Still (s t : State) : Prop := t.now = s.now ∧ t.dram = s.dram ∧ t.pending = s.pending

/-- The command answers a next state that satisfies `p`, with the clock, the DRAM pages and the queue untouched. -/
def Runs (i : Instr) (s : State) (p : State → Prop) : Prop := ∃ t, exec i s = .next t ∧ Still s t ∧ p t

/-- What a command sent is an EVENT message (TYPE 0x30) that carries waiting event records (R70). -/
def Out.isEvent : Out → Bool
  | .datagram _ typ _ _ _ _ _ => typ == 0x30
  | _ => false

/-- The command has sent exactly what `d` sends, in its order, and after it nothing but EVENT messages. -/
def Told (d : Dev) (t : State) : Prop := ∃ l, t.dev.out = d.out ++ l ∧ ∀ o ∈ l, o.isEvent = true

/-- The command makes `d` of the device and sends what `d` sends: nothing else changes, and nothing else leaves. -/
def Makes (i : Instr) (s : State) (d : Dev) : Prop := Runs i s (fun t => t.dev.body = d.body ∧ Told d t)

/-- A log record of event `e` with its level, bar mask, unit and detail (R70). -/
def EventRec.says (r : EventRec) (level e mask unit detail : Nat) : Prop :=
  r.num = e ∧ r.level = level ∧ r.mask = mask ∧ r.unit = unit ∧ r.detail = detail

/-- The command has logged event `e` last: the record is the newest, or followed only by EV_EVENT_OVERRUN (R70, R71). -/
def Logged (s t : State) (level e mask unit detail : Nat) : Prop :=
  s.dev.fl.top < t.dev.fl.top ∧ ∃ r ∈ t.dev.fl.log.take 2, r.says level e mask unit detail

/-- The command makes `d` of the device but for the event log, the event counters and ALERT_N, sends what `d` sends, and reports
event `e` last. -/
def Reports (i : Instr) (s : State) (d : Dev) (level e mask unit detail : Nat) : Prop :=
  Runs i s (fun t => t.dev.bare = d.bare ∧ Told d t ∧ Logged s t level e mask unit detail)

/-- The command answers `r` after sending the waiting event records: `r`'s clock, DRAM pages and queue, and its device but for what
that sending changes. -/
def Gives (i : Instr) (s r : State) : Prop :=
  ∃ t, exec i s = .next t ∧ t.now = r.now ∧ t.pending = r.pending ∧ t.dram = r.dram ∧ t.dev.body = r.dev.body ∧ Told r.dev t

/-- A host write by session `sess` to object `idx` is served now: the session is open on service data over a transport that is
served, no long operation runs, and neither the state nor recovery service keeps the object back (R40, R55, R407, R456, R464). -/
def State.Serves (s : State) (sess idx : Nat) : Prop :=
  ∃ x, s.dev.session? sess = some x ∧ x.port = 0 ∧ s.dev.serves x.via = true ∧ s.dev.com.op = none ∧ s.dev.gated idx = false ∧
    s.dev.served x idx = true

/-- The host write is answered with `code` (0: granted), and makes `d` of the device. -/
def Answers (i : Instr) (s : State) (sess code : Nat) (d : Dev) : Prop := Makes i s (d.emit (.answer sess code))

/-- The host write is answered with `code`, makes `d` of the device but for the event log, and reports event `e` last. -/
def AnswersReporting (i : Instr) (s : State) (sess code : Nat) (d : Dev) (level e mask unit detail : Nat) : Prop :=
  Reports i s (d.emit (.answer sess code)) level e mask unit detail

/-- A datagram passes the checks of R38 that come before its session: its transport is served, and its header, its source and
its tag are in order (R38, R46, R48, R456). -/
def Dev.admits (d : Dev) (m : Dgram) : Prop :=
  d.deaf (viaCode m.via) = false ∧ headerOk m = true ∧ d.allowed (viaCode m.via) m.src = true ∧ d.authentic m = true

/-- An SDO_REQ with the next SEQ has arrived in the open session `x`, and no long operation runs (R43, R44, R55). -/
def State.Asks (s : State) (m : Dgram) (x : Sess) : Prop :=
  s.dev.admits m ∧ m.typ = 0x10 ∧ s.dev.sessionOf m = some x ∧ (m.seq ≠ x.rxSeq ∨ x.cached = none) ∧ seqNext x.rxSeq m.seq = true ∧
    s.dev.com.op = none

/-- The device with an SDO request answered: its SEQ accepted, its responses cached for a repetition, and each sent (R44). -/
def Dev.answered (d : Dev) (m : Dgram) (x : Sess) (ps : List Bytes) : Dev :=
  (d.onSess x.id (fun y => { y with rxSeq := m.seq, cached := some ps, abandoned := y.abandoned && !sdoInitiates m.payload })).respond (viaCode m.via) x m.seq ps

/-- The process-data state changed by `f`. -/
def Dev.onPd (d : Dev) (f : Pd → Pd) : Dev := { d with com := { d.com with pd := f d.com.pd } }

/-- Rows whose command is a COT message, with the message each carries. -/
def dgramRow : Instr → Option Dgram
  | .open_ m | .close m | .expeditedDownload m | .segmentedDownloadInitiate m | .downloadSegment m | .uploadInitiate m
  | .uploadSegmentRequest m | .blockDownloadInitiate m | .blockSegment m | .blockDownloadEnd m | .blockUploadInitiate m
  | .blockUploadAcknowledge m | .sdoAbort m | .pdOut m | .eventAck m | .wakeFrame m | .twinProbe m | .twinProbeRsp m | .handover m => some m
  | _ => none

/-- Rows that are a write of one object, with the session that makes it and the object's index. -/
def hostWriteRow : Instr → Option (Nat × Nat)
  | .groupCommit x _ | .groupDiscard x _ => some (x, 0x2020)
  | .arm x _ | .discard x _ | .unarm x _ | .release x _ | .abort x _ | .clone x _ _ => some (x, 0x2012)
  | .start x | .stop x | .stopNow x | .wake x | .sleep x | .prepare x | .relax x | .clearFault x | .warmRestart x | .saveConfig x => some (x, 0x2000)
  | .strobeFaultClear x n => some (x, 0x5007 + 0x100 * n)
  | .retrain x _ | .loopback x _ _ | .prbs x _ _ | .bitslip x _ | .protect x _ _ | .requalify x _ => some (x, 0x3406)
  | .trimReset x _ => some (x, 0x3A01)
  | .sweepStart x _ => some (x, 0x3A29)
  | .targetLevelWrite x _ _ => some (x, 0x3C20)
  | .uvLatchClear x _ => some (x, 0x3C22)
  | .pairHandover x | .pairRehearse x | .pairResynchronise x => some (x, 0x2C02)
  | .alertClear x _ | .testEvent x _ => some (x, 0x2204)
  | .calibrationCommand x _ => some (x, 0x2702)
  | .engineRequalify x _ => some (x, 0x2E0F)
  | .firmwareUpdate x slot _ => if slot ≤ 1 then some (x, 0x2108) else none
  | _ => none

/-- Every row that is a write of one object, those that write the object they name or may restart the device among them. -/
def anyWriteRow : Instr → Option (Nat × Nat)
  | .objectWrite x i _ _ => some (x, i)
  | .keySlotWrite x _ _ => some (x, 0x1450)
  | .ledgerSelect x _ => some (x, 0x2040)
  | .logSelect x _ => some (x, 0x2206)
  | .domainLoad x _ => some (x, 0x2A06)
  | .remapCommand x _ => some (x, 0x280E)
  | .reboot x => some (x, 0x2000)
  | .firmwareUpdate x _ _ => some (x, 0x2108)
  | i => hostWriteRow i

/-- Objects whose write is a command or a selection of its own, not a value staged or held (Tables 2.9, 3.2, 20.5; R47, R72, R98, R127, R364, R422). -/
def commandObject (idx : Nat) : Bool :=
  [0x1450, 0x2000, 0x2010, 0x2012, 0x2020, 0x2040, 0x2204, 0x2206, 0x2702, 0x280E, 0x2A06, 0x2C02, 0x2E0F, 0x3406, 0x3A01, 0x3A29, 0x3C20,
    0x3C22].contains idx

/-- Rows that may change a DRAM page: the requesters of chapter 15, a write or a message that may be REBOOT, and what clears DRAM
(R357 to R368, R467, R468). A remap moves its page to spare SRAM (R365). -/
def touchesDram : Instr → Bool
  | .pageRead _ _ _ | .pageWrite _ _ | .partialWrite _ _ _ | .scrubRead _ _ | .objectWrite _ _ _ _ | .mbH2dDoorbell _ _
  | .wakeComplete | .porstAssert | .aonSupplyLoss | .systemReset | .reboot _ | .pcieConfigRequest (.barWrite _ _) => true
  | i => (dgramRow i).isSome

/-- The address of the page that a row acts on as a requester's page access (R352, R357 to R359). -/
def pageAddr : Instr → Option Nat
  | .pageRead _ a _ | .pageWrite a _ | .partialWrite a _ _ => some a
  | _ => none

/-- Rows that set the local counter: only those of PORST_N (R334, R467). -/
def setsClock : Instr → Bool
  | .porstAssert | .porstRelease | .aonSupplyLoss => true
  | _ => false

/-- The invariant that every step keeps: the DRAM list is in its canonical form, so that equal memories are equal data. -/
def Canonical (s : State) : Prop := ramWf s.dram = true

end Sys2Proof.Machine
end

