-- ==== Sys2Proof/Certificates/Slice0/Obligations.lean ====
section
/-! DEFINITION. The statements for the provers: what the commands of the block do, by the numbered rules of spec/. -/

open Sys2Proof Sys2Proof.Machine

/-- One step with a command waiting is that command's effect with the rest of the queue. -/
def Obligations.StepRunsFrontCommand : Prop :=
  ∀ (s : State) (c : Instr) (rest : List Instr), s.pending = c :: rest → step s = exec c { s with pending := rest }

/-- With no command waiting, a step is one 40 ns tick of the local counter (the model's choice, log 1). -/
def Obligations.EmptyQueueTicks : Prop :=
  ∀ s : State, s.pending = [] →
    ∃ t, step s = .next t ∧ t.now = s.now + 40 ∧ t.dram = s.dram ∧ t.pending = [] ∧
      ((∀ n, (s.dev.bar n).wait = none) → t.dev = s.dev)

/-- Every command answers a next state, in every state and with every operand, and takes nothing from the queue behind it; a page access
does so exactly below the usable capacity, and beyond it stops with the page it names (no page exists there, R352). -/
def Obligations.EveryCommandAnswers : Prop :=
  ∀ (i : Instr) (s : State),
    ((∀ a, pageAddr i = some a → a < s.dev.usable_) → ∃ t, exec i s = .next t ∧ t.pending = s.pending) ∧
    (∀ a, pageAddr i = some a → s.dev.usable_ ≤ a → exec i s = .fault (.noSuchPage a))

/-- No command touches the queue; only PORST_N sets the local counter; only the rows named change DRAM. -/
def Obligations.OnlyNamedRowsChangeClockAndDram : Prop :=
  ∀ (i : Instr) (s t : State), exec i s = .next t →
    t.pending = s.pending ∧ (setsClock i = false → t.now = s.now) ∧ (touchesDram i = false → t.dram = s.dram)

/-- The invariant that every step keeps, from every state that meets it: DRAM is one canonical list of bytes, so that equal memories are
equal data (R352 to R367; the form is the model's, log 10). -/
def Obligations.StepKeepsDramCanonical : Prop := ∀ s t : State, Canonical s → step s = .next t → Canonical t

/-- The invariant holds right after reset: DRAM lists nothing, and no command waits. -/
def Obligations.ResetDramCanonical : Prop := Canonical State.reset ∧ State.reset.dram = [] ∧ State.reset.pending = []

/-- While a long operation runs, every host write of a served session is answered BUSY and not executed (R55). -/
def Obligations.BusyAnswersEveryWrite : Prop :=
  ∀ (i : Instr) (s : State) (sess idx : Nat) (x : Sess), anyWriteRow i = some (sess, idx) → s.dev.session? sess = some x →
    x.port = 0 → s.dev.serves x.via = true → s.dev.com.op ≠ none → Answers i s sess 0x0F000010 s.begin_

/-- A host write to an object of the product that the state or recovery service keeps back is answered 0x0800_0022 and changes nothing
(R407, R456, R464). -/
def Obligations.StateKeepsWritesBack : Prop :=
  ∀ (i : Instr) (s : State) (sess idx : Nat) (x : Sess), hostWriteRow i = some (sess, idx) → s.dev.session? sess = some x →
    x.port = 0 → s.dev.serves x.via = true → s.dev.com.op = none → (rowsOf s.dev.product idx).isEmpty = false →
    (s.dev.gated idx = true ∨ s.dev.served x idx = false) → Answers i s sess 0x08000022 s.begin_

/-- Every message row: a transport that is not served hears nothing; a message that fails a check of R38 is dropped, counted for its
port, and does nothing else. -/
def Obligations.BadMessagesAreOnlyCounted : Prop :=
  ∀ (i : Instr) (s : State) (m : Dgram), dgramRow i = some m →
    (s.dev.deaf (viaCode m.via) = true → Makes i s s.begin_) ∧
    (s.dev.deaf (viaCode m.via) = false →
      (headerOk m = false ∨ s.dev.allowed (viaCode m.via) m.src = false ∨ s.dev.authentic m = false) →
      s.dev.com.drops.get 0 (viaCode m.via) + 1 < 2 ^ 32 →
      Makes i s { s.begin_ with
        com := { s.dev.com with drops := s.dev.com.drops.set (viaCode m.via) (s.dev.com.drops.get 0 (viaCode m.via) + 1) } })

/-- OPEN: while a slot and a place of its kind are free, the host gets a session with an identifier in 1 to 65,535, the next one while any has
never been assigned, else the one freed longest ago, its messages numbered on from the OPEN's SEQ (the model's choice, log 88), and OPEN_ACK with status 0; beyond the limits of R40 it gets status 1 and nothing else changes (R39, R40, R43). -/
def Obligations.OpenGrantsASessionWithinItsLimits : Prop :=
  ∀ (s : State) (m : Dgram) (k : Nat), s.dev.admits m → m.typ = 1 → bit m.flags 3 = false →
    (∀ i ∈ s.dev.com.freed, 1 ≤ i ∧ i ≤ 65535) →
    (viaCode m.via < 2 ∨ cotPort m.udpPort = 0) → (List.range 7).find? (fun i => (s.dev.com.sess.find? (i + 1)).isNone) = some k →
    ((s.dev.com.sess.filter (fun x => x.2.port == cotPort m.udpPort)).length < [4, 1, 2].getD (cotPort m.udpPort) 0 →
      1 ≤ s.dev.nextId ∧ s.dev.nextId ≤ 65535 ∧ (s.dev.com.lastId < 65535 → s.dev.nextId = s.dev.com.lastId + 1) ∧
      (∀ i r, s.dev.com.lastId = 65535 → s.dev.com.freed = i :: r → s.dev.nextId = i) ∧
      Makes (.open_ m) s
        (({ s.begin_ with
            com := { s.dev.takeId with
              sess := s.dev.com.sess.set (k + 1)
                { id := s.dev.nextId, via := viaCode m.via, port := cotPort m.udpPort, peer := if 2 ≤ viaCode m.via then 0 else m.src
                  rxSeq := m.seq, txSeq := 1 } } } : Dev).openAck (viaCode m.via) 0 s.dev.nextId 1)) ∧
    ([4, 1, 2].getD (cotPort m.udpPort) 0 ≤ (s.dev.com.sess.filter (fun x => x.2.port == cotPort m.udpPort)).length →
      Makes (.open_ m) s (s.begin_.openAck (viaCode m.via) 1 0 1))

/-- CLOSE and the idle timeout close the session: its slot is free, its contexts in Staging are Empty and the others as they were, and
every group it owned has neither staged values, nor staged tables, nor an owner; the timeout also raises EV_SESSION (R41, R61, R77). -/
def Obligations.ClosingASessionDropsWhatItStaged : Prop :=
  (∀ (s : State) (m : Dgram) (x : Sess) (k : Nat), s.dev.admits m → m.typ = 3 → s.dev.sessionOf m = some x → seqNext x.rxSeq m.seq = true →
    s.dev.slotOf x.id = some k → Makes (.close m) s (s.begin_.closeSess k)) ∧
  (∀ (s : State) (id k : Nat) (x : Sess), id < 65536 → s.dev.slotOf id = some k → s.dev.session? id = some x →
    Reports (.sessionIdleTimeout id) s (s.begin_.closeSess k) 0x20 7 0 (if x.bound then 4 else x.via) id) ∧
  (∀ (d : Dev) (k : Nat) (x : Sess), d.com.sess.find? k = some x →
    (d.closeSess k).com.sess = d.com.sess.erase k ∧
    (∀ c y, d.ctxs.find? c = some y → y.code = 1 → y.owner = some x.id → (d.closeSess k).ctxs.find? c = some {}) ∧
    (∀ c y, d.ctxs.find? c = some y → (y.code ≠ 1 ∨ y.owner ≠ some x.id) → (d.closeSess k).ctxs.find? c = some y) ∧
    (∀ gg, d.dict.owners.find? gg = some x.id →
      (d.closeSess k).dict.owners.find? gg = none ∧ (d.closeSess k).dict.staged.all (fun e => groupOf (e.1 / 256) != some gg) = true ∧
        (d.closeSess k).dict.stagedDoms.all (fun e => groupOf e.1 != some gg) = true))

/-- A download begins: the initiate of a segmented or block download that passes its checks opens a transfer of its declared total in
place of any other, and is answered; a block size of 0 or above 127 is answered 0x0504_0002 and opens nothing (R50, R51, R53). -/
def Obligations.DownloadInitiatesOpenATransfer : Prop :=
  ∀ (s : State) (m : Dgram) (x : Sess), s.Asks m x →
    s.begin_.initiateCode x (sdoIndex m.payload).1 (sdoIndex m.payload).2 (sdoTotal m.payload) = 0 →
    (sdoCommand m.payload = 0x21 →
      Makes (.segmentedDownloadInitiate m) s
        ((s.begin_.openXfer x.id
          { kind := .segDown, index := (sdoIndex m.payload).1, sub := (sdoIndex m.payload).2, total := sdoTotal m.payload }).answered m x [[0x60]])) ∧
    (sdoCommand m.payload = 0x80 → 1 ≤ field m.payload 8 1 → field m.payload 8 1 ≤ 127 →
      Makes (.blockDownloadInitiate m) s
        ((s.begin_.openXfer x.id
          { kind := .blkDown, index := (sdoIndex m.payload).1, sub := (sdoIndex m.payload).2, total := sdoTotal m.payload
            block := field m.payload 8 1 }).answered m x [[0x88, byte (field m.payload 8 1)]])) ∧
    (sdoCommand m.payload = 0x80 → (field m.payload 8 1 = 0 ∨ 127 < field m.payload 8 1) →
      Makes (.blockDownloadInitiate m) s (s.begin_.answered m x [abortMsg 0x05040002]))

/-- A segment of a download that is not its last is taken with its bytes and answered; one whose counter differs from the expected value
ends the transfer with 0x0503_0000; a block segment in order is taken, with the acknowledgement when it ends its block (R50, R51). -/
def Obligations.DownloadSegmentsAccumulate : Prop :=
  ∀ (s : State) (m : Dgram) (x : Sess) (t : Xfer), s.Asks m x → x.xfer = some t →
    (t.kind = .segDown → sdoCommand m.payload = 0x22 → sdoCounter m.payload = t.ctr → bit (field m.payload 3 1) 0 = false →
      (t.data ++ m.payload.drop 4).length ≤ t.total →
      Makes (.downloadSegment m) s
        ((s.begin_.setXfer x.id (some { t with ctr := (t.ctr + 1) % 65536, data := t.data ++ m.payload.drop 4 })).answered m x
          [0x62 :: beBytes 2 t.ctr])) ∧
    (t.kind = .segDown → sdoCommand m.payload = 0x22 → sdoCounter m.payload ≠ t.ctr →
      Makes (.downloadSegment m) s ((s.begin_.setXfer x.id none).answered m x [abortMsg 0x05030000])) ∧
    (t.kind = .blkDown → sdoCommand m.payload = 0x81 → field m.payload 1 1 = t.ctr + 1 → field m.payload 2 2 = (m.payload.drop 4).length →
      (t.data ++ m.payload.drop 4).length ≤ t.total →
      Makes (.blockSegment m) s
        (if field m.payload 1 1 = t.block ∨ (t.data ++ m.payload.drop 4).length = t.total then
          (s.begin_.setXfer x.id (some { t with ctr := 0, data := t.data ++ m.payload.drop 4 })).answered m x [[0x89, byte (field m.payload 1 1)]]
        else
          (s.begin_.setXfer x.id (some { t with ctr := field m.payload 1 1, data := t.data ++ m.payload.drop 4 })).answered m x []))

/-- A whole value is written once its last byte has arrived and been checked: by the expedited download, by the last segment, and by the
block download's end under its CRC-16. A wrong total is answered 0x0607_0010 and a wrong CRC 0x0504_0004, and nothing is written
(R49, R51, R52). REBOOT and a write that starts a long operation are stated apart. -/
def Obligations.DownloadsWriteTheWholeValueAtTheEnd : Prop :=
  ∀ (s : State) (m : Dgram) (x : Sess), s.Asks m x →
    (∀ w : State × Nat, sdoCommand m.payload = 0x20 → 1 ≤ (m.payload.drop 4).length → (m.payload.drop 4).length ≤ 4 →
      ({ s with dev := s.begin_ } : State).write x (sdoIndex m.payload).1 (sdoIndex m.payload).2 (m.payload.drop 4) = w → w.2 = 0 →
      Dev.reboots (sdoIndex m.payload).1 (sdoIndex m.payload).2 (m.payload.drop 4) 0 = false →
      Makes (.expeditedDownload m) s (w.1.dev.answered m x [0x60 :: slice m.payload 1 3])) ∧
    (∀ (t : Xfer) (w : State × Nat), x.xfer = some t → t.kind = .segDown → sdoCommand m.payload = 0x22 → sdoCounter m.payload = t.ctr →
      bit (field m.payload 3 1) 0 = true → (t.data ++ m.payload.drop 4).length = t.total →
      ({ s with dev := s.begin_.setXfer x.id none } : State).write x t.index t.sub (t.data ++ m.payload.drop 4) = w → w.2 = 0 →
      Dev.reboots t.index t.sub (t.data ++ m.payload.drop 4) 0 = false →
      Makes (.downloadSegment m) s (w.1.dev.answered m x [0x62 :: beBytes 2 t.ctr])) ∧
    (∀ t : Xfer, x.xfer = some t → t.kind = .segDown → sdoCommand m.payload = 0x22 → sdoCounter m.payload = t.ctr →
      (t.total < (t.data ++ m.payload.drop 4).length ∨
        (bit (field m.payload 3 1) 0 = true ∧ (t.data ++ m.payload.drop 4).length ≠ t.total)) →
      Makes (.downloadSegment m) s ((s.begin_.setXfer x.id none).answered m x [abortMsg 0x06070010])) ∧
    (∀ (t : Xfer) (w : State × Nat), x.xfer = some t → t.kind = .blkDown → sdoCommand m.payload = 0x82 →
      ((t.data.length = t.total → crc16 0 t.data = field m.payload 1 2 →
        ({ s with dev := s.begin_.setXfer x.id none } : State).write x t.index t.sub t.data = w → w.2 = 0 → Dev.reboots t.index t.sub t.data 0 = false →
        Makes (.blockDownloadEnd m) s (w.1.dev.answered m x [[0x8A]])) ∧
      (t.data.length ≠ t.total → Makes (.blockDownloadEnd m) s ((s.begin_.setXfer x.id none).answered m x [abortMsg 0x06070010])) ∧
      (t.data.length = t.total → crc16 0 t.data ≠ field m.payload 1 2 →
        Makes (.blockDownloadEnd m) s ((s.begin_.setXfer x.id none).answered m x [abortMsg 0x05040004]))))

/-- Uploads: a value of at most 1,432 bytes is answered whole, a longer one segment by segment under its counter or block by block under
its acknowledgements, and the last block is followed by the value's CRC-16; a block upload of no bytes has no block. A read that is refused
is answered with its abort code, and a wrong counter ends the transfer with 0x0503_0000 (R50, R51, R53). -/
def Obligations.UploadsDeliverTheValueRead : Prop :=
  ∀ (s : State) (m : Dgram) (x : Sess), s.Asks m x →
    (∀ (staged : Bool) (d : Dev) (b : Bytes), sdoCommand m.payload = (if staged then 0x50 else 0x40) →
      s.begin_.readObj x (sdoIndex m.payload).1 (sdoIndex m.payload).2 staged = (d, .ok b) →
      (b.length ≤ 1432 → Makes (.uploadInitiate m) s (d.answered m x [0x43 :: beBytes 4 b.length ++ b])) ∧
      (1432 < b.length → Makes (.uploadInitiate m) s
        ((d.openXfer x.id { kind := .segUp, index := (sdoIndex m.payload).1, sub := (sdoIndex m.payload).2, total := b.length, data := b }).answered
          m x [0x41 :: beBytes 4 b.length]))) ∧
    (∀ (staged : Bool) (d : Dev) (e : Nat), sdoCommand m.payload = (if staged then 0x50 else 0x40) →
      s.begin_.readObj x (sdoIndex m.payload).1 (sdoIndex m.payload).2 staged = (d, .error e) →
      Makes (.uploadInitiate m) s (d.answered m x [abortMsg e])) ∧
    (∀ t : Xfer, x.xfer = some t → t.kind = .segUp → sdoCommand m.payload = 0x42 → sdoCounter m.payload ≠ t.ctr →
      Makes (.uploadSegmentRequest m) s ((s.begin_.setXfer x.id none).answered m x [abortMsg 0x05030000])) ∧
    (∀ t : Xfer, x.xfer = some t → t.kind = .segUp → sdoCommand m.payload = 0x42 → sdoCounter m.payload = t.ctr →
      (t.pos + segMax < t.total → t.data.length = t.total → Makes (.uploadSegmentRequest m) s
        ((s.begin_.setXfer x.id (some { t with ctr := t.ctr + 1, pos := t.pos + segMax })).answered m x
          [0x44 :: beBytes 2 t.ctr ++ [0] ++ (t.data.drop t.pos).take segMax])) ∧
      (t.total ≤ t.pos + ((t.data.drop t.pos).take segMax).length → Makes (.uploadSegmentRequest m) s
        ((s.begin_.setXfer x.id none).answered m x [0x44 :: beBytes 2 t.ctr ++ [1] ++ (t.data.drop t.pos).take segMax]))) ∧
    (∀ (staged : Bool) (d : Dev) (b : Bytes), sdoCommand m.payload = (if staged then 0xB0 else 0xA0) → 1 ≤ field m.payload 4 1 →
      field m.payload 4 1 ≤ 127 → s.begin_.readObj x (sdoIndex m.payload).1 (sdoIndex m.payload).2 staged = (d, .ok b) →
      (b = [] → Makes (.blockUploadInitiate m) s (d.answered m x [0xA8 :: beBytes 4 0, 0xAA :: beBytes 2 (crc16 0 [])])) ∧
      (b ≠ [] → Makes (.blockUploadInitiate m) s
        ((d.openXfer x.id { kind := .blkUp, index := (sdoIndex m.payload).1, sub := (sdoIndex m.payload).2, total := b.length, data := b
                            block := field m.payload 4 1, ctr := (Dev.blockMsgs b 0 (field m.payload 4 1)).length }).answered m x
          ((0xA8 :: beBytes 4 b.length) :: Dev.blockMsgs b 0 (field m.payload 4 1))))) ∧
    (∀ t : Xfer, x.xfer = some t → t.kind = .blkUp → sdoCommand m.payload = 0xA1 →
      Makes (.blockUploadAcknowledge m) s
        (if min t.total (t.pos + segMax * min t.ctr (field m.payload 1 1)) = t.total then
          (s.begin_.setXfer x.id none).answered m x [0xAA :: beBytes 2 (crc16 0 t.data)]
        else
          (s.begin_.setXfer x.id (some { t with
            pos := min t.total (t.pos + segMax * min t.ctr (field m.payload 1 1))
            ctr := (Dev.blockMsgs t.data (min t.total (t.pos + segMax * min t.ctr (field m.payload 1 1))) t.block).length })).answered m x
            (Dev.blockMsgs t.data (min t.total (t.pos + segMax * min t.ctr (field m.payload 1 1))) t.block)))

/-- A transfer ends without a write: on the host's SDO_ABORT, which is not answered, and at TRANSFER_TIMEOUT while no long operation
runs, which the session's next transfer message learns as 0x0504_0000, once; while one runs the interval does not end (R49, R53). -/
def Obligations.TransfersEndWithoutAWrite : Prop :=
  (∀ (s : State) (m : Dgram) (x : Sess), s.Asks m x → sdoCommand m.payload = 0xE0 →
    Makes (.sdoAbort m) s ((s.begin_.setXfer x.id none).answered m x [])) ∧
  (∀ (s : State) (sess : Nat) (x : Sess), s.dev.com.op = none → s.dev.session? sess = some x → x.xfer ≠ none →
    Makes (.transferTimeout sess) s
      (s.begin_.onSess sess (fun y => if y.xfer.isSome then { y with xfer := none, abandoned := true } else y))) ∧
  (∀ (s : State) (sess : Nat), s.dev.com.op ≠ none → Makes (.transferTimeout sess) s s.begin_) ∧
  (∀ (s : State) (m : Dgram) (x : Sess), s.Asks m x → x.xfer = none → x.abandoned = true →
    (sdoCommand m.payload = 0x22 → Makes (.downloadSegment m) s
      ((s.begin_.onSess x.id (fun y => { y with abandoned := false })).answered m x [abortMsg 0x05040000])) ∧
    (sdoCommand m.payload = 0x42 → Makes (.uploadSegmentRequest m) s
      ((s.begin_.onSess x.id (fun y => { y with abandoned := false })).answered m x [abortMsg 0x05040000])) ∧
    (sdoCommand m.payload = 0x81 → Makes (.blockSegment m) s
      ((s.begin_.onSess x.id (fun y => { y with abandoned := false })).answered m x [abortMsg 0x05040000])) ∧
    (sdoCommand m.payload = 0x82 → Makes (.blockDownloadEnd m) s
      ((s.begin_.onSess x.id (fun y => { y with abandoned := false })).answered m x [abortMsg 0x05040000])) ∧
    (sdoCommand m.payload = 0xA1 → Makes (.blockUploadAcknowledge m) s
      ((s.begin_.onSess x.id (fun y => { y with abandoned := false })).answered m x [abortMsg 0x05040000])))

/-- One whole object written by a session: a refused value changes nothing; an immediate object takes the value; an object or table of a
group is staged and the group owned, unless another session owns it; a context object or table is staged in the context of the session's
window, which an Empty context enters Staging by (R23, R33, R60, R61, R63, R75). Objects whose write is a command are stated apart. -/
def Obligations.ObjectWritesStageOrTakeEffect : Prop :=
  ∀ (s : State) (sess idx sub : Nat) (b : Bytes) (x : Sess), s.dev.session? sess = some x → x.port = 0 → s.dev.serves x.via = true →
    s.dev.com.op = none → commandObject idx = false → ¬(idx = 0x2100 ∧ sub = 2) → idx ≠ 0x2108 →
    (∀ e, s.begin_.writable x idx sub b.length = .error e → Answers (.objectWrite sess idx sub b) s sess e s.begin_) ∧
    (∀ r, s.begin_.writable x idx sub b.length = .ok r →
      (valueCode s.dev.product idx sub r b ≠ 0 →
        Answers (.objectWrite sess idx sub b) s sess (valueCode s.dev.product idx sub r b) s.begin_) ∧
      (valueCode s.dev.product idx sub r b = 0 →
        (r.ty ≠ .dom → ofContext idx = false → r.acc = .rw →
          Answers (.objectWrite sess idx sub b) s sess 0 (s.begin_.put idx sub (leNat b))) ∧
        (r.ty = .dom → ofContext idx = false → groupOf idx = none →
          Answers (.objectWrite sess idx sub b) s sess 0 (s.begin_.putDom idx b)) ∧
        (∀ gg, r.ty ≠ .dom → ofContext idx = false → r.acc = .rws → groupOf idx = some gg → s.dev.ownedByOther x.id gg = false →
          Answers (.objectWrite sess idx sub b) s sess 0
            { s.begin_ with dict := { s.dev.dict with staged := s.dev.dict.staged.set (key idx sub) (leNat b), owners := s.dev.dict.owners.set gg x.id } }) ∧
        (∀ gg, r.ty = .dom → ofContext idx = false → groupOf idx = some gg → s.dev.ownedByOther x.id gg = false →
          Answers (.objectWrite sess idx sub b) s sess 0
            { s.begin_ with dict := { s.dev.dict with stagedDoms := s.dev.dict.stagedDoms.set idx b, owners := s.dev.dict.owners.set gg x.id } }) ∧
        (∀ gg, ofContext idx = false → (r.ty = .dom ∨ r.acc = .rws) → groupOf idx = some gg → s.dev.ownedByOther x.id gg = true →
          Answers (.objectWrite sess idx sub b) s sess 0x0F000013 s.begin_) ∧
        (r.ty ≠ .dom → ofContext idx = true →
          ((s.dev.ctx x.window).code = 0 → Answers (.objectWrite sess idx sub b) s sess 0
            (s.begin_.setCtx x.window { code := 1, owner := some x.id, val := [(key idx sub, leNat b)] })) ∧
          ((s.dev.ctx x.window).code = 1 → (s.dev.ctx x.window).owner = some x.id → Answers (.objectWrite sess idx sub b) s sess 0
            (s.begin_.setCtx x.window { s.dev.ctx x.window with val := (s.dev.ctx x.window).val.set (key idx sub) (leNat b) })) ∧
          ((s.dev.ctx x.window).code = 1 → (s.dev.ctx x.window).owner ≠ some x.id →
            Answers (.objectWrite sess idx sub b) s sess 0x0F000013 s.begin_) ∧
          (2 ≤ (s.dev.ctx x.window).code → Answers (.objectWrite sess idx sub b) s sess 0x0F000017 s.begin_)) ∧
        (r.ty = .dom → ofContext idx = true →
          ((s.dev.ctx x.window).code = 0 → Answers (.objectWrite sess idx sub b) s sess 0
            (s.begin_.setCtx x.window { code := 1, owner := some x.id, dom := [(idx, b)] })) ∧
          ((s.dev.ctx x.window).code = 1 → (s.dev.ctx x.window).owner = some x.id → Answers (.objectWrite sess idx sub b) s sess 0
            (s.begin_.setCtx x.window { s.dev.ctx x.window with dom := (s.dev.ctx x.window).dom.set idx b })) ∧
          ((s.dev.ctx x.window).code = 1 → (s.dev.ctx x.window).owner ≠ some x.id →
            Answers (.objectWrite sess idx sub b) s sess 0x0F000013 s.begin_) ∧
          (2 ≤ (s.dev.ctx x.window).code → Answers (.objectWrite sess idx sub b) s sess 0x0F000017 s.begin_))))

/-- A group commit takes the whole group or nothing: owned by another session it is refused with 0x0F00_0013; when a rule fails, 0x2021
names the group, the object and the rule code, the answer is 0x0F00_0012 and the staged values stay; else the group takes effect, every
object of it that was staged having its staged value and every other object the value it had, and nothing of it stays staged or owned.
A discard of a group that no other session owns drops its staged values, its staged tables and its owner (R60, R61). -/
def Obligations.GroupCommitsTakeAllOrNothing : Prop :=
  ∀ (s : State) (sess gg : Nat), s.Serves sess 0x2020 → ((1 ≤ gg ∧ gg ≤ 12) ∨ (16 ≤ gg ∧ gg ≤ 23)) →
    (s.dev.commitGated gg = false → s.dev.ownedByOther sess gg = true →
      Answers (.groupCommit sess gg) s sess 0x0F000013 s.begin_) ∧
    (s.dev.ownedByOther sess gg = true → Answers (.groupDiscard sess gg) s sess 0x0F000013 s.begin_) ∧
    (s.dev.ownedByOther sess gg = false → Answers (.groupDiscard sess gg) s sess 0 (s.begin_.dropStaged gg)) ∧
    (∀ k code, s.dev.commitGated gg = false → s.dev.ownedByOther sess gg = false →
      Sys2Proof.Machine.firstFail (Dev.groupFails s.begin_ (s.begin_.merged gg) gg) = some (k, code) →
      Answers (.groupCommit sess gg) s sess 0x0F000012 (((s.begin_.put 0x2021 1 gg).put 0x2021 2 k).put 0x2021 3 code)) ∧
    (∀ d c, s.dev.commitGated gg = false → s.dev.ownedByOther sess gg = false →
      Sys2Proof.Machine.firstFail (Dev.groupFails s.begin_ (s.begin_.merged gg) gg) = none → s.begin_.commitEffect sess gg = (d, c) →
      Answers (.groupCommit sess gg) s sess c (d.dropStaged gg)) ∧
    (∀ k, Table.wf s.dev.dict.staged = true →
      (s.begin_.merged gg).dict.regs.find? k =
        (if groupOf (k / 256) = some gg then (s.dev.dict.staged.find? k).or (s.dev.dict.regs.find? k) else s.dev.dict.regs.find? k)) ∧
    (∀ d : Dev, (d.dropStaged gg).dict.owners.find? gg = none ∧
      (d.dropStaged gg).dict.staged.all (fun e => groupOf (e.1 / 256) != some gg) = true ∧
      (d.dropStaged gg).dict.stagedDoms.all (fun e => groupOf e.1 != some gg) = true)

/-- Key slots are written only over the USB service port: any other transport is answered 0x0F00_0015 and nothing changes; over USB the
slot takes the 32 bytes, zero bytes empty it, and EV_KEY_CHANGE names the slot. A read of a key slot is refused over every transport (R47). -/
def Obligations.KeySlotsAreWrittenOverUsbOnly : Prop :=
  ∀ (s : State) (sess : Nat) (slot : Fin 4) (k : Bytes) (x : Sess), s.dev.session? sess = some x → x.port = 0 → s.dev.sys.verified = true →
    s.dev.com.op = none → k.length = 32 →
    (x.via ≠ 3 → Answers (.keySlotWrite sess slot k) s sess 0x0F000015 s.begin_) ∧
    (x.via = 3 → AnswersReporting (.keySlotWrite sess slot k) s sess 0 (s.begin_.put 0x1450 (slot + 1) (leNat k)) 0x20 122 0 slot
      (if leNat k = 0 then 0 else 1)) ∧
    (∀ staged, s.begin_.readObj x 0x1450 (slot + 1) staged = (s.begin_, .error 0x06010001))

/-- A ledger or log record is selected where it is retained, else the write is answered 0x0800_0024 and the selection stays; a DOMAIN load
writes the table that a stored kind 3 frame holds, as one write of that table, and 0x0F00_001F answers a frame that is not stored
(R98, R127, R422). -/
def Obligations.SelectionsNameRetainedRecords : Prop :=
  ∀ (s : State) (sess : Nat) (x : Sess), s.dev.session? sess = some x → x.port = 0 → s.dev.sys.verified = true → s.dev.com.op = none →
    (∀ rep, rep < 2 ^ 64 → (∃ r ∈ s.dev.retained, r.num = rep) → Answers (.ledgerSelect sess rep) s sess 0 (s.begin_.put 0x2040 1 rep)) ∧
    (∀ rep, rep < 2 ^ 64 → (∀ r ∈ s.dev.retained, r.num ≠ rep) → Answers (.ledgerSelect sess rep) s sess 0x08000024 s.begin_) ∧
    (∀ n, n < 2 ^ 32 → s.dev.logRecord n ≠ none → Answers (.logSelect sess n) s sess 0 (s.begin_.put 0x2206 1 n)) ∧
    (∀ n, n < 2 ^ 32 → s.dev.logRecord n = none → Answers (.logSelect sess n) s sess 0x08000024 s.begin_) ∧
    (∀ v r, v.length = 12 → s.begin_.writable x 0x2A06 0 12 = .ok r → r.ty ≠ .dom → valueCode s.dev.product 0x2A06 0 r v = 0 →
      (s.dev.frameOk 3 (leNat (slice v 4 8)) = none → Answers (.domainLoad sess v) s sess 0x0F00001F s.begin_) ∧
      (∀ f d c, s.dev.frameOk 3 (leNat (slice v 4 8)) = some f →
        (rowsOf s.dev.product (leNat (v.take 2))).any (fun r => r.ty == .dom && r.hasSub 0) = true →
        s.begin_.writeTable x (leNat (v.take 2)) 0 (f.data.take f.hdr.ulen) = (d, c) → Answers (.domainLoad sess v) s sess c d))

/-- PD-OUT in its session is held for the next cycle instant and ends a loss; the copy of one that a bound session has taken on the other
port is dropped uncounted, and any other SEQ out of order or a malformed payload is dropped and counted (R43, R45, R67, R68, R497). EVENT_ACK of four bytes ends the resending of the messages
it covers (R71). -/
def Obligations.CyclicMessagesAreTakenInOrder : Prop :=
  ∀ (s : State) (m : Dgram) (x : Sess), s.dev.admits m → s.dev.sessionOf m = some x →
    (m.typ = 0x20 →
      (seqNext x.rxSeq m.seq = true → pdOk m.payload = true →
        Makes (.pdOut m) s ((s.begin_.onSess x.id (fun y =>
            { y with rxSeq := m.seq, taken := if y.bound then (m.seq, viaCode m.via) :: y.taken else [] })).onPd (fun p =>
          { p with held := some m.payload, supervised := true, lost := false, intended := (pdOut m.payload).intended }))) ∧
      (seqNext x.rxSeq m.seq = false → x.bound = true → (∃ v, (m.seq, v) ∈ x.taken ∧ v ≠ viaCode m.via) →
        Makes (.pdOut m) s (s.begin_.onSess x.id (fun y => { y with taken := y.taken.filter (fun u => u.1 != m.seq) }))) ∧
      ((seqNext x.rxSeq m.seq = false ∧ (x.bound = false ∨ ∀ v, (m.seq, v) ∈ x.taken → v = viaCode m.via)) ∨
          (seqNext x.rxSeq m.seq = true ∧ pdOk m.payload = false) →
        Makes (.pdOut m) s (s.begin_.dropMsg (viaCode m.via)))) ∧
    (m.typ = 0x31 →
      (seqNext x.rxSeq m.seq = true → m.payload.length = 4 →
        Makes (.eventAck m) s (s.begin_.onSess x.id (fun y =>
          { y with rxSeq := m.seq, unacked := y.unacked.filter (fun u => !Dev.seqUpTo u.1 (beNat m.payload)) }))) ∧
      (seqNext x.rxSeq m.seq = false → Makes (.eventAck m) s (s.begin_.dropMsg (viaCode m.via))))

/-- A cycle instant falls due with the first multiple of the cycle on the service timescale that comes at least half a cycle after the last
one; before it nothing happens (R66, R337). At it, what the held PD-OUT asks for is done once: cancel, flying change, command, spoil,
splice, in that order; then PD-IN leaves in the process-data session with the next SEQ, on both field ports where the session is bound
(R66, R67, R499). A loss of process data is counted once, raised as EV_PD_LOSS, and answered by STOP where 0x1430:03 asks for it (R68).
Messages a slot's host has not acknowledged are sent again as they were (R71). -/
def Obligations.TheCycleActsAndReports : Prop :=
  (∀ s : State, s.dev.g 0x1430 1 ≠ 0 → s.dev.sys.verified = true → s.begin_.cycleDue = true →
    Makes .pdCycleInstant s s.begin_.takeCycle.actPd.sendPd) ∧
  (∀ s : State, (s.dev.g 0x1430 1 = 0 ∨ s.dev.sys.verified = false ∨ s.begin_.cycleDue = false) → Makes .pdCycleInstant s s.begin_) ∧
  (∀ d : Dev, (d.cycleDue = true ↔
      (∀ p, d.time.cyclePast = some p → p / (d.g 0x1430 1 * 1000) < d.serviceNow / (d.g 0x1430 1 * 1000)) ∧
      ∀ a, d.time.cycleAt = some a → d.g 0x1430 1 * 1000 ≤ 2 * (d.t - a)) ∧
    d.takeCycle.time.cyclePast = some d.serviceNow ∧ d.takeCycle.time.cycleAt = some d.t) ∧
  (∀ (d : Dev) (p : Bytes), d.com.pd.held = some p →
    d.actPd = (((((d.cancelRequest (pdOut p).cancelCount (pdOut p).cancelOp).fcRequest (pdOut p).fcCount (pdOut p).nextCtx
      (pdOut p).atRepeat).cmdRequest (pdOut p).cmdCount (pdOut p).command).spoilRequest (pdOut p).spoilCount (pdOut p).spoilRepeat).spliceRequest
      (pdOut p).spliceCount).onPd (fun p => { p with held := none })) ∧
  (∀ d : Dev, d.com.pd.held = none → d.actPd = d) ∧
  (∀ (d e : Dev) (x : Sess), d.pdSession = some x → e = (d.onSess x.id (fun y => { y with txSeq := (x.txSeq + 1) % 4294967296 })).drew →
    d.pdIn.length = 144 ∧
    (x.bound = false → d.sendPd = e.sendMsg x.via 0x21 x.id ((x.txSeq + 1) % 4294967296) d.pdIn) ∧
    (x.bound = true → d.portOff 0 = false → d.portOff 1 = false →
      d.sendPd = (e.emit (.datagram 0 0x21 x.id 0 ((x.txSeq + 1) % 4294967296) d.pdIn [])).emit
        (.datagram 1 0x21 x.id 0 ((x.txSeq + 1) % 4294967296) d.pdIn []))) ∧
  (∀ s : State, s.dev.com.pd.supervised = true → s.dev.com.pd.lost = false → s.dev.g 0x1430 1 ≠ 0 → s.dev.g 0x1430 2 ≠ 0 →
    (s.dev.g 0x1430 3 ≠ 1 → s.dev.cnt 0x1430 4 + 1 < 2 ^ 32 →
      Reports .pdLoss s
        ((s.begin_.put 0x1430 4 (s.dev.cnt 0x1430 4 + 1)).onPd (fun p => { p with lost := true }))
        0x20 6 0 (s.dev.pdSession.elim 0xFF (fun x => if x.bound then 4 else x.via)) (s.dev.cnt 0x1430 4 + 1)) ∧
    (s.dev.g 0x1430 3 = 1 → Makes .pdLoss s
      (((s.begin_.bump 0x1430 4).raise 6 0 (s.dev.pdSession.elim 0xFF (fun x => if x.bound then 4 else x.via))
        ((s.begin_.bump 0x1430 4).cnt 0x1430 4)).onPd (fun p => { p with lost := true })).writeStop.1)) ∧
  (∀ s : State, s.dev.com.pd.lost = true → Makes .pdLoss s s.begin_) ∧
  (∀ (s : State) (slot : Nat) (x : Sess), s.dev.com.sess.find? slot = some x → x.port = 2 → s.dev.g 0x1440 1 ≠ 0 →
    s.dev.portOff x.via = false → Makes (.eventResend slot) s (s.begin_.emits (x.unacked.map (fun u =>
      .datagram x.via 0x30 x.id 16 u.1 (u.2.flatMap EventRec.bytes) []))))

/-- The requests of process data act once for each new nonzero counter (R498), from Ready on, on a device that follows no partner: a
flying change to a context that is not usable reads REFUSED_STATE, and one while nothing is printed sets the start context and reads
DONE (R88, R90, R94); a cancel that names no running operation, a spoil that names no repeat still open and a splice while no repeat is
printed are refused with result 1, their counters echoed; an old counter changes nothing (R58, R102, R498, R500). -/
def Obligations.RequestsActOncePerCounter : Prop :=
  ∀ (s : State) (n : Nat), 1 ≤ n → n ≤ 255 →
    (∀ c r, n = s.dev.com.pd.ackFc → Makes (.flyingChangeRequest n c r) s s.begin_) ∧
    (∀ o, n = s.dev.com.pd.ackCancel → Makes (.cancelRequest n o) s s.begin_) ∧
    (∀ k, n = s.dev.com.pd.ackSpoil → Makes (.spoilRequest n k) s s.begin_) ∧
    (n = s.dev.com.pd.ackSplice → Makes (.spliceRequest n) s s.begin_) ∧
    (s.dev.fromReady = true → s.dev.follows = false →
      (∀ c r, n ≠ s.dev.com.pd.ackFc → (128 ≤ c ∨ (s.dev.ctx c).code < 4) →
        Makes (.flyingChangeRequest n c r) s
          ((s.begin_.onPd (fun p => { p with ackFc := n })).put 0x2014 4 n |>.showFc 6)) ∧
      (∀ c r, n ≠ s.dev.com.pd.ackFc → s.dev.usable c = true → s.dev.phase ≠ .printing →
        Makes (.flyingChangeRequest n c r) s
          ((s.begin_.onPd (fun p => { p with ackFc := n })).put 0x2014 4 n |>.setStart c)) ∧
      (∀ o, n ≠ s.dev.com.pd.ackCancel → (∀ q, s.dev.com.op = some q → q.id ≠ o) →
        Makes (.cancelRequest n o) s (s.begin_.onPd (fun p => { p with ackCancel := n, resCancel := 1 }))) ∧
      (∀ o q, n ≠ s.dev.com.pd.ackCancel → s.dev.com.op = some q → q.id = o →
        Makes (.cancelRequest n o) s ((s.begin_.abandonOp 0x0F000016).onPd (fun p => { p with ackCancel := n, resCancel := 0 }))) ∧
      (∀ k, n ≠ s.dev.com.pd.ackSpoil → s.dev.rep? k = none →
        Makes (.spoilRequest n k) s (s.begin_.onPd (fun p => { p with ackSpoil := n, resSpoil := 1 }))) ∧
      (∀ k r, n ≠ s.dev.com.pd.ackSpoil → s.dev.rep? k = some r → r.open_ ≠ 0 → s.dev.role ≠ 1 →
        Makes (.spoilRequest n k) s
          (((s.begin_.onPd (fun p => { p with ackSpoil := n })).applySpoil k).onPd (fun p => { p with resSpoil := 0 }))) ∧
      (n ≠ s.dev.com.pd.ackSplice → s.dev.phase ≠ .printing →
        Makes (.spliceRequest n) s (s.begin_.onPd (fun p => { p with ackSplice := n, resSplice := 1 }))))

/-- ARM of the session's own Staging context starts a class 1 operation, answered with BUSY: a rule that fails is named in 0x2013 and the
context stays Validating until the arm ends, as it does where the fixed traffic leaves no decode rate; else it is Flattening with its planes
taken (R55, R59, R78, R79). ARM_COMPLETE then makes it Armed with its ceiling, checksum and cache bytes and logs EV_ARM_DONE, or records
the failure in 0x2013 and ends the operation with its result: of arm step 1 or 2, of a cache store without room (0x0F00_001B), or of a
cache tile that failed its CRC (0x0F00_001C) (R78, R79). -/
def Obligations.ArmValidatesAndEndsArmedOrStaging : Prop :=
  (∀ (s : State) (sess c : Nat), s.Serves sess 0x2012 → c ≤ 127 → (s.dev.ctx c).code = 1 → (s.dev.ctx c).owner = some sess →
    (∀ k code, firstFail (s.begin_.armFails c) = some (k, code) →
      Answers (.arm sess c) s sess 0x0F000010
        ((((s.begin_.onCtx c (fun x => { x with code := 2 })).put 0x2013 1 c).put 0x2013 2 k).put 0x2013 3 code |>.beginOp 1 sess c 0x0F000019)) ∧
    (firstFail (s.begin_.armFails c) = none → s.begin_.fixedLoad < 81920000000 →
      Answers (.arm sess c) s sess 0x0F000010
        (((s.begin_.onCtx c (fun x =>
          { x with code := 3, planes := s.begin_.staticPlanes c, lost := [], tones := s.begin_.barList.map (fun n => (n, s.begin_.toneTable c n)) })).setCeiling
            c 0).beginOp 1 sess c)) ∧
    (firstFail (s.begin_.armFails c) = none → 81920000000 ≤ s.begin_.fixedLoad →
      Answers (.arm sess c) s sess 0x0F000010 ((s.begin_.onCtx c (fun x => { x with code := 2 })).beginOp 1 sess c 0x0F00001A))) ∧
  (∀ (s : State) (o : Op) (b : Bool), s.dev.com.op = some o → o.cls = 1 →
    (o.result ≠ 0 → o.result ≠ 0x0F000019 →
      Makes (.armComplete b) s ((s.begin_.armFailed o 0 o.result o.result).endOp o.result)) ∧
    (o.result = 0x0F000019 →
      Makes (.armComplete b) s ((s.begin_.armFailed o (s.dev.g 0x2013 2) (s.dev.g 0x2013 3) 0x0F000019).endOp 0x0F000019)) ∧
    (∀ ts : List CacheTile, o.result = 0 → ts = s.begin_.cacheTiles o.arg →
      s.begin_.cacheFits o.arg (ts.foldl (fun t x => t.set x.bar (t.get 0 x.bar + x.hdr.clen)) []) = false →
      Makes (.armComplete b) s ((s.begin_.armFailed o 0 0x0F00001B 0x0F00001B).endOp 0x0F00001B))) ∧
  (∀ (s : State) (o : Op) (ts : List CacheTile), s.dev.com.op = some o → o.cls = 1 → o.result = 0 → ts = s.begin_.cacheTiles o.arg →
    s.begin_.cacheFits o.arg (ts.foldl (fun t x => t.set x.bar (t.get 0 x.bar + x.hdr.clen)) []) = true →
    Makes (.armComplete true) s ((s.begin_.armFailed o 0 0x0F00001C 0x0F00001C).endOp 0x0F00001C) ∧
    Makes (.armComplete false) s
      ((((s.begin_.onCtx o.arg (fun x =>
        { x with
          code := 4, owner := none
          ceiling := (Dev.ceilingOf (s.begin_.ceilingTerms o.arg (ts.map (fun x => x.hdr.clen)).sum)).1
          limiting := (Dev.ceilingOf (s.begin_.ceilingTerms o.arg (ts.map (fun x => x.hdr.clen)).sum)).2
          terms := s.begin_.ceilingTerms o.arg (ts.map (fun x => x.hdr.clen)).sum
          checksum := s.begin_.contextChecksum o.arg ts, noGain := (ts.filter (fun x => x.noGain)).length
          bytes := (ts.map (fun x => x.hdr.clen)).sum
          stripes := ts.foldl (fun t x => t.set x.bar (t.get 0 x.bar + x.hdr.clen)) [], v := 0, lastEnd := 0, lastRep := 0 })).bumpBy
            0x2B00 4 (ts.filter (fun x => x.noGain)).length).raise 28 0 o.arg 0).endOp 0 |>.sendChecksum o.arg |>.compareSums o.arg))

/-- The context commands of Table 3.2 in the states they act in: DISCARD empties the session's Staging context; UNARM takes an Armed one
back to the session's Staging; RELEASE empties it; CLONE copies a context's values into an Empty one; in any other state they are answered
0x0F00_0017, another session's Staging context 0x0F00_0013, and a target of a flying change 0x0F00_0018 (R76, R77). A pair is told of a
context's new checksum (R387). ABORT of a Live context, or of the target of a change, is decided by the device that follows no partner, and
takes effect at once where it has none (R95, R102, R389). -/
def Obligations.ContextCommandsMoveContexts : Prop :=
  ∀ (s : State) (sess c : Nat), s.Serves sess 0x2012 → c ≤ 127 →
    ((s.dev.ctx c).code = 1 → (s.dev.ctx c).owner = some sess → Answers (.discard sess c) s sess 0 (s.begin_.setCtx c {})) ∧
    ((s.dev.ctx c).code ≠ 1 → Answers (.discard sess c) s sess 0x0F000017 s.begin_) ∧
    ((s.dev.ctx c).code = 1 → (s.dev.ctx c).owner ≠ some sess → Answers (.discard sess c) s sess 0x0F000013 s.begin_) ∧
    ((s.dev.ctx c).code = 4 → s.dev.targeted c = false →
      Answers (.unarm sess c) s sess 0
        ((s.begin_.setCtx c { code := 1, owner := some sess, val := (s.dev.ctx c).val, dom := (s.dev.ctx c).dom }).sendChecksum c) ∧
      Answers (.release sess c) s sess 0 ((s.begin_.setCtx c {}).sendChecksum c)) ∧
    ((s.dev.ctx c).code = 4 → s.dev.targeted c = true →
      Answers (.unarm sess c) s sess 0x0F000018 s.begin_ ∧ Answers (.release sess c) s sess 0x0F000018 s.begin_) ∧
    ((s.dev.ctx c).code ≠ 4 →
      Answers (.unarm sess c) s sess 0x0F000017 s.begin_ ∧ Answers (.release sess c) s sess 0x0F000017 s.begin_) ∧
    (∀ src, src ≤ 127 → (s.dev.ctx c).code = 0 →
      ((s.dev.ctx src).code = 0 → Answers (.clone sess src c) s sess 0x0F000017 s.begin_) ∧
      ((s.dev.ctx src).code ≠ 0 → ((s.dev.ctx src).code ≠ 1 ∨ (s.dev.ctx src).owner = some sess) →
        Answers (.clone sess src c) s sess 0
          (s.begin_.setCtx c { code := 1, owner := some sess, val := (s.dev.ctx src).val, dom := (s.dev.ctx src).dom }))) ∧
    ((s.dev.ctx c).code = 5 ∨ ((s.dev.ctx c).code = 4 ∧ s.dev.targeted c = true) →
      (s.dev.follows = true → Answers (.abort sess c) s sess 0 s.begin_) ∧
      (s.dev.follows = false → Answers (.abort sess c) s sess 0
        (s.begin_.resolve { kind := 5, barMask := s.dev.liveMask c, repeatNo := 0, line := 0, value := c }))) ∧
    (∀ m : DecisionMsg, (s.dev.role ≠ 1 ∨ s.dev.twin.linked = false) → s.dev.resolve m = s.dev.applyDecision m) ∧
    (∀ k n l, s.dev.targeted c = false → (s.dev.ctx c).code = 5 →
      s.dev.applyDecision { kind := 5, barMask := k, repeatNo := n, line := l, value := c } = s.dev.applyAbort c) ∧
    ((s.dev.ctx c).code ≠ 5 → ¬((s.dev.ctx c).code = 4 ∧ s.dev.targeted c = true) →
      Answers (.abort sess c) s sess 0x0F000017 s.begin_)

/-- START acts in Armed, on a device that follows no partner, with an Armed start context and the lanes of its tiles UP: the first repeat is
placed at ⌈P⌉ + 96 + 0.002 v and the device prints (R84, R458, R459). STOP fixes the end boundary at the first repeat that meets the
margin, once; STOP_NOW ends the lines from the revoke point on, and its second without an end enters Armed with the lines still held revoked
(R459 to R461). In another state, and on a device that follows a partner, they are answered 0x0800_0022; a START without an Armed start
context is answered 0x0F00_0017. -/
def Obligations.StartAndStopFrameAPrintRun : Prop :=
  (∀ (s : State) (sess c : Nat), s.Serves sess 0x2000 → s.dev.sys.st = .armed → s.dev.follows = false → s.dev.print.startCtx = some c →
    c ≤ 127 → (s.dev.ctx c).code = 4 →
    (s.dev.lanesReady c = false → Answers (.start sess) s sess 0x08000022 s.begin_) ∧
    (s.dev.lanesReady c = true →
      s.dev.startPos = (ceilLine s.dev.posn + 96) * 65536 + s.dev.lineRate * 65536 / 500 ∧
      (s.dev.role ≠ 1 → Answers (.start sess) s sess 0 (s.begin_.startAt c s.dev.print.nextNum s.dev.startPos)) ∧
      (s.dev.role = 1 → Answers (.start sess) s sess 0
        ((s.begin_.barList.foldl (fun d b => d.sendDigest b s.dev.print.nextNum) s.begin_).resolve
          { kind := 13, barMask := s.dev.allBars, repeatNo := s.dev.print.nextNum
            line := (s.begin_.barList.foldl (fun d b => d.sendDigest b s.dev.print.nextNum) s.begin_).startPos, value := 1 + 256 * c })))) ∧
  (∀ (s : State) (sess : Nat), s.Serves sess 0x2000 →
    (s.dev.sys.st ≠ .armed ∨ s.dev.follows = true → Answers (.start sess) s sess 0x08000022 s.begin_) ∧
    (s.dev.sys.st = .armed → s.dev.follows = false → (∀ c, s.dev.print.startCtx = some c → (s.dev.ctx c).code ≠ 4) →
      Answers (.start sess) s sess 0x0F000017 s.begin_) ∧
    (s.dev.sys.st = .printing → s.dev.follows = false → s.dev.print.endRep = none →
      Answers (.stop sess) s sess 0 (s.begin_.resolve
        { kind := 13, barMask := s.dev.allBars, repeatNo := s.begin_.nextMet s.begin_.nextNum, line := 0, value := 2 })) ∧
    (∀ e, s.dev.sys.st = .printing → s.dev.follows = false → s.dev.print.endRep = some e → Answers (.stop sess) s sess 0 s.begin_) ∧
    (s.dev.sys.st ≠ .printing ∨ s.dev.follows = true → Answers (.stop sess) s sess 0x08000022 s.begin_) ∧
    ((s.dev.sys.st = .printing ∨ s.dev.sys.st = .stopping) → s.dev.follows = false →
      Answers (.stopNow sess) s sess 0 (s.begin_.resolve { kind := 13, barMask := s.dev.allBars, repeatNo := s.dev.nextNum, line := 0, value := 3 })) ∧
    ((s.dev.sys.st ≠ .printing ∧ s.dev.sys.st ≠ .stopping) ∨ s.dev.follows = true → Answers (.stopNow sess) s sess 0x08000022 s.begin_)) ∧
  (∀ (d : Dev) (m : DecisionMsg), (d.role ≠ 1 ∨ d.twin.linked = false) → d.resolve m = d.applyDecision m) ∧
  (∀ (d : Dev) (k n : Nat), d.sys.st = .printing → d.print.endRep = none →
    d.applyDecision { kind := 13, barMask := k, repeatNo := n, line := 0, value := 2 } = { d with print := { d.print with endRep := some n } }) ∧
  (∀ (d : Dev) (k n : Nat), d.applyDecision { kind := 13, barMask := k, repeatNo := n, line := 0, value := 3 } = d.stopNowAt) ∧
  (∀ s : State, s.dev.print.stopNow = true → s.dev.printingLike = true →
    Makes .stopNowTimeout s ((s.begin_.barList.foldl (fun d n =>
      if decide ((d.bar n).next < (d.bar n).sent) then d.revoke n (d.bar n).next else d) s.begin_).stopped)) ∧
  (∀ s : State, (s.dev.print.stopNow = false ∨ s.dev.printingLike = false) → Makes .stopNowTimeout s s.begin_)

/-- The margin to a pending change's boundary is crossed: the change locks and 0x2014 reads LOCKED (3); while another is locked it waits and
reads DEFERRED; a change whose boundary still meets the margin stays as it is (R86, R87). A generation whose margin is crossed before the
standby has acknowledged it is withdrawn with it (R310). -/
def Obligations.AChangeLocksAtItsMargin : Prop :=
  (∀ (s : State) (g : Gen), s.dev.keeper.gen = some g → g.acked = false → s.dev.met g.rep = false → s.dev.print.pending = none →
    Makes .changeLock s s.begin_.mirrorLate) ∧
  ∀ (s : State) (c : Chg), s.dev.print.pending = some c → s.dev.printingLike = true → c.waiting = false →
    (∀ g, s.dev.keeper.gen = some g → g.acked = true ∨ s.dev.met g.rep = true) →
    (s.dev.met c.n = true → Makes .changeLock s s.begin_) ∧
    (s.dev.met c.n = false → s.dev.print.locked = none →
      (Makes .changeLock s { s.begin_ with print := { s.dev.print with locked := some c, pending := none, shown := none } } ∧
        Dev.fcStatus { s.begin_ with print := { s.dev.print with locked := some c, pending := none, shown := none } } = 3)) ∧
    (∀ k, s.dev.met c.n = false → s.dev.print.locked = some k →
      Makes .changeLock s { s.begin_ with print := { s.dev.print with pending := some { c with deferred := true, waiting := true } } })

/-- A line of a bar within the render lead is rendered for the repeat that contains it, once no tile of it has to be asked of a partner; a
line that lays no dots is kept in the line store as a blank one; beyond the lead nothing is rendered (R99, R100, R391). The next line of a
lane that may send leaves as one line packet and counts as sent at its bar, a withheld one without its packet; a lane that may not send
sends nothing (R99, R251, R256). -/
def Obligations.LinesAreRenderedAndSentAhead : Prop :=
  (∀ (s : State) (n : Fin 8) (d : Dev) (r : Rep) (j : Nat), s.dev.printingLike = true → s.dev.fast = true → s.dev.sys.st ≠ .restarting →
    s.dev.print.sheetStart = false → (n : Nat) < s.dev.nbars → j = (s.dev.bar n).rend → j < s.dev.upNext n + s.dev.lead n 1 →
    d = s.begin_.ensure j → d.repAt j = some r → (∀ e, d.print.endRep = some e → r.num < e) → d.engineOut n j = false →
    (d.asks = true → ∀ c, r.ctx = some c → d.missingTiles n c (r.lineOf j) r = []) →
    Makes (.renderLine n) s (d.renderNow n j r) ∧
    (d.noDots n j r = true → r.ctx = none → j < r.gapStart d.sheet → j + 1 < ceilLine r.end_ →
      d.renderNow n j r = d.storeLine n { line := j, rep := r.num, dots := [], tiles := [] })) ∧
  (∀ (s : State) (n : Fin 8), s.dev.upNext n + s.dev.lead n 1 ≤ (s.dev.bar n).rend → Makes (.renderLine n) s s.begin_) ∧
  (∀ (s : State) (k : Fin 72) (r : Rep) (l : Nat), s.dev.maySend (k + 1) = true →
    s.dev.repAt (s.dev.lane (k + 1)).next = some r → s.dev.carriedLane (k + 1) = some l →
    (∀ d, d = (s.begin_.onLane (k + 1) (fun x => { x with next := (s.dev.lane (k + 1)).next + 1 })).onBar (Dev.laneBar (k + 1))
        (fun b => { b with sent := max b.sent ((s.dev.lane (k + 1)).next + 1) }) →
      (d.withheldLine (Dev.laneBar (k + 1)) (s.dev.lane (k + 1)).next = false →
        Makes (.sendLinePacket k) s (d.emit (.linePacket k ((s.dev.lane (k + 1)).next % 1099511627776)
          (d.packet (Dev.laneBar (k + 1)) l (bits (d.g 0x3420 (k + 1)) 31 24) (s.dev.lane (k + 1)).next r)))) ∧
      (d.withheldLine (Dev.laneBar (k + 1)) (s.dev.lane (k + 1)).next = true → Makes (.sendLinePacket k) s d))) ∧
  (∀ (s : State) (k : Fin 72), s.dev.maySend (k + 1) = false → Makes (.sendLinePacket k) s s.begin_)

/-- The next line of a bar falls due where the output has reached it by the command's instant. After what its repeat's boundary brings, it fires at its due instant
where the strobe before it leaves 1 / f_eff, is retired blank where a rule of Table 3.7 says so, and waits for its firing instant else;
behind a waiting line later lines queue up; at the end boundary of a stop the bar ends (R82, R210, R211, R214, R460). No line falls due
where the output has not reached one by then. A controlled stop's lines still come due in their order, each firing no sooner than 1 / f_eff after
the strobe before, or retired blank, and their tags leave (R211, R409). -/
def Obligations.LinesFireRetireOrWait : Prop :=
  (∀ (s : State) (n : Fin 8) (t due : Nat) (d f e : Dev) (r q : Rep) (j : Nat), s.dev.printingLike = true → s.dev.fast = true →
    s.dev.sys.st ≠ .fault → (n : Nat) < s.dev.nbars → s.dev.print.reps ≠ [] → s.dev.print.sheetStart = false → (s.dev.bar n).wait = none →
    j = (s.dev.bar n).next → s.begin_.lineDueBy n j t = some due → d = s.begin_.ensure j →
    (d.endLine = some j → Makes (.fireLine n t) s (d.endBar n j)) ∧
    ((∀ x, d.endLine = some x → j < x) → d.repAt j = some r → f = (if j = ceilLine r.d then d.boundaryAt n r else d) →
      q = (f.rep? r.num).getD r → e = f.plannedSwap n j q →
      (∀ c, e.retireFor n j q = some c → ¬(c = 0 ∧ e.oddAlt n j q = true ∧ e.altTooFast n q = true) →
        Makes (.fireLine n t) s ((e.retireBlank n j q c (f.prints n j q)).afterLine n j q)) ∧
      (e.retireFor n j q = none → e.fireInstant n due q ≤ due → e.altTooFast n q = false →
        Makes (.fireLine n t) s (((e.checkDelivered n j (f.prints n j q)).strobe n j (e.fireInstant n due q) q false 0).afterLine n j q)) ∧
      (e.retireFor n j q = none → (due < e.fireInstant n due q ∨ e.altTooFast n q = true) →
        Makes (.fireLine n t) s (e.onBar n (fun b => { b with wait := some (due, e.fireInstant n due q) }))))) ∧
  (∀ (s : State) (n : Fin 8) (t due : Nat) (w : Nat × Nat), s.dev.printingLike = true → s.dev.fast = true → s.dev.sys.st ≠ .fault →
    (n : Nat) < s.dev.nbars → s.dev.print.reps ≠ [] → s.dev.print.sheetStart = false → (s.dev.bar n).wait = some w →
    s.begin_.lineDueBy n ((s.dev.bar n).next + (1 + (s.dev.bar n).dues.length)) t = some due →
    Makes (.fireLine n t) s (s.begin_.onBar n (fun b => { b with dues := b.dues ++ [due] }))) ∧
  (∀ (s : State) (n : Fin 8) (t : Nat), s.dev.sys.st ≠ .fault →
    s.begin_.lineDueBy n ((s.dev.bar n).next + (if (s.dev.bar n).wait.isSome then 1 + (s.dev.bar n).dues.length else 0)) t = none →
    Makes (.fireLine n t) s s.begin_) ∧
  (∀ (s : State) (n : Fin 8) (t due j : Nat) (w : Option (Nat × Nat)) (rest : List (Nat × Option (Nat × Nat))) (e : Dev), s.dev.sys.st = .fault →
    s.dev.fast = true → (n : Nat) < s.dev.nbars → (s.dev.bar n).tail = (j, w) :: rest → s.begin_.lineDueBy n j t = some due →
    e = (s.begin_.tailTag n).onBar n (fun b => { b with next := j + 1, tail := rest, tagBlank := none }) →
    ((w = none ∨ ((s.begin_.tailTag n).bar n).strobeFault = true) →
      Makes (.fireLine n t) s ((e.bump (0x5006 + 0x100 * n) 6).tailTag n)) ∧
    (∀ width gap, w = some (width, gap) → ((s.begin_.tailTag n).bar n).strobeFault = false → s.dev.lineSends j = true →
      (∀ p, ((s.begin_.tailTag n).bar n).tPrev = some p → p + gap ≤ due) →
      Makes (.fireLine n t) s
        (((e.onBar n (fun b => { b with tPrev := some due, saturated := false })).emit (.strobe n j due width (e.gb n 0x5007 3))).tailTag n)))

/-- The watchdog cuts a FIRE output whose active edge comes sooner than the bar's fire limit and 220 kHz allow (cause 2), or that stays
active beyond the bar's maximum width in force (cause 1): the bar's strobe fault latches, is counted, its cause is kept and EV_STROBE_FAULT
logged, and the line it cut spoils its repeat while that prints; another pulse cuts nothing (R218, R219). Writing 1 to 0x5007:04 clears the
fault, and firing resumes at the next boundary; a bar that the product lacks has no such object (R2, R219). -/
def Obligations.StrobeFaultsLatchUntilCleared : Prop :=
  (∀ (s : State) (fire : Fin 16) (active cause n : Nat) (since : Option Nat), n = (fire : Nat) / 2 → n < s.dev.nbars → s.dev.fast = true →
    ((cause = 2 ∧ ∃ k, since = some k ∧ ((k : Nat) : Rat) < s.begin_.watchdogGap n) ∨
      (cause = 1 ∧ (∀ k, since = some k → s.begin_.watchdogGap n ≤ ((k : Nat) : Rat)) ∧
        4 * s.begin_.live n (s.dev.bar n).rep 0x5007 2 < active)) →
    Makes (.strobeWatchdog fire ⟨active, since⟩) s (s.begin_.strobeCut n fire cause) ∧
    (s.dev.printingLike = false → Reports (.strobeWatchdog fire ⟨active, since⟩) s
      (((s.begin_.onBar n (fun b => { b with strobeFault := true, strobeWait := false })).bump (0x5006 + 0x100 * n) 7).put (0x5006 + 0x100 * n) 8 cause)
      (evLevel 46) 46 (2 ^ n) fire cause)) ∧
  (∀ (s : State) (fire : Fin 16) (active : Nat) (since : Option Nat), (∀ k, since = some k → s.begin_.watchdogGap ((fire : Nat) / 2) ≤ ((k : Nat) : Rat)) →
    active ≤ 4 * s.begin_.live ((fire : Nat) / 2) (s.dev.bar ((fire : Nat) / 2)).rep 0x5007 2 → Makes (.strobeWatchdog fire ⟨active, since⟩) s s.begin_) ∧
  (∀ (d e : Dev) (n fire cause : Nat) (r : Rep), (e = ((((d.onBar n (fun b => { b with strobeFault := true, strobeWait := false })).bump
      (0x5006 + 0x100 * n) 7).put (0x5006 + 0x100 * n) 8 cause)).raise 46 (2 ^ n) fire cause) →
    e.repAt ((d.bar n).next - 1) = some r → (d.bar n).fired = true → d.printingLike = true → (d.bar n).next - 1 < r.gapStart d.sheet →
    e.barOff n r = false → d.strobeCut n fire cause = e.spoil r.num n 10) ∧
  (∀ d : Dev, ∀ n, 1818 ≤ d.watchdogGap n) ∧
  (∀ (s : State) (sess : Nat) (n : Fin 8), s.Serves sess (0x5007 + 0x100 * n) → (n : Nat) < s.dev.nbars →
    Answers (.strobeFaultClear sess n) s sess 0
      (s.begin_.onBar n (fun b => { b with strobeFault := false, strobeWait := (b.strobeFault || b.strobeWait) && s.dev.printingLike }))) ∧
  (∀ (s : State) (sess : Nat) (n : Fin 8) (x : Sess), s.dev.session? sess = some x → x.port = 0 → s.dev.serves x.via = true →
    s.dev.com.op = none → s.dev.nbars ≤ (n : Nat) → Answers (.strobeFaultClear sess n) s sess 0x06020000 s.begin_)

/-- Queue registers: Q_TAIL below the ring size is taken, and one outside it sets CFG_ERR, halts the queue and logs EV_QUEUE_CFG;
enabling with a ring order of 4 to 12 clears CFG_ERR, any other sets it, halts the queue and logs EV_QUEUE_CFG; disabling only clears
ENABLE; RESTART of a queue with a valid configuration clears HALTED, and of another changes nothing (the model's choice, log 95; R108, R111,
R112). A queue of a failed transfer completes its descriptor with the status, moved bytes open, halts, and raises EV_DMA_FAULT (R111). Where
the link is up and enumerated, the host reads BAR0 by words: the queue registers, the product, revision and state mirrors, the mailbox status,
and 0 where it is reserved; a word written to Q_TAIL, Q_CTRL, the mailbox acknowledgement or the doorbell is that command, one to a ring base
sets its half in units of 64 bytes, and a read-only one is ignored; else BAR0 does not answer (R106 to R108, Tables 4.1 to 4.4). -/
def Obligations.QueuesRunHaltAndRestart : Prop :=
  (∀ (s : State) (q : Fin 16) (tail : Nat),
    (tail < 2 ^ (s.dev.queue q).order → Makes (.qTailWrite q tail) s (s.begin_.setQueue q { s.dev.queue q with tail := tail })) ∧
    (2 ^ (s.dev.queue q).order ≤ tail →
      Reports (.qTailWrite q tail) s (s.begin_.setQueue q { s.dev.queue q with tail := tail, cfgErr := true, halted := true })
        (evLevel 31) 31 0 0xFF 0)) ∧
  (∀ (s : State) (q : Fin 16) (order : Nat) (irq : Bool), order < 16 →
    (4 ≤ order → order ≤ 12 → Makes (.queueEnable q order irq) s (s.begin_.setQueue q { s.dev.queue q with
      order := order, irqEn := irq, enabled := true, cfgErr := false, halted := (s.dev.queue q).halted && !(s.dev.queue q).cfgErr })) ∧
    ((order < 4 ∨ 12 < order) → Reports (.queueEnable q order irq) s (s.begin_.setQueue q { s.dev.queue q with
      order := order, irqEn := irq, enabled := true, cfgErr := true, halted := true }) (evLevel 31) 31 0 0xFF 0)) ∧
  (∀ (s : State) (q : Fin 16), Makes (.queueDisable q) s (s.begin_.setQueue q { s.dev.queue q with enabled := false })) ∧
  (∀ (s : State) (q : Fin 16), 4 ≤ (s.dev.queue q).order → (s.dev.queue q).order ≤ 12 → (s.dev.queue q).tail < 2 ^ (s.dev.queue q).order →
    Makes (.queueRestart q) s (s.begin_.setQueue q { s.dev.queue q with halted := false, cfgErr := false })) ∧
  (∀ (s : State) (q : Fin 16), ((s.dev.queue q).order < 4 ∨ 12 < (s.dev.queue q).order ∨ 2 ^ (s.dev.queue q).order ≤ (s.dev.queue q).tail) →
    Makes (.queueRestart q) s s.begin_) ∧
  (∀ (s : State) (q : Fin 16) (desc : Desc), (s.dev.queueReady q = true ∨ (s.dev.queue q).check ≠ none) →
    Makes (.dmaTimeout q desc) s (s.begin_.haltQueue q desc 0x30) ∧ Makes (.dmaError q desc) s (s.begin_.haltQueue q desc 0x31)) ∧
  (∀ (d e : Dev) (q st : Nat) (desc : Desc), (d.queueReady q = true ∨ (d.queue q).check ≠ none) →
    e = d.drew.complete q desc st (d.freeNat % 4294967296) (match (d.queue q).check with
      | some k => k.hdr.tileId
      | none => 0) →
    d.haltQueue q desc st = (e.setQueue q { e.queue q with halted := true, lastErr := st }).raise 16) ∧
  (∀ (s : State) (off n v : Nat) (b : Bytes) (q : Fin 16) (opened : Prop),
    (opened ↔ s.dev.fast = true ∧ s.dev.jobs.link = true ∧ s.dev.jobs.enumerated = true) →
    (¬ opened → Makes (.pcieConfigRequest (.barRead off n)) s s.begin_ ∧ Makes (.pcieConfigRequest (.barWrite off b)) s s.begin_) ∧
    (opened → Makes (.pcieConfigRequest (.barRead off n)) s
      (s.begin_.emit (.pcie ((List.range (n / 4)).flatMap (fun i => leBytes 4 (s.dev.barWord (off + 4 * i))))))) ∧
    (opened → v < 2 ^ 32 → b = leBytes 4 v →
      exec (.pcieConfigRequest (.barWrite (256 * q + 0x14) b)) s = exec (.qTailWrite q v) s ∧
      exec (.pcieConfigRequest (.barWrite 0xA004 (leBytes 4 1))) s = exec .mbD2hAck s ∧
      exec (.pcieConfigRequest (.barWrite 0xA000 (leBytes 4 1))) s =
        exec (.mbH2dDoorbell (leNat (Dev.winGet s.dev.jobs.mbIn 0 4)) s.dev.windowMsg) s ∧
      (bit v 0 = true → bit v 1 = false → (s.dev.queue q).enabled = false →
        exec (.pcieConfigRequest (.barWrite (256 * q + 0x10) b)) s = exec (.queueEnable q (v / 4096 % 16) (bit v 2)) s) ∧
      (bit v 0 = true → bit v 1 = true → (s.dev.queue q).enabled = true → v / 4096 % 16 = (s.dev.queue q).order →
        bit v 2 = (s.dev.queue q).irqEn → exec (.pcieConfigRequest (.barWrite (256 * q + 0x10) b)) s =
          s.done ((s.begin_.setQueue q (s.dev.queue q)).restartQueue q)) ∧
      (bit v 0 = false → bit v 1 = false → Makes (.pcieConfigRequest (.barWrite (256 * q + 0x10) b)) s (s.begin_.setQueue q
        { s.dev.queue q with order := v / 4096 % 16, irqEn := bit v 2, enabled := false })) ∧
      Makes (.pcieConfigRequest (.barWrite (256 * q) b)) s (s.begin_.setQueue q
        { s.dev.queue q with ringBase := ((s.dev.queue q).ringBase / 2 ^ 32 * 2 ^ 32 + v) / 64 * 64 }) ∧
      Makes (.pcieConfigRequest (.barWrite (256 * q + 0x0C) b)) s (s.begin_.setQueue q
        { s.dev.queue q with cplBase := (v * 2 ^ 32 + (s.dev.queue q).cplBase % 2 ^ 32) / 64 * 64 }) ∧
      Makes (.pcieConfigRequest (.barWrite (256 * q + 0x18) b)) s s.begin_ ∧ Makes (.pcieConfigRequest (.barWrite 0x1000 b)) s s.begin_)) ∧
  (∀ (d : Dev) (q : Nat), q < 16 →
    d.barWord (256 * q + 0x14) = (d.queue q).tail ∧ d.barWord (256 * q + 0x18) = (d.queue q).head ∧
    d.barWord (256 * q) = (d.queue q).ringBase % 2 ^ 32 ∧ d.barWord (256 * q + 4) = (d.queue q).ringBase / 2 ^ 32 ∧
    d.barWord (256 * q + 0x1C) = (d.queue q).lastErr * 256 + (d.queue q).cfgErr.toNat * 4 + (d.queue q).halted.toNat * 2 +
      ((d.queue q).enabled && !(d.queue q).halted).toNat ∧
    d.barWord (256 * q + 0x10) = (d.queue q).order * 4096 + (d.queue q).irqEn.toNat * 4 + (d.queue q).enabled.toNat ∧
    d.barWord (256 * q + 0x20) = 0 ∧ d.barWord 0x1000 = d.product ∧ d.barWord 0x1004 = d.g 0x1018 3 ∧ d.barWord 0x1008 = d.sys.st.code ∧
    d.barWord 0x100C = 0 ∧ d.barWord 0xA008 = 1 + 2 * d.jobs.d2hFull.toNat)

/-- A descriptor of LENGTH 0 on a ready queue completes at once with EMPTY (0x01) and no bytes, whatever its operation; a PUT_FRAME of LENGTH
1 to 31 completes with LENGTH_MISMATCH (0x14), whatever the frame holds (R113). On a queue that is not ready no descriptor is taken (R108,
R111). A completion is written to the ring, moves the head, and signals its vector where the descriptor and the queue ask (R109, R110). -/
def Obligations.EmptyAndShortDescriptors : Prop :=
  (∀ (s : State) (q : Fin 16) (desc : Desc) (h : FrameHdr) (p : Bytes) (i : Instr), s.dev.queueReady q = true → desc.length = 0 →
    (i = .putFrame q desc h p ∨ i = .getExport q desc ∨ i = .freeFrame q desc ∨ i = .freeStream q desc) →
    Makes i s (s.begin_.complete q desc 1 0 0)) ∧
  (∀ (s : State) (q : Fin 16) (desc : Desc) (h : FrameHdr) (p : Bytes), s.dev.queueReady q = true → 1 ≤ desc.length → desc.length < 32 →
    Makes (.putFrame q desc h p) s ((s.begin_.refuseFrame 0x14 0).complete q desc 0x14 0 0)) ∧
  (∀ (s : State) (q : Fin 16) (desc : Desc) (h : FrameHdr) (p : Bytes) (i : Instr), s.dev.queueReady q = false →
    (i = .putFrame q desc h p ∨ i = .getExport q desc ∨ i = .freeFrame q desc ∨ i = .freeStream q desc) → Makes i s s.begin_) ∧
  (∀ (d : Dev) (q : Nat) (desc : Desc) (st n tile : Nat),
    (d.complete q desc st n tile).out = d.out ++ [.completion q (Dev.record (d.queue q) desc st n tile)] ++
      (if (d.queue q).irqEn && bit desc.op 7 then [.msix q] else []) ∧
    ((d.complete q desc st n tile).queue q).head = ((d.queue q).head + 1) % 2 ^ (d.queue q).order)

/-- Descriptors complete with the status of Table 4.7: a frame whose header passes R118 waits for its decode, which stores it or counts and
names its refusal; one whose header fails is refused at once; a check that runs out of time is refused 0x28 (R118, R119); FREE_FRAME and
FREE_STREAM free what is not in use, answer IN_USE or NOT_FOUND (for a stream the model's choice, log 101; R115); GET_EXPORT writes the
oldest finished export to the host and frees it, where there is one and it fits (R126). -/
def Obligations.DescriptorsCompleteWithTheirStatus : Prop :=
  (∀ (s : State) (q : Fin 16) (desc : Desc) (h : FrameHdr) (p : Bytes), s.dev.queueReady q = true → 32 ≤ desc.length →
    s.dev.headerStatus desc h = none →
    Makes (.putFrame q desc h p) s (s.begin_.setQueue q { s.dev.queue q with check := some { desc := desc, hdr := h, payload := p } })) ∧
  (∀ (s : State) (q : Fin 16) (desc : Desc) (h : FrameHdr) (p : Bytes) (st : Nat), s.dev.queueReady q = true → 32 ≤ desc.length →
    s.dev.headerStatus desc h = some st →
    Makes (.putFrame q desc h p) s (((s.begin_.refuseFrame st h.tileId).drew).complete q desc st (s.dev.freeNat % 4294967296) h.tileId)) ∧
  (∀ (s : State) (q : Fin 16) (k : Check), (s.dev.queue q).check = some k →
    (∀ data, decodePayload (s.dev.historyOf k.hdr) (k.hdr.flags % 4) k.hdr.ulen k.hdr.crc (k.payload.take k.hdr.clen) = (0, data) →
      Makes (.frameCheckDone q) s
        ((s.begin_.acceptFrame (s.begin_.accepted k.hdr (k.payload.take k.hdr.clen) data)).complete q k.desc 0 k.desc.length k.hdr.tileId)) ∧
    (∀ st data, st ≠ 0 →
      decodePayload (s.dev.historyOf k.hdr) (k.hdr.flags % 4) k.hdr.ulen k.hdr.crc (k.payload.take k.hdr.clen) = (st, data) →
      Makes (.frameCheckDone q) s ((s.begin_.refuseFrame st k.hdr.tileId).complete q k.desc st k.desc.length k.hdr.tileId)) ∧
    Makes (.frameCheckTimeout q) s ((s.begin_.refuseFrame 0x28 k.hdr.tileId).complete q k.desc 0x28 k.desc.length k.hdr.tileId)) ∧
  (∀ (s : State) (q : Fin 16) (desc : Desc), s.dev.queueReady q = true → desc.length ≠ 0 →
    (∀ f, s.dev.frame? desc.kind desc.arg = some f →
      (s.dev.inUse desc.kind desc.arg = false → Makes (.freeFrame q desc) s
        ({ s.begin_ with jobs := { s.dev.jobs with frames := s.dev.jobs.frames.erase (frameKey desc.kind desc.arg) } } |>.complete q desc 0 0 desc.arg)) ∧
      (s.dev.inUse desc.kind desc.arg = true → Makes (.freeFrame q desc) s (s.begin_.complete q desc 0x22 0 desc.arg))) ∧
    (s.dev.frame? desc.kind desc.arg = none → Makes (.freeFrame q desc) s (s.begin_.complete q desc 0x23 0 desc.arg)) ∧
    (∀ mine : Nat → Frame → Bool, mine = (fun k f => k / 2 ^ 64 == desc.kind && f.hdr.tileId / 4294967296 == desc.arg / 4294967296) →
      (s.dev.jobs.frames.keysWhere mine = [] → Makes (.freeStream q desc) s (s.begin_.complete q desc 0x23 0 0)) ∧
      (s.dev.jobs.frames.keysWhere mine ≠ [] →
      ((∀ k ∈ s.dev.jobs.frames.keysWhere mine, s.dev.inUse desc.kind (k % 2 ^ 64) = false) → Makes (.freeStream q desc) s
        ({ s.begin_ with jobs := { s.dev.jobs with frames := s.dev.jobs.frames.keep (fun k f => !mine k f) } } |>.complete q desc 0 0 0)) ∧
      ((∃ k ∈ s.dev.jobs.frames.keysWhere mine, s.dev.inUse desc.kind (k % 2 ^ 64) = true) →
        Makes (.freeStream q desc) s (s.begin_.complete q desc 0x22 0 0)))) ∧
    (s.dev.jobs.exports.find? (fun e => e.waiting.isNone) = none → Makes (.getExport q desc) s (s.begin_.complete q desc 0x23 0 0)) ∧
    (∀ e, s.dev.jobs.exports.find? (fun e => e.waiting.isNone) = some e →
      (32 + e.hdr.clen ≤ desc.length → Makes (.getExport q desc) s
        (({ s.begin_.emit (.hostWrite desc.hostAddr (hdrBytes e.hdr ++ e.data)) with
          jobs := { s.dev.jobs with exports := s.dev.jobs.exports.erase e } } : Dev).complete q desc 0 (32 + e.hdr.clen) e.hdr.tileId)) ∧
      (desc.length < 32 + e.hdr.clen → Makes (.getExport q desc) s (s.begin_.complete q desc 0x25 0 e.hdr.tileId))))

/-- The mailbox: a doorbell with a length of 16 to 1,472 bytes serves the message of its window as one that arrived on the mailbox, another
length is dropped and counted, and either way the window's length word reads 0 again; without the link or a running image nothing is heard;
the host's acknowledgement frees the window for the next waiting message, placed with its length and signalled on vector 16 (R107). A
camera's oldest waiting export goes on into a new chain when the ring has a free buffer, and is dropped, counted and logged when its wait is
over (R125, R126); a request entry that reads RESTORED or EXPIRED is freed (R129). -/
def Obligations.MailboxExportsAndRequestsMoveOn : Prop :=
  (∀ (s : State) (n : Nat) (m : Dgram), s.dev.jobs.link = true → s.dev.sys.verified = true →
    (16 ≤ n → n ≤ 1472 → exec (.mbH2dDoorbell n m) s =
      ({ s with dev := s.dev.emptyIn } : State).serve { m with via := .mailbox, udpPort := 34980, src := 0, fragments := false }) ∧
    ((n < 16 ∨ 1472 < n) → Makes (.mbH2dDoorbell n m) s (s.begin_.emptyIn.dropMsg 2))) ∧
  (∀ (s : State) (n : Nat) (m : Dgram), (s.dev.jobs.link = false ∨ s.dev.sys.verified = false) → Makes (.mbH2dDoorbell n m) s s.begin_) ∧
  (∀ s : State, s.dev.jobs.d2hWait = [] → Makes .mbD2hAck s { s.begin_ with jobs := { s.dev.jobs with d2hFull := false } }) ∧
  (∀ (s : State) (m : Bytes) (r : List Bytes), s.dev.jobs.d2hWait = m :: r → Makes .mbD2hAck s
    (({ s.begin_ with jobs := { s.dev.jobs with d2hWait := r } } : Dev).fillWindow m)) ∧
  (∀ (d : Dev) (m : Bytes), (d.fillWindow m).jobs.d2hFull = true ∧ (d.fillWindow m).out = d.out ++ [.mailbox (leBytes 4 m.length ++ m), .msix 16]) ∧
  (∀ (s : State) (c : Fin 6) (e : Export), s.dev.jobs.exports.find? (fun e => e.cam == (c : Nat) && e.waiting.isSome) = some e →
    (s.dev.freeBuffers ≠ 0 → Makes (.exportResume c) s { s.begin_ with jobs := { s.dev.jobs with
      exports := s.dev.jobs.exports.map (fun x => if x == e then s.begin_.encodeOn e else x) } }) ∧
    (s.dev.freeBuffers = 0 → Makes (.exportResume c) s s.begin_) ∧
    Reports (.exportTimeout c) s
      (({ s.begin_ with jobs := { s.dev.jobs with exports := s.dev.jobs.exports.filter (fun x => x != e) } } : Dev).bump 0x2B00 5)
      (evLevel 24) 24 0 0xFF 0) ∧
  (∀ (s : State) (c : Fin 6), (∀ e ∈ s.dev.jobs.exports, e.cam ≠ (c : Nat) ∨ e.waiting = none) →
    Makes (.exportResume c) s s.begin_ ∧ Makes (.exportTimeout c) s s.begin_) ∧
  (∀ (s : State) (k : Fin 16), s.dev.jobs.requests.find? (k + 1) = none → Makes (.requestEntryFree k) s s.begin_) ∧
  (∀ (s : State) (k : Fin 16) (r : Request), s.dev.jobs.requests.find? (k + 1) = some r →
    ((r.state = 2 ∨ r.state = 3) → Makes (.requestEntryFree k) s { s.begin_ with jobs := { s.dev.jobs with requests := s.dev.jobs.requests.erase (k + 1) } }) ∧
    (r.state ≠ 2 → r.state ≠ 3 → Makes (.requestEntryFree k) s s.begin_))

/-- A counting quadrature channel: a sample in which one of A and B changes is one step in the sense of the change, turned by the direction
bit, through the hysteresis of R183; both changing is an impossible transition, counted and counting nothing; an interpolated step counts in
its own sense (R181, R183, R186). The hysteresis holds the first step against the last direction and takes a second (R183). Samples as the
pins hold them pass the glitch filter, which takes a level with the sample that completes its length (R180), and ADC samples the
interpolation of R185. A channel that does not count takes no accepted sample, one that is off none at all. -/
def Obligations.EncoderEdgesCountThroughHysteresis : Prop :=
  (∀ (s : State) (c : Fin 4) (a b : Bool) (e : Enc) (st : Int), s.dev.counting c = true → s.dev.g (0x3000 + c) 2 = 0 → e = s.dev.enc c →
    (e.a ≠ a → e.b = b → st = (if (a != b) != (s.dev.g (0x3000 + c) 4 == 1) then 1 else -1) →
      Makes (.encoderEdge c (.ab a b)) s
        ((s.begin_.setEnc c { e with a := a, b := b }).putEnc c (Enc.step { e with a := a, b := b } st))) ∧
    (e.a = a → e.b ≠ b → st = (if (a == b) != (s.dev.g (0x3000 + c) 4 == 1) then 1 else -1) →
      Makes (.encoderEdge c (.ab a b)) s
        ((s.begin_.setEnc c { e with a := a, b := b }).putEnc c (Enc.step { e with a := a, b := b } st))) ∧
    (e.a ≠ a → e.b ≠ b → Makes (.encoderEdge c (.ab a b)) s
      (((s.begin_.setEnc c { e with a := a, b := b }).bump (0x3008 + c) 2).raiseLimited 100000000 32 0 c (ofSigned 32 e.count))) ∧
    (e.a = a → e.b = b → Makes (.encoderEdge c (.ab a b)) s (s.begin_.setEnc c { e with a := a, b := b }))) ∧
  (∀ (s : State) (c : Fin 4) (up : Bool), s.dev.counting c = true → s.dev.g (0x3000 + c) 2 = 1 →
    Makes (.encoderEdge c (.interp up)) s
      (s.begin_.putEnc c ((s.dev.enc c).step (if up != (s.dev.g (0x3000 + c) 4 == 1) then 1 else -1)))) ∧
  (∀ (s : State) (c : Fin 4) (a b z : Bool) (n : Nat), s.dev.g (0x3000 + c) 1 = 1 → s.dev.fast = true →
    Makes (.encoderEdge c (.raw a b z n)) s (s.begin_.rawSamples c a b z n)) ∧
  (∀ (level raw new : Bool) (run n filter k : Nat), accepts level raw new run n filter = some k ↔
    new ≠ level ∧ k = max 1 (filter - (if new = raw then run else 0)) ∧ k ≤ n) ∧
  (∀ (s : State) (c : Fin 4) (sin cos : Int), s.dev.g (0x3000 + c) 1 = 1 → s.dev.fast = true → s.dev.g (0x3000 + c) 2 = 1 →
    Makes (.encoderEdge c (.adc sin cos)) s (s.begin_.adcSample c sin cos)) ∧
  (∀ (s : State) (c : Fin 4) (a b up : Bool), s.dev.counting c = false →
    Makes (.encoderEdge c (.ab a b)) s s.begin_ ∧ Makes (.encoderEdge c (.interp up)) s s.begin_) ∧
  (∀ (s : State) (c : Fin 4) (x : EncInput), (s.dev.g (0x3000 + c) 1 ≠ 1 ∨ s.dev.fast = false) → Makes (.encoderEdge c x) s s.begin_) ∧
  (∀ (e : Enc) (st : Int),
    (e.held = false → st = e.last → (e.step st).count = e.count + st ∧ (e.step st).held = false) ∧
    (e.held = false → st ≠ e.last → (e.step st).count = e.count ∧ (e.step st).held = true) ∧
    (e.held = true → st = e.last → (e.step st).count = e.count ∧ (e.step st).held = false) ∧
    (e.held = true → st ≠ e.last → (e.step st).count = e.count + st ∧ (e.step st).last = st ∧ (e.step st).held = false))

/-- Z's transition to its active level inside the gate quadrant latches the count and its time and is counted, outside it is counted apart;
another change of Z only moves its level (R182, R184). Under supervision a drift within tolerance clears the index fault, one beyond is
counted and reported, one beyond four times the tolerance declares the fault (R187, R188). An index that is absent for one and a half
revolutions is one fault for each absence (R187). An analog channel whose amplitude ratio leaves its limits, or that runs too fast, holds its
count and logs EV_ENC_SIGNAL, once while the fault lasts, and the web channel makes the Reckoner coast (R185, R186, R208); the fault clears
with the count moved by the phase step modulo the period, and the Reckoner follows again from its own position (R186, R205, R209). -/
def Obligations.IndexAndSignalSupervision : Prop :=
  (∀ (s : State) (c : Fin 4) (a b z : Bool) (t : Nat), s.dev.g (0x3000 + c) 1 = 1 → s.dev.fast = true →
    (z ≠ (s.dev.enc c).z → z = !(s.dev.g (0x3000 + c) 6 == 1) →
      ((s.dev.g (0x3000 + c) 5 = 4 ∨ (s.dev.g (0x3000 + c) 5 = 0 ∧ a = false ∧ b = false) ∨ (s.dev.g (0x3000 + c) 5 = 1 ∧ a = true ∧ b = false) ∨
          (s.dev.g (0x3000 + c) 5 = 2 ∧ a = true ∧ b = true) ∨ (s.dev.g (0x3000 + c) 5 = 3 ∧ a = false ∧ b = true)) →
        Makes (.indexEdge c ⟨a, b, z⟩ t) s ((s.begin_.setEnc c { s.dev.enc c with z := z }).indexEdge c t)) ∧
      ((s.dev.g (0x3000 + c) 5 = 0 ∧ (a = true ∨ b = true)) ∨ (s.dev.g (0x3000 + c) 5 = 1 ∧ (a = false ∨ b = true)) ∨
          (s.dev.g (0x3000 + c) 5 = 2 ∧ (a = false ∨ b = false)) ∨ (s.dev.g (0x3000 + c) 5 = 3 ∧ (a = true ∨ b = false)) →
        Makes (.indexEdge c ⟨a, b, z⟩ t) s
          (((s.begin_.setEnc c { s.dev.enc c with z := z }).bump (0x3008 + c) 3).raiseLimited 100000000 33 0 c (ofSigned 32 (s.dev.enc c).count)))) ∧
    ((z = (s.dev.enc c).z ∨ z = (s.dev.g (0x3000 + c) 6 == 1)) →
      Makes (.indexEdge c ⟨a, b, z⟩ t) s (s.begin_.setEnc c { s.dev.enc c with z := z }))) ∧
  (∀ (d0 d : Dev) (c t : Nat) (e : Enc), e = d0.enc c → e.mirrored = [] → (c ≠ d0.web ∨ d0.role = 0) →
    d = ((d0.put (0x3008 + c) 4 (ofSigned 64 e.count)).bump (0x3008 + c) 6).put (0x2408 + c) 1 (d0.serviceAt (t * 5 / 2)) →
    (d0.g (0x3000 + c) 8 ≠ 1 → d0.indexEdge c t = d.setEnc c { e with lastLatch := none }) ∧
    (∀ (was drift : Int), d0.g (0x3000 + c) 8 = 1 → e.lastLatch = some was → e.reversal = false → bit (d0.encFlags c) 3 = false →
      drift = e.count - was - (d0.g (0x3000 + c) 7 : Nat) →
      (drift.natAbs ≤ d0.g (0x3000 + c) 9 → d0.indexEdge c t =
        (((d.put (0x3008 + c) 5 (ofSigned 32 drift)).setFlag c 2 false).setFlag c 3 false).setEnc c
          { e with lastLatch := some e.count, reversal := false, absent := false }) ∧
      (d0.g (0x3000 + c) 9 < drift.natAbs → drift.natAbs ≤ 4 * d0.g (0x3000 + c) 9 → d0.g (0x3000 + c) 0x0A ≠ 1 → d0.indexEdge c t =
        ((((d.put (0x3008 + c) 5 (ofSigned 32 drift)).raise 35 0 c (ofSigned 32 drift)).bump (0x3008 + c) 7).setFlag c 3 false).setEnc c
          { e with lastLatch := some e.count, reversal := false, absent := false }) ∧
      (4 * d0.g (0x3000 + c) 9 < drift.natAbs → d0.indexEdge c t =
        (((d.put (0x3008 + c) 5 (ofSigned 32 drift)).indexFault c (ofSigned 32 drift)).setFlag c 3 false).setEnc c
          { e with lastLatch := some e.count, reversal := false, absent := false }))) ∧
  (∀ (s : State) (c : Fin 4) (was : Int), s.dev.g (0x3000 + c) 8 = 1 → (s.dev.enc c).lastLatch = some was → s.dev.fast = true →
    (was + (ceilDiv (3 * s.dev.g (0x3000 + c) 7) 2 : Nat) ≤ (s.dev.enc c).count → (s.dev.enc c).absent = false →
      Reports (.indexAbsent c) s (((s.begin_.setEnc c { s.dev.enc c with absent := true }).setFlag c 2 true).bump (0x3008 + c) 8)
        (evLevel 36) 36 0 c 0) ∧
    (((s.dev.enc c).absent = true ∨ (s.dev.enc c).count < was + (ceilDiv (3 * s.dev.g (0x3000 + c) 7) 2 : Nat)) →
      Makes (.indexAbsent c) s s.begin_)) ∧
  (∀ (s : State) (c : Fin 4) (ratio : Nat) (tooFast out : Bool) (d : Dev), ratio < 65536 → s.dev.g (0x3000 + c) 1 = 1 → s.dev.g (0x3000 + c) 2 = 1 →
    s.dev.fast = true → (out = true ↔ ratio < s.dev.g (0x3000 + c) 0x0D ∨ s.dev.g (0x3000 + c) 0x0E < ratio) → (out = true ∨ tooFast = true) →
    d = (let x := s.begin_.put (0x3008 + c) 0x0B ratio
      let x := if out then x.setFlag c 0 true else x
      if tooFast then x.setFlag c 1 true else x) →
    (s.dev.signalFault c = true → Makes (.analogSignalFault c ratio tooFast) s d) ∧
    (s.dev.signalFault c = false → (c : Nat) ≠ s.dev.web →
      Reports (.analogSignalFault c ratio tooFast) s d (evLevel 34) 34 0 c (d.encFlags c % 4294967296)) ∧
    (s.dev.signalFault c = false → (c : Nat) = s.dev.web →
      Makes (.analogSignalFault c ratio tooFast) s (d.raise 34 0 c (d.encFlags c)).coast)) ∧
  (∀ (s : State) (c : Fin 4) (phase n m step : Int), s.dev.signalFault c = true →
    n = (s.dev.g (0x3000 + c) 0x0F : Nat) → m = phase % n → step = (if n < 2 * m then m - n else m) →
    ∀ d, d = (((s.begin_.setFlag c 0 false).setFlag c 1 false).setFlag c 3 true).putEnc c { s.dev.enc c with count := (s.dev.enc c).count + step } →
      (((c : Nat) ≠ s.dev.web ∨ s.dev.reck.state < 2) → Makes (.signalFaultClear c phase) s d) ∧
      ((c : Nat) = s.dev.web → 2 ≤ s.dev.reck.state → Makes (.signalFaultClear c phase) s (d.reAnchor.reckState 0))) ∧
  (∀ (s : State) (c : Fin 4) (phase : Int), s.dev.signalFault c = false → Makes (.signalFaultClear c phase) s s.begin_)

/-- One update of the Reckoner. It coasts while its channel holds a signal fault and tracks again when that is over, re-anchors where the index
trim has changed, and takes its share of a standby's slew (R205, R208, R386). While it tracks or holds, the error of the count q · (c −
anchor) from its anchor drives the rate and the output through the loop of R204, the rounding within 2^-32 line (a free value); while it
coasts it keeps its rate; the published position is the greatest output so far (R204 to R206). Twenty milliseconds after coasting began
position is lost: the rate reads 0, and while the device prints every bar not yet past its end blanks, its repeat spoiled (R209). -/
def Obligations.TheReckonerFollowsItsEncoder : Prop :=
  (∀ (s : State) (a a' b f : Dev) (r : Reck) (q w : Rat) (e vel p hwm : Int) (rate : Nat), s.dev.fast = true →
    a = (if s.dev.signalFault s.dev.web then s.begin_.coast else s.begin_.trackAgain s.dev.web) →
    a' = (if a.gi 32 (0x3008 + a.web) 9 = a.reck.trim then a else a.reAnchor) →
    b = (if a'.twin.slewLeft = 0 then a' else { a' with
      reck := { a'.reck with anchorP := a'.reck.anchorP + a'.twin.slew }, twin := { a'.twin with slewLeft := a'.twin.slewLeft - 1 } }) → r = b.reck →
    q = (b.g 0x3200 2 : Nat) / (b.g 0x3200 3 : Nat) * (1 + (r.trim : Rat) / 100000000) → w = omega (b.g 0x3200 4) →
    e = r.anchorP + ((((b.enc b.web).count - r.anchorC : Int) : Rat) * q * 18446744073709551616).floor - r.p →
    (r.state ≤ 1 → vel = r.vel + (w * w * (e : Rat)).floor + b.loopRound 0 ∧
      p = r.p + vel + (14142 / 10000 * w * (e : Rat)).floor + b.loopRound 1) →
    (r.state = 2 → vel = r.vel ∧ p = r.p + r.vel) → (3 ≤ r.state → vel = r.vel ∧ p = r.p) →
    hwm = max r.hwm p → rate = ((max 0 vel) * 25000000 / 18446744073709551616).toNat →
    (-4294967296 ≤ b.loopRound 0 ∧ b.loopRound 0 ≤ 4294967296) ∧
    (f = (let d := (((({ b with reck := { r with vel := vel, p := p, hwm := hwm, at_ := b.t } } : Dev).drew).put 0x3208 1
        (hwm / 281474976710656).toNat).put 0x3208 2 rate).put 0x3208 3 (rate * 100000 / 787402)
      let d := if r.state ≤ 1 then d.reckState (if p < hwm then 1 else 0) else d
      let d := if r.state = 1 ∧ d.reck.state = 0 then d.resumeWaits else d
      (d.reverse (decide (r.hwm < hwm)) q).fireWarn) →
      Makes .reckonerUpdate s (if f.printingLike then f.barList.foldl Dev.altReturn f.retireAll else f.retireAll))) ∧
  (∀ s : State, s.dev.fast = false → Makes .reckonerUpdate s s.begin_) ∧
  (∀ s : State, s.dev.reck.state = 2 → s.dev.printingLike = false →
    Reports .positionLost s
      ((((({ s.begin_ with reck := { s.dev.reck with vel := 0 } } : Dev).reckState 3).put 0x3208 2 0).put 0x3208 3 0).bump 0x3208 8)
      (evLevel 43) 43 (2 ^ s.dev.nbars - 1) s.dev.web 0) ∧
  (∀ (s : State) (d : Dev), s.dev.reck.state = 2 → s.dev.printingLike = true →
    d = (((((({ s.begin_ with reck := { s.dev.reck with vel := 0 } } : Dev).reckState 3).put 0x3208 2 0).put 0x3208 3 0).bump 0x3208 8).raise 43
      (2 ^ s.dev.nbars - 1) s.dev.web) →
    Makes .positionLost s ((d.barList.filter (fun n => !d.pastEnd n)).foldl (fun d n =>
      (d.spoil (d.barRep n) n 9).onBar n (fun b => { b with posLost := true })) d)) ∧
  (∀ s : State, s.dev.reck.state ≠ 2 → Makes .positionLost s s.begin_)

/-- Captures: an edge of a selected sense enters its input's queue with its time, number and generation, and one more than 16 is an overrun,
counted; in sheet mode the leading edge of the sheet input is taken first; a read takes the oldest capture, or 16 zero bytes (R191, R346). A
compare entry falls due where its value is reached: in once mode once, in per-repeat mode for the repeat it stands at, or skipped where its
target lies beyond that repeat; the entries due in one 2.5 ns cycle are all marked FIRED and give one pulse, of the highest-numbered of them; a
unit whose Reckoner holds or has lost position fires none (R196, R197, R199, R200). -/
def Obligations.CapturesAndComparesFireOnce : Prop :=
  (∀ (s : State) (k : Fin 8) (falling : Bool) (t : Nat) (b : Dev), s.dev.fast = true →
    b = (if s.dev.sheet && s.dev.g 0x3040 2 == (k : Nat) && (s.dev.g 0x3040 3 == 1) == falling then s.begin_.sheetCapture t else s.begin_) →
    ((s.dev.g (0x2420 + k) 1 = 2 ∨ s.dev.g (0x2420 + k) 1 = (if falling then 1 else 0)) → Makes (.tinCapture k ⟨falling, t⟩) s (b.capture k falling t)) ∧
    (s.dev.g (0x2420 + k) 1 = (if falling then 0 else 1) → Makes (.tinCapture k ⟨falling, t⟩) s b)) ∧
  (∀ (s : State) (k : Fin 8) (falling : Bool) (t : Nat), s.dev.fast = false → Makes (.tinCapture k ⟨falling, t⟩) s s.begin_) ∧
  (∀ (d : Dev) (k t : Nat) (falling : Bool),
    ((d.time.queues.get [] k).length < 16 →
      ∀ c : Capture, c.time = d.serviceAt (t * 5 / 2) → c.seq = (d.time.seqs.get 0 k + 1) % 4294967296 → c.falling = falling →
        c.gen = d.g 0x2406 2 % 256 →
        d.capture k falling t = Dev.bump { d with time := { d.time with
          queues := d.time.queues.set k (d.time.queues.get [] k ++ [c]), seqs := d.time.seqs.set k (d.time.seqs.get 0 k + 1) } } (0x2428 + k) 1) ∧
    (16 ≤ (d.time.queues.get [] k).length → d.capture k falling t = (d.bump (0x2428 + k) 2).raiseLimited 1000000000 82 0 0xFF 0)) ∧
  (∀ (s : State) (sess : Nat) (k : Fin 8) (x : Sess), s.dev.session? sess = some x → x.port = 0 → s.dev.sys.verified = true → s.dev.com.op = none →
    (s.dev.time.queues.get [] k = [] → Makes (.captureRead sess k) s (s.begin_.emit (.value sess (List.replicate 16 0)))) ∧
    (∀ c r, s.dev.time.queues.get [] k = c :: r → Makes (.captureRead sess k) s
      (({ s.begin_ with time := { s.dev.time with queues := s.dev.time.queues.set k r } } : Dev).emit (.value sess
        (leBytes 8 c.time ++ leBytes 4 c.seq ++ [byte (if c.falling then 1 else 0), byte c.gen, 0, 0]))))) ∧
  (∀ (s : State) (u : Fin 16) (i : Nat), i < s.dev.g (0x3020 + u) 2 → s.dev.fast = true → (s.dev.reck.state = 0 ∨ s.dev.reck.state = 2) →
    (s.begin_.entryDue u i = none → Makes (.compareDue u i) s s.begin_) ∧
    (∀ t k, s.begin_.entryDue u i = some (t, k, true) → Makes (.compareDue u i) s (s.begin_.markEntry u i k true)) ∧
    (∀ t k e, s.begin_.entryDue u i = some (t, k, false) → (s.begin_.dueWith u t).getLast? = some e →
      Makes (.compareDue u i) s (((s.begin_.dueWith u t).foldl (fun d e => d.markEntry u e.1 e.2 false) s.begin_).cmpPulse u e.1 e.2 (t * 5 / 2)))) ∧
  (∀ (s : State) (u : Fin 16) (i : Nat), (s.dev.g (0x3020 + u) 2 ≤ i ∨ s.dev.fast = false ∨ s.dev.reck.state = 1 ∨ s.dev.reck.state = 3) →
    Makes (.compareDue u i) s s.begin_) ∧
  (∀ (d : Dev) (u i : Nat),
    d.markEntry u i none false = (d.setCmpSt u i { state := 1, value := d.cmpValue u }).bump (0x3030 + u) 1 ∧
    (∀ k e, e = d.setCmp u { d.cmp u with nextRep := (d.cmp u).nextRep.set i (k + 1) } →
      d.markEntry u i (some k) false = (e.setCmpSt u i { state := 1, value := d.posn, rep := k }).bump (0x3030 + u) 1 ∧
      d.markEntry u i (some k) true = (e.setCmpSt u i { state := 4, value := d.posn, rep := k }).bump (0x3030 + u) 5) ∧
    (d.g (0x3020 + u) 1 = 0 →
      (((d.cmp u).status.get {} i).state ≠ 0 → d.entryDue u i = none) ∧
      (((d.cmp u).status.get {} i).state = 0 → d.g (0x3020 + u) 3 = 1 →
        (d.cmpReached u (d.cmpEntry u i).1 = true → d.entryDue u i = some (d.t * 2 / 5, none, false)) ∧
        (d.cmpReached u (d.cmpEntry u i).1 = false → d.entryDue u i = none)) ∧
      (((d.cmp u).status.get {} i).state = 0 → d.g (0x3020 + u) 3 ≠ 1 →
        d.entryDue u i = (d.reachedAt (((d.cmpEntry u i).1 * 281474976710656 : Nat) : Int)).map (fun t => (t, none, false)))) ∧
    (∀ k r len, d.g (0x3020 + u) 1 ≠ 0 → k = (d.cmp u).nextRep.get d.print.runFirst i → d.rep? k = some r → d.repLength k = some len →
      d.entryDue u i = (d.reachedAt (((r.d + d.g (0x3020 + u) 4 + (d.cmpEntry u i).1) * 281474976710656 : Nat) : Int)).map
        (fun t => (t, some k, decide (len ≤ (d.cmpEntry u i).1)))))

/-- PTP messages of an enabled domain: a one-step Sync is measured at once, a two-step one when its Follow_Up brings the origin (R339); the
best master's Announce names it, and a domain in LISTENING begins to acquire (R338); a Delay_Req or Pdelay_Req leaves and its responses
set the mean path delay, and a peer's request is answered (R338, R339). A domain that is not enabled hears and sends nothing. -/
def Obligations.PtpMessagesMeasureTheMaster : Prop :=
  (∀ (s : State) (k : Fin 2) (i : Instr), s.dev.ptpOn k = false →
    ((∃ t o l a, i = .sync k t o l a) ∨ (∃ o, i = .followUp k o) ∨ (∃ d b r, i = .announce k d b r) ∨ i = .delayReqSend k ∨
      (∃ r, i = .delayResp k r) ∨ (∃ a, i = .pdelayReq k a) ∨ ∃ a b c d, i = .pdelayResp k a b c d) → Makes i s s.begin_) ∧
  ∀ (s : State) (k : Fin 2), s.dev.ptpOn k = true →
    (∀ origin li arrival, Makes (.sync k false origin li arrival) s
      ((s.begin_.setPtp k { s.dev.ptp k with lastSync := arrival, interval := li }).measure k origin arrival)) ∧
    (∀ origin li arrival, Makes (.sync k true origin li arrival) s
      (s.begin_.setPtp k { s.dev.ptp k with lastSync := arrival, interval := li, waiting := some arrival })) ∧
    (∀ origin a, (s.dev.ptp k).waiting = some a → Makes (.followUp k origin) s (s.begin_.measure k origin a)) ∧
    (∀ origin, (s.dev.ptp k).waiting = none → Makes (.followUp k origin) s s.begin_) ∧
    (∀ id rt, s.dev.ptpState k ≠ 0 → Makes (.announce k id true rt) s
      ((s.begin_.setPtp k { s.dev.ptp k with lastAnnounce := s.now, receiptTimeout := rt }).put (0x2404 + k) 5 id)) ∧
    (∀ id rt, s.dev.ptpState k = 0 → Makes (.announce k id true rt) s
      (((s.begin_.setPtp k { s.dev.ptp k with lastAnnounce := s.now, receiptTimeout := rt }).put (0x2404 + k) 5 id).put (0x2404 + k) 1 1)) ∧
    (∀ id rt, Makes (.announce k id false rt) s s.begin_) ∧
    (Makes (.delayReqSend k) s ((s.begin_.setPtp k { s.dev.ptp k with reqSent := some s.now }).emit
      (.ptp k (if s.dev.g (0x2400 + k) 5 = 1 then 2 else 1) s.now))) ∧
    (∀ received l, (s.dev.ptp k).reqSent = some l → s.dev.g (0x2400 + k) 5 = 0 → Makes (.delayResp k received) s
      (s.begin_.setDelay k (Int.fdiv (s.begin_.ptpBase k (s.dev.ptp k).syncArrival - s.begin_.ptpBase k l +
        ((received : Int) - (s.dev.ptp k).syncOrigin) * 65536) 2))) ∧
    (∀ arrival, s.dev.g (0x2400 + k) 6 = 1 → Makes (.pdelayReq k arrival) s (s.begin_.emit (.ptp k 3 arrival))) ∧
    (∀ arrival, s.dev.g (0x2400 + k) 6 ≠ 1 → Makes (.pdelayReq k arrival) s (s.begin_.emits [.ptp k 3 arrival, .ptp k 4 s.now])) ∧
    (∀ t1 t2 t3 t4 : Nat, s.dev.g (0x2400 + k) 5 = 1 → Makes (.pdelayResp k t1 t2 t3 t4) s
      (s.begin_.setDelay k (Int.fdiv ((((t4 : Int) - t1) - ((t3 : Int) - t2)) * 65536) 2)))

/-- Losing its master takes a domain to HOLDOVER and logs EV_TIME_LOST; where the domain is in force and its reaction asks for it, the
service timescale switches to the other domain, at once while that is LOCKED (R340, R341); a preferred domain that is LOCKED again is
returned to (R341). An enabled and running timed output fires at each edge of its armed schedule; a one-shot output then returns to mode 0,
one that is off fires nothing (R344). -/
def Obligations.TimeHoldsOverAndTimedOutputsFire : Prop :=
  (∀ (s : State) (k : Fin 2) (e : Dev), s.dev.ptpOn k = true → s.dev.ptpState k ≠ 0 → s.dev.ptpState k ≠ 4 →
    e = ((s.begin_.put (0x2404 + k) 1 4).setPtp k { s.dev.ptp k with inRow := 0, outRow := 0, waiting := none }) →
    ((s.dev.time.inForce ≠ k ∨ s.dev.g (0x2400 + k) 0x0A = 0) → Reports (.masterLoss k) s e (evLevel 79) 79 0 0xFF 0) ∧
    (s.dev.time.inForce = k → s.dev.g (0x2400 + k) 0x0A ≠ 0 → s.dev.ptpState (1 - k) = 3 →
      Makes (.masterLoss k) s ((e.raise 79).switchTo (1 - k))) ∧
    (s.dev.time.inForce = k → s.dev.g (0x2400 + k) 0x0A ≠ 0 → s.dev.ptpState (1 - k) ≠ 3 →
      Makes (.masterLoss k) s { e.raise 79 with time := { (e.raise 79).time with wantSwitch := true } })) ∧
  (∀ s : State, s.dev.time.away = true → s.dev.ptpState s.dev.preferred = 3 → Makes .preferredReturn s (s.begin_.switchTo s.dev.preferred)) ∧
  (∀ s : State, (s.dev.time.away = false ∨ s.dev.ptpState s.dev.preferred ≠ 3) → Makes .preferredReturn s s.begin_) ∧
  (∀ (s : State) (k : Fin 2), (s.dev.ptpOn k = false ∨ s.dev.ptpState k = 0 ∨ s.dev.ptpState k = 4) → Makes (.masterLoss k) s s.begin_) ∧
  (∀ (s : State) (k : Fin 8), (s.dev.g (0x2410 + k) 1 = 0 ∨ s.dev.fast = false) → Makes (.toutEdge k) s s.begin_) ∧
  (∀ (s : State) (k : Fin 8) (m at_ : Nat) (e : Dev), s.dev.g (0x2410 + k) 1 ≠ 0 → s.dev.fast = true → m = s.dev.time.toutNext.get 0 k →
    at_ = s.dev.g (0x2410 + k) 3 + m * s.dev.g (0x2410 + k) 4 →
    e = ((s.begin_.toutPulse k at_).bump (0x2418 + k) 1).put (0x2418 + k) 4 at_ →
    (s.dev.g (0x2410 + k) 4 = 0 → Makes (.toutEdge k) s (e.put (0x2410 + k) 1 0)) ∧
    (s.dev.g (0x2410 + k) 4 ≠ 0 → Makes (.toutEdge k) s (e.setTout k (m + 1))))

/-- A lane's bring-up (R228, R229, R225): an ended TRAIN stores the partner's rates and takes the lane UP_LOW, from where a twin lane, a lane
under qualification and a lane in use while lanes step up announce their working rate; a spare becomes SPARE, and a lane that serves no
logical lane stays FAILED. A failed attempt is counted, a later one begins, and a lane that fails for the third time is FAILED, with a fault
while its bar prints. After a step-up that fails, the lane is UP_LOW again with that rate ruled out. The lane switches to the announced rate
under its fixed code or the lowest code with the largest opening, and after its 10 ms without error it is UP, with EV_LANE_RATE where its rate
moved. Blocks with invalid headers and control blocks of an unlisted type are counted, and 16 invalid headers of 64 lose block lock (R233,
R246, R247). Loss of lock (R235, R236): a lane that carries lines freezes in RELOCK, counted; another that lives trains again from the bottom.
RELOCK ends with block lock, UP at the rate it had; at its limit the lane is down, with EV_LANE_DOWN: its spare takes its place, or it
retrains at its rate; at the limit of that it returns to TRAIN. In any other state of the lane each of these does nothing. -/
def Obligations.LanesTrainStepUpAndRelock : Prop :=
  (∀ (s : State) (lane : Fin 80) (k : Nat) (l : Lane) (e : Dev), k = lane + 1 → l = s.dev.lane k →
    (∀ mask, s.dev.laneState k = 1 →
      e = ((s.begin_.put 0x3414 k (mask % 32)).put 0x3411 k 1).setLane k { l with known := true, fails := 0 } →
      (73 ≤ k → (e.g 0x2C00 1 = 0 ∨ bit (e.g 0x2C00 7) (k - 73) = false) → Makes (.laneTrained lane mask) s (e.putLane k 2)) ∧
      (73 ≤ k → e.g 0x2C00 1 ≠ 0 → bit (e.g 0x2C00 7) (k - 73) = true → Makes (.laneTrained lane mask) s ((e.putLane k 2).stepUp k)) ∧
      (k ≤ 72 → e.isSpare k = true → Makes (.laneTrained lane mask) s (e.putLane k 6)) ∧
      (k ≤ 72 → e.isSpare k = false → (e.qualifying k || (e.inUseLane k && e.stepsUp)) = true →
        Makes (.laneTrained lane mask) s ((e.putLane k 2).stepUp k)) ∧
      (k ≤ 72 → e.isSpare k = false → (e.qualifying k || (e.inUseLane k && e.stepsUp)) = false →
        Makes (.laneTrained lane mask) s (e.putLane k (if e.logicalOf k = none then 7 else 2)))) ∧
    (s.dev.laneState k = 1 → e = s.begin_.setLane k { l with fails := l.fails + 1 } →
      (l.fails + 1 < 3 → Makes (.laneAttemptTimeout lane) s e) ∧
      (2 ≤ l.fails → e.qualifying k = true → Makes (.laneAttemptTimeout lane) s (e.qualifyFailed k)) ∧
      (2 ≤ l.fails → e.qualifying k = false → (e.laneFailed k).isSpare k = true →
        Makes (.laneAttemptTimeout lane) s ((e.laneFailed k).noSpare (Dev.laneBar k))) ∧
      (2 ≤ l.fails → e.qualifying k = false → (e.laneFailed k).isSpare k = false → Makes (.laneAttemptTimeout lane) s (e.laneFailed k))) ∧
    (s.dev.laneState k = 3 →
      (s.dev.inSwap k = true → Makes (.laneAttemptTimeout lane) s (s.begin_.abandonSwap (Dev.laneBar k))) ∧
      (s.dev.inSwap k = false → s.dev.qualifying k = true → Makes (.laneAttemptTimeout lane) s (s.begin_.qualifyFailed k)) ∧
      (s.dev.inSwap k = false → s.dev.qualifying k = false →
        e = ((s.begin_.putLane k 2).put 0x3411 k 1).setLane k { l with ceilingRate := l.target, target := 0 } →
        (e.workingRate k l.target ≤ 1 → Makes (.laneAttemptTimeout lane) s e) ∧
        (1 < e.workingRate k l.target → Makes (.laneAttemptTimeout lane) s (e.stepUp k)))) ∧
    (s.dev.laneState k ≠ 1 → (∀ mask, Makes (.laneTrained lane mask) s s.begin_) ∧ Makes (.trainRetry lane) s s.begin_ ∧
      (s.dev.laneState k ≠ 3 → Makes (.laneAttemptTimeout lane) s s.begin_)) ∧
    (s.dev.laneState k = 1 → Makes (.trainRetry lane) s (s.begin_.setLane k { l with since := s.now })) ∧
    (∀ openings q, q = s.dev.equaliser k openings →
      (s.dev.laneState k = 2 → l.target ≠ 0 →
        Makes (.rateSwitch lane openings) s ((((s.begin_.putLane k 3).put 0x3411 k l.target).put 0x3412 k q).setLane k
          { l with eqHeld := l.eqHeld.set l.target q, since := s.now })) ∧
      ((s.dev.laneState k ≠ 2 ∨ l.target = 0) → Makes (.rateSwitch lane openings) s s.begin_) ∧
      (s.dev.g 0x3403 k < 16 → q = s.dev.g 0x3403 k) ∧
      (16 ≤ s.dev.g 0x3403 k → q < 16 ∧ ∀ i, i < 16 → openings.getD i 0 ≤ openings.getD q 0 ∧ (i < q → openings.getD i 0 < openings.getD q 0))) ∧
    (s.dev.laneState k ≠ 3 → Makes (.laneVerified lane) s s.begin_) ∧
    (s.dev.laneState k = 3 → s.dev.inSwap k = true → Makes (.laneVerified lane) s (s.begin_.spareStepped (Dev.laneBar k))) ∧
    (s.dev.laneState k = 3 → s.dev.inSwap k = false → s.dev.qualifying k = true →
      Makes (.laneVerified lane) s (((s.begin_.putLane k 8).put 0x3419 k 0).setLane k { l with test := 32, since := s.now })) ∧
    (s.dev.laneState k = 3 → s.dev.inSwap k = false → s.dev.qualifying k = false →
      e = (s.begin_.putLane k 4).setLane k { l with upRate := l.target, target := 0, since := s.now } →
      (73 ≤ k → Makes (.laneVerified lane) s e.linkUp) ∧
      (∀ f : Dev, k ≤ 72 → f = (if (if l.upRate ≠ 0 then l.upRate != l.target
          else s.dev.ctxs.any (fun x => decide (4 ≤ x.2.code ∧ x.2.code ≤ 6) && (x.2.rates.find? k).any (fun r => r != l.target))) = true
          then e.raise 51 (2 ^ Dev.laneBar k) else e) →
        ((f.inUseLane k && f.printingLike) = true → Makes (.laneVerified lane) s (f.carry k).prepareDone) ∧
        ((f.inUseLane k && f.printingLike) = false → Makes (.laneVerified lane) s f.prepareDone))) ∧
    (s.dev.laneLive k = true → ∀ m, m = (l.marker + 1) % 4294967296 →
      Makes (.markSend lane) s ((s.begin_.setLane k { l with
        marker := m, markDue := s.begin_.serviceNow + markInterval (s.dev.g 0x3411 k) }).block k 0x33 (leBytes 4 m))) ∧
    (s.dev.laneLive k = false → Makes (.markSend lane) s s.begin_)) ∧
  (∀ (s : State) (lane : Fin 80) (k : Nat) (l : Lane) (u : Dev), k = lane + 1 → l = s.dev.lane k →
    (∀ invalid unlisted, s.dev.hears k = false → Makes (.blockLockLoss ⟨lane, invalid, unlisted⟩) s s.begin_) ∧
    (∀ (invalid unlisted : Nat) (e : Dev), s.dev.hears k = true →
      e = s.begin_.setLane k { l with badHeaders := l.badHeaders + invalid, unlisted := l.unlisted + unlisted } →
      (invalid < 16 → Makes (.blockLockLoss ⟨lane, invalid, unlisted⟩) s e) ∧
      (16 ≤ invalid → Makes (.blockLockLoss ⟨lane, invalid, unlisted⟩) s (e.loseLock k))) ∧
    Makes (.lossOfSignal lane) s (s.begin_.loseLock k) ∧
    (u = (s.begin_.putLane k 4).setLane k { l with retraining := false } →
      (s.dev.laneState k = 5 → s.dev.beingSwapped k = false → (l.retraining && u.inUseLane k && u.printingLike) = false →
        Makes (.blockLockRegained lane) s u) ∧
      (s.dev.laneState k = 5 → s.dev.beingSwapped k = false → (l.retraining && s.dev.inUseLane k && s.dev.printingLike) = true →
        Makes (.blockLockRegained lane) s (u.carry k)) ∧
      ((s.dev.laneState k ≠ 5 ∨ s.dev.beingSwapped k = true) → Makes (.blockLockRegained lane) s s.begin_)) ∧
    (s.dev.laneState k = 5 → l.retraining = false → Makes (.relockTimeout lane) s (s.begin_.laneDown k)) ∧
    ((s.dev.laneState k ≠ 5 ∨ l.retraining = true) → Makes (.relockTimeout lane) s s.begin_) ∧
    (s.dev.laneState k = 5 → l.retraining = true → Makes (.retrainTimeout lane) s (s.begin_.retrainLane k)) ∧
    ((s.dev.laneState k ≠ 5 ∨ l.retraining = false) → Makes (.retrainTimeout lane) s s.begin_)) ∧
  (∀ (d : Dev) (k : Nat),
    (d.readySpare k = true → d.loseLock k = d.abandonSwap (Dev.laneBar k)) ∧
    (d.readySpare k = false → d.inSwap k = true → d.loseLock k = d) ∧
    (d.readySpare k = false → d.inSwap k = false →
      (d.laneState k = 4 → ((d.lane k).carries = true ∨ 73 ≤ k) → d.loseLock k =
        ((d.putLane k 5).bump 0x3415 k).setLane k { d.lane k with retraining := false, since := d.t }) ∧
      (d.laneState k = 4 → (d.lane k).carries = false → k ≤ 72 → d.loseLock k = d.retrainLane k) ∧
      ((d.laneState k = 2 ∨ d.laneState k = 6) → d.loseLock k = d.retrainLane k) ∧
      ((d.laneState k ≠ 2 ∧ d.laneState k ≠ 4 ∧ d.laneState k ≠ 6) → d.loseLock k = d)) ∧
    d.retrainLane k = ((((d.putLane k 1).put 0x3411 k 0).sendTrain k 0 0).bump 0x3416 k).setLane k { d.lane k with
      fails := 0, target := 0, carries := false, baseSent := false, credited := false, known := false, retraining := false
      test := 0, slip := 0, ceilingRate := 6, since := d.t } ∧
    (∀ f : Dev, f = (d.putLane k 7).setLane k { d.lane k with carries := false, target := 0, retraining := false } →
      (73 ≤ k → d.laneFailed k = f.raise 60) ∧
      (k ≤ 72 → (f.lanesOf (Dev.laneBar k)).contains k = false → d.laneFailed k = f) ∧
      (k ≤ 72 → (f.lanesOf (Dev.laneBar k)).contains k = true → ∀ hot, hot = (f.role != 0 && f.g 0x2C00 1 == 2 && f.synced) →
        (f.printingLike = true → hot = false → d.laneFailed k = (f.fault 4 52 k (2 ^ Dev.laneBar k) 0).prepareDone) ∧
        ((f.printingLike = false ∨ hot = true) → d.laneFailed k = (f.raiseAt 0x10 52 (2 ^ Dev.laneBar k) 0xFF 0).prepareDone))) ∧
    (∀ r m, d.laneState k = 2 → (d.lane k).refused = false → m = ((d.lane k).marker + 1) % 4294967296 →
      r = (if d.qualifying k then (d.barRate (Dev.laneBar k)).getD (d.workingRate k (d.lane k).ceilingRate)
        else d.workingRate k (d.lane k).ceilingRate) →
      ((r ≠ 1 ∨ (d.lane k).ceilingRate = 6) → d.stepUp k = (d.setLane k { d.lane k with target := r, since := d.t }).sendTrain k r m) ∧
      (r = 1 → (d.lane k).ceilingRate ≠ 6 → d.stepUp k = d)) ∧
    ((d.laneState k ≠ 2 ∨ (d.lane k).refused = true) → d.stepUp k = d)) ∧
  (∀ (d : Dev) (k n l : Nat) (retrain : Dev → Dev), n = Dev.laneBar k → l = (d.logicalOf k).getD 0xFF →
    (∀ x : Dev, retrain x = ((x.putLane k 5).bump 0x3416 k).setLane k { x.lane k with retraining := true, since := x.t }) →
    (d.beingSwapped k = true → d.laneDown k = d) ∧
    (73 ≤ k → d.laneDown k = retrain (d.raise 49 0 k 0xFF)) ∧
    (k ≤ 72 → d.beingSwapped k = false →
      (d.inSwap k = true → d.laneDown k = (d.raise 49 (2 ^ n) k 0xFF).abandonSwap n) ∧
      (d.inSwap k = false → (d.lane k).carries = false → d.laneDown k = (d.raise 49 (2 ^ n) k l).retrainLane k) ∧
      (d.inSwap k = false → (d.lane k).carries = true → ∀ e, e = (d.raise 49 (2 ^ n) k l).onLane k (fun x =>
          { x with carries := false, credited := false, baseSent := false }) →
        (((d.logicalOf k).isSome && d.spareReady n) = true → d.laneDown k = ((e.putLane k 5).beginSwap n l false).swapRecovery n k) ∧
        (((d.logicalOf k).isSome && d.spareReady n) = false → d.laneDown k = retrain e))))

/-- Supervision of lanes. An eye scan holds each scanned lane's openings where the lane is UP, and counts them towards its daily mean (R227,
R443). Losing the PLL of the lanes takes every lane off and is a fault of level 3, event 48 (R224, R414). A qualification that passed 1 s of
PRBS31 with an opening that is not below the floor makes the lane its bar's spare, and an empty pool counts a unit again; one that failed
leaves it FAILED, and a pool that is not empty is consumed (R241, R444). The spare of a swap steps up first: then the switch is written, at
once where the swap is unplanned (R239, R240). A swap whose switch answered takes the spare UP with TRAIN and is ready: while nothing prints it
takes effect at once, and else at the next boundary of its bar, from whose line the spare's stream begins. A switch that answers otherwise, or
not at all, ends the swap, with EV_LANE_SWAP and a failure detail (R238, R239). With no swap in progress the answer is a readback of the
switch's map at boot. -/
def Obligations.LanesAreScannedQualifiedAndSwapped : Prop :=
  (∀ (s : State) (openings : List (Nat × Nat × Nat)) (f : Dev → Nat × Nat × Nat → Dev),
    (∀ (d : Dev) (i h v a n : Nat), (i < 80 → d.laneState (i + 1) = 4 → d.tally.day.get (0, 0) (i + 1) = (a, n) →
      f d (i, h, v) = { d.put 0x3413 (i + 1) (h % 65536 * 65536 + v % 65536) with
        tally := { d.tally with day := d.tally.day.set (i + 1) (a + h % 65536, n + 1) } }) ∧
      ((80 ≤ i ∨ d.laneState (i + 1) ≠ 4) → f d (i, h, v) = d)) →
    Makes (.eyeScan openings) s (openings.foldl f s.begin_)) ∧
  (∀ s : State, Makes .lanePllLoss s (s.begin_.lanesOff.fault 3 48 0xFF 0 0)) ∧
  (∀ (s : State) (lane : Fin 72) (k n : Nat) (e d : Dev), k = lane + 1 → n = lane / 9 →
    ((s.dev.qualifying k = false ∨ s.dev.laneState k ≠ 8 ∨ (s.dev.lane k).test ≠ 32) → ∀ pass, Makes (.laneQualifyDone lane pass) s s.begin_) ∧
    (s.dev.qualifying k = true → s.dev.laneState k = 8 → (s.dev.lane k).test = 32 →
      ((s.dev.g 0x3413 k / 65536 = 0 ∨ s.dev.g 0x2E00 1 ≤ s.dev.g 0x3413 k / 65536) →
        e = ((((s.begin_.drew.put 0x3419 k 0).putLane k 6).put 0x3411 k 1).setLane k { s.dev.lane k with test := 0, qual := false, since := s.now }) →
        d = (if s.dev.g 0x2E04 (2 + n) = 0 then e.restorePool (2 + n) else e) →
        (s.dev.swappedOut k = true → Makes (.laneQualifyDone lane true) s d) ∧
        (s.dev.swappedOut k = false → ∀ g, g = d.put 0x3418 (n + 1) (lane * 256 + d.g 0x3418 (n + 1) % 256) →
          Makes (.laneQualifyDone lane true) s (g.saveNv (g.laneRec n)))) ∧
      (s.dev.g 0x3413 k / 65536 ≠ 0 → s.dev.g 0x3413 k / 65536 < s.dev.g 0x2E00 1 →
        Makes (.laneQualifyDone lane true) s ((s.begin_.drew.put 0x3419 k 0).qualifyFailed k)) ∧
      Makes (.laneQualifyDone lane false) s ((s.begin_.drew.put 0x3419 k (s.dev.freeNat % 4294967295 + 1)).qualifyFailed k))) ∧
  (∀ (d : Dev) (k : Nat) (e : Dev), e = (d.putLane k 7).setLane k { d.lane k with target := 0, test := 0, qual := false } →
    d.qualifyFailed k = if e.g 0x2E04 (2 + Dev.laneBar k) = 0 then e else e.consume (2 + Dev.laneBar k)) ∧
  (∀ (d e : Dev) (n : Nat) (w : Swap), (d.bar n).swap = some w →
    (w.stepped = true → d.spareStepped n = d) ∧
    (w.stepped = false → e = (d.putLane (d.spareOf n + 1) 4).onBar n (fun b => { b with swap := some { w with stepped := true } }) →
      (w.planned = true → d.spareStepped n = e) ∧ (w.planned = false → d.spareStepped n = e.startSwap n))) ∧
  (∀ (s : State) (n : Fin 8) (w : Swap) (sp : Nat) (c d : Dev), (s.dev.bar n).swap = some w → sp = s.dev.spareOf n + 1 →
    ((w.started = false ∨ w.ready = true) → ∀ back, Makes (.swapComplete n back) s s.begin_) ∧
    (w.started = true → w.ready = false →
      (∀ back, back ≠ some (0x80 + w.logical) → Makes (.swapComplete n back) s (s.begin_.abandonSwap n)) ∧
      (c = (((s.begin_.onBar n (fun b => { b with swap := some { w with ready := true } })).sendTrain sp (s.dev.lane sp).target
          (s.dev.lane sp).marker).putLane sp 4).setLane sp
          { s.dev.lane sp with upRate := (s.dev.lane sp).target, target := 0, since := s.now } →
        d = (if w.planned then c else c.swapOver n) →
        (d.printingLike = false → Makes (.swapComplete n (some (0x80 + w.logical))) s (d.exchange n)) ∧
        (d.printingLike = true → ∀ b, d.boundary (d.barRep n + 1) = some b →
          (d.sends = true → Makes (.swapComplete n (some (0x80 + w.logical))) s (d.sendBase sp (ceilLine b))) ∧
          (d.sends = false → Makes (.swapComplete n (some (0x80 + w.logical))) s d)) ∧
        (d.printingLike = true → d.boundary (d.barRep n + 1) = none → Makes (.swapComplete n (some (0x80 + w.logical))) s d)))) ∧
  (∀ (s : State) (n : Fin 8) (back : Option Nat), (s.dev.bar n).swap = none →
    ((s.dev.bar n).switchSent = [] → Makes (.swapComplete n back) s s.begin_) ∧
    (∀ c rest, (s.dev.bar n).switchSent = c :: rest →
      (back = some c → Makes (.swapComplete n back) s (s.begin_.onBar n (fun b => { b with switchSent := rest }))) ∧
      (back ≠ some c → Makes (.swapComplete n back) s ((s.begin_.onBar n (fun b => { b with switchSent := [] })).drew.raise 50 (2 ^ (n : Nat)) 0xFF
        (s.dev.freeNat % 4294967295 + 1)))))

/-- Lane commands (R237, Table 9.4), while the lane domain runs: a lane that exists and is out of service trains again, loops back, tests, slips
a bit of its gearbox while under test, or, FAILED and out of its bar's map, is qualified; ending a PRBS test leaves its error count, a free
value, in 0x3419. A protected logical lane's planned swap begins on a spare that waits. A lane that carries lines, a twin lane of a pair and
a lane that a swap moves refuse every command but PROTECT with 0x0F00_003A, as does any lane while the domain is stopped; a lane or an
argument that does not exist is 0x0609_0030. -/
def Obligations.LaneCommandsActOnLanesOutOfService : Prop :=
  ∀ (s : State) (sess k : Nat) (l : Lane), s.Serves sess 0x3406 → l = s.dev.lane k →
    (s.dev.lanePresent k = false → ∀ i, (i = .retrain sess k ∨ i = .bitslip sess k ∨ i = .requalify sess k ∨
      ∃ a, i = .loopback sess k a ∨ i = .prbs sess k a ∨ i = .protect sess k a) → Answers i s sess 0x06090030 s.begin_) ∧
    (s.dev.lanePresent k = true → k ≤ 80 → s.dev.fast = false → ∀ i, (i = .retrain sess k ∨ i = .bitslip sess k ∨ i = .requalify sess k ∨
      ∃ a, i = .loopback sess k a ∨ i = .prbs sess k a ∨ i = .protect sess k a) → Answers i s sess 0x0F00003A s.begin_) ∧
    (s.dev.lanePresent k = true → k ≤ 80 → (l.carries = true ∨ (73 ≤ k ∧ s.dev.paired = true) ∨ s.dev.inSwap k = true ∨ s.dev.swappedOut k = true) →
      ∀ i, (i = .retrain sess k ∨ i = .bitslip sess k ∨ i = .requalify sess k ∨ ∃ a, i = .loopback sess k a ∨ i = .prbs sess k a) →
      Answers i s sess 0x0F00003A s.begin_) ∧
    (s.dev.lanePresent k = true → k ≤ 80 → s.dev.fast = true → l.carries = false → (k ≤ 72 ∨ s.dev.paired = false) → s.dev.inSwap k = false →
      s.dev.swappedOut k = false → ∀ e : Dev,
      e = (if 16 ≤ l.test then s.begin_.drew.put 0x3419 k (s.dev.freeNat % 4294967296) else s.begin_) →
      (∀ i, i = .retrain sess k ∨ i = .loopback sess k 0 → Answers i s sess 0 (e.retrainLane k)) ∧
      (∀ a, 1 ≤ a → a ≤ 3 → Answers (.loopback sess k a) s sess 0 ((s.begin_.putLane k 8).setLane k
        { l with test := l.test - l.test % 16 + a, since := s.now })) ∧
      (∀ a, 1 ≤ a → a ≤ 2 → Answers (.prbs sess k a) s sess 0 (((s.begin_.putLane k 8).put 0x3419 k 0).setLane k
        { l with test := l.test % 16 + 16 * a, since := s.now })) ∧
      Answers (.prbs sess k 0) s sess 0 (e.setLane k { l with test := l.test % 16 }) ∧
      (∀ a, (3 < a → Answers (.loopback sess k a) s sess 0x06090030 s.begin_) ∧ (2 < a → Answers (.prbs sess k a) s sess 0x06090030 s.begin_)) ∧
      (s.dev.laneState k = 8 → Answers (.bitslip sess k) s sess 0 (s.begin_.setLane k { l with slip := (l.slip + 1) % 66 })) ∧
      (s.dev.laneState k ≠ 8 → Answers (.bitslip sess k) s sess 0x0F00003A s.begin_) ∧
      (∀ q n, n = Dev.laneBar k → q = decide (k ≤ 72 ∧ s.dev.laneState k = 7 ∧ s.dev.logicalOf k = none ∧ s.dev.g 0x3402 (n + 1) = 1 ∧
          (s.dev.spareOf n = 0xFF ∨ s.dev.isSpare k = true)) →
        (q = true → ∀ d, d = (if s.dev.isSpare k then s.begin_.noSpare n else s.begin_) →
          Answers (.requalify sess k) s sess 0 (((d.putLane k 1).put 0x3411 k 0).setLane k
            { l with fails := 0, target := 0, test := 0, ceilingRate := 6, qual := true, since := s.now })) ∧
        (q = false → Answers (.requalify sess k) s sess 0x0F00003A s.begin_))) ∧
    (∀ a n, s.dev.lanePresent k = true → k ≤ 80 → s.dev.fast = true → n = Dev.laneBar k →
      ((7 < a ∨ 72 < k) → Answers (.protect sess k a) s sess 0x06090030 s.begin_) ∧
      (a ≤ 7 → k ≤ 72 → s.dev.spareReady n = true → a ∈ s.dev.lanesInUse n →
        Answers (.protect sess k a) s sess 0 (s.begin_.beginSwap n a true)) ∧
      (a ≤ 7 → k ≤ 72 → (s.dev.spareReady n = false ∨ a ∉ s.dev.lanesInUse n) → Answers (.protect sess k a) s sess 0x0F00003A s.begin_))

/-- The head link's control blocks. TRAIN page 0 gives a lane its partner's rates; page 1 of a head lane is held with its reserved bits ignored,
and a module with a FIFO below 32 lines or another version is refused, with EV_LINK_MODULE, as is reported of a slot that a tile is assigned to
and the module does not populate (R247, R249). CREDIT moves ACKED and WINDOW of a lane that is UP, and after a warm takeover the bar fires again
once each of its lanes that is UP has one (R256, R257, R396). RETRY is counted; one of an older revoke epoch does nothing more; one for want of
a REVOKE brings the last REVOKE of the bar twice more, and each goes back to the line it asks for, no further than the bar's next line, and
counts the lines sent again (R259, R260, R264). A resend timeout goes back to ACKED + 1 (R260). A lane that does not receive does none of
this. -/
def Obligations.LinkBlocksMoveCreditAndRetry : Prop :=
  (∀ (s : State) (lane : Fin 80) (k : Nat), k = lane + 1 →
    ((s.dev.laneState k = 0 ∨ s.dev.laneState k = 7) → ∀ payload, Makes (.train lane payload) s s.begin_) ∧
    (s.dev.laneState k ≠ 0 → s.dev.laneState k ≠ 7 →
      (∀ (m : Byte) rest, Makes (.train lane (0 :: m :: rest)) s
        ((s.begin_.put 0x3414 k (m.toNat % 32)).setLane k { s.dev.lane k with known := true })) ∧
      (∀ (page : Byte) rest, page ≠ 0 → (page ≠ 1 ∨ 73 ≤ k) → Makes (.train lane (page :: rest)) s s.begin_) ∧
      (∀ (depth slots ports version a b : Byte) (v n : Nat) (bad : Bool) (e f : Dev), k ≤ 72 → n = Dev.laneBar k →
        v = leNat [a, b] * 2 ^ 48 + version.toNat * 2 ^ 40 + ports.toNat % 4 * 2 ^ 32 + slots.toNat % 64 * 2 ^ 24 + depth.toNat * 2 ^ 16 →
        (s.dev.g 0x3420 k = v → Makes (.train lane [1, depth, slots, ports, version, a, b]) s s.begin_) ∧
        (s.dev.g 0x3420 k ≠ v → bad = (decide (depth.toNat < 32) || decide (version.toNat ≠ 1)) →
          e = (s.begin_.put 0x3420 k v).setLane k { s.dev.lane k with refused := bad } →
          f = (if bad then (e.raise 53 (2 ^ n)).stepDown k else e) →
          ((∀ l, f.logicalOf k = some l → f.badTiles n l (slots.toNat % 64) = []) →
            Makes (.train lane [1, depth, slots, ports, version, a, b]) s f) ∧
          (∀ l, f.logicalOf k = some l → f.badTiles n l (slots.toNat % 64) ≠ [] →
            Makes (.train lane [1, depth, slots, ports, version, a, b]) s (f.raise 53 (2 ^ n))))))) ∧
  (∀ (s : State) (lane : Fin 72) (k n : Nat) (l : Lane) (e : Dev), k = lane + 1 → n = Dev.laneBar k → l = s.dev.lane k →
    (∀ acked window epoch, s.dev.laneState k ≠ 4 → Makes (.credit lane acked window epoch) s s.begin_) ∧
    (∀ acked window epoch, s.dev.laneState k = 4 →
      e = s.begin_.setLane k { l with credited := l.baseSent, acked := Dev.nearLine l.next acked, window := window % 256, since := s.now } →
      ∀ opened, opened = ((e.bar n).warmGap && (e.lanesOf n).all (fun j => e.laneState j != 4 || (e.lane j).credited)) →
      (opened = true → Makes (.credit lane acked window epoch) s (e.onBar n (fun b => { b with warmGap := false }))) ∧
      (opened = false → Makes (.credit lane acked window epoch) s e)) ∧
    (∀ frm reason epoch, s.dev.hears k = false → Makes (.retry lane frm reason epoch) s s.begin_) ∧
    (∀ frm reason epoch age, s.dev.hears k = true → age = (s.dev.epoch n + 256 - epoch % 256) % 256 → e = s.begin_.bump 0x3425 k →
      (1 ≤ age → age ≤ 127 → Makes (.retry lane frm reason epoch) s e) ∧
      ((age = 0 ∨ 127 < age) →
        ((reason ≠ 4 ∨ s.dev.print.revoke.find? n = none) →
          Makes (.retry lane frm reason epoch) s (e.goBack k (Dev.nearLine l.next frm))) ∧
        (∀ first pl, reason = 4 → s.dev.print.revoke.find? n = some first →
          pl = leBytes 5 (first % 1099511627776) ++ [byte (s.dev.epoch n)] →
          Makes (.retry lane frm reason epoch) s (((e.block k 0x55 pl).block k 0x55 pl).goBack k (Dev.nearLine l.next frm))))) ∧
    Makes (.resendTimeout lane) s (s.begin_.goBack k (l.acked + 1))) ∧
  (∀ (d : Dev) (k line back : Nat), back = max line (d.bar (Dev.laneBar k)).next →
    (back < (d.lane k).next →
      d.goBack k line = (d.setLane k { d.lane k with next := back }).bumpBy 0x3424 k ((d.lane k).next - back)) ∧
    ((d.lane k).next ≤ back → d.goBack k line = d))

/-- A module's reports, on a lane that receives. A COMPARE is counted, names its line and spoils that line's repeat at the bar; by how often
disagreements recur at a bar within 1 h the first is a level-2 warning at which a pair's synchronisation flag falls, the second is of level 3, for
which an active device hands over or restarts, and a later one is of level 4 and ends the pair, where the standby fails (R415). STATUS pages are
held, and a condition newly set raises EV_MODULE_FAULT for its slot (R269); a MODULE_EVENT is counted with EV_LINK_EVENT, an excess of dots on a
line is an event of its own and spoils the line's repeat, and a lost line is a missing line (R270, R263, R265). The answer to the outstanding
CHECK ends it with its result, another changes nothing, and one that never comes is counted, with EV_CHECK_TIMEOUT (R271). -/
def Obligations.ModuleReportsAndDisagreements : Prop :=
  (∀ (s : State) (lane : Fin 72) (n : Nat) (d : Dev), n = lane / 9 → ∀ seq kind port,
    (s.dev.hears (lane + 1) = false → Makes (.compare lane seq kind port) s s.begin_) ∧
    (s.dev.hears (lane + 1) = true → d = (s.begin_.bump 0x3426 (lane + 1)).put 0x3427 (lane + 1) (seq % 1099511627776) →
      (d.repAt (Dev.nearLine (d.bar n).next seq) = none → Makes (.compare lane seq kind port) s (d.disagreement n)) ∧
      (∀ r, d.repAt (Dev.nearLine (d.bar n).next seq) = some r →
        Makes (.compare lane seq kind port) s ((d.spoil r.num n 8).disagreement n)))) ∧
  (∀ (d e : Dev) (n k first : Nat), d.fl.disagreements.get (0, 0) n = (k, first) →
    ((k = 0 ∨ first + 3600000000000 ≤ d.t) →
      e = { d with fl := { d.fl with disagreements := d.fl.disagreements.set n (1, d.t) } }.raiseAt 0x10 101 (2 ^ n) 0xFF 0 →
      (e.role ≠ 1 → e.role ≠ 2 → d.disagreement n = e) ∧ (e.role = 2 → d.disagreement n = e.loseFlag 1) ∧
      (e.role = 1 → d.disagreement n = e.put 0x2C08 2 (setBit (e.g 0x2C08 2) 1 false))) ∧
    (k = 1 → d.t < first + 3600000000000 →
      e = { d with fl := { d.fl with disagreements := d.fl.disagreements.set n (2, first) } }.raiseAt 3 101 (2 ^ n) 0xFF 0 →
      (e.role ≠ 1 → d.disagreement n = e) ∧
      (e.role = 1 → e.handoverAllowed = true →
        d.disagreement n = ({ e with twin := { e.twin with restartAfter := true } } : Dev).askHandover 3) ∧
      (e.role = 1 → e.handoverAllowed = false →
        d.disagreement n = e.startRec { id := 0, event := 101, unit := 0xFF, mask := 2 ^ n, detail := 0, level := 3, start := e.t })) ∧
    (2 ≤ k → d.t < first + 3600000000000 → ∀ f : Dev,
      e = { d with fl := { d.fl with disagreements := d.fl.disagreements.set n (k + 1, first) } }.raiseAt 4 101 (2 ^ n) 0xFF 0 →
      f = { e with twin := { e.twin with partner := none, retryForm := false, pledges := [] } } →
      (f.role = 0 → d.disagreement n = f) ∧ (f.role = 2 → d.disagreement n = (f.put 0x2C08 2 0).put 0x2C08 1 4) ∧
      (f.role ≠ 0 → f.role ≠ 2 → d.disagreement n = f.put 0x2C08 2 0))) ∧
  (∀ (s : State) (lane : Fin 72) (k n : Nat), k = lane + 1 → n = lane / 9 →
    (s.dev.hears k = false → ∀ a b c data, Makes (.status lane a data) s s.begin_ ∧ Makes (.moduleEvent lane a b c) s s.begin_) ∧
    (s.dev.hears k = true →
      (∀ data, Makes (.status lane 0 data) s (s.begin_.put 0x3421 k (leNat (slice data 0 6)))) ∧
      (∀ data v, v = leNat ((slice data 0 6).map (fun b => b &&& 0x1F)) →
        Makes (.status lane 1 data) s ((List.range 6).foldl (fun d q =>
          if ∃ i < 5, bit v (8 * q + i) = true ∧ bit (s.dev.g 0x3422 k) (8 * q + i) = false then d.raise 54 (2 ^ n) 0xFF (k * 256 + q) else d)
          (s.begin_.put 0x3422 k v))) ∧
      (∀ data v, v = leNat (slice data 0 6) → Makes (.status lane 2 data) s (s.begin_.put 0x3423 k (v % 256 * 256 + v / 256 % 256))) ∧
      (∀ page data, 2 < page → Makes (.status lane page data) s s.begin_) ∧
      (∀ code seq slot, (code = 0 ∨ 7 < code) → Makes (.moduleEvent lane code seq slot) s s.begin_) ∧
      (∀ code seq slot v b, 1 ≤ code → code ≤ 7 → v = s.dev.g 0x3428 k → b = bits v (8 * (code - 1) + 7) (8 * (code - 1)) → ∀ d,
        d = s.begin_.put 0x3428 k (v - b * 2 ^ (8 * (code - 1)) + (b + 1) % 256 * 2 ^ (8 * (code - 1))) →
        (code ≠ 2 → code ≠ 4 → Reports (.moduleEvent lane code seq slot) s d (evLevel 55) 55 (2 ^ n) 0xFF 0) ∧
        (code = 2 → Makes (.moduleEvent lane code seq slot) s ((d.raise 55 (2 ^ n)).missingLine n (Dev.nearLine (s.dev.bar n).next seq))) ∧
        (code = 4 → s.dev.repAt (Dev.nearLine (s.dev.bar n).next seq) = none →
          Reports (.moduleEvent lane code seq slot) s (d.raise 55 (2 ^ n)) (evLevel 59) 59 (2 ^ n) 0xFF 0) ∧
        (∀ r, code = 4 → s.dev.repAt (Dev.nearLine (s.dev.bar n).next seq) = some r →
          Makes (.moduleEvent lane code seq slot) s (((d.raise 55 (2 ^ n)).raise 59 (2 ^ n)).spoil r.num n 8)))) ∧
    ((s.dev.lane k).check = none → ∀ id result pass, Makes (.checkRsp lane id result pass) s s.begin_ ∧ Makes (.checkTimeout lane) s s.begin_) ∧
    (∀ id slot pos cnt pass e, (s.dev.lane k).check = some (id, slot, pos, cnt) → e = s.begin_.setLane k { s.dev.lane k with check := none } →
      Makes (.checkRsp lane id 0 pass) s ((e.noteCheck k slot pos (if bit pass 0 then 1 else 2)).pumpCheck k) ∧
      (∀ result, result ≠ 0 → Makes (.checkRsp lane id result pass) s (e.pumpCheck k)) ∧
      (∀ other result, other ≠ id → Makes (.checkRsp lane other result pass) s s.begin_) ∧
      Makes (.checkTimeout lane) s (((((s.begin_.bump 0x3429 k).raise 56 (2 ^ n)).onLane k (fun l => { l with check := none })).noteCheck
        k slot pos 3).pumpCheck k)))

/-- Heartbeats: the received count of a lane that receives is held; each lane that carries control blocks sends its own next count with the
device's role, but for the twin lanes of a device whose HB_OUT is stopped (R267, R392). A lane that carries control blocks or is the spare of a
swap and falls silent, and a lane that carries lines, or the spare that already sends them, whose ACKED stalls while lines are outstanding, is
down (R268, R235, R236): with EV_LANE_DOWN its spare takes its place, or it retrains at its rate, or, carrying no lines, from the bottom. -/
def Obligations.HeartbeatsSuperviseLanes : Prop :=
  (∀ (s : State) (lane : Fin 80) (count st : Nat),
    (s.dev.hears (lane + 1) = true → Makes (.heartbeat lane count st) s
      (s.begin_.setLane (lane + 1) { s.dev.lane (lane + 1) with hbRx := count % 4294967296 })) ∧
    (s.dev.hears (lane + 1) = false → Makes (.heartbeat lane count st) s s.begin_)) ∧
  (∀ (s : State) (ls : List Nat),
    ls = ((List.range 80).map (fun i => i + 1)).filter (fun k => s.dev.laneLive k && !(decide (73 ≤ k) && s.dev.twin.hbOutStopped)) →
    Makes .heartbeatSend s (ls.foldl (fun d k => (d.setLane k { s.dev.lane k with hbTx := ((s.dev.lane k).hbTx + 1) % 4294967296 }).block k 0x66
      (leBytes 4 (((s.dev.lane k).hbTx + 1) % 4294967296) ++ [byte (if s.dev.role ≤ 2 then s.dev.role else 0)])) s.begin_)) ∧
  (∀ (s : State) (m : Fin 80) (k : Nat), k = m + 1 →
    ((s.dev.laneLive k || s.dev.inSwap k) = true → Makes (.heartbeatTimeout m) s (s.begin_.laneDown k)) ∧
    ((s.dev.laneLive k || s.dev.inSwap k) = false → Makes (.heartbeatTimeout m) s s.begin_)) ∧
  (∀ (s : State) (lane : Fin 72) (k : Nat) (l : Lane), k = lane + 1 → l = s.dev.lane k →
    (s.dev.laneState k = 4 → (l.carries = true ∨ s.dev.readySpare k = true) → l.acked + 1 < l.next →
      Makes (.ackStallTimeout lane) s (s.begin_.laneDown k)) ∧
    ((s.dev.laneState k ≠ 4 ∨ (l.carries = false ∧ s.dev.readySpare k = false) ∨ l.next ≤ l.acked + 1) →
      Makes (.ackStallTimeout lane) s s.begin_)) ∧
  (∀ (s : State) (m : Fin 80) (k n : Nat) (l : Lane), k = m + 1 → k ≤ 72 → n = Dev.laneBar k → l = s.dev.lane k →
    s.dev.laneState k = 4 → l.carries = true → s.dev.beingSwapped k = false → s.dev.inSwap k = false → s.dev.spareReady n = false →
    Makes (.heartbeatTimeout m) s ((((s.begin_.raise 49 (2 ^ n) k ((s.dev.logicalOf k).getD 0xFF)).putLane k 5).bump 0x3416 k).setLane k
      { l with carries := false, credited := false, baseSent := false, retraining := true, since := s.now }))

/-- A frame of an enabled camera: Frame Start closes a frame still open and opens one with the oldest waiting trigger's tag and generation, or,
with trigger unit 0xFF, with none (R275, R280, R289); a line of the image data type and channel of the frame's generation, and of the set
length, enters it while it has room (R274, R293); one line more sets TOO_LONG, one that finds the FIFO full sets OVERFLOW and drops the rest of
the frame, its embedded data too, counted and logged (R276, R278); a packet of another channel or type, with a bad header, without a frame or
of another length is dropped and counted, and a corrected header is counted and marks the frame (R274). Embedded data is kept up to 256 bytes
(R274). The oldest trigger whose frame does not come is missed, counted and logged (R280). A camera that is not enabled, or whose domain does
not run, takes no packet. -/
def Obligations.CamerasTakeFramesPacketByPacket : Prop :=
  (∀ (s : State) (cam : Fin 6), s.dev.camOn cam = false → ∀ i, (i = .frameStart cam ∨ i = .frameEnd cam ∨ i = .frameTimeout cam ∨
    (∃ vc dt a b c d p, i = .imageLine cam vc dt a b c d p) ∨ ∃ vc a b p, i = .embeddedData cam vc a b p) → Makes i s s.begin_) ∧
  (∀ (s : State) (cam : Fin 6) (e : Dev) (x : Cam) (tag : Option Tag) (q : List Tag), s.dev.camOn cam = true → e = s.begin_.closeFrame cam 0 →
    x = e.cam cam → (e.g (0x3800 + cam) 0x0A = 0xFF → tag = none ∧ q = x.queue) →
    (e.g (0x3800 + cam) 0x0A ≠ 0xFF → tag = x.queue.head? ∧ q = x.queue.tail) →
    Makes (.frameStart cam) s (((e.setCam cam { x with
      frame := some { num := x.frames % 4294967296, tag := tag, gen := (tag.map (fun t => t.gen)).getD x.inForce, fsTime := e.serviceNow, fsAt := e.t }
      frames := x.frames + 1
      queue := q }).put (0x3820 + cam) 2 (x.frames % 4294967296)).put (0x3820 + cam) 1 (if x.cciFault then 3 else 2))) ∧
  (∀ (s : State) (cam : Fin 6) (x : Cam) (ecc : Bool) (e : Dev) (v : Nat → Nat), s.dev.camOn cam = true →
    x = Dev.headerFixed (s.dev.cam cam) ecc → e = s.begin_.setCam cam x → (∀ sub, v sub = s.dev.genVal x (Dev.packetGen x) (0x3800 + cam) sub) →
    (∀ vc dt fixed crc full payload, Makes (.imageLine cam vc dt true fixed crc full payload) s (s.begin_.bump (0x3820 + cam) 8) ∧
      Makes (.embeddedData cam vc true fixed payload) s (s.begin_.bump (0x3820 + cam) 8)) ∧
    (∀ vc dt crc full payload, (vc ≠ v 4 ∨ dt ≠ v 5 ∨ x.frame = none) →
      Makes (.imageLine cam vc dt false ecc crc full payload) s (e.bump (0x3820 + cam) 8)) ∧
    (∀ crc full payload f, x.frame = some f →
      (payload.length * 8 ≠ v 7 * pixelBits (v 5) → Makes (.imageLine cam (v 4) (v 5) false ecc crc full payload) s (e.bump (0x3820 + cam) 8)) ∧
      (payload.length * 8 = v 7 * pixelBits (v 5) →
        (f.dropping = true → Makes (.imageLine cam (v 4) (v 5) false ecc crc full payload) s e) ∧
        (f.dropping = false → Reports (.imageLine cam (v 4) (v 5) false ecc crc true payload) s ((e.setCam cam { x with
          frame := some { f with flags := setBit f.flags 2 true, dropping := true } }).bump (0x3820 + cam) 7) (evLevel 61) 61 0 0xFF 0) ∧
        (f.dropping = false → f.lines.length < v 8 →
          Makes (.imageLine cam (v 4) (v 5) false ecc crc false payload) s (e.setCam cam { x with frame := some { f with
            flags := if crc then setBit f.flags 3 true else f.flags, lines := f.lines ++ [payload] } })) ∧
        (f.dropping = false → v 8 ≤ f.lines.length → Makes (.imageLine cam (v 4) (v 5) false ecc crc false payload) s
          (e.setCam cam { x with frame := some { f with flags := setBit f.flags 1 true } })))) ∧
    (∀ vc payload, (vc ≠ v 6 ∨ x.frame = none) → Makes (.embeddedData cam vc false ecc payload) s (e.bump (0x3820 + cam) 8)) ∧
    (∀ payload f, x.frame = some f →
      (f.dropping = true → Makes (.embeddedData cam (v 6) false ecc payload) s e) ∧
      (f.dropping = false → Makes (.embeddedData cam (v 6) false ecc payload) s
        (e.setCam cam { x with frame := some { f with embedded := (f.embedded ++ payload).take 256 } })))) ∧
  (∀ x : Cam, Dev.headerFixed x false = x ∧ (Dev.headerFixed x true).corrected = x.corrected + 1 ∧
    (x.frame = none → Dev.packetGen x = x.inForce ∧ (Dev.headerFixed x true).frame = none) ∧
    (∀ f, x.frame = some f → Dev.packetGen x = f.gen ∧ (Dev.headerFixed x true).frame = some { f with flags := setBit f.flags 7 true })) ∧
  (∀ (s : State) (cam : Fin 6) (x : Cam), x = s.dev.cam cam →
    (∀ t q, x.queue = t :: q → Reports (.triggerTimeout cam) s ((s.begin_.setCam cam { x with queue := q }).bump (0x3820 + cam) 6)
      (evLevel 62) 62 0 0xFF 0) ∧
    (x.queue = [] → Makes (.triggerTimeout cam) s s.begin_))

/-- Frame End, or its timeout with NO_FE, closes the open frame with its record, its embedded data and its cells, exports it where an export is
due, and the port is idle again (R275, R288, R296). The flags show a frame that is short, without a tag, without a context, of a camera that its
context does not include, or taken while CCI writes were uncertain (R279, R281, R294); a frame so excluded is counted, and any other enters the
colour keeper of a device that is not standby (R279, R287, R288). A Frame End lets a waiting CCI sequence begin (R290). In a CCI sequence each
acknowledged write brings the next, and after the last the pending generation waits for its trigger (R290, R291); a write not acknowledged is
repeated once, then the failure is counted and logged, what was triggered since the first failure is marked, the pending generation abandoned and
the one in force restored; a failed restoration leaves the camera in CCI_FAULT (R294). A device whose pins are released writes nothing (R298).
The measured traffic is held, and EV_CAM_BUDGET raised beyond the budget (R297). -/
def Obligations.FramesCloseAndCciSequencesRun : Prop :=
  (∀ (s : State) (cam : Fin 6), s.dev.camOn cam = true →
    Makes (.frameEnd cam) s ((s.begin_.closeFrame cam 0).cciFrameEnd cam) ∧ Makes (.frameTimeout cam) s (s.begin_.closeFrame cam 0x100)) ∧
  (∀ (d : Dev) (c extra : Nat), (d.cam c).frame = none → d.closeFrame c extra = d) ∧
  (∀ (d e g h : Dev) (c extra fl len mode since : Nat) (due : Bool) (x : Cam) (f : OpenFrame) (rep : Option Rep) (ctx : Option Nat)
      (cells : List (CellStat × Nat)), x = d.cam c → x.frame = some f → rep = (f.tag.bind (fun t => t.rep)).bind d.rep? →
    ctx = rep.bind (fun r => (d.barList.map (fun n => Dev.ledgerCtx r n)).findSome? id) →
    fl = [(0, decide (f.lines.length < d.genVal x f.gen (0x3800 + c) 8)), (4, f.tag.isNone), (5, f.tag.isSome && ctx.isNone),
        (6, ctx.any (fun k => !bit (d.cg k 0x4070 1) c)),
        (9, (f.tag.map (fun t => t.uncertain)).getD (x.uncertain || x.cciFault) || x.cciFault)].foldl
      (fun m p => if p.2 then setBit m p.1 true else m) (f.flags ||| extra) →
    (∀ r k en, rep = some r → ctx = some k → r.fin = some en → len = en - r.d) →
    (∀ r k q, rep = some r → ctx = some k → r.fin = none → d.rep? (r.num + 1) = some q → len = q.d - r.d) →
    (∀ r k, rep = some r → ctx = some k → r.fin = none → d.rep? (r.num + 1) = none → len = d.lenOf k) →
    (∀ r, rep = some r → ctx = none → len = r.len) →
    (∀ t r, f.tag = some t → rep = some r → cells = Dev.cellStats (d.genVal x f.gen (0x3808 + c) 5) (d.frameCells x c f t len)) →
    ((f.tag = none ∨ rep = none) → cells = []) →
    e = ((d.put (0x3828 + c) 1 (leNat (Dev.frameRecord f c (ctx.getD 0xFF) ((rep.map (fun r => r.gen)).getD 0) fl cells))).put (0x3828 + c) 2
      (leNat (slice f.embedded 0 256))).putDom (0x6430 + c) (cells.flatMap Dev.cellBytes) →
    g = (if fl &&& 0x27F ≠ 0 then e.bump (0x3820 + c) 5 else e) → mode = g.g (0x3800 + c) 0x10 → since = x.sinceExport + 1 →
    due = decide ((mode = 1 ∧ g.g (0x3800 + c) 0x11 ≤ since) ∨ (mode = 2 ∧ fl &&& 0x27F ≠ 0) ∨ mode = 3) →
    h = g.setCam c { x with frame := none, sinceExport := if mode = 1 ∧ due = true then 0 else since } →
    ∀ p q : Dev, p = (if due then h.exportFrame c f (h.g (0x3800 + c) 0x12) else h) →
      q = (if mode = 3 then p.put (0x3800 + c) 0x10 0 else p).put (0x3820 + c) 1 (if x.cciFault then 3 else 1) →
      ((fl &&& 0x27F ≠ 0 ∨ q.role = 2 ∨ rep = none ∨ ctx = none) → d.closeFrame c extra = q) ∧
      (∀ r k, rep = some r → ctx = some k → fl &&& 0x27F = 0 → q.role ≠ 2 →
        d.closeFrame c extra = q.keeperCells r k (cells.map (fun y => y.1)))) ∧
  (∀ (s : State) (cam : Fin 6) (x : Cam), x = s.dev.cam cam →
    (x.cci = [] → Makes (.cciWriteDone cam) s s.begin_ ∧ Makes (.cciTimeout cam) s s.begin_) ∧
    (∀ w b rest, x.cci = w :: b :: rest → Makes (.cciWriteDone cam) s
      ((s.begin_.setCam cam { x with cci := b :: rest, retried := false, failAt := none }).cciSend cam)) ∧
    (∀ w, x.cci = [w] →
      (x.seq = 2 → Makes (.cciWriteDone cam) s
        ((s.begin_.setCam cam { x with cci := [], seq := 3, retried := false, failAt := none }).decideGen cam)) ∧
      (x.seq ≠ 2 → Makes (.cciWriteDone cam) s ((s.begin_.setCam cam { x with
        cci := [], seq := 0, retried := false, failAt := none, uncertain := x.uncertain && x.seq != 4 }).cciWait cam))) ∧
    (x.cci ≠ [] → x.retried = false → Makes (.cciTimeout cam) s
      ((s.begin_.setCam cam { x with retried := true, failAt := some s.now }).cciSend cam)) ∧
    (∀ (y : Cam) (e : Dev), x.cci ≠ [] → x.retried = true → y = Dev.markUncertain x → e = (s.begin_.raise 64).bump (0x3820 + cam) 9 →
      (x.seq = 4 → Makes (.cciTimeout cam) s
        ((e.setCam cam { y with cci := [], seq := 0, cciFault := true, retried := false }).put (0x3820 + cam) 1 3)) ∧
      (x.seq = 5 → Makes (.cciTimeout cam) s ((e.setCam cam y).cciStart cam x.inForce 4)) ∧
      (x.seq ≠ 4 → x.seq ≠ 5 → Makes (.cciTimeout cam) s (((e.setCam cam { y with
        pending := 0
        gens := x.gens.filter (fun g => g.num != x.pending || x.pending == 0) }).put (0x3820 + cam) 4 0).cciStart cam x.inForce 4)))) ∧
  (∀ (x : Cam) (a : Nat) (mark : Tag → Tag), x.failAt = some a →
    (∀ t, (a ≤ t.at_ → mark t = { t with uncertain := true }) ∧ (t.at_ < a → mark t = t)) →
    Dev.markUncertain x = { x with
      uncertain := true, failAt := none, queue := x.queue.map mark, frame := x.frame.map (fun f => { f with tag := f.tag.map mark }) }) ∧
  (∀ (d : Dev) (c gen seq : Nat) (x : Cam), x = d.cam c →
    (x.seq = 1 → d.cciFrameEnd c = d.cciStart c x.pending 2) ∧ (x.seq ≠ 1 → d.cciFrameEnd c = d) ∧
    (d.drives = true → d.cciStart c gen seq =
      (d.setCam c { x with cci := d.cciWrites c gen, seq := seq, retried := false, failAt := none }).cciSend c) ∧
    (d.drives = false → d.cciStart c gen seq = d.setCam c { x with cci := [], seq := 0, retried := false, failAt := none } ∧ d.cciSend c = d) ∧
    (∀ reg b rest, d.drives = true → x.cci = (reg, b) :: rest → d.cciSend c = d.emit (.cci c (d.g (0x3800 + c) 0x0D) reg b)) ∧
    ((x.pending = 0 ∨ x.cci ≠ []) → d.cciWait c = d) ∧
    (x.pending ≠ 0 → x.cci = [] → x.frame = none → x.queue = [] → d.cciWait c = d.cciStart c x.pending 2) ∧
    (x.pending ≠ 0 → x.cci = [] → (x.frame ≠ none ∨ x.queue ≠ []) → d.cciWait c = d.setCam c { x with seq := 1 })) ∧
  (∀ (s : State) (traffic : Nat) (e : Dev), e = s.begin_.put 0x3830 3 (min traffic 65535) →
    (traffic ≤ s.dev.g 0x3830 1 + s.dev.g 0x3830 2 → Makes (.camBudgetMeasure traffic) s e) ∧
    (s.dev.g 0x3830 1 + s.dev.g 0x3830 2 < traffic → Reports (.camBudgetMeasure traffic) s e (evLevel 65) 65 0 0xFF 0))

/-- The keeper and the census. Held content is formed into the next generation, for the first repeat that meets the margin, on an active
device that prints and has none pending; else it stays held (R307, R308, R310); a trim reset adds its bars and forms one (R312). An
edge to a gate's active level within a test's window is that test's, another is stray and counted, and marks the tests it is near; an edge back
ends the gate's activity, and one longer than a window is wide holds the gate (R313, R316). A gate the device does not have takes no edge (R1).
When the last window of a gap closes, the tests of a gate that was held or had too many stray edges are discarded, counted, and each other test
is classified and its nozzle's record takes the result under Table 12.2, with its time of flight (R316, R318); a standby only counts (R319). A
sweep starts in Ready only, as a long operation of class 5; its timer sends BASE on a bar's lanes once each is up or failed, waits for their
CREDITs and then strobes the bar's next line; and it ends with every bar's sweep gone and result 0 (R320, R59). -/
def Obligations.GenerationsGapTestsAndSweeps : Prop :=
  (∀ (s : State) (c : GenContent) (n num : Nat) (g : Gen) (e : Dev), c = s.begin_.fresh s.dev.keeper.held →
    n = s.begin_.nextMet s.begin_.nextNum (if s.dev.paired then 1 else 0) → num = (s.dev.keeper.lastNum + 1) % 4294967296 →
    g = { num := num, rep := n, content := c, acked := !s.dev.paired } →
    e = { s.begin_ with keeper := { s.dev.keeper with held := {}, lastNum := num, gen := some g } } →
    ((Dev.emptyContent c = true ∨ s.dev.keeper.gen.isSome = true ∨ s.dev.phase ≠ .printing ∨ s.dev.print.reps = [] ∨ s.dev.role = 2) →
      Makes .keeperGenerationForm s { s.begin_ with keeper := { s.dev.keeper with held := c } }) ∧
    (Dev.emptyContent c = false → s.dev.keeper.gen = none → s.dev.phase = .printing → s.dev.print.reps ≠ [] → s.dev.role ≠ 2 →
      Makes .keeperGenerationForm s (((((e.put 0x3A08 2 num).put 0x3A08 3 n).bump 0x3A08 4).writeGen g).mirrorGen g))) ∧
  (∀ (s : State) (sess mask m : Nat), s.Serves sess 0x3A01 → m = (s.dev.barList.filter (fun n => bit mask n)).foldl (fun m n => m + 2 ^ n) 0 →
    ((m = 0 ∨ s.dev.role = 2) → Answers (.trimReset sess mask) s sess 0 s.begin_) ∧
    (m ≠ 0 → s.dev.role ≠ 2 → Answers (.trimReset sess mask) s sess 0 (s.begin_.holdContent { resets := m }).formGen)) ∧
  (∀ (s : State) (gate : Fin 16) (at_ n k : Nat) (high : Bool) (c : Census) (mine : Nat → CensusTest → Bool), n = gate / 2 → k = gate % 2 →
    c = s.dev.census n → mine = (fun p t => t.gate == k && s.dev.edgePlace n t at_ == p) →
    (s.dev.nbars ≤ n → Makes (.gateEdge gate at_ high) s s.begin_) ∧
    (n < s.dev.nbars → (high = true ↔ s.dev.g (0x3A20 + n) 6 ≠ 1) →
      (c.tests.any (mine 0) = true → Makes (.gateEdge gate at_ high) s ((s.begin_.setCensus n { c with heldSince := c.heldSince.set k at_ }).setCensus n { c with
        heldSince := c.heldSince.set k at_
        tests := c.tests.map (fun t => if mine 0 t then { t with edges := t.edges ++ [at_] } else t) })) ∧
      (c.tests.any (mine 0) = false → Makes (.gateEdge gate at_ high) s (((s.begin_.setCensus n { c with heldSince := c.heldSince.set k at_ }).setCensus n { c with
        heldSince := c.heldSince.set k at_
        tests := c.tests.map (fun t => if mine 1 t then { t with near := true } else t)
        strays := c.strays.set k (c.strays.get 0 k + 1) }).bump (0x5009 + 0x100 * n) 8))) ∧
    (n < s.dev.nbars → (high = true ↔ s.dev.g (0x3A20 + n) 6 = 1) →
      (c.heldSince.find? k = none → Makes (.gateEdge gate at_ high) s s.begin_) ∧
      (∀ since, c.heldSince.find? k = some since →
        (5 * (at_ - since) ≤ 2 * (s.dev.g (0x3A20 + n) 4 - s.dev.g (0x3A20 + n) 3) ∨ c.heldGates.contains k = true →
          Makes (.gateEdge gate at_ high) s (s.begin_.setCensus n { c with heldSince := c.heldSince.erase k })) ∧
        (2 * (s.dev.g (0x3A20 + n) 4 - s.dev.g (0x3A20 + n) 3) < 5 * (at_ - since) → c.heldGates.contains k = false →
          Makes (.gateEdge gate at_ high) s (s.begin_.setCensus n { c with
            heldSince := c.heldSince.erase k, heldGates := c.heldGates ++ [k] }))))) ∧
  (∀ (s : State) (bar : Fin 8),
    ((s.dev.keeper.sweeps.find? bar).isSome = true ∨ s.dev.testsOver bar = false → Makes (.testWindowClose bar) s s.begin_) ∧
    (s.dev.keeper.sweeps.find? bar = none → s.dev.testsOver bar = true → Makes (.testWindowClose bar) s ((s.begin_.holdGates bar).closeGap bar))) ∧
  (∀ (d e : Dev) (n : Nat) (c : Census) (bad : List Nat) (good : List CensusTest), c = d.census n →
    (c.tests = [] → d.closeGap n = d) ∧
    (c.tests ≠ [] → bad = [0, 1].filter (fun g => c.tests.any (fun t => t.gate == g) &&
        (c.heldGates.contains g || decide (d.g (0x3A20 + n) 7 < c.strays.get 0 g))) →
      good = c.tests.filter (fun t => !bad.contains t.gate && !t.discarded && t.start.isSome) →
      e = bad.foldl (fun d g => if c.heldGates.contains g then (d.bump (0x5009 + 0x100 * n) 9).raise 71 (2 ^ n) 0xFF 0
        else d.bump (0x5009 + 0x100 * n) 9) d →
      d.closeGap n = good.foldl (fun d t => d.applyTest n t) (e.setCensus n { c with tests := [] }))) ∧
  (∀ (d e : Dev) (n st : Nat) (t : CensusTest) (change : Option Bool) (recs new_ : Bytes),
    e = (if t.edges ≠ [] then d.bump (0x5009 + 0x100 * n) 1 else (d.bump (0x5009 + 0x100 * n) 1).bump (0x5009 + 0x100 * n) (if t.near then 3 else 2)) →
    recs = e.liveBytes n 0x6230 (4 * e.nozzles n) → Dev.hysteresis (leNat ((Dev.nozRec recs t.nozzle).take 1)) (decide (t.edges ≠ [])) = (st, change) →
    new_ = recs.take (4 * t.nozzle) ++ [byte st, byte (if t.edges ≠ [] then 1 else if t.near then 3 else 2)] ++ leBytes 2 (Dev.timeOfFlight t) ++
      recs.drop (4 * t.nozzle + 4) →
    (e.role = 2 → d.applyTest n t = e) ∧
    (∀ f : Dev, e.role ≠ 2 → f = (if bit (leNat (Dev.nozRec new_ t.nozzle)) 1 then (e.putDom (0x6230 + n) new_).queueTest n t.nozzle false
        else e.putDom (0x6230 + n) new_) →
      (change = none → d.applyTest n t = f) ∧
      (change = some true → d.applyTest n t =
        (((f.holdContent { maps := [(n, t.nozzle, true)] }).bump (0x5009 + 0x100 * n) 4).raise 72 (2 ^ n)).sendCheck n t.nozzle) ∧
      (change = some false → d.applyTest n t =
        ((f.holdContent { maps := [(n, t.nozzle, false)] }).bump (0x5009 + 0x100 * n) 5).raise 73 (2 ^ n)))) ∧
  (∀ (s : State) (sess value : Nat), s.Serves sess 0x3A29 →
    Answers (.sweepStart sess 0) s sess 0 s.begin_ ∧
    (1 < value → Answers (.sweepStart sess value) s sess 0x06090030 s.begin_) ∧
    (s.dev.sys.st ≠ .ready → Answers (.sweepStart sess 1) s sess 0x0F00004A s.begin_) ∧
    (s.dev.sys.st = .ready → Answers (.sweepStart sess 1) s sess 0x0F000010
      ((s.dev.sweepBars.foldl (fun d n => (({ d with keeper := { d.keeper with sweeps := d.keeper.sweeps.set n (d.newSweep n) } } : Dev).setCensus n
        { d.census n with tests := [], strays := [], heldGates := [], gapLine := 0, gapRep := 2 ^ 63, fixed := true }).stepUpBar n) s.begin_).beginOp
        5 sess 0))) ∧
  (∀ s : State, (∀ o, s.dev.com.op = some o → o.cls ≠ 5) → Makes .sweepStrobe s s.begin_ ∧ Makes .sweepComplete s s.begin_) ∧
  (∀ (s : State) (o : Op), s.dev.com.op = some o → o.cls = 5 →
    Makes .sweepStrobe s ((s.dev.keeper.sweeps.keysWhere (fun _ _ => true)).foldl Dev.sweepBar s.begin_)) ∧
  (∀ (d : Dev) (n : Nat) (up : List Nat), up = (d.lanesOf n).filter (fun k => d.laneState k == 4) →
    (d.keeper.sweeps.find? n = none → d.sweepBar n = d) ∧
    ((up = [] ∨ (d.lanesOf n).all d.laneSettled = false ∨ (d.bar n).strobeFault = true) → d.sweepBar n = d) ∧
    (∀ w, d.keeper.sweeps.find? n = some w → up ≠ [] → (d.lanesOf n).all d.laneSettled = true → (d.bar n).strobeFault = false →
      ((∃ k ∈ up, (d.lane k).baseSent = false) → d.sweepBar n = (up.filter (fun k => !(d.lane k).baseSent)).foldl
        (fun d k => (d.onLane k (fun l => { l with carries := true })).sendBase k w.line) d) ∧
      ((∀ k ∈ up, (d.lane k).baseSent = true) → (∃ k ∈ up, (d.lane k).credited = false) → d.sweepBar n = d) ∧
      ((∀ k ∈ up, (d.lane k).baseSent = true ∧ (d.lane k).credited = true) → d.sweepBar n = d.sweepLine n w.line w))) ∧
  (∀ (d : Dev) (n : Nat) (w : Sweep), d.keeper.sweeps.find? n = some w →
    ((d.sweepLine n w.line w).keeper.sweeps.find? n).map (fun x => x.line) = some (w.line + 1) ∧
    .strobe n w.line (d.t * 2 / 5) (d.g (0x5007 + 0x100 * n) 1) (d.g (0x5007 + 0x100 * n) 3) ∈ (d.sweepLine n w.line w).out) ∧
  (∀ (s : State) (o : Op), s.dev.com.op = some o → o.cls = 5 → Runs .sweepComplete s (fun t => t.dev.com.op = none ∧ t.dev.keeper.sweeps = [] ∧
    t.dev.g 0x2002 1 = o.id ∧ t.dev.g 0x2002 2 = 5 ∧ t.dev.g 0x2002 3 = 0))

/-- Light. A channel's trimmed duty is its duty times its group's trim over 4,096, at most 65,535 (R323). At each PWM period every channel
takes its mode, curve and phase, the present level of its fade, 0 while held off, and in continuous mode its active cycles for the
period's place in the dither cycle, and nothing else changes; with its domain stopped nothing does (R324, R325). A target level starts a fade
from the present level (R325). A measurement, the mean of the dark-corrected samples, is held, and of a steady group it moves the trim, held
within its bounds, with EV_LIGHT_LIMIT as it reaches one, but on a standby; 16 far ones in a row raise EV_LIGHT_DEVIATION, counted, at most once
a second (R327 to R329). LED_EN low forces the UV channels off and sets the latch, with EV_UV_INTERLOCK (R330), which only a write of 1 while
LED_EN has been high for 10 ms clears, and the UV channels fade to their targets (R331). -/
def Obligations.LightFollowsLevelsTrimsAndInterlock : Prop :=
  (∀ (d : Dev) (i duty : Nat), (∀ g, d.g 0x3C03 (i + 1) = g → g ≠ 0xFF → d.trimmed i duty = min 65535 (duty * d.g 0x3C2A (g + 1) / 4096)) ∧
    (d.g 0x3C03 (i + 1) = 0xFF → d.trimmed i duty = min 65535 (duty * 4096 / 4096))) ∧
  (∀ (s : State) (p : Nat) (e : Dev), p = s.dev.light.period →
    (s.dev.fast = false → Makes .pwmPeriod s s.begin_) ∧
    (s.dev.fast = true → e = (List.range 48).foldl (fun d i => d.ledPeriod p i) s.begin_ →
      Makes .pwmPeriod s { e with light := { e.light with period := (p + 1) % 16 } } ∧
      Runs .pwmPeriod s (fun t => t.dev.light.period = (p + 1) % 16 ∧
        ∀ i lv, i < 48 → lv = (if s.dev.uvOff i then 0 else Dev.fadeLevel (s.dev.led i) s.now) → t.dev.g 0x3C28 (i + 1) = lv ∧
          t.dev.led i = { s.dev.led i with
            level := lv
            mode := s.dev.g 0x3C00 (i + 1)
            curve := s.dev.g 0x3C01 (i + 1)
            phase := s.dev.g 0x3C02 (i + 1)
            cycles := if s.dev.g 0x3C00 (i + 1) = 1 then pwmCycles (s.dev.trimmed i (s.dev.duty i (s.dev.g 0x3C01 (i + 1)) lv)) p else 0
            first := 4096 * s.dev.g 0x3C02 (i + 1) / 48 }))) ∧
  (∀ (d : Dev) (p i lv : Nat), lv = (if d.uvOff i then 0 else Dev.fadeLevel (d.led i) d.t) →
    d.ledPeriod p i = (d.setLed i { d.led i with
      level := lv
      mode := d.g 0x3C00 (i + 1)
      curve := d.g 0x3C01 (i + 1)
      phase := d.g 0x3C02 (i + 1)
      cycles := if d.g 0x3C00 (i + 1) = 1 then pwmCycles (d.trimmed i (d.duty i (d.g 0x3C01 (i + 1)) lv)) p else 0
      first := 4096 * d.g 0x3C02 (i + 1) / 48 }).put 0x3C28 (i + 1) lv) ∧
  (∀ (s : State) (sess level : Nat) (i : Fin 48), s.Serves sess 0x3C20 → Answers (.targetLevelWrite sess i level) s sess 0
    ((s.begin_.put 0x3C20 (i + 1) (level % 65536)).setLed i { s.dev.led i with
      fadeFrom := (s.dev.led i).level, fadeAt := s.now, fadeMs := s.dev.g 0x3C21 (i + 1), target := level % 65536 })) ∧
  (∀ (s : State) (k : Fin 8) (samples : List Nat) (dark m : Nat) (d : Dev),
    dark = (s.dev.cal.values.get 0 ((if s.dev.g 0x3C05 (k + 1) = 1 then 4 else 5) * 256 + k)).toNat →
    m = (samples.map (fun x => x - dark)).sum / samples.length → d = s.begin_.put 0x3C29 (k + 1) (min m 65535) →
    ((samples = [] ∨ s.dev.fast = false) → Makes (.lightMeasurement k samples) s s.begin_) ∧
    (samples ≠ [] → s.dev.fast = true → d.steady k = false → Makes (.lightMeasurement k samples) s d) ∧
    (samples ≠ [] → s.dev.fast = true → d.steady k = true → Makes (.lightMeasurement k samples) s ((d.updateTrim k m).deviation k m))) ∧
  (∀ (d : Dev) (k m sp gain : Nat) (q : Int) (f : List Nat → Dev → Dev), sp = d.g 0x3C06 (k + 1) → gain = d.g 0x3C07 (k + 1) →
    q = d.g 0x3C2A (k + 1) + Int.fdiv (gain * ((sp : Int) - m) * 4096) ((65536 * sp : Nat) : Int) →
    (∀ l x, f l x = { x with light := { x.light with limited := l } }) →
    ((gain = 0 ∨ d.role = 2) → d.updateTrim k m = d) ∧
    (gain ≠ 0 → d.role ≠ 2 → ∀ e : Dev, e = d.putTrim k (if q < 2048 then 2048 else if 8192 < q then 8192 else q.toNat) →
      (2048 ≤ q → q ≤ 8192 → d.updateTrim k m = f (e.light.limited.filter (fun x => x != k)) e) ∧
      ((q < 2048 ∨ 8192 < q) → d.light.limited.contains k = false → d.updateTrim k m = (f (k :: e.light.limited) e).raise 74) ∧
      ((q < 2048 ∨ 8192 < q) → d.light.limited.contains k = true → d.updateTrim k m = f e.light.limited e))) ∧
  (∀ (d e : Dev) (k m sp n : Nat), sp = d.g 0x3C06 (k + 1) →
    n = (if d.g 0x3C08 (k + 1) < max (sp - m) (m - sp) then d.light.deviating.get 0 k + 1 else 0) →
    e = { d with light := { d.light with deviating := d.light.deviating.set k n } } →
    ((n < 16 ∨ (n ≠ 16 ∧ ∃ t, d.light.deviatedAt.find? k = some t ∧ d.t < t + 1000000000)) → d.deviation k m = e) ∧
    (16 ≤ n → (n = 16 ∨ ∀ t, d.light.deviatedAt.find? k = some t → t + 1000000000 ≤ d.t) → d.deviation k m =
      (({ e with light := { e.light with deviatedAt := e.light.deviatedAt.set k d.t } } : Dev).raise 75).bump 0x3C2C (k + 1))) ∧
  (∀ s : State, Reports .ledEnLow s ((List.range 48).foldl (fun d i => if bit (s.dev.g 0x3C04 0) i then
      (d.setLed i { s.dev.led i with level := 0, cycles := 0, until_ := 0 }).put 0x3C28 (i + 1) 0 else d)
    { s.begin_ with light := { s.dev.light with uvLatched := true, ledLow := s.now } }) (evLevel 76) 76 0 0xFF 0) ∧
  (∀ (s : State) (sess : Nat), s.Serves sess 0x3C22 →
    (s.dev.light.ledLow + 10000000 ≤ s.now → Answers (.uvLatchClear sess 1) s sess 0
      ((List.range 48).foldl (fun d i => if bit (s.dev.g 0x3C04 0) i then d.startFade i (s.dev.g 0x3C20 (i + 1)) else d)
        { s.begin_ with light := { s.dev.light with uvLatched := false } })) ∧
    (s.now < s.dev.light.ledLow + 10000000 → Answers (.uvLatchClear sess 1) s sess 0x0F000052 s.begin_) ∧
    Answers (.uvLatchClear sess 0) s sess 0 s.begin_ ∧
    (∀ value, 1 < value → Answers (.uvLatchClear sess value) s sess 0x06090030 s.begin_))

/-- DRAM pages. A read serves its port, counted as overdue where its age has reached the port's target, with EV_DRAM_OVERDUE for an engine port
(R373), and hands out a clean page's data, a corrected page's corrected data, which is also written back and counted, or POISON for a page that is
poisoned or found uncorrectable, which is counted and acted on by its requester, an uncorrectable one turned to poison with
EV_DRAM_UNCORRECTABLE (R356, R357, R361, R371). A page corrected in more symbols than half its correction, on as many days as the trend limit, or,
read by the scrubber, again or for the first time after poison was cleared, is remapped (R364, R445). A whole page is written with fresh check
bytes, which alone clears poison (R358, R360), a partial write merges into a page and leaves a poisoned one poisoned (R359, R360), and no other
byte of DRAM changes. A remapped page is read and written in its entry (R365). An address beyond the usable capacity (R354) names no page: the
model stops there (log 10). -/
def Obligations.DramPagesAreReadWrittenAndPoisoned : Prop :=
  (∀ (s : State) (addr : Nat), s.dev.usable_ ≤ addr →
    ∀ i, (∃ port u, i = .pageRead port addr u) ∨ (∃ b, i = .pageWrite addr b) ∨ (∃ o b, i = .partialWrite addr o b) →
      exec i s = .fault (.noSuchPage addr)) ∧
  (∀ (s o : State) (addr p ch port : Nat) (u : PageAsk), addr < s.dev.usable_ → o = { s with dev := s.begin_.overdue port u.age } →
    p = o.dev.physical (addr / 256 * 256) → ch = o.dev.channelOf p →
    (port ≤ 16 → Gives (.pageRead port addr u) s ((o.access p u.user false).1.onDev (fun d => d.emit (.pageData addr (o.access p u.user false).2)))) ∧
    (16 < port → Gives (.pageRead port addr u) s (o.access p u.user false).1)) ∧
  (∀ (d : Dev) (port age t : Nat), d.portTarget port = some t →
    (age < t → d.overdue port age = d) ∧
    (t ≤ age → port < 9 → d.overdue port age = (d.bump 0x2810 (port + 1)).raiseLimited 1000000000 89 0 0xFF 0) ∧
    (t ≤ age → 9 ≤ port → d.overdue port age = d.bump 0x2810 (port + 1))) ∧
  (∀ (d : Dev) (port age : Nat), d.portTarget port = none → d.overdue port age = d) ∧
  (∀ (s o : State) (p ch : Nat) (u : PageUser) (scrub first : Bool) (b : Bytes), ch = s.dev.channelOf p →
    first = (scrub && s.dev.mem.cleared.contains p) →
    o = (if first then s.onDev (fun d => { d with mem := { d.mem with cleared := d.mem.cleared.filter (fun x => x != p) } }) else s) →
    (o.readPage p = (b, .clean) → s.access p u scrub = (o, some b)) ∧
    (o.readPage p = (b, .poison) → ∀ r, r = o.onDev (fun d => (d.bump 0x2808 (7 + ch)).put 0x2808 0x0B (3 * 2 ^ 56 + p)) →
      s.access p u scrub = ((if first then r.remap p else r).onDev (fun d => d.poisonReaction u), none)) ∧
    (o.readPage p = (b, .uncorrectable) → ∀ r, r = (o.onDev (fun d => ((d.bump 0x2808 (5 + ch)).put 0x2808 0x0B (2 * 2 ^ 56 + p)).raise 85 0 0xFF
        (p / 256 % 4294967296))).storePage p b true →
      s.access p u scrub = ((if first then r.remap p else r).onDev (fun d => d.poisonReaction u), none)) ∧
    (∀ x n m, o.readPage p = (b, .corrected x n m) → ∀ (q r : State) (again trend : Bool) (lap : List Nat),
      q = (o.onDev (fun d => d.countCorrected ch p n)).storePage p x false →
      again = (scrub && (q.dev.mem.prevLap.get [] ch).contains p) →
      lap = (q.dev.mem.thisLap.get [] ch ++ [p]).drop ((q.dev.mem.thisLap.get [] ch).length + 1 - 256) →
      r = (if scrub then q.onDev (fun d => { d with mem := { d.mem with thisLap := d.mem.thisLap.set ch lap } }) else q) →
      trend = decide ((r.dev.pageDay ch p).2 = (r.dev.pageDay ch p).1.g 0x2E00 4) → ∀ v : State, v = { r with dev := (r.dev.pageDay ch p).1 } →
      ((v.dev.checkLen / 4 < n ∨ again = true ∨ first = true ∨ trend = true) → v.dev.remapOf p = none →
        s.access p u scrub = ((if trend then v.onDev (fun d => d.bump 0x2E0B (3 + ch)) else v).remap p, some x)) ∧
      ((n ≤ v.dev.checkLen / 4 ∧ again = false ∧ first = false ∧ trend = false ∨ v.dev.remapOf p ≠ none) →
        s.access p u scrub = (v, some x)))) ∧
  (∀ (s o : State) (addr p : Nat) (data : Bytes), addr < s.dev.usable_ → o = { s with dev := s.begin_ } → p = s.dev.physical (addr / 256 * 256) →
    ∀ r, r = o.storePage p (slice data 0 256) false →
    (((o.readPage p).2 ≠ .poison ∨ r.dev.mem.cleared.contains p = true) → Gives (.pageWrite addr data) s r) ∧
    ((o.readPage p).2 = .poison → r.dev.mem.cleared.contains p = false → Gives (.pageWrite addr data) s
      (r.onDev (fun d => { d with mem := { d.mem with cleared := d.mem.cleared ++ [p] } })))) ∧
  (∀ (s o : State) (addr off p ch : Nat) (data b new_ : Bytes), addr < s.dev.usable_ → o = { s with dev := s.begin_ } →
    p = s.dev.physical (addr / 256 * 256) → ch = s.dev.channelOf p → new_ = data.take (256 - off % 256) →
    (o.readPage p = (b, .clean) → Gives (.partialWrite addr off data) s (o.storePage p (State.mergeBytes b (off % 256) new_) false)) ∧
    (∀ x n m, o.readPage p = (b, .corrected x n m) → Gives (.partialWrite addr off data) s
      ((o.onDev (fun d => d.countCorrected ch p n)).storePage p (State.mergeBytes x (off % 256) new_) false)) ∧
    (o.readPage p = (b, .uncorrectable) → Gives (.partialWrite addr off data) s
      ((o.onDev (fun d => ((d.bump 0x2808 (5 + ch)).put 0x2808 0x0B (2 * 2 ^ 56 + p)).raise 85 0 0xFF (p / 256 % 4294967296))).storePage p
        (State.mergeBytes b (off % 256) new_) true)) ∧
    (o.readPage p = (b, .poison) → Gives (.partialWrite addr off data) s (o.storePage p (State.mergeBytes b (off % 256) new_) true))) ∧
  (∀ (s : State) (p : Nat) (data : Bytes) (poison : Bool),
    (s.dev.remapOf p = none → s.readPage p = ((s.rawPage p).1, classify s.dev.checkLen (s.rawPage p).1 (s.rawPage p).2) ∧
      s.storePage p data poison = s.putRaw p data
        (if poison then (pageCheck s.dev.checkLen data).map (fun y => ~~~y) else pageCheck s.dev.checkLen data)) ∧
    (∀ e, s.dev.remapOf p = some e → s.readPage p = ((s.dev.mem.spare.get ([], false) e).1,
        if (s.dev.mem.spare.get ([], false) e).2 then .poison else .clean) ∧
      (s.storePage p data poison).dram = s.dram ∧ (s.storePage p data poison).dev =
        ({ s.dev with mem := { s.dev.mem with spare := s.dev.mem.spare.set e (data, poison) } } : Dev).put 0x280C e
          (setBit (s.dev.g 0x280C e) 62 poison))) ∧
  (∀ (s : State) (p a k : Nat) (data check : Bytes), data.length ≤ 256 → check.length ≤ s.dev.checkLen →
    k = p / s.dev.blockSize * s.dev.blockSize + 256 * s.dev.blockPages + s.dev.checkLen * ((p - p / s.dev.blockSize * s.dev.blockSize) / 256) →
    (a < p ∨ p + 256 ≤ a) → (a < k ∨ k + s.dev.checkLen ≤ a) → ramRead (s.putRaw p data check).dram a = ramRead s.dram a)

/-- Remap, scrubbing and the background of DRAM. A remap command copies its page, corrected where it can be and else as poison, into the lowest
free entry of its channel, as a recorded substitution, and answers the refusals of its checks; a page already remapped stays (R364 to R366). A
scrub reads the pages of its subchannel's next block and moves the subchannel on; when every block has been read the lap is counted and its time
published, and a subchannel that has read all its blocks waits (R367, R368); a starved lap raises EV_SCRUB_STARVED once and is counted, none with
a limit of 0 (R369). A bucket leaks one unit down to 0 (R370); a refresh changes nothing that can be read (R351); and each engine port's target
is its factor times its bar's line period, from 0.2 to 250 µs (R372). -/
def Obligations.DramIsRemappedScrubbedAndLeaks : Prop :=
  (∀ (s : State) (sess p : Nat) (mid : Dev), s.Serves sess 0x280E → s.dev.sys.verified = true →
    (s.dev.remapCheck p ≠ 0 → Answers (.remapCommand sess p) s sess (s.dev.remapCheck p) s.begin_) ∧
    (s.dev.remapCheck p = 0 → (s.dev.remapOf p).isSome = true → Answers (.remapCommand sess p) s sess 0 s.begin_) ∧
    (∀ i ch e b cls data bad, s.dev.remapCheck p = 0 → s.dev.remapOf p = none → s.readPage p = (b, cls) → ch = s.dev.channelOf p → e = 32 * ch + i + 1 →
      (List.range 32).find? (fun j => !bit (s.dev.g 0x280C (32 * ch + j + 1)) 63) = some i →
      ((cls = .clean ∧ data = b ∧ bad = false) ∨ (∃ n m, cls = .corrected data n m ∧ bad = false) ∨
        ((cls = .poison ∨ cls = .uncorrectable) ∧ data = b ∧ bad = true)) →
      mid = { s.begin_ with mem := { s.dev.mem with
        spare := s.dev.mem.spare.set e (data, bad), cleared := s.dev.mem.cleared.filter (fun x => x != p) } } →
      ∀ v, v = 2 ^ 63 + (if bad then 2 ^ 62 else 0) + p →
      Answers (.remapCommand sess p) s sess 0 (((((mid.put 0x280C e v).minorL2 86).consume (10 + ch)).substitute (10 + ch)).saveNv
        { kind := 1, obj := e, val := v }))) ∧
  (∀ (s : State) (sub : Fin 4) (u : PageUser) (i total : Nat), i = s.dev.mem.next.get 0 sub → total = s.dev.fitted / s.dev.blockSize / 4 →
    ((s.dev.fast = false ∨ total ≤ i) → Makes (.scrubRead sub u) s s.begin_) ∧
    (s.dev.fast = true → i < total → ∀ o : State,
      o = (List.range s.dev.blockPages).foldl (fun r j => (r.access (s.dev.blockOf sub i * r.dev.blockSize + 256 * j) u true).1)
        { s with dev := s.begin_ } →
      Gives (.scrubRead sub u) s (o.onDev (fun d => { d with mem := { d.mem with next := d.mem.next.set sub (i + 1) } })).lapEnd)) ∧
  (∀ (s : State) (total : Nat), total = s.dev.fitted / s.dev.blockSize / 4 →
    ((∃ k, k < 4 ∧ s.dev.mem.next.get 0 k < total) → s.lapEnd = s) ∧
    ((∀ k, k < 4 → total ≤ s.dev.mem.next.get 0 k) → s.lapEnd = { s with dev :=
      { (s.dev.bump 0x280A 1).put 0x280A 2 ((s.dev.t - s.dev.mem.lapStart) / 1000000000) with mem := { s.dev.mem with
        next := [], lapStart := s.dev.t, starved := false, prevLap := s.dev.mem.thisLap, thisLap := [] } } })) ∧
  (∀ s : State, (s.dev.mem.starved = false → s.dev.g 0x2804 2 ≠ 0 → Reports .scrubStarved s
      (({ s.begin_ with mem := { s.dev.mem with starved := true } } : Dev).bump 0x280A 4) (evLevel 88) 88 0 0xFF 0) ∧
    ((s.dev.mem.starved = true ∨ s.dev.g 0x2804 2 = 0) → Makes .scrubStarved s s.begin_)) ∧
  (∀ (s : State) (ch : Fin 2), Makes (.bucketLeak ch) s (s.begin_.put 0x2808 (9 + ch) (s.dev.cnt 0x2808 (9 + ch) - 1))) ∧
  (∀ (s : State) (sub : Fin 4), Makes (.dramRefresh sub) s s.begin_) ∧
  (∀ s : State, Runs .dramTargetRecompute s (fun t => ({ t.dev with mem := { t.dev.mem with targets := s.dev.mem.targets } } : Dev).body = s.dev.body ∧
    ∀ e, e < 9 → t.dev.mem.targets.find? e = some (match s.dev.barOf e with
      | none => 250000
      | some n => if s.dev.lineRate = 0 then 250000
        else min 250000 (max 200 (1000000000 * (if (s.dev.bar n).alternate then 2 else 1) * s.dev.g 0x2802 2 / (256 * s.dev.lineRate))))))

/-- A pair forms and follows. Every twin message in sequence is acknowledged (R383). An IDENT that does not fit names its first bad field
(R378); where it fits, a device that prints, or of two that do not the one in position 0, takes the active role with no flag set and sends its
checksums, LANE_SYNC and STATE; the other forms as standby in a long operation of class 6, or waits for one that runs, and tries again on
FORMATION_RETRY (R384). STATE is held until the position is aligned, and else adopted with all four flags (R385, R386). A decision is held at the
standby, with the request counters it carries, or refused, and its COMMIT applies it, or comes late and costs DECISIONS; a REFUSE withdraws it at
the active device (R389). Checksums and digests are held, and a checksum that differs is reported, and costs TABLES at a standby with the context
in force (R387, R388, R390). A good index records the position and a larger error slews it; one beyond half a line, or a count that moved, loses
it (R386). LANE_SYNC gives the standby's lane of the same bar and logical lane its marker number and departure, and a rate both reach (R232). -/
def Obligations.PairFormsAndFollowsDecisions : Prop :=
  (∀ (s : State) (q : Nat) (e : Dev), q = (s.dev.twin.rxSeq + 1) % 4294967296 →
    e = ({ s.begin_ with twin := { s.dev.twin with rxSeq := q } } : Dev).block (73 + s.dev.twinUp.headD 0) 0xB4 (leBytes 4 q) →
    (∀ i : Ident, Makes (.ident i) s (e.gotIdent i)) ∧
    (∀ a : Adopt,
      (e.role = 3 → Makes (.state a) s ({ e with twin := { e.twin with adopt := some a } } : Dev).formDone) ∧
      (e.role = 2 → ∀ d : Dev, d = { e with twin := { e.twin with adopt := some a } } →
        (d.twin.resync = true → d.printingLike = false → d.twin.posBad = false →
          Makes (.state a) s (((d.adoptState a).syncDone a).noteResync).lanesResume) ∧
        ((d.twin.resync = false ∨ d.printingLike = true ∨ d.twin.posBad = true) → Makes (.state a) s d)) ∧
      (e.role ≠ 2 → e.role ≠ 3 → Makes (.state a) s e)) ∧
    (∀ seq, (s.dev.twin.pledges.find? (fun p => p.seq == seq) = none → Makes (.commit seq) s e ∧ ∀ c, Makes (.refuse seq c) s e) ∧
      (∀ p d, s.dev.twin.pledges.find? (fun p => p.seq == seq) = some p →
        d = { e with twin := { e.twin with pledges := s.dev.twin.pledges.filter (fun x => x.seq != seq) } } →
        (d.role = 2 → d.ahead p.msg = true → Makes (.commit seq) s (d.followDecision p.msg)) ∧
        (d.role = 2 → d.ahead p.msg = false → Makes (.commit seq) s ((d.bump 0x2C08 0x0C).loseFlag 3)) ∧
        (d.role ≠ 2 → Makes (.commit seq) s d) ∧
        (∀ c, (d.role = 1 → Makes (.refuse seq c) s (d.withdraw p.msg)) ∧ (d.role ≠ 1 → Makes (.refuse seq c) s d)))) ∧
    (∀ c st crc, (e.g 0x2C00 1 = 0 → Makes (.checksum c st crc) s e) ∧
      (e.g 0x2C00 1 ≠ 0 → Makes (.checksum c st crc) s
        (({ e with twin := { e.twin with sums := s.dev.twin.sums.set c (st, crc) } } : Dev).compareSums c))) ∧
    (∀ group rep crc, Makes (.digest group rep crc) s { e with twin := { e.twin with digests := s.dev.twin.digests.set group (rep, crc) } }) ∧
    (∀ index time count out,
      ((e.role ≠ 2 ∧ e.role ≠ 3) ∨ s.dev.twin.marks.find? (fun k => decide (max k.time time - min k.time time ≤ 100000)) = none →
        Makes (.position index time count out) s e) ∧
      (∀ (k : IndexMark) (dc : Int), s.dev.twin.marks.find? (fun k => decide (max k.time time - min k.time time ≤ 100000)) = some k →
        dc = k.count - toSigned 64 count →
        ((e.role = 2 ∨ (e.role = 3 ∧ e.twin.aligned = true)) → Makes (.position index time count out) s (e.trackPosition k out dc)) ∧
        (e.role = 3 → e.twin.aligned = false → ∀ d, d = (e.align k out).put 0x2C08 0x0D (ofSigned 64 dc) →
          Makes (.position index time count out) s ({ d with twin := { d.twin with dc := some dc } } : Dev).formDone))) ∧
    (∀ es, ((e.role = 2 ∨ e.role = 3) → Makes (.laneSync es) s (es.foldl Dev.syncLane e)) ∧
      (e.role ≠ 2 → e.role ≠ 3 → Makes (.laneSync es) s e))) ∧
  (∀ (s : State) (seq : Nat) (m : DecisionMsg) (e : Dev),
    e = ({ s.begin_ with twin := { s.dev.twin with rxSeq := seq % 4294967296 } } : Dev).block (73 + s.dev.twinUp.headD 0) 0xB4
      (leBytes 4 (seq % 4294967296)) →
    (e.role ≠ 2 → Makes (.decision seq m) s e) ∧
    (∀ c, e.role = 2 → e.cannot m = some c → Makes (.decision seq m) s (e.twinSend 5 (leBytes 4 seq ++ [byte c]))) ∧
    (e.role = 2 → e.cannot m = none → [1, 2, 3, 4, 5, 13].contains m.kind = false → Makes (.decision seq m) s
      { e with twin := { e.twin with pledges := s.dev.twin.pledges ++ [{ seq := seq, msg := m }] } }) ∧
    (∀ v, e.role = 2 → e.cannot m = none → [1, 2, 3, 4, 5, 13].contains m.kind = true → v = m.value / 16777216 →
      Makes (.decision seq m) s { e with
        com := { s.dev.com with pd := { s.dev.com.pd with
          ackFc := v % 256
          ackSpoil := v / 256 % 256
          ackSplice := v / 65536 % 256
          ackCancel := v / 16777216 % 256
          ackCmd := v / 4294967296 % 256 } }
        twin := { e.twin with pledges := s.dev.twin.pledges ++ [{ seq := seq, msg := m }] } })) ∧
  (∀ s : State,
    ((s.dev.role ≠ 4 ∨ s.dev.twin.retryForm = false ∨ s.dev.twin.linked = false) → Makes .formationRetry s s.begin_) ∧
    (s.dev.role = 4 → s.dev.twin.retryForm = true → s.dev.twin.linked = true →
      (s.dev.twin.partner = none → Makes .formationRetry s (s.begin_.twinSend 1 s.begin_.identBytes)) ∧
      (∀ i, s.dev.twin.partner = some i → Makes .formationRetry s ((s.begin_.twinSend 1 s.begin_.identBytes).gotIdent i)))) ∧
  (∀ (d p : Dev) (i : Ident), p = { d with twin := { d.twin with partner := some i } } →
    ((i.product ≠ 0x2208 ∨ d.product ≠ 0x2208) → d.identMismatch i = some 1) ∧
    (i.product = 0x2208 → d.product = 0x2208 →
      (i.revision ≠ d.g 0x1018 3 → d.identMismatch i = some 2) ∧
      (i.revision = d.g 0x1018 3 → i.firmware ≠ d.g 0x100A 0 → d.identMismatch i = some 3) ∧
      (i.revision = d.g 0x1018 3 → i.firmware = d.g 0x100A 0 → i.mode ≠ d.g 0x2C00 1 → d.identMismatch i = some 5) ∧
      (i.revision = d.g 0x1018 3 → i.firmware = d.g 0x100A 0 → i.mode = d.g 0x2C00 1 →
        d.identMismatch i = if i.position = d.g 0x2C00 2 then some 6 else none)) ∧
    ((d.g 0x2C00 1 = 0 ∨ d.twin.linked = false) → d.gotIdent i = d) ∧
    (d.g 0x2C00 1 ≠ 0 → d.twin.linked = true →
      (∀ k, d.identMismatch i = some k → d.gotIdent i = d.raise 92 0 0xFF k) ∧
      (d.identMismatch i = none → d.paired = true → d.g 0x2C08 4 = i.serial →
        (p.role = 1 → p.synced = false → d.gotIdent i = p.sendState) ∧ ((p.role ≠ 1 ∨ p.synced = true) → d.gotIdent i = p)) ∧
      (d.identMismatch i = none → (d.paired = false ∨ d.g 0x2C08 4 ≠ i.serial) →
        ((d.role = 3 ∨ (d.phase = .printing ∧ i.state = 6)) → d.gotIdent i = d) ∧
        (d.role ≠ 3 → ((d.phase = .printing ∧ i.state ≠ 6) ∨ (d.phase ≠ .printing ∧ i.state ≠ 6 ∧ d.g 0x2C00 2 = 0)) →
          d.gotIdent i = d.formActive i) ∧
        (d.role ≠ 3 → d.phase ≠ .printing → (i.state = 6 ∨ d.g 0x2C00 2 ≠ 0) → d.gotIdent i = d.formStandby i)))) ∧
  (∀ (d e : Dev) (i : Ident),
    (e = ((({ d with twin := { d.twin with
        partner := some i, retryForm := false, lastHandover := d.t, sums := [], digests := [], clearSince := none, handover := none } } : Dev).put
        0x2C08 1 1).put 0x2C08 2 0).put 0x2C08 4 i.serial → d.formActive i = e.sendSums.sendLaneSync.sendState) ∧
    (e = ({ d with twin := { d.twin with
        partner := some i, aligned := false, adopt := none, sums := [], digests := [], marks := [], dc := none, lastHandover := d.t } } : Dev).put
        0x2C08 4 i.serial →
      (d.com.op ≠ none → d.formStandby i = ({ e with twin := { e.twin with retryForm := true } } : Dev).put 0x2C08 1 4) ∧
      (d.com.op = none → d.formStandby i = ((((e.put 0x2C08 1 3).put 0x2C08 2 0).beginOp 6 0 0).sendSums).camsRelease))) ∧
  (∀ (d : Dev) (a : Adopt), d.twin.adopt = some a →
    ((d.role ≠ 3 ∨ (adoptPrinting a = true ∧ d.twin.aligned = false)) → d.formDone = d) ∧
    (d.role = 3 → (adoptPrinting a = false ∨ d.twin.aligned = true) →
      d.formDone = ((((d.put 0x2C08 1 2).adoptState a).syncDone a).endOp 0).lanesResume)) ∧
  (∀ (d e : Dev) (a : Adopt), e = { d.put 0x2C08 2 15 with twin := { d.twin with
      resync := false, posBad := false, clearSince := none, adopt := none, retryForm := false } } →
    (adoptPrinting a = true → e.sys.st = .armed → d.syncDone a = e.enter .printing) ∧
    ((adoptPrinting a = false ∨ e.sys.st ≠ .armed) → d.syncDone a = e)) ∧
  (∀ (d e : Dev) (c st crc : Nat), d.twin.sums.find? c = some (st, crc) → e = (d.raise 92 0 0xFF c).bump 0x2C08 0x0F →
    ((crc = (d.ctx c).checksum ∨ st < 4 ∨ 6 < st ∨ (d.ctx c).code < 4 ∨ 6 < (d.ctx c).code) → d.compareSums c = d) ∧
    (crc ≠ (d.ctx c).checksum → 4 ≤ st → st ≤ 6 → 4 ≤ (d.ctx c).code → (d.ctx c).code ≤ 6 →
      ((d.ctx c).code ≠ 4 → e.role = 2 → d.compareSums c = e.loseFlag 0) ∧
      (((d.ctx c).code = 4 ∨ e.role ≠ 2) → d.compareSums c = e))) ∧
  (∀ (d e : Dev) (m : DecisionMsg), e = d.bump 0x2C08 0x0C →
    (m.kind ≠ 6 → m.kind ≠ 12 → d.withdraw m = e) ∧
    (∀ g, m.kind = 6 → e.keeper.gen = some g → g.num = m.value → g.acked = false → d.withdraw m = e.withdrawGen.raise 69) ∧
    (m.kind = 6 → (∀ g, e.keeper.gen = some g → g.num ≠ m.value ∨ g.acked = true) → d.withdraw m = e)) ∧
  (∀ (d e : Dev) (k : IndexMark) (out : Nat) (dc err : Int), err = (out : Int) * 281474976710656 - k.out →
    e = { (d.put 0x2C08 0x0D (ofSigned 64 dc)).put 0x2C08 0x0E (ofSigned 32 (Int.fdiv err 281474976710656)) with
      twin := { d.twin with dc := some dc } } →
    ((∃ x, d.twin.dc = some x ∧ 2 < (dc - x).natAbs) ∨ 9223372036854775808 < err.natAbs → ∀ f, f = (e.raise 94).loseFlag 2 →
      d.trackPosition k out dc = { f with twin := { f.twin with posBad := true } }) ∧
    ((∀ x, d.twin.dc = some x → (dc - x).natAbs ≤ 2) → err.natAbs ≤ 9223372036854775808 → ∀ f : Dev,
      f = (if d.twin.posBad then { e with twin := { e.twin with posBad := false, clearSince := some d.t } } else e) →
      (err.natAbs ≤ 1152921504606846976 → d.trackPosition k out dc = f) ∧
      (1152921504606846976 < err.natAbs → d.trackPosition k out dc =
        { f with twin := { f.twin with slew := Int.fdiv err 4096, slewLeft := 4096 } }))) ∧
  (∀ (d f : Dev) (x : LaneSyncEntry) (k : Nat) (l : Lane), k = d.laneOf (x.lane / 8) (x.lane % 8) → l = d.lane k →
    ((d.lanePresent k = false ∨ 72 < k ∨ d.nbars ≤ x.lane / 8) → d.syncLane x = d) ∧
    (d.lanePresent k = true → k ≤ 72 → x.lane / 8 < d.nbars →
      f = d.setLane k { l with marker := (x.marker + 4294967295) % 4294967296, markDue := x.departure } →
      (x.rate ≠ 0 → x.rate < (f.lane k).upRate → f.laneState k = 4 → (f.lane k).carries = false →
        d.syncLane x = ((f.stepDown k).onLane k (fun l => { l with ceilingRate := x.rate + 1 })).stepUp k) ∧
      (x.rate ≠ 0 → ((f.lane k).upRate ≤ x.rate ∨ f.laneState k ≠ 4 ∨ (f.lane k).carries = true) →
        d.syncLane x = f.onLane k (fun l => { l with ceilingRate := min l.ceilingRate (x.rate + 1) })) ∧
      (x.rate = 0 → d.syncLane x = f.onLane k (fun l => l))))

/-- The twin link and the hand of control. A tile the device does not hold is answered NOT_HELD, a held one as stored, in parts of up to 32 KiB;
an answer without the frame is remembered and the frame sought here, one with a frame that passes its checks takes the lost copy's place, one that
fails them raises EV_TWIN_TILE, and a fetch of 1 ms is late, with the same event (R391, R128). An acknowledgement releases the messages up to it,
settles the decisions it covers, committed where it came in time and else withdrawn, and restores the flags once STATE is acknowledged; a refusal
of sequence sends again; an unacknowledged message leaves again after 50 µs, on the next lane that is up, and the link is lost after 2 ms, when
every mirrored decision is withdrawn and every fetch sought here (R383, R389, R390). Heartbeat pins mark their path and change no role, and the
FJA-2204 has none (R1, R392). A silent partner is probed, a probe is answered, and a standby that finds its active partner healthy, or one that is
not synchronised and told to take over, stays standby with EV_TWIN_ISOLATED; without an answer the partner is failed, and a synchronised standby
takes the active role (R393 to R395, R401). A handover or a rehearsal is mirrored for the first repeat that meets the margin where allowed, and
refused else with 0x0F00_006A; a rehearsal is judged by whether a substitution happened since, and handed back where it failed (R398, R399); a
resynchronisation clears the flags (R390). -/
def Obligations.TwinLinkProbesAndHandovers : Prop :=
  (∀ (s : State) (q kind tile : Nat) (hd : Bytes) (held : Option Bytes) (mine : Nat × Nat × Nat → Bool) (e d : Dev),
    q = (s.dev.twin.rxSeq + 1) % 4294967296 → hd = [byte kind] ++ leBytes 8 tile →
    e = ({ s.begin_ with twin := { s.dev.twin with rxSeq := q } } : Dev).block (73 + s.dev.twinUp.headD 0) 0xB4 (leBytes 4 q) →
    held = (if kind = 1 then (e.heldTile tile).map (fun t => hdrBytes t.hdr ++ t.stream) else (e.frameOk kind tile).map (fun f => hdrBytes f.hdr ++ f.payload)) →
    (∀ f, mine f = (f.1 == kind && f.2.1 == tile)) →
    d = { e with twin := { e.twin with fetches := s.dev.twin.fetches.filter (fun f => !mine f) } } →
    (held = none → Makes (.tileReq kind tile) s (e.twinSend 10 (hd ++ leBytes 4 0xFFFFFFFF))) ∧
    (∀ all, held = some all → Makes (.tileReq kind tile) s ((List.range (ceilDiv all.length 32768)).foldl
      (fun d i => d.twinSend 10 (hd ++ leBytes 4 (32768 * i) ++ (all.drop (32768 * i)).take 32768)) e)) ∧
    (s.dev.twin.fetches.any mine = false → ∀ frame, Makes (.tileData kind tile frame) s e) ∧
    (s.dev.twin.fetches.any mine = true → ∀ f : Dev, f = { d with twin := { d.twin with denied := ((kind, tile) :: d.twin.denied).take 64 } } →
      ((kind = 1 ∨ (f.frame? kind tile).isSome = true) → Makes (.tileData kind tile none) s (f.restoreHere kind tile)) ∧
      (kind ≠ 1 → f.frame? kind tile = none → Makes (.tileData kind tile none) s f)) ∧
    (∀ (h : FrameHdr) (p : Bytes) (st : Nat) (data : Bytes), s.dev.twin.fetches.any mine = true →
      decodePayload (d.historyOf h) (h.flags % 4) h.ulen h.crc (p.take h.clen) = (st, data) →
      ((h.kind ≠ kind ∨ h.tileId ≠ tile ∨ st ≠ 0) → Makes (.tileData kind tile (some (h, p))) s ((d.raise 102).restoreHere kind tile)) ∧
      (h.kind = kind → h.tileId = tile → st = 0 → kind ≠ 1 →
        Makes (.tileData kind tile (some (h, p))) s (d.acceptFrame (d.accepted h (p.take h.clen) data))) ∧
      (h.kind = kind → h.tileId = tile → st = 0 → kind = 1 → Makes (.tileData kind tile (some (h, p))) s
        (d.onCtx (tile / 2 ^ 56) (fun x =>
          { x with lost := x.lost.filter (fun y => y != (tile / 2 ^ 48 % 256, tile / 2 ^ 40 % 256, tile % 2 ^ 40)) }))))) ∧
  (∀ (s : State) (late : Nat × Nat × Nat → Bool), (∀ f, late f = (decide (f.2.2 ≠ 0) && decide (f.2.2 + 1000000 ≤ s.now))) →
    Makes .tileFetchTimeout s ((s.dev.twin.fetches.filter late).foldl (fun d f => (d.raise 102).restoreHere f.1 f.2.1)
      { s.begin_ with twin := { s.dev.twin with fetches := s.dev.twin.fetches.map (fun f => if late f then (f.1, f.2.1, 0) else f) } })) ∧
  (∀ (s : State) (seq : Nat) (e f : Dev), e = { s.begin_ with twin := { s.dev.twin with unacked := s.dev.twin.unacked.filter (fun m => !Dev.seqUpTo m.seq seq) } } →
    f = (s.dev.twin.pledges.filter (fun p => Dev.seqUpTo p.seq seq)).foldl Dev.pledged
      { e with twin := { e.twin with pledges := s.dev.twin.pledges.filter (fun p => !Dev.seqUpTo p.seq seq) } } →
    (e.role ≠ 1 → Makes (.msgAck seq) s e) ∧
    (e.role = 1 → ((∀ m ∈ s.dev.twin.unacked, m.kind = 2 → Dev.seqUpTo m.seq seq = false) ∨ f.synced = true ∨
        (∃ t, f.twin.clearSince = some t ∧ f.t < t + 1000000000)) → Makes (.msgAck seq) s f) ∧
    (e.role = 1 → (∃ m ∈ s.dev.twin.unacked, m.kind = 2 ∧ Dev.seqUpTo m.seq seq = true) → f.synced = false →
      (∀ t, f.twin.clearSince = some t → t + 1000000000 ≤ f.t) → Makes (.msgAck seq) s
        ({ f.put 0x2C08 2 15 with twin := { f.twin with clearSince := none } } : Dev).noteResync) ∧
    (∀ reason, Makes (.msgNak seq reason) s ((s.dev.twin.unacked.filter (fun m => Dev.seqUpTo seq m.seq)).foldl
      (fun d m => (d.emit (.twin m.kind m.seq m.payload)).bump 0x2C08 0x0B) s.begin_))) ∧
  (∀ (d e : Dev) (p : Pledge), e = d.twinSend 4 (leBytes 4 p.seq) →
    (d.inTime p.msg = false → d.pledged p = d.withdraw p.msg) ∧
    (d.inTime p.msg = true →
      (p.msg.kind ∈ [8, 9, 12, 15] → d.pledged p = e) ∧ (p.msg.kind = 11 → d.pledged p = e.followDecision p.msg) ∧
      (p.msg.kind = 7 → d.pledged p = e.barList.foldl (fun d n => d.setCensus n { d.census n with agreed := true }) e) ∧
      (∀ g, p.msg.kind = 6 → e.keeper.gen = some g → g.num = p.msg.value →
        d.pledged p = { e with keeper := { e.keeper with gen := some { g with acked := true } } }) ∧
      (p.msg.kind ∉ [6, 7, 8, 9, 11, 12, 15] → d.pledged p = e.applyDecision p.msg))) ∧
  (∀ (s : State) (i : Instr) (gone : Nat) (e f g : Dev), s.dev.twin.linked = true → gone = s.dev.twin.pledges.length →
    (i = .twinLinkLoss ∨ (i = .twinMsgResend ∧ ∃ m ∈ s.dev.twin.unacked, m.first + 2000000 < s.now)) →
    e = (({ s.begin_ with twin := { s.dev.twin with linked := false, unacked := [], pledges := [], fetches := [] } } : Dev).put 0x2C08 3
      (setBit (s.dev.g 0x2C08 3) 0 false)).raise 96 →
    f = (if e.role = 1 ∧ gone ≠ 0 then e.bumpBy 0x2C08 0x0C gone else e) →
    g = (if f.role = 2 then f.loseFlag 3 else if f.role = 1 then f.put 0x2C08 2 (setBit (f.g 0x2C08 2) 3 false) else f) →
    Makes i s (s.dev.twin.fetches.foldl (fun d x => d.restoreHere x.1 x.2.1) g)) ∧
  (∀ s : State, s.dev.twin.linked = false → Makes .twinLinkLoss s s.begin_) ∧
  (∀ (s : State) (due : TwinMsg → Bool) (other : Nat → Nat), (∀ m ∈ s.dev.twin.unacked, s.now ≤ m.first + 2000000) →
    (∀ m, due m = decide (m.sent + 50000 ≤ s.now)) → (∀ l, other l = (match s.dev.twinUp.find? (fun i => decide (l < i)) with
        | some i => i
        | none => s.dev.twinUp.headD l)) →
    Makes .twinMsgResend s ((s.dev.twin.unacked.filter due).foldl (fun d m => (d.emit (.twin m.kind m.seq m.payload)).bump 0x2C08 0x0B)
      { s.begin_ with twin := { s.dev.twin with unacked := s.dev.twin.unacked.map (fun m =>
        if due m then { m with sent := s.now, lane := other m.lane } else m) } })) ∧
  (∀ s : State,
    (s.dev.product ≠ 0x2204 →
      Makes .hbInPulse s (({ s.begin_ with pins := { s.dev.pins with hbInAlive := true }, twin := { s.dev.twin with hbInAt := s.now } } : Dev).put
        0x2C08 3 (setBit (s.dev.g 0x2C08 3) 1 true)) ∧
      (s.dev.pins.hbInAlive = true → Reports .hbInSilent s (({ s.begin_ with pins := { s.dev.pins with hbInAlive := false } } : Dev).put 0x2C08 3
        (setBit (s.dev.g 0x2C08 3) 1 false)) (evLevel 96) 96 0 0xFF 0) ∧
      (s.dev.fast = true → s.dev.twin.hbOutStopped = false → s.dev.sys.st ≠ .restarting → Makes .hbOutPulse s (s.begin_.emit .hbOut))) ∧
    (s.dev.product = 0x2204 → Makes .hbInPulse s s.begin_ ∧ Makes .hbInSilent s s.begin_ ∧ Makes .hbOutPulse s s.begin_) ∧
    (s.dev.pins.hbInAlive = false → Makes .hbInSilent s s.begin_) ∧
    ((s.dev.fast = false ∨ s.dev.twin.hbOutStopped = true ∨ s.dev.sys.st = .restarting) → Makes .hbOutPulse s s.begin_)) ∧
  (∀ (s : State) (k : Nat), k = (s.dev.twin.probe + 1) % 4294967296 →
    (s.dev.paired = true → s.dev.twin.probing = none → Makes .partnerSilent s
      (((({ s.begin_ with twin := { s.dev.twin with probe := k, probing := some s.now } } : Dev).path 2 false).path 3 false).sendPair 0x40
        (beBytes 4 (s.dev.g 0x1018 4) ++ beBytes 4 k))) ∧
    ((s.dev.paired = false ∨ s.dev.twin.probing.isSome = true) → Makes .partnerSilent s s.begin_) ∧
    (s.dev.twin.probing = none → Makes .probeTimeout s s.begin_) ∧
    (s.dev.twin.probing.isSome = true → Makes .probeTimeout s s.begin_.partnerFailed) ∧
    (s.dev.twin.probing.isSome = true → s.dev.role = 2 → s.dev.synced = true → Runs .probeTimeout s (fun t =>
      t.dev.role = 1 ∧ t.dev.g 0x2C08 6 = 1 ∧ t.dev.twin.partner = none ∧ t.dev.twin.pledges = [] ∧ t.dev.twin.probing = none)) ∧
    (s.dev.twin.probing.isSome = true → s.dev.role = 2 → s.dev.synced = false → Reports .probeTimeout s
      { s.begin_ with twin := { s.dev.twin with probing := none, partner := none, pledges := [], handover := none } } (evLevel 98) 98 0 0xFF 0) ∧
    (s.dev.twin.probing.isSome = true → s.dev.role = 1 → ∀ e : Dev, e = { s.begin_.raise 98 with twin := { s.dev.twin with
        probing := none, partner := none, pledges := [], handover := none } } → Makes .probeTimeout s
      ((if s.dev.twin.pledges = [] then e else e.bumpBy 0x2C08 0x0C s.dev.twin.pledges.length).put 0x2C08 2 0))) ∧
  (∀ (s : State) (m : Dgram) (e d : Dev), s.dev.admits m → e = s.begin_.noteSeq m → d = e.path (2 + viaCode m.via) true →
    (m.typ = 0x40 → s.dev.pairOk m 8 = true → Makes (.twinProbe m) s (e.sendPair 0x41 (beBytes 4 (s.dev.g 0x1018 4) ++ slice m.payload 4 4 ++
      [byte s.dev.role, byte (if s.dev.healthy then 1 else 0), byte s.dev.sys.st.code] ++ List.replicate 5 0 ++ beBytes 8 (s.dev.g 0x2015 1)))) ∧
    (m.typ = 0x40 → s.dev.pairOk m 8 = false → Makes (.twinProbe m) s (s.begin_.dropMsg (viaCode m.via))) ∧
    (m.typ = 0x41 → s.dev.pairOk m 24 = false → Makes (.twinProbeRsp m) s (s.begin_.dropMsg (viaCode m.via))) ∧
    (m.typ = 0x43 → s.dev.pairOk m 24 = false → Makes (.handover m) s (s.begin_.dropMsg (viaCode m.via))) ∧
    (m.typ = 0x41 → s.dev.pairOk m 24 = true → s.dev.twin.probing.isSome = true → pairValue m.payload = s.dev.twin.probe →
      (slice m.payload 8 1 = [1] → slice m.payload 9 1 = [1] → d.role = 2 →
        Makes (.twinProbeRsp m) s ((({ d with twin := { d.twin with probing := none } } : Dev).raise 97).loseFlag 3)) ∧
      ((slice m.payload 8 1 ≠ [1] ∨ slice m.payload 9 1 ≠ [1] ∨ d.role ≠ 2) → Makes (.twinProbeRsp m) s d)) ∧
    (m.typ = 0x41 → s.dev.pairOk m 24 = true → (s.dev.twin.probing = none ∨ pairValue m.payload ≠ s.dev.twin.probe) →
      Makes (.twinProbeRsp m) s e) ∧
    (m.typ = 0x43 → s.dev.pairOk m 24 = true → s.dev.role = 2 → pairValue m.payload = s.dev.g 0x1018 4 →
      (s.dev.synced = true → Makes (.handover m) s (e.takeover 2) ∧
        Runs (.handover m) s (fun t => t.dev.role = 1 ∧ t.dev.g 0x2C08 6 = 2 ∧ t.dev.twin.lastHandover = s.now)) ∧
      (s.dev.synced = false → Reports (.handover m) s e (evLevel 97) 97 0 0xFF 0)) ∧
    (m.typ = 0x43 → s.dev.pairOk m 24 = true → (s.dev.role ≠ 2 ∨ pairValue m.payload ≠ s.dev.g 0x1018 4) → Makes (.handover m) s e)) ∧
  (∀ (s : State) (sess : Nat) (ask : Nat → Dev), s.Serves sess 0x2C02 → ask = (fun cause => s.begin_.mirror
      { kind := 14, barMask := 2 ^ s.dev.nbars - 1, repeatNo := s.begin_.nextMet s.begin_.nextNum 1, line := 0, value := cause }) →
    (s.dev.handoverAllowed = true → Answers (.pairHandover sess) s sess 0 (ask 3) ∧
      AnswersReporting (.pairRehearse sess) s sess 0 (ask 4) (evLevel 100) 100 0 0xFF 0) ∧
    (s.dev.handoverAllowed = false → Answers (.pairHandover sess) s sess 0x0F00006A s.begin_ ∧
      Answers (.pairRehearse sess) s sess 0x0F00006A (s.begin_.put 0x2C08 9 3)) ∧
    (s.dev.paired = false → Answers (.pairResynchronise sess) s sess 0x08000022 s.begin_) ∧
    (s.dev.paired = true → s.dev.role = 2 → Answers (.pairResynchronise sess) s sess 0
      { s.begin_ with twin := { s.dev.twin with resync := true, clearSince := some s.now } }) ∧
    (s.dev.paired = true → s.dev.role ≠ 2 → Answers (.pairResynchronise sess) s sess 0
      (({ s.begin_ with twin := { s.dev.twin with clearSince := some s.now } } : Dev).put 0x2C08 2 0))) ∧
  (∀ s : State,
    (s.dev.handoverAllowed = true → s.dev.g 0x2C00 1 = 1 → s.dev.g 0x2C00 6 ≠ 0 → Reports .rehearsalDue s (s.begin_.mirror
      { kind := 14, barMask := 2 ^ s.dev.nbars - 1, repeatNo := s.begin_.nextMet s.begin_.nextNum 1, line := 0, value := 4 }) (evLevel 100) 100 0 0xFF 0) ∧
    ((s.dev.role ≠ 1 ∨ s.dev.paired = false ∨ s.dev.g 0x2C00 1 ≠ 1 ∨ s.dev.sys.st ≠ .printing ∨ s.dev.g 0x2C00 6 = 0) →
      Makes .rehearsalDue s s.begin_) ∧
    (s.dev.role = 1 → s.dev.paired = true → s.dev.g 0x2C00 1 = 1 → s.dev.sys.st = .printing → s.dev.g 0x2C00 6 ≠ 0 → s.dev.handoverAllowed = false →
      Makes .rehearsalDue s (s.begin_.put 0x2C08 9 3)) ∧
    (s.dev.twin.rehearsing = none → Makes .rehearsalCheck s s.begin_) ∧
    (∀ from_ d, s.dev.twin.rehearsing = some from_ →
      d = ({ s.begin_ with twin := { s.dev.twin with rehearsing := none } } : Dev).put 0x2C08 8 (s.begin_.serviceAt from_) →
      ((∀ x, s.dev.fl.lastL2 = some x → x < from_) → Makes .rehearsalCheck s (d.put 0x2C08 9 1)) ∧
      (∀ x, s.dev.fl.lastL2 = some x → from_ ≤ x → ∀ e, e = d.put 0x2C08 9 2 →
        (e.handoverAllowed = false → Makes .rehearsalCheck s e) ∧ (e.handoverAllowed = true → Makes .rehearsalCheck s (e.askHandover 3)))))

/-- Faults and the ladder. A block fault of Table 17.6, a fabric timeout and the management watchdog are placed on the ladder at their level, an
engine's with the bar it serves; a decode's first failure is retried and its second loses the tile; in Boot the watchdog closes every session,
and a second expiry marks the newest image invalid (R122, R402 to R404, R411, R463). In Fault, Boot or Off, under an L4, and with the fast domains
stopped for all but events 10, 106 and 117, a fault is only reported; else it starts a recovery, waits one level up behind one it overlaps, or, as its block's third L1, is escalated
(R402, R412, R413); an escalation is reported, and the third in 10 s is taken at L4 with EV_ESCALATION_LIMIT (R412, R413). A recovery is numbered
and counted; at L1 the watchdog's closes every session and, while printing, a block's undoes its bars; L3 begins the restart, and L4 hands over to
a synchronised standby or stops the run (R404 to R410). A recovery of L1 or L2 that completes leaves the ladder, and one that overruns is taken a
level higher (R412). The command begins an L3 restart, which completes with its duration, FAULT_N released and the state before it resumed, and
becomes L4 where printing and every saved set reads POISON (R407, R408, R504). State sets alternate between two slots while printing, and one without a buffer
is EV_STATE_SAVE (R408; whether its encoding was NO_GAIN is free, log 97). ALERT_N is cleared by a write of 1 unless FAULT_N is low, a test event
is raised by one, and a write of 0 does nothing (R421, R423). -/
def Obligations.FaultsClimbTheLadderAndEnd : Prop :=
  (∀ (s : State) (e unit full detail mask : Nat), mask = full % 2 ^ s.dev.nbars →
    (e ∉ [18, 19, 20, 25, 27, 47, 66, 91, 120] → Makes (.blockFault e unit full detail) s s.begin_) ∧
    (detail ∉ s.dev.fl.decodeFails → Makes (.blockFault 18 unit full detail) s
      (({ s.begin_ with fl := { s.dev.fl with decodeFails := detail :: s.dev.fl.decodeFails } } : Dev).fault 1 18 unit mask 0)) ∧
    (detail ∈ s.dev.fl.decodeFails → Makes (.blockFault 18 unit full detail) s
      ((({ s.begin_ with fl := { s.dev.fl with decodeFails := s.dev.fl.decodeFails.erase detail } } : Dev).raise 18 mask).tileLost
        (detail / 2 ^ 64) (detail % 2 ^ 64) false)) ∧
    ((e = 25 ∨ e = 27) → ∀ m, (∀ n, s.dev.barOf unit = some n → m = 2 ^ n) → (s.dev.barOf unit = none → m = 0) →
      Makes (.blockFault e unit full detail) s (s.begin_.fault 1 e unit m 0)) ∧
    (e ∈ [19, 20, 47, 66, 91, 120] → Makes (.blockFault e unit full detail) s (s.begin_.fault (evLevel e) e unit mask 0)) ∧
    Makes (.fabricTimeout unit full) s (s.begin_.fault 1 9 unit mask 0)) ∧
  (∀ (s : State) (d : Dev),
    (s.dev.sys.st ≠ .boot → Makes .mgmtWatchdog s (s.begin_.fault 1 10 0xFF 0 0)) ∧
    (s.dev.sys.st = .boot → d = (s.begin_.raiseAt 1 10 0 0xFF 0).closeAll →
      (s.dev.sys.bootTries ≠ 1 → Makes .mgmtWatchdog s { d with sys := { s.dev.sys with bootTries := s.dev.sys.bootTries + 1 } }) ∧
      (s.dev.sys.bootTries = 1 → (∀ p ∈ s.dev.sys.slots, p.2.1 ≠ 1 ∧ p.2.1 ≠ 3) →
        Makes .mgmtWatchdog s { d with sys := { s.dev.sys with bootTries := 0 } }) ∧
      (∀ k x, s.dev.sys.bootTries = 1 → s.dev.sys.slots.find? k = some x → (x.1 = 1 ∨ x.1 = 3) →
        (∀ p ∈ s.dev.sys.slots, p ≠ (k, x) → (p.2.1 = 1 ∨ p.2.1 = 3) → p.2.2.1 < x.2.1) →
        Reports .mgmtWatchdog s { d with sys := { s.dev.sys with bootTries := 0, slots := s.dev.sys.slots.set k (2, x.2) } } (evLevel 2) 2 0 0xFF 0))) ∧
  (∀ (d : Dev) (level e unit mask detail : Nat) (r : Recovery) (idle : Prop),
    r = { id := 0, event := e, unit := unit, mask := mask, detail := detail, level := level, start := d.t } →
    (idle ↔ d.sys.st = .fault ∨ d.sys.st = .boot ∨ d.sys.st = .off ∨ (d.fast = false ∧ e ∉ [10, 106, 117]) ∨ ∃ x ∈ d.fl.running, 4 ≤ x.level) →
    (idle → d.fault level e unit mask detail = d.raiseAt level e mask 0xFF detail) ∧
    (¬ idle → (∀ x ∈ d.fl.running, overlap x r = false) →
      ((level ≠ 1 ∨ d.thirdL1 r = false) →
        d.fault level e unit mask detail = (d.raiseAt (d.levelTaken level e unit) e mask 0xFF detail).startRec r) ∧
      (level = 1 → d.thirdL1 r = true → ∀ lv f, d.escalate r 1 (if blockKind e = 25 ∧ d.spareEngine.isSome = true then 2 else 4) = (f, lv) →
        d.fault level e unit mask detail = (f.raiseAt lv e mask 0xFF detail).startRec { r with level := lv })) ∧
    (∀ top lv f g, ¬ idle → d.fl.running.any (fun x => overlap x r) = true →
      top = (d.fl.running.filter (fun x => overlap x r)).foldl (fun m y => max m y.level) level →
      d.escalate r level (min (top + 1) 4) = (f, lv) → g = f.raiseAt lv e mask 0xFF detail →
      d.fault level e unit mask detail = { g with fl := { g.fl with queued := g.fl.queued ++ [{ r with level := lv }] } })) ∧
  (∀ (d f : Dev) (r : Recovery) (a b n : Nat), f = { d with fl := { d.fl with escalations := (d.t :: d.fl.escalations).take 16 } } →
    n = (f.fl.escalations.filter (fun t => decide (d.t < t + 10000000000))).length →
    (n < 3 → d.escalate r a b = (f.raiseAt b 8 (if 3 ≤ b then 0xFF else r.mask) r.event (a * 2 ^ 24 + b * 2 ^ 16 + n), b)) ∧
    (3 ≤ n → d.escalate r a b = ((f.raiseAt 4 8 0xFF r.event (a * 2 ^ 24 + 4 * 2 ^ 16 + n)).raise 127, 4)) ∧
    (d.printingLike = false ∨ r.mask = 0 → (d.thirdL1 r = true ↔
      2 ≤ (d.fl.recentL1.filter (fun x => x.1 == r.event * 256 + r.unit && decide (d.t < x.2.1 + 1000000000))).length)) ∧
    (d.printingLike = true → r.mask ≠ 0 → (d.thirdL1 r = true ↔
      2 ≤ (d.fl.recentL1.filter (fun x => x.1 == r.event * 256 + r.unit && x.2.2 == d.g 0x2015 (Dev.lowestBar r.mask + 1))).length))) ∧
  (∀ (d e : Dev) (r x : Recovery), x = { r with id := d.fl.nextId, start := d.t, level := d.levelTaken r.level r.event r.unit } →
    e = (({ d with fl := { d.fl with nextId := d.fl.nextId + 1, lastL2 := if 2 ≤ x.level then some d.t else d.fl.lastL2 } } : Dev).bump 0x2208 (3 + x.level)) →
    (∀ f : Dev, x.level = 1 → f = { e with fl := { e.fl with
        running := e.fl.running ++ [x]
        recentL1 := (r.event * 256 + r.unit, d.t, d.g 0x2015 (Dev.lowestBar r.mask + 1)) :: e.fl.recentL1 } } →
      (r.event = 10 → d.startRec r = f.closeAll) ∧
      (r.event ≠ 10 → r.event ≠ 66 → d.startRec r =
        if d.printingLike = true then (d.barList.filter (fun n => bit r.mask n)).foldl (fun d n => d.recoverUndo n (d.uRevoke n)) f else f)) ∧
    (x.level = 2 → blockKind r.event ≠ 25 → d.startRec r = { e with fl := { e.fl with running := e.fl.running ++ [x] } }) ∧
    (∀ new n, x.level = 2 → blockKind r.event = 25 → d.spareEngine = some new → d.barOf r.unit = some n → d.printingLike = false → d.startRec r =
      ({ e with fl := { e.fl with running := e.fl.running ++ [x] } } : Dev).onBar n (fun b => { b with engineSwap := some { old := r.unit, new_ := new } })) ∧
    (x.level = 3 → d.startRec r = e.beginL3 x) ∧ (4 ≤ x.level → d.startRec r = e.takeL4 x) ∧
    (r.level = 2 → blockKind r.event = 25 → (d.spareEngine = none ∨ d.barOf r.unit = none) → x.level = 4) ∧
    (r.level = 3 → d.role = 1 → d.synced = true → x.level = 4) ∧
    (r.level ≠ 2 → (r.level ≠ 3 ∨ d.role ≠ 1 ∨ d.synced = false) → x.level = r.level)) ∧
  (∀ (d h : Dev) (r : Recovery),
    ((d.role ≠ 1 ∨ d.synced = false) → d.printingLike = false → d.takeL4 r = (d.raise 13 0 r.event r.detail).enterFault) ∧
    (d.role = 1 → d.synced = true → h = (d.sendHandover 1).put 0x2C08 1 4 →
      d.takeL4 r = (({ h with twin := { h.twin with hbOutStopped := true } } : Dev).beginL3 r).relinquish)) ∧
  (∀ (s : State) (r : Recovery) (d : Dev), s.dev.fl.running.find? (fun x => x.id == r.id) = some r →
    d = { s.begin_ with fl := { s.dev.fl with running := s.dev.fl.running.filter (fun x => x.id != r.id) } } →
    (r.level < 3 → r.event ≠ 50 → (r.level ≠ 2 ∨ blockKind r.event ≠ 25) → Makes (.recoveryComplete r.id) s d.startQueued) ∧
    (r.level = 2 → blockKind r.event = 25 → Makes (.recoveryComplete r.id) s (d.engineReady r.unit).startQueued) ∧
    ((3 ≤ r.level ∨ r.event = 50) → Makes (.recoveryComplete r.id) s s.begin_) ∧
    (4 ≤ r.level → Makes (.recoveryTimeout r.id) s s.begin_) ∧
    (∀ f lv, r.level < 4 → d.escalate r r.level (min (r.level + 1) 4) = (f, lv) →
      Makes (.recoveryTimeout r.id) s (f.startRec { r with level := lv }))) ∧
  (∀ (s : State) (id : Nat), (∀ r ∈ s.dev.fl.running, r.id ≠ id) → Makes (.recoveryComplete id) s s.begin_ ∧ Makes (.recoveryTimeout id) s s.begin_) ∧
  (∀ (s : State) (us : Nat), s.dev.sys.st = .restarting →
    (s.dev.saves = [] → s.dev.fl.queued = [] → s.dev.sys.preparing = false → us = (s.now - s.dev.sys.restartStart) / 1000 % 4294967296 →
      Runs .warmRestartComplete s (fun t => t.dev.g 0x2208 9 = us ∧ t.dev.pins.faultN = false ∧ t.dev.twin.hbOutStopped = false ∧
        t.dev.fl.running = [] ∧ t.dev.sys.st = s.dev.sys.before)) ∧
    (s.dev.saves ≠ [] → s.dev.saveSlot = none → s.dev.printingLike = true → Makes .warmRestartComplete s
      (s.begin_.takeL4 { id := 0, event := 14, unit := 0xFF, mask := 0, detail := 0, level := 4, start := s.now })) ∧
    ((∀ k, k < 2 → (s.dev.saves.find? k).isSome = true → bit s.dev.fl.savePoison k = true) → s.dev.saveSlot = none)) ∧
  (∀ s : State, s.dev.sys.st ≠ .restarting → Makes .warmRestartComplete s s.begin_) ∧
  (∀ (s : State) (sess : Nat), s.Serves sess 0x2000 →
    ((s.dev.sys.st = .ready ∨ s.dev.sys.st = .armed ∨ s.dev.sys.st = .printing ∨ s.dev.sys.st = .stopping) →
      s.dev.fl.running.any (fun r => decide (3 ≤ r.level)) = false → (s.dev.role ≠ 1 ∨ s.dev.synced = false) →
      Runs (.warmRestart sess) s (fun t => t.dev.sys.st = .restarting ∧ t.dev.sys.before = s.dev.sys.st ∧ t.dev.pins.faultN = true ∧
        t.dev.jobs.paused = true ∧ .answer sess 0 ∈ t.dev.out)) ∧
    ((s.dev.sys.st = .standby ∨ s.dev.sys.st = .waking ∨ s.dev.sys.st = .fault ∨ s.dev.sys.st = .restarting ∨
        s.dev.fl.running.any (fun r => decide (3 ≤ r.level)) = true) → Answers (.warmRestart sess) s sess 0x08000022 s.begin_)) ∧
  (∀ (s : State) (k : Nat) (d : Dev), k = s.dev.fl.saveNext % 2 → d = ({ s.begin_ with
      saves := s.dev.saves.set k s.begin_.warmSet
      free := s.dev.free + 1
      fl := { s.dev.fl with saveSlots := s.dev.fl.saveSlots.set k s.now, saveNext := 1 - k
                            savePoison := setBit s.dev.fl.savePoison k false } } : Dev) →
    (s.dev.sys.st = .printing → Makes (.stateSave false) s ((d.bumpBy 0x2B00 4 (Config.freeValue s.dev.free % 2)).put 0x220A 2 s.begin_.serviceNow)) ∧
    (s.dev.sys.st = .printing → Reports (.stateSave true) s s.begin_ (evLevel 11) 11 0 0xFF 0) ∧
    (∀ b, s.dev.sys.st ≠ .printing → Makes (.stateSave b) s s.begin_)) ∧
  (∀ (s : State) (sess : Nat), s.Serves sess 0x2204 →
    (s.dev.pins.faultN = false → Answers (.alertClear sess 1) s sess 0 { s.begin_ with pins := { s.dev.pins with alertN := false } }) ∧
    (s.dev.pins.faultN = true → Answers (.alertClear sess 1) s sess 0x08000022 s.begin_) ∧
    AnswersReporting (.testEvent sess 1) s sess 0 s.begin_ (evLevel 126) 126 0 0xFF 0 ∧
    Answers (.alertClear sess 0) s sess 0 s.begin_ ∧ Answers (.testEvent sess 0) s sess 0 s.begin_ ∧
    (∀ v, 1 < v → Answers (.alertClear sess v) s sess 0x06090030 s.begin_ ∧ Answers (.testEvent sess v) s sess 0x06090030 s.begin_))

/-- The tally. A minute of service counts in its temperature band, and in printing, and the equivalent hours follow, each band's minutes by its
factor (R448). Each hour the projection is made, each term from the use since a year ago, or since the start, as years left at that rate, and its
counters and history are saved; before 720 hours of history no term is projected; a projection below its limit is EV_LIFE once, until it has
passed the limit by a year (R441, R449). A lane's day of eye readings gives its mean over thirty days' history, the slope of seven or more and the days to the floor; a lane
that first reaches its floor or the days of 0x2E00:02 is EV_LANE_EYE_TREND, and a planned swap is asked for (R444). The first rows of an array are repaired
from the pool, as a recorded substitution, and a fifth is its block's fault, an engine's where the array is its (R442); a retired engine is
marked for its self-test, another is refused (R443). -/
def Obligations.TallyCountsWearAndRepairs : Prop :=
  (∀ (s : State) (temp : Int) (d : Dev), d = (s.begin_.bump 0x2E01 (band temp)).bump 0x2E01 8 →
    (s.dev.phase ≠ .printing → Makes (.wearMinute temp) s (d.put 0x2E01 0x0A (d.equivalent / 600 % 4294967296))) ∧
    (s.dev.phase = .printing → ∀ e, e = d.bump 0x2E01 9 → Makes (.wearMinute temp) s (e.put 0x2E01 0x0A (e.equivalent / 600 % 4294967296)))) ∧
  (∀ (temp : Int) (d : Dev),
    band temp = (if temp < 450 then 1 else if temp < 650 then 2 else if temp < 850 then 3 else if temp < 950 then 4 else if temp < 1050 then 5
      else if temp < 1250 then 6 else 7) ∧
    d.equivalent = d.cnt 0x2E01 1 * 58 + d.cnt 0x2E01 2 * 261 + d.cnt 0x2E01 3 * 1000 + d.cnt 0x2E01 4 * 1851 + d.cnt 0x2E01 5 * 3319 +
      (d.cnt 0x2E01 6 + d.cnt 0x2E01 7) * 9762) ∧
  (∀ s : State, Makes .tallyHour s (s.begin_.project.saveNvs s.begin_.project.tallyRecords)) ∧
  (∀ (s : State) (hours : List (Nat × Nat × Nat × Nat)) (d : Dev), s.dev.tally.hours.length < 719 → s.dev.g 0x2E00 5 < 65525 →
    hours = (s.dev.equivalent, s.dev.cnt 0x2E0C 2, s.dev.g 0x2E05 10, s.dev.g 0x2E05 11) :: s.dev.tally.hours →
    d = (((((s.begin_.put 0x2E0D 1 65535).put 0x2E0D 2 0).put 0x2E0D 3 65535).put 0x2E0D 4 65535).put 0x2E0D 5 65535) → ∀ e : Dev,
    e = { d with tally := { s.dev.tally with hours := hours, lifeRaised := false } } → Makes .tallyHour s (e.saveNvs e.tallyRecords)) ∧
  (∀ (s : State) (n used term : Nat) (y : Rat), n = s.dev.tally.hours.length + 1 → 720 ≤ n → n ≤ 8760 → used = s.dev.equivalent → used ≠ 0 →
    y = (25899480000 - (used : Rat)) / ((used : Rat) / n) / 8760 → term = min 65534 (y * 10).floor.toNat →
    s.dev.cnt 0x2E0C 2 = 0 → s.dev.g 0x2E05 10 = 0 → s.dev.g 0x2E05 11 = 0 → Runs .tallyHour s (fun t =>
      t.dev.g 0x2E0D 1 = term ∧ t.dev.g 0x2E0D 2 = 1 ∧ t.dev.g 0x2E0D 3 = term ∧ t.dev.g 0x2E0D 4 = 65535 ∧ t.dev.g 0x2E0D 5 = 65535 ∧
      (term < s.dev.g 0x2E00 5 → t.dev.tally.lifeRaised = true ∧ (s.dev.tally.lifeRaised = false → s.dev.fl.top < t.dev.fl.top ∧
          ∃ r ∈ t.dev.fl.log.take 4, r.says (evLevel 114) 114 0 0xFF 0 ∧ r.time = s.begin_.serviceNow)) ∧
      (s.dev.g 0x2E00 5 + 10 < term → t.dev.tally.lifeRaised = false) ∧
      (s.dev.g 0x2E00 5 ≤ term → term ≤ s.dev.g 0x2E00 5 + 10 → t.dev.tally.lifeRaised = s.dev.tally.lifeRaised))) ∧
  (∀ (s : State) (k sum n mean : Nat), 1 ≤ k → k ≤ 80 → s.dev.tally.day.get (0, 0) k = (sum, n) → n ≠ 0 → mean = (2 * sum + n) / (2 * n) →
    Runs .eyeDaily s (fun t => t.dev.g 0x2E08 k = mean ∧ t.dev.tally.means.find? k = some ((mean :: s.dev.tally.means.get [] k).take 30))) ∧
  (∀ s : State, Makes .eyeDaily s (((List.range 80).map (fun i => i + 1)).foldl (fun d i => d.eyeDay i) s.begin_)) ∧
  (∀ (d e : Dev) (k sum n mean floor_ days : Nat) (ms : List Nat) (sl : Rat), d.tally.day.get (0, 0) k = (sum, n) →
    (n = 0 → d.eyeDay k = d) ∧
    (n ≠ 0 → mean = (2 * sum + n) / (2 * n) → ms = (mean :: d.tally.means.get [] k).take 30 → floor_ = d.g 0x2E00 1 →
      sl = (if 7 ≤ ms.length then slope ms else 0) →
      days = (if mean < floor_ then 0 else if sl < 0 then min 65534 ((((mean - floor_ : Nat) : Rat) / (-sl)).floor.toNat) else 65535) →
      e = (((({ d with tally := { d.tally with means := d.tally.means.set k ms, day := d.tally.day.erase k } } : Dev).put 0x2E08 k mean).put 0x2E09 k
        (ofSigned 16 (clampInt (roundRat (sl * 30)) (-32768) 32767))).put 0x2E0A k days) →
      (floor_ ≤ mean → (d.g 0x2E00 2 < days ∨ days = 65535) →
        d.eyeDay k = { e with tally := { e.tally with crossed := e.tally.crossed.filter (fun x => x != k) } }) ∧
      ((mean < floor_ ∨ (days ≤ e.g 0x2E00 2 ∧ days ≠ 65535)) →
        (d.tally.crossed.contains k = true → d.eyeDay k = e) ∧
        (∀ f, d.tally.crossed.contains k = false → f = ({ e with tally := { e.tally with crossed := k :: e.tally.crossed } } : Dev).raise 57 →
          (k ≤ 72 → (d.lane k).carries = true → d.g 0x2E00 3 = 1 → d.eyeDay k = f.askSwap k) ∧
          ((72 < k ∨ (d.lane k).carries = false ∨ d.g 0x2E00 3 ≠ 1) → d.eyeDay k = f))))) ∧
  (∀ (s : State) (array : Nat) (bar : Option (Fin 8)) (k : Nat), array < 64 → k = s.dev.tally.repairs.get 0 array →
    (k < 4 → Makes (.sramRepair array bar) s (((({ s.begin_ with tally := { s.dev.tally with
      repairs := s.dev.tally.repairs.set array (k + 1) } } : Dev).minorL2 115).consume 12).substitute 12 |>.saveNv
        { kind := 13, obj := array, val := k + 1 })) ∧
    (4 ≤ k → Makes (.sramRepair array none) s (s.begin_.fault 4 19 array 0 0)) ∧
    (∀ n : Fin 8, 4 ≤ k → Makes (.sramRepair array (some n)) s
      (s.begin_.fault (if s.dev.spareEngine.isSome = true then 2 else 4) 25 (s.dev.bar n).engine (2 ^ (n : Nat)) 0))) ∧
  (∀ (s : State) (sess engine : Nat), s.Serves sess 0x2E0F →
    (engine ≤ 8 → s.dev.g 0x2E07 (engine + 1) = 2 → Answers (.engineRequalify sess engine) s sess 0 { s.begin_ with tally := { s.dev.tally with
      marked := if s.dev.tally.marked.contains engine then s.dev.tally.marked else s.dev.tally.marked ++ [engine] } }) ∧
    ((8 < engine ∨ s.dev.g 0x2E07 (engine + 1) ≠ 2) → Answers (.engineRequalify sess engine) s sess 0x06090030 s.begin_))

/-- Temperatures and NV. Samples are taken sensor by sensor, and the sampling rate follows (R425): a plausible sample becomes its reading with its trim, a sensor out of
service gives none, one without a conversion is counted, and at the third in a row it has failed: a free spare takes its role and limits with its
guard, and without one, or for TS00 and TS01, the fault is L4 (R425, R427, R437). A supervisory reading at a limit is EV_TEMP_WARN once, until it is 2.0 °C inside it (R426). A first reading of 125 °C at
a die sensor stops the device: THERM_N and FAULT_N low, and Fault (R428); a window's end gives a sensor's rate from the two means, at its limit
with EV_TEMP_RISE once (R426). The oldest staged record is written once the window is open (R431, R432); a record whose write verifies is stored in
place of the older one, ends a class 3 operation with result 0 and EV_CONFIG_SAVED where it is the last, is EV_CONFIG_SAVED where it is a saved
configuration, and releases THERM_N where it is the shutdown record (R429, R446, R465); one that fails is written again in a spare's sector, and with no spare left
is lost with EV_NV_ERROR, a class 3 operation ending with a free result (R447; logs 2 and 68). Whether a write needed an erase is free (log 68). -/
def Obligations.TemperaturesAreSampledAndRecordsStored : Prop :=
  (∀ (s : State) (readings : List (Option Int)) (k : Nat) (raw r : Int), k < 32 → readings[k]? = some (some raw) → s.dev.sensorOn k = true →
    r = raw + s.dev.therm.trims.get 0 k → -550 ≤ r → r ≤ 1500 → (∀ p, s.dev.therm.prev.find? k = some p → (r - p).natAbs ≤ 50) →
    Runs (.sensorSample readings) s (fun t => t.dev.g 0x2608 (k + 1) = ofSigned 16 r ∧ t.dev.therm.prev.find? k = some r ∧
      t.dev.therm.bad.find? k = some 0 ∧ t.dev.therm.sums.find? k = some ((s.dev.therm.sums.get (0, 0) k).1 + r, (s.dev.therm.sums.get (0, 0) k).2 + 1))) ∧
  (∀ (s : State) (readings : List (Option Int)) (d : Dev),
    d = ((List.range 32).foldl (fun d k => match readings[k]? with
      | some r => d.oneSample k r
      | none => d) s.begin_).sampleRate →
    (∀ k, k < 2 → d.sensorOn k = true → 1250 ≤ d.reading k → 1250 ≤ s.dev.reading k) → Makes (.sensorSample readings) s d) ∧
  (∀ (s : State) (readings : List (Option Int)) (k : Nat) (raw r : Int), k < 2 → readings[k]? = some (some raw) → s.dev.sensorOn k = true →
    r = raw + s.dev.therm.trims.get 0 k → 1250 ≤ r → r ≤ 1500 → s.dev.reading k < 1250 →
    (∀ p, s.dev.therm.prev.find? k = some p → (r - p).natAbs ≤ 50) → s.dev.sys.st ≠ .boot → s.dev.sys.st ≠ .off →
    Runs (.sensorSample readings) s (fun t => t.dev.pins.thermN = true ∧ t.dev.pins.faultN = true ∧ t.dev.therm.shutdown = true ∧
      t.dev.sys.st = .fault ∧ t.dev.fl.running = [])) ∧
  (∀ (d e : Dev) (k : Nat),
    (d.sensorOn k = false → ∀ raw, d.oneSample k raw = d) ∧
    (d.sensorOn k = true → e = { d with therm := { d.therm with bad := d.therm.bad.set k (d.therm.bad.get 0 k + 1) } } →
      (d.therm.bad.get 0 k ≠ 2 → d.oneSample k none = e) ∧ (d.therm.bad.get 0 k = 2 → d.oneSample k none = e.sensorFailed k)) ∧
    (∀ raw r hi lo : Int, d.sensorOn k = true → 2 ≤ k → r = raw + d.therm.trims.get 0 k → -550 ≤ r → r ≤ 1500 →
      (∀ p, d.therm.prev.find? k = some p → (r - p).natAbs ≤ 50) → hi = d.highLimit k → lo = d.lowLimit k →
      e = ({ d with therm := { d.therm with
        bad := d.therm.bad.set k 0
        prev := d.therm.prev.set k r
        sums := d.therm.sums.set k ((d.therm.sums.get (0, 0) k).1 + r, (d.therm.sums.get (0, 0) k).2 + 1) } } : Dev).put 0x2608 (k + 1) (ofSigned 16 r) →
      (lo + 20 ≤ r → r ≤ hi - 20 → d.oneSample k (some raw) = { e with therm := { e.therm with
        warnHigh := d.therm.warnHigh.filter (fun y => y != k), warnLow := d.therm.warnLow.filter (fun y => y != k) } }) ∧
      (∀ f : Dev, hi ≤ r → lo + 20 ≤ r → d.therm.warnHigh.contains k = false →
        f = ({ e with therm := { e.therm with warnHigh := k :: d.therm.warnHigh } } : Dev).raise 103 0 0xFF k →
        d.oneSample k (some raw) = { f with therm := { f.therm with warnLow := d.therm.warnLow.filter (fun y => y != k) } }) ∧
      (hi ≤ r → lo + 20 ≤ r → d.therm.warnHigh.contains k = true →
        d.oneSample k (some raw) = { e with therm := { e.therm with warnLow := d.therm.warnLow.filter (fun y => y != k) } }) ∧
      (r ≤ lo → r ≤ hi - 20 → d.therm.warnLow.contains k = false → d.oneSample k (some raw) = ({ e with therm := { e.therm with
        warnHigh := d.therm.warnHigh.filter (fun y => y != k), warnLow := k :: d.therm.warnLow } } : Dev).raise 103 0 0xFF k))) ∧
  (∀ (d e : Dev) (k role own sp guard : Nat), role = d.roleOf k → e = d.put 0x260A (k + 1) (0x80 + bits (d.g 0x260A (k + 1)) 5 0) →
    own = (if role ≤ 10 then 28 else if role ≤ 19 then 29 else if role ≤ 23 then 30 else 31) →
    ((k < 2 ∨ ∀ x ∈ [28, 29, 30, 31], bits (d.g 0x260A (x + 1)) 7 6 ≠ 1) → d.sensorFailed k = e.fault 4 106 k 0 0) ∧
    (2 ≤ k → sp ∈ [28, 29, 30, 31] → bits (d.g 0x260A (sp + 1)) 7 6 = 1 →
      (sp = own ∨ (bits (d.g 0x260A (own + 1)) 7 6 ≠ 1 ∧ ∀ x ∈ [28, 29, 30, 31], x < sp → bits (d.g 0x260A (x + 1)) 7 6 ≠ 1)) →
      guard = (if sp = own then 20 else 50) → ∀ f g : Dev, f = e.put 0x260A (sp + 1) role →
      g = ((({ f with therm := { f.therm with
        guarded := f.therm.guarded.set sp (f.therm.guarded.get 0 k + guard)
        bad := f.therm.bad.erase sp
        prev := f.therm.prev.erase sp } } : Dev).minorL2 106).consume 13).substitute 13 →
      d.sensorFailed k = g.saveNv g.sensorRec)) ∧
  (∀ (d : Dev) (near calm : Prop),
    (near ↔ ∃ k, k < 32 ∧ d.sensorOn k = true ∧ (d.highLimit k - 101 < d.reading k ∨ (2 ≤ k ∧ d.reading k < d.lowLimit k + 101))) →
    (calm ↔ ∀ k, k < 32 → d.sensorOn k = true → d.reading k ≤ d.highLimit k - 121 ∧ (2 ≤ k → d.lowLimit k + 121 ≤ d.reading k)) →
    (near → d.sampleRate = ({ d with therm := { d.therm with calmSince := none } } : Dev).put 0x260B 0 16000) ∧
    (¬ near → ¬ calm → d.sampleRate = { d with therm := { d.therm with calmSince := none } }) ∧
    (calm → d.therm.calmSince = none → d.sampleRate = { d with therm := { d.therm with calmSince := some d.t } }) ∧
    (∀ t, calm → d.therm.calmSince = some t → d.sampleRate = if t + 1000000000 ≤ d.t then d.put 0x260B 0 1000 else d)) ∧
  (∀ (s : State) (k n : Nat) (sum : Int) (mean p : Rat), k < 32 → s.dev.sensorOn k = true → s.dev.therm.sums.get (0, 0) k = (sum, n) → n ≠ 0 →
    mean = (sum : Rat) / (n : Rat) → s.dev.therm.means.find? k = some p → Runs .rateWindow s (fun t =>
      t.dev.g 0x2609 (k + 1) = ofSigned 16 (clampInt (roundRat ((mean - p) * 10)) (-32768) 32767) ∧ t.dev.therm.means.find? k = some mean ∧
      t.dev.therm.sums.find? k = some (0, 0) ∧ (2 ≤ k → (k ∈ t.dev.therm.warnRise ↔
        (s.dev.g 0x2602 (s.dev.roleOf k + 1) : Rat) ≤ (mean - p) * 10)))) ∧
  (∀ s : State,
    (∀ r rest, s.dev.nv.staged = r :: rest → s.dev.nvOpen = true → s.dev.nv.writing = [] →
      Makes .nvStagedWrite s { s.begin_ with nv := { s.dev.nv with staged := rest, writing := [r] } }) ∧
    ((s.dev.nv.staged = [] ∨ s.dev.nvOpen = false ∨ s.dev.nv.writing ≠ []) → Makes .nvStagedWrite s s.begin_)) ∧
  (∀ (s : State) (r : NvRec) (tail rest : List NvRec) (e d w : Dev), s.dev.nv.writing = r :: tail →
    e = (if Config.freeValue s.dev.free % 2 = 1 then ({ s.begin_ with free := s.dev.free + 1 } : Dev).eraseSector
      else { s.begin_ with free := s.dev.free + 1 }) → rest = e.nv.writing.drop 1 →
    d = { e with nv := { e.nv with
      writing := rest
      stored := e.nv.stored.filter (fun x => !(x.kind == r.kind && x.obj == r.obj)) ++ [r] } } →
    w = (if r.kind = 5 then { d with pins := { d.pins with thermN := false }, therm := { d.therm with recordUnwritten := false } } else d) →
    ((∀ o, s.dev.com.op = some o → o.cls ≠ 3) →
      (r.kind ≠ 10 → r.kind ≠ 11 → Makes (.nvWriteComplete true) s w) ∧
      ((r.kind = 10 ∨ r.kind = 11) → Reports (.nvWriteComplete true) s w (evLevel 124) 124 0 0xFF 0) ∧
      Makes (.nvWriteComplete false) s (e.nvFailed r rest)) ∧
    (∀ o, s.dev.com.op = some o → o.cls = 3 →
      (rest = [] → Makes (.nvWriteComplete true) s ((w.raise 124).endOp 0)) ∧ (rest ≠ [] → Makes (.nvWriteComplete true) s w) ∧
      (e.nv.spares ≠ 0 → Makes (.nvWriteComplete false) s (e.nvFailed r rest)) ∧
      (e.nv.spares = 0 → ∀ f : Dev, f = e.nvFailed r rest → Makes (.nvWriteComplete false) s
        (({ f with nv := { f.nv with writing := [] }, free := f.free + 1 } : Dev).endOp (Config.freeValue f.free % 4294967296)))) ∧
    (e.nv.spares = 0 → r.kind ≠ 8 → (∀ x ∈ e.nv.stored, x.kind ≠ 8) →
      e.nvFailed r rest = ({ e with nv := { e.nv with writing := rest } } : Dev).raise 15) ∧
    (e.nv.spares ≠ 0 → e.nvFailed r rest = ({ e with nv := { e.nv with writing := r :: rest } } : Dev).retireSector e.nextSector)) ∧
  (∀ (s : State) (ok : Bool), s.dev.nv.writing = [] → Makes (.nvWriteComplete ok) s s.begin_)

/-- Calibration. A unit that is due runs; one that is running runs again after it, and one that must wait is deferred, a head lane until its gap
and any other counted and reported (R434, R435); a unit that is not due, is disabled, or whose item a command calibrates, does nothing. A run that ends is counted and sets its reference; a plausible
result is stored with EV_CAL_DONE, a lane's with its equaliser code unless that is fixed, and an implausible one leaves the old value, with EV_CAL_FAIL (R225, R433). A commanded
calibration is a long operation of class 2 over the units of its items, whose results are held until the last and applied together, a printing
lane's code at its gap (R436). After 10 s in Standby, or on command, a sensor is trimmed to the
mean of the die sensors within 3.0 °C, and one beyond has failed (R437). A subchannel retrains where the bars are rendered ahead, else the step waits, with
EV_DRAM_RETRAIN (R351). -/
def Obligations.CalibrationRunsAreAppliedOrRefused : Prop :=
  (∀ (s : State) (item unit k : Nat) (due : List Nat) (d : Dev), k = item * 256 + unit →
    due = (if s.dev.cal.due.contains k then s.dev.cal.due else s.dev.cal.due ++ [k]) → d = { s.begin_ with cal := { s.dev.cal with due := due } } →
    (1 ≤ item → item ≤ 5 → bit (s.dev.g 0x2700 2) (item - 1) = true →
      s.dev.calUnit item unit = true → bit s.dev.cal.mask (item - 1) = false →
      (s.dev.cal.due.contains k = true ∨ ∃ r, s.dev.cal.refs.find? k = some r ∧ s.dev.g 0x2700 1 ≠ 0 ∧
        (s.dev.g 0x2700 1 : Int) < (s.dev.calReading item unit - r).natAbs) →
      (s.dev.cal.running.contains k = true → Makes (.calibrationRun item unit) s d) ∧
      (s.dev.cal.running.contains k = false → s.dev.calWaits item unit = false → Makes (.calibrationRun item unit) s { s.begin_ with cal := { s.dev.cal with
        running := s.dev.cal.running ++ [k], due := s.dev.cal.due.filter (fun x => x != k) } }) ∧
      (s.dev.cal.running.contains k = false → s.dev.calWaits item unit = true →
        (item = 1 → unit < 72 → Makes (.calibrationRun item unit) s d) ∧
        (item ≠ 1 ∨ 72 ≤ unit → Reports (.calibrationRun item unit) s ((d.bump 0x270C item).put 0x270A item 3) (evLevel 110) 110 0 0xFF 0))) ∧
    ((item < 1 ∨ 5 < item ∨ bit (s.dev.g 0x2700 2) (item - 1) = false ∨ s.dev.calUnit item unit = false ∨ bit s.dev.cal.mask (item - 1) = true ∨
        (s.dev.cal.due.contains k = false ∧ (s.dev.g 0x2700 1 = 0 ∨ ∀ r, s.dev.cal.refs.find? k = some r →
          ((s.dev.calReading item unit - r).natAbs : Int) ≤ s.dev.g 0x2700 1))) → Makes (.calibrationRun item unit) s s.begin_)) ∧
  (∀ (s : State) (item unit k : Nat) (value : Int) (p : Bool) (d : Dev), k = item * 256 + unit → d = s.begin_.calCount item unit →
    (s.dev.cal.left.contains k = true → Makes (.calibrationDone item unit p value) s
      ({ d with cal := { d.cal with left := d.cal.left.filter (fun x => x != k), results := d.cal.results ++ [(k, p, value)] } } : Dev).calFinish) ∧
    (s.dev.cal.left.contains k = false → s.dev.cal.running.contains k = true →
      (s.dev.cal.due.contains k = false → Makes (.calibrationDone item unit p value) s (d.calApply item unit p value)) ∧
      (s.dev.cal.due.contains k = true → Makes (.calibrationDone item unit p value) s ((d.calApply item unit p value).calStart item unit))) ∧
    (s.dev.cal.left.contains k = false → s.dev.cal.running.contains k = false → Makes (.calibrationDone item unit p value) s s.begin_)) ∧
  (∀ (d e : Dev) (item unit k code : Nat) (value : Int) (commanded : Bool), k = item * 256 + unit →
    code = (value % 16).toNat → e = { d with cal := { d.cal with values := d.cal.values.set k value } } → ∀ fin : Dev → Dev,
    (∀ x, fin x = ((x.saveNv { kind := 2, obj := k, val := ofSigned 32 value }).put 0x270A item 1).raise 108) →
    (d.calCount item unit = (({ d with cal := { d.cal with
      running := d.cal.running.filter (fun x => x != k)
      refs := d.cal.refs.set k (d.calReading item unit) } } : Dev).bump 0x2708 item).put 0x2709 item d.serviceNow) ∧
    (d.calApply item unit false value commanded = ((d.put 0x270A item 2).bump 0x270B item).raise 109) ∧
    (item ≠ 1 → d.calApply item unit true value commanded = fin e) ∧
    (item = 1 → (commanded = false ∨ d.calWaits 1 unit = false) →
      (d.g 0x3403 (unit + 1) < 16 → d.calApply item unit true value commanded = fin e) ∧
      (16 ≤ d.g 0x3403 (unit + 1) → d.calApply item unit true value commanded = fin ((e.put 0x3412 (unit + 1) code).onLane (unit + 1)
        (fun l => { l with eqHeld := l.eqHeld.set (d.g 0x3411 (unit + 1)) code })))) ∧
    (item = 1 → commanded = true → d.calWaits 1 unit = true → d.calApply item unit true value commanded =
      fin { e with cal := { e.cal with codes := e.cal.codes ++ [(unit + 1, code)] } })) ∧
  (∀ (d e : Dev) (u : Nat) (v : Int), e = { d with cal := { d.cal with mask := 0, results := [] } } →
    (d.cal.left ≠ [] → d.calFinish = d) ∧
    (d.cal.left = [] → (∀ r ∈ d.cal.results, r.1 / 256 ≠ 6) → d.calFinish =
      (d.cal.results.foldl (fun d r => d.calApply (r.1 / 256) (r.1 % 256) r.2.1 r.2.2 true) e).endOp 0) ∧
    (d.cal.left = [] → u < 32 → d.cal.results = [(6 * 256 + u, true, v)] → d.calFinish =
      (({ e with therm := { e.therm with trims := e.therm.trims.set u v } } : Dev).calApply 6 u true v).endOp 0) ∧
    (d.cal.left = [] → u < 32 → d.cal.results = [(6 * 256 + u, false, v)] → d.calFinish = ((e.calApply 6 u false 0).sensorFailed u).endOp 0)) ∧
  (∀ (s : State) (sess mask : Nat) (left : List Nat) (d : Dev), s.Serves sess 0x2702 →
    ((mask = 0 ∨ 64 ≤ mask) → Answers (.calibrationCommand sess mask) s sess 0x06090030 s.begin_) ∧
    (1 ≤ mask → mask < 64 → left = ((List.range 6).filter (fun i => bit mask i)).flatMap (fun i =>
        ((List.range 80).filter (s.dev.calUnit (i + 1))).map (fun u => (i + 1) * 256 + u)) →
      d = { s.begin_.beginOp 2 sess mask with cal := { s.dev.cal with mask := mask, left := left, results := [] } } →
      (left ≠ [] → Answers (.calibrationCommand sess mask) s sess 0x0F000010 d) ∧
      (left = [] → Answers (.calibrationCommand sess mask) s sess 0x0F000010
        (({ d with cal := { d.cal with mask := 0, results := [] } } : Dev).endOp 0)))) ∧
  (∀ (s : State) (means : List Int) (k : Nat) (die : List Int) (base : Rat) (trim : Int), s.dev.sys.st = .standby → s.dev.sys.standbySince + 10000000000 ≤ s.now →
    bit (s.dev.g 0x2700 2) 5 = true → s.dev.cal.left = [] → 2 ≤ k → k < 32 → k < means.length → s.dev.sensorOn k = true →
    die = ([0, 1].filter s.dev.sensorOn).map (fun i => means.getD i 0) → base = ((die.sum : Int) : Rat) / (max die.length 1 : Nat) →
    trim = roundRat (base - (means.getD k 0 : Int)) →
    (trim.natAbs ≤ 30 → Runs (.sensorTrim means) s (fun t => t.dev.therm.trims.find? k = some trim ∧ t.dev.cal.values.find? (6 * 256 + k) = some trim)) ∧
    (30 < trim.natAbs → Runs (.sensorTrim means) s (fun t => bits (t.dev.g 0x260A (k + 1)) 7 6 = 2 ∧
      t.dev.therm.trims.find? k = s.dev.therm.trims.find? k))) ∧
  (∀ (s : State) (means : List Int),
    (s.dev.cal.left.any (fun k => k / 256 == 6) = true → Makes (.sensorTrim means) s (s.begin_.trimSensors means)) ∧
    (s.dev.cal.left.any (fun k => k / 256 == 6) = false →
      (s.dev.sys.st ≠ .standby ∨ s.now < s.dev.sys.standbySince + 10000000000 ∨ bit (s.dev.g 0x2700 2) 5 = false) → Makes (.sensorTrim means) s s.begin_)) ∧
  (∀ (s : State) (sub : Fin 4) (p : Bool) (k : Nat) (d : Dev), k = 512 + (sub : Nat) →
    (s.dev.fast = false → Makes (.dramRetrain sub p) s s.begin_) ∧
    (s.dev.fast = true → s.dev.renderedAhead = false → Reports (.dramRetrain sub p) s ((s.begin_.bump 0x270C 2).put 0x270A 2 3)
      (evLevel 90) 90 0 0xFF 0) ∧
    (s.dev.fast = true → s.dev.renderedAhead = true → d = (if s.dev.cal.left.contains k = true ∨ s.dev.cal.running.contains k = true
        then s.begin_.calDone 2 sub p 0 else (s.begin_.calCount 2 sub).calApply 2 sub p 0) →
      Reports (.dramRetrain sub p) s d (evLevel 90) 90 0 0xFF 0)) ∧
  (∀ s : State, s.dev.renderedAhead = true ↔
    (s.dev.printingLike = false ∨ ∀ n, n < s.dev.nbars → (s.dev.bar n).ctx = none ∨ (s.dev.bar n).next + 16 ≤ (s.dev.bar n).rend))

/-- Resets and boot. Right after PORST_N is released the block is in Boot with FAULT_N low, the counter at 0, no session, context or
operation, every lane off, the UV latch set and its one log record that of the change to Boot (R454, R467). PORST_N low, or the loss of
the AON supply, takes everything but NV, the flash slots and the tally, and the device is off (R467, R484); its release enters Boot. A
system reset and REBOOT restart every domain, re-form the DRAM, keep the log, the ledger, ALERT_N, THERM_N and the staged records, and name
their cause (R97, R421, R429, R432, R467); REBOOT is refused in Restarting and while the die is hot (R430). Boot ends in Standby with its slot verified and running, FAULT_N released and the boot
reported, an invalid slot marked and a fallback named, and goes on to wake where 0x2100:02 asks for it; without a slot only recovery service stays (R463 to R465). A saved configuration, a calibration and
a repeat number are restored from their records (R83, R433, R465), and the store is divided by Table 4.9 (R114; a fraction of a MiB is dropped, the model's choice, log 102). -/
def Obligations.ResetsKeepWhatTheyKeepAndBootEndsInStandby : Prop :=
  (State.reset.now = 0 ∧ State.reset.dev.sys.st = .boot ∧ State.reset.dev.sys.verified = false ∧ State.reset.dev.pins.faultN = true ∧
    State.reset.dev.com.sess = [] ∧ State.reset.dev.com.op = none ∧ State.reset.dev.ctxs = [] ∧ State.reset.dev.light.uvLatched = true ∧
    State.reset.dev.g 0x2101 3 = 1 ∧ State.reset.dev.role = 0 ∧ (∀ k, k < 80 → State.reset.dev.laneState (k + 1) = 0) ∧
    State.reset.dev.fl.log = [{ num := 4, level := 0x20, mask := 0, unit := 0xFF, time := 0, rep := 0, detail := 1 }]) ∧
  (∀ (s : State) (i : Instr), (i = .porstAssert ∨ i = .aonSupplyLoss) → ∃ t, exec i s = .next t ∧ t.now = 0 ∧ t.dram = [] ∧ t.pending = s.pending ∧
    t.dev.sys.st = .off ∧ t.dev.pins.porst = true ∧ t.dev.dict = {} ∧ t.dev.com = {} ∧ t.dev.fl = {} ∧ t.dev.ctxs = [] ∧ t.dev.bars = [] ∧
    t.dev.nv.staged = [] ∧ t.dev.nv.stored = s.dev.nv.stored ∧ t.dev.sys.slots = s.dev.sys.slots ∧ t.dev.tally = s.dev.tally ∧ t.dev.out = []) ∧
  (∀ s : State, s.dev.sys.st = .off → ∃ t, exec .porstRelease s = .next t ∧ t.now = 0 ∧ t.dram = s.dram ∧ t.pending = s.pending ∧
    t.dev.bare = (({ s.begin_ with pins := { s.dev.pins with porst := false }, sys := { s.dev.sys with st := .boot } } : Dev).put 0x2101 3 1).bare ∧
    Logged s t (evLevel 4) 4 0 0xFF 1) ∧
  (∀ s : State, s.dev.sys.st ≠ .off → ∃ t, exec .porstRelease s = .next t ∧ Still s t ∧ t.dev.body = s.dev.body) ∧
  (∀ (s : State) (i : Instr) (cause : Nat), (i = .systemReset ∧ s.dev.sys.st ≠ .off ∧ cause = 2) ∨
      (∃ sess, i = .reboot sess ∧ s.dev.rebootCode sess = some 0 ∧ cause = 3) →
    ∃ t, exec i s = .next t ∧ t.now = s.now ∧ t.dram = [] ∧ t.pending = s.pending ∧ t.dev.sys.st = .boot ∧ t.dev.sys.verified = false ∧
      t.dev.g 0x2101 3 = cause ∧ t.dev.g 0x2101 4 = (s.dev.g 0x2101 4 + 1) % 4294967296 ∧ t.dev.com.sess = [] ∧ t.dev.com.op = none ∧
      t.dev.ctxs = [] ∧ t.dev.pins.faultN = true ∧ t.dev.pins.alertN = s.dev.pins.alertN ∧ t.dev.pins.thermN = s.dev.pins.thermN ∧
      (∀ r ∈ s.dev.fl.log.take 1022, r ∈ t.dev.fl.log) ∧ t.dev.nv.staged = s.dev.nv.staged ∧
      (∀ x ∈ s.dev.print.reps, x.opened = true → { x with open_ := 0 } ∈ t.dev.print.reps) ∧
      t.dev.nv.stored = s.dev.nv.stored ∧ t.dev.sys.slots = s.dev.sys.slots ∧ t.dev.tally = s.dev.tally ∧
      (∀ sess, i = .reboot sess → .answer sess 0 ∈ t.dev.out)) ∧
  (∀ s : State, s.dev.sys.st = .off → ∃ t, exec .systemReset s = .next t ∧ Still s t ∧ t.dev.body = s.dev.body) ∧
  (∀ (s : State) (sess : Nat) (x : Sess), s.dev.session? sess = some x → x.port = 0 → s.dev.served x 0x2000 = true →
    (s.dev.com.op = none → (s.dev.sys.st = .restarting ∨ s.dev.tooHot = true) → Answers (.reboot sess) s sess 0x08000022 s.begin_) ∧
    (s.dev.com.op ≠ none → Answers (.reboot sess) s sess 0x0F000010 s.begin_) ∧
    (s.dev.com.op = none → s.dev.sys.st ≠ .restarting → s.dev.tooHot = false → s.dev.rebootCode sess = some 0)) ∧
  (∀ (s : State) (sess : Nat), s.dev.session? sess = none → Makes (.reboot sess) s s.begin_) ∧
  (∀ s : State, s.dev.tooHot = true ↔ s.dev.therm.shutdown = true ∧ (1000 < s.dev.reading 0 ∨ 1000 < s.dev.reading 1)) ∧
  (∀ s : State, Makes .sysrstRelease s { s.begin_ with pins := { s.dev.pins with sysrst := false } }) ∧
  (∀ (s : State) (fallback : Bool) (invalid pass : List Nat) (d : Dev), s.dev.sys.st = .boot → s.dev.pins.porst = false → s.dev.pins.sysrst = false →
    s.dev.sys.verified = false → d = (invalid.filter (fun k => decide (k < 2))).foldl Dev.slotInvalid s.begin_ →
    Makes (.bootComplete none fallback invalid pass) s { d with sys := { d.sys with bootFailed := true } } ∧
    (∀ k, Runs (.bootComplete (some k) fallback invalid pass) s (fun t => t.dev.sys.verified = true ∧ t.dev.sys.bootFailed = false ∧
      t.dev.sys.slot = k % 2 ∧ t.dev.sys.standbySince = s.now ∧ t.dev.pins.faultN = false ∧
      (t.dev.sys.st = .standby ∨ t.dev.sys.st = .waking) ∧ (∃ x, t.dev.sys.slots.find? (k % 2) = some x ∧ x.1 = 3) ∧
      (∃ r ∈ t.dev.fl.log.take 8, r.says (evLevel 0) 0 0 0xFF (k % 2)) ∧ (fallback = true → ∃ r ∈ t.dev.fl.log.take 8, r.says (evLevel 1) 1 0 0xFF 0))) ∧
    (∀ k, s.dev.nv.stored = [] → s.dev.nv.staged = [] → s.dev.tally.marked = [] → Runs (.bootComplete (some k) fallback [] pass) s (fun t =>
      t.dev.g 0x2101 2 = k % 2 ∧ t.dev.sys.st = if s.dev.g 0x2100 2 = 1 then .waking else .standby))) ∧
  (∀ (d : Dev) (k : Nat) (x : Nat × Nat × Bytes), x = d.sys.slots.get (0, 0, []) k →
    d.slotInvalid k = ({ d with sys := { d.sys with slots := d.sys.slots.set k (2, x.2) } } : Dev).raise 2) ∧
  (∀ (d : Dev) (r : NvRec),
    (r.kind = 11 → d.restoreRec r = r.vals.foldl (fun d x => d.put (x.1 / 256) (x.1 % 256) x.2) d) ∧
    (r.kind = 9 → (d.restoreRec r).print.nextNum = r.val + 65536) ∧
    (r.kind = 2 → r.obj / 256 = 6 → (d.restoreRec r).therm.trims.find? (r.obj % 256) = some (toSigned 32 r.val)) ∧
    (r.kind = 5 → d.restoreRec r = d.put 0x260D 0 (leNat r.data))) ∧
  (∀ (d e : Dev) (c : Nat), c = d.usable_ - 1073741824 → e = d.divideStore →
    e.g 0x2A00 6 = c / 1048576 ∧ e.g 0x2A00 1 = c * 40 / 100 / 1048576 ∧ e.g 0x2A00 2 = c * 45 / 100 / 1048576 ∧
    e.g 0x2A00 3 = c * 4 / 100 / 1048576 ∧ e.g 0x2A00 4 = c * 6 / 100 / 1048576 ∧ e.g 0x2A00 5 = c * 5 / 100 / 1048576) ∧
  (∀ (s : State) (slot : Option Nat) (fallback : Bool) (invalid pass : List Nat),
    (s.dev.sys.st ≠ .boot ∨ s.dev.pins.porst = true ∨ s.dev.pins.sysrst = true ∨ s.dev.sys.verified = true) →
    Makes (.bootComplete slot fallback invalid pass) s s.begin_)

/-- Power states and supervision. In Standby, WAKE or an accepted wake frame starts the fast domains, the position at 0, every encoder count and
trim cleared, every lane present in TRAIN, and a strobe fault still latched (R183, R189, R219, R455, R468); the wake ends in Ready, the first one with every page cleared, or goes back to
Standby with its step's event (R468). SLEEP, PREPARE, RELAX and CLEAR_FAULT act in the states that Table 20.5 names and are refused elsewhere (R230,
R430, R457, R469). SAVE_CONFIG, in any state from Standby but Fault, and an image download are long operations, the first staged where the NV window is closed; an image for the running slot is refused, and
its end is reported (R432, R465, R466); an operation that overruns is rolled back and ends with 0x0F00_0011 (R59). A lost reference clock, a supply out of range, a
service port and a PCIe link that come and go are reported, once each (R224, R423, R452, R472, R484); a configuration request before Ready is retried, then served with the
vendor and device identities (R106, R470), and before the PCIe domain runs nothing answers. -/
def Obligations.PowerCommandsMoveTheDeviceBetweenStates : Prop :=
  (∀ (s : State) (i : Instr) (sess : Nat) (m : Dgram), s.dev.sys.st = .standby →
    ((i = .wake sess ∧ s.Serves sess 0x2000) ∨ (i = .wakeFrame m ∧ s.dev.admits m ∧ m.typ = 0x42 ∧ s.dev.g 0x2100 1 = 1 ∧ viaCode m.via < 2 ∧
      m.session = 0 ∧ m.len = 0)) →
    Runs i s (fun t => t.dev.sys.st = .waking ∧ t.dev.sys.wakeStart = s.now ∧ t.dev.reck = {} ∧ t.dev.encs = [] ∧ t.dev.cmps = [] ∧
      (∀ c, c < 4 → t.dev.g (0x3008 + c) 1 = 0 ∧ t.dev.g (0x3008 + c) 9 = 0) ∧ (∀ j, 1 ≤ j → j ≤ 5 → t.dev.g 0x3208 j = 0) ∧
      (∀ n, n < s.dev.nbars → (t.dev.bar n).strobeFault = (s.dev.bar n).strobeFault ∧ (t.dev.bar n).engine = (s.dev.bar n).engine) ∧
      (∀ k, 1 ≤ k → k ≤ 80 → s.dev.lanePresent k = true → t.dev.laneState k = 1) ∧ (i = .wake sess → .answer sess 0 ∈ t.dev.out))) ∧
  (∀ (s : State) (m : Dgram), s.dev.admits m → m.typ = 0x42 →
    ((s.dev.sys.st ≠ .standby ∨ s.dev.g 0x2100 1 ≠ 1 ∨ 2 ≤ viaCode m.via) → Makes (.wakeFrame m) s s.begin_) ∧
    (s.dev.sys.st = .standby → s.dev.g 0x2100 1 = 1 → viaCode m.via < 2 → (m.session ≠ 0 ∨ m.len ≠ 0) →
      Makes (.wakeFrame m) s (s.begin_.dropMsg (viaCode m.via)))) ∧
  (∀ (s : State) (sess : Nat), s.Serves sess 0x2000 →
    (s.dev.sys.st ≠ .standby → Answers (.wake sess) s sess 0x08000022 s.begin_) ∧
    ((s.dev.sys.st = .ready ∨ s.dev.sys.st = .armed) → Runs (.sleep sess) s (fun t => t.dev.sys.st = .standby ∧ t.dev.sys.standbySince = s.now ∧
      (∀ k, 1 ≤ k → k ≤ 80 → t.dev.laneState k = 0) ∧ t.dev.jobs.link = false ∧ t.dev.twin.linked = false ∧ t.dev.fl.running = [] ∧
      .answer sess 0 ∈ t.dev.out)) ∧
    (s.dev.sys.st ≠ .ready → s.dev.sys.st ≠ .armed → Answers (.sleep sess) s sess 0x08000022 s.begin_) ∧
    (s.dev.sys.st = .ready → Runs (.prepare sess) s (fun t => .answer sess 0 ∈ t.dev.out ∧
      (s.dev.headLanes.all s.dev.laneSettled = true → t.dev.sys.st = .armed ∧ t.dev.sys.preparing = false) ∧
      (s.dev.headLanes.all s.dev.laneSettled = false → t.dev.sys.st = .ready ∧ t.dev.sys.preparing = true))) ∧
    (s.dev.sys.st ≠ .ready → Answers (.prepare sess) s sess 0x08000022 s.begin_) ∧
    (s.dev.sys.st = .armed → Runs (.relax sess) s (fun t => t.dev.sys.st = .ready ∧ .answer sess 0 ∈ t.dev.out ∧
      ∀ k ∈ s.dev.headLanes, (s.dev.laneState k = 4 ∨ s.dev.laneState k = 3) → t.dev.laneState k = 2)) ∧
    (s.dev.sys.st ≠ .armed → Answers (.relax sess) s sess 0x08000022 s.begin_) ∧
    (s.dev.sys.st = .fault → s.dev.tooHot = false → Runs (.clearFault sess) s (fun t => t.dev.sys.st = .standby ∧ t.dev.pins.faultN = false ∧
      t.dev.therm.shutdown = false ∧ .answer sess 0 ∈ t.dev.out)) ∧
    ((s.dev.sys.st ≠ .fault ∨ s.dev.tooHot = true) → Answers (.clearFault sess) s sess 0x08000022 s.begin_) ∧
    (∀ (d : Dev) (r : NvRec), s.dev.sys.st ∈ [DState.standby, .waking, .ready, .armed, .printing, .stopping] → d = s.begin_.beginOp 3 sess 0 →
      r = { kind := 11, obj := 0, vals := s.dev.configVals } →
      (s.dev.nvOpen = true → s.dev.nv.staged = [] → Answers (.saveConfig sess) s sess 0x0F000010
        { d with nv := { s.dev.nv with writing := s.dev.nv.writing ++ [r] } }) ∧
      ((s.dev.nvOpen = false ∨ s.dev.nv.staged ≠ []) → Answers (.saveConfig sess) s sess 0x0F000010 ((d.stageNv r).endOp 0x0F000070))) ∧
    (s.dev.sys.st ∉ [DState.standby, .waking, .ready, .armed, .printing, .stopping] → Answers (.saveConfig sess) s sess 0x08000022 s.begin_)) ∧
  (∀ s : State, s.dev.sys.st = .waking → ∃ t, exec .wakeComplete s = .next t ∧ t.now = s.now ∧ t.pending = s.pending ∧
    t.dram = (if s.dev.sys.firstWake then [] else s.dram) ∧ t.dev.sys.st = .ready ∧ t.dev.sys.firstWake = false ∧ t.dev.mem.formed = true ∧
    t.dev.g 0x2101 5 = (s.now - s.dev.sys.wakeStart) / 1000 % 4294967296 ∧ t.dev.twin.hbOutStopped = false ∧
    t.dev.jobs.paused = !(s.dev.jobs.link && s.dev.sys.pcieRef) ∧ Logged s t (evLevel 3) 3 0 0xFF 0) ∧
  (∀ s : State, s.dev.sys.st ≠ .waking → Makes .wakeComplete s s.begin_ ∧ ∀ k x y, Makes (.wakeTimeout k x y) s s.begin_) ∧
  (∀ (s : State) (k detail e : Nat) (expired : Bool), s.dev.sys.st = .waking →
    ((k < 1 ∨ 6 < k) → Makes (.wakeTimeout k expired detail) s s.begin_) ∧
    ((k = 1 ∧ e = (if detail = 0 then 120 else 47) ∨ (k, e) ∈ [(2, 48), (3, 83), (4, 91), (5, 91), (6, 16)]) →
      Runs (.wakeTimeout k expired detail) s (fun t => t.dev.sys.st = .standby ∧ t.dev.jobs.link = false ∧
        (∀ l, 1 ≤ l → l ≤ 80 → t.dev.laneState l = 0) ∧ ∃ r ∈ t.dev.fl.log.take 4, r.says (evLevel e) e 0 0xFF
          ((if expired then 2147483648 else 0) + if k = 3 then detail % 2147483648 else 0)))) ∧
  (∀ (s : State) (sess slot : Nat) (image : Bytes), s.Serves sess 0x2108 →
    (1 < slot → Answers (.firmwareUpdate sess slot image) s sess 0x06090011 s.begin_) ∧
    (slot ≤ 1 → (image = [] ∨ 16777216 < image.length) → Answers (.firmwareUpdate sess slot image) s sess 0x06070010 s.begin_) ∧
    (slot ≤ 1 → image ≠ [] → image.length ≤ 16777216 → domOk 0x2108 image = false →
      Answers (.firmwareUpdate sess slot image) s sess 0x06090030 s.begin_) ∧
    (slot ≤ 1 → image ≠ [] → image.length ≤ 16777216 → domOk 0x2108 image = true → s.dev.sys.verified = true → s.dev.sys.slot = slot →
      Answers (.firmwareUpdate sess slot image) s sess 0x0F000079 s.begin_) ∧
    (∀ q, slot ≤ 1 → (s.dev.sys.verified = false ∨ s.dev.sys.slot ≠ slot) → image ≠ [] → image.length ≤ 16777216 → domOk 0x2108 image = true →
      q = ((s.dev.sys.slots.get (0, 0, []) (1 - slot)).2.1 + 1) % 4294967296 → Answers (.firmwareUpdate sess slot image) s sess 0x0F000010
        (({ s.begin_ with sys := { s.dev.sys with
          slots := s.dev.sys.slots.set slot (0, q, image.take 4 ++ leBytes 4 q ++ image.drop 8) } } : Dev).beginOp 4 sess slot))) ∧
  (∀ (s : State) (o : Op) (verified flashOk : Bool) (res : Nat), s.dev.com.op = some o →
    (o.cls = 4 → res = (if flashOk = false then 0x0F00007B else if verified = false then 0x0F00007A else 0) →
      ∀ slots, slots = s.dev.sys.slots.set o.arg (if res = 0 then 1 else 2, (s.dev.sys.slots.get (0, 0, []) o.arg).2) →
      Reports (.firmwareUpdateComplete verified flashOk) s (({ s.begin_ with sys := { s.dev.sys with slots := slots } } : Dev).endOp res)
        (evLevel 123) 123 0 0xFF 0) ∧
    (o.cls ≠ 4 → Makes (.firmwareUpdateComplete verified flashOk) s s.begin_) ∧
    Reports .opTimeout s ((s.begin_.rollback 0x0F000011).endOp 0x0F000011) (evLevel 5) 5 0 o.cls (o.id % 4294967296)) ∧
  (∀ s : State, s.dev.com.op = none → Makes .opTimeout s s.begin_ ∧ ∀ a b, Makes (.firmwareUpdateComplete a b) s s.begin_) ∧
  (∀ s : State,
    (s.dev.sys.internalOsc = false → s.dev.sys.st ≠ .off → Makes (.refclkLoss .sys) s
      (({ s.begin_ with sys := { s.dev.sys with internalOsc := true } } : Dev).fault 4 117 0xFF 0 0)) ∧
    ((s.dev.sys.internalOsc = true ∨ s.dev.sys.st = .off) → Makes (.refclkLoss .sys) s s.begin_) ∧
    (s.dev.fast = true → Makes (.refclkLoss .lane) s (({ s.begin_ with sys := { s.dev.sys with laneRef := false } } : Dev).lanesOff.fault 3 48 0xFF 0 0)) ∧
    (s.dev.fast = true → s.dev.sys.pcieRef = true → Reports (.refclkLoss .pcie) s
      { s.begin_ with sys := { s.dev.sys with pcieRef := false }, jobs := { s.dev.jobs with paused := true } } (evLevel 118) 118 0 0xFF 0) ∧
    (s.dev.fast = false → Makes (.refclkLoss .lane) s s.begin_ ∧ Makes (.refclkLoss .pcie) s s.begin_) ∧
    (s.dev.sys.pcieRef = false → Makes (.refclkLoss .pcie) s s.begin_)) ∧
  (∀ s : State,
    (∀ k, s.dev.sys.st ≠ .off → Reports (.supplyOutOfRange k) s { s.begin_ with pins := { s.dev.pins with
        badSupplies := if s.dev.pins.badSupplies.contains k then s.dev.pins.badSupplies else s.dev.pins.badSupplies ++ [k] } }
      (evLevel 119) 119 0 0xFF (k % 4294967296)) ∧
    (∀ k, s.dev.sys.st = .off → Makes (.supplyOutOfRange k) s s.begin_) ∧
    (∀ b, s.dev.sys.st ≠ .off → s.dev.pins.usbVbus ≠ b → Reports (.usbVbusChange b) s { s.begin_ with pins := { s.dev.pins with usbVbus := b } }
      (evLevel 121) 121 0 0xFF 0) ∧
    (∀ b, s.dev.sys.st ≠ .off → s.dev.pins.usbVbus = b → Makes (.usbVbusChange b) s s.begin_) ∧
    (∀ b, s.dev.sys.st = .off → Makes (.usbVbusChange b) s { s.begin_ with pins := { s.dev.pins with usbVbus := b } })) ∧
  (∀ s : State,
    (s.dev.jobs.link = true → Reports .pcieLinkDown s { s.begin_ with jobs := { s.dev.jobs with link := false, paused := true } } (evLevel 17) 17 0 0xFF 0) ∧
    (s.dev.jobs.link = false → Makes .pcieLinkDown s s.begin_) ∧
    (∀ clk, (s.dev.fast = true ∨ s.dev.sys.st = .waking) → Makes (.pcieLinkUp clk) s { s.begin_ with
      jobs := { s.dev.jobs with link := true, paused := !clk || s.dev.sys.st == .restarting || s.dev.sys.st == .waking }
      sys := { s.dev.sys with pcieRef := clk } }) ∧
    (∀ clk, s.dev.fast = false → s.dev.sys.st ≠ .waking → Makes (.pcieLinkUp clk) s s.begin_) ∧
    (∀ a, s.dev.fast = true → Makes (.pcieConfigRequest (.config a)) s
      (({ s.begin_ with jobs := { s.dev.jobs with enumerated := true, bar0 := a.getD s.dev.jobs.bar0 } } : Dev).emit (.config false))) ∧
    (s.dev.fast = true → Makes (.pcieConfigRequest .readId) s (s.begin_.emit (.pcie (leBytes 2 0x57E4 ++ leBytes 2 s.dev.product)))) ∧
    (∀ r, (r = .readId ∨ ∃ a, r = .config a) →
      ((s.dev.sys.st = .waking ∨ (s.dev.sys.st = .fault ∧ s.dev.fast = false)) → Makes (.pcieConfigRequest r) s (s.begin_.emit (.config true))) ∧
      ((s.dev.sys.st = .off ∨ s.dev.sys.st = .boot ∨ s.dev.sys.st = .standby) → Makes (.pcieConfigRequest r) s s.begin_)))
end

