-- ==== Sys2Proof/Laws/Table.lean ====
section
/-! SUPPORT. The laws of the sparse tables: reading after a write, maps and filters over a table, and that writes keep the keys
in strictly rising order. -/
namespace Sys2Proof

variable {α : Type}

/-- A key reads what was written to it, and every other key reads as before. -/
theorem Table.find?_set (t : Table α) (k j : Nat) (v : α) :
    (t.set k v).find? j = if k = j then some v else t.find? j := by
  induction t with
  | nil => simp [Table.set, Table.find?]
  | cons e r ih =>
    obtain ⟨i, w⟩ := e
    simp only [Table.set]
    split
    · subst i; by_cases h : k = j <;> simp [Table.find?, h]
    · split
      · by_cases h : k = j <;> simp [Table.find?, h]
      · by_cases h : i = j
        · subst h; simp [Table.find?]; intro h'; exact absurd h'.symm ‹_›
        · simp [Table.find?, h, ih]

/-- The value at a written key, and the values elsewhere. -/
theorem Table.get_set (t : Table α) (d : α) (k j : Nat) (v : α) :
    (t.set k v).get d j = if k = j then v else t.get d j := by
  induction t with
  | nil => simp [Table.set, Table.get]
  | cons e r ih =>
    obtain ⟨i, w⟩ := e
    simp only [Table.set]
    split
    · subst i; by_cases h : k = j <;> simp [Table.get, h]
    · split
      · by_cases h : k = j <;> simp [Table.get, h]
      · by_cases h : i = j
        · subst h; simp [Table.get]; intro h'; exact absurd h'.symm ‹_›
        · simp [Table.get, h, ih]

@[simp] theorem Table.find?_set_self (t : Table α) (k : Nat) (v : α) : (t.set k v).find? k = some v := by simp [Table.find?_set]

@[simp] theorem Table.get_set_self (t : Table α) (d : α) (k : Nat) (v : α) : (t.set k v).get d k = v := by simp [Table.get_set]

theorem Table.find?_set_ne (t : Table α) {k j : Nat} (v : α) (h : k ≠ j) : (t.set k v).find? j = t.find? j := by
  simp [Table.find?_set, h]

theorem Table.get_set_ne (t : Table α) (d : α) {k j : Nat} (v : α) (h : k ≠ j) : (t.set k v).get d j = t.get d j := by
  simp [Table.get_set, h]

/-- The default of a table's reader is what its entry would hold. -/
theorem Table.get_eq_find? (t : Table α) (d : α) (k : Nat) : t.get d k = (t.find? k).getD d := by
  induction t with
  | nil => rfl
  | cons e r ih => obtain ⟨i, w⟩ := e; by_cases h : i = k <;> simp [Table.get, Table.find?, h, ih]

/-- Erasing a key leaves every other key. -/
theorem Table.get_erase_ne (t : Table α) (d : α) {k j : Nat} (h : k ≠ j) : (t.erase k).get d j = t.get d j := by
  induction t with
  | nil => rfl
  | cons e r ih =>
    obtain ⟨i, w⟩ := e
    by_cases hk : i = k
    · subst hk; simp [Table.erase, Table.get, h]
    · by_cases hj : i = j
      · subst hj; simp [Table.erase, Table.get, hk]
      · simp [Table.erase, Table.get, hk, hj, ih]

@[simp] theorem Table.find?_mapVal (f : Nat → α → α) (t : Table α) (k : Nat) : (t.mapVal f).find? k = (t.find? k).map (f k) := by
  induction t with
  | nil => rfl
  | cons e r ih =>
    obtain ⟨i, w⟩ := e
    by_cases h : i = k
    · subst h; simp [Table.mapVal, Table.find?]
    · simp [Table.mapVal, Table.find?, h, ih]

@[simp] theorem Table.mapVal_mapVal (f g : Nat → α → α) (t : Table α) : (t.mapVal f).mapVal g = t.mapVal (fun k x => g k (f k x)) := by
  induction t with
  | nil => rfl
  | cons e r ih => obtain ⟨i, w⟩ := e; simp [Table.mapVal, ih]

theorem Table.mapVal_congr (f g : Nat → α → α) (t : Table α) (h : ∀ k x, f k x = g k x) : t.mapVal f = t.mapVal g := by
  induction t with
  | nil => rfl
  | cons e r ih => obtain ⟨i, w⟩ := e; simp [Table.mapVal, ih, h]

@[simp] theorem Table.keysWhere_mapVal (f : Nat → α → α) (p : Nat → α → Bool) (t : Table α) :
    Table.keysWhere p (t.mapVal f) = Table.keysWhere (fun k x => p k (f k x)) t := by
  induction t with
  | nil => rfl
  | cons e r ih => obtain ⟨i, w⟩ := e; simp [Table.mapVal, Table.keysWhere, ih]

/-- A write to a key that a filter drops does not show through the filter. -/
theorem Table.keep_set (p : Nat → α → Bool) (t : Table α) (k : Nat) (v : α) (h : ∀ x, p k x = false) :
    (t.set k v).keep p = t.keep p := by
  induction t with
  | nil => simp [Table.set, Table.keep, h]
  | cons e r ih =>
    obtain ⟨i, w⟩ := e
    by_cases hk : i = k
    · subst hk; simp [Table.set, Table.keep, h]
    · by_cases hl : k < i
      · simp [Table.set, Table.keep, h, hk, hl]
      · simp [Table.set, Table.keep, hk, hl, ih]

/-- What a table's first key says of the rest: rising keys stay rising behind a smaller first key. -/
theorem Table.wf_cons {j : Nat} {w : α} {r : Table α} (h : Table.wf ((j, w) :: r) = true) :
    Table.wf r = true ∧ ∀ e ∈ r, j < e.1 := by
  induction r generalizing j w with
  | nil => simp [Table.wf]
  | cons e r ih =>
    obtain ⟨k, v⟩ := e
    simp only [Table.wf, Bool.and_eq_true, decide_eq_true_eq] at h
    obtain ⟨hj, hr⟩ := h
    refine ⟨hr, fun e he => ?_⟩
    rcases List.mem_cons.mp he with rfl | he
    · exact hj
    · exact Nat.lt_trans hj ((ih hr).2 e he)

theorem Table.wf_cons_of {j : Nat} {w : α} {r : Table α} (h : Table.wf r = true) (hj : ∀ e ∈ r, j < e.1) :
    Table.wf ((j, w) :: r) = true := by
  cases r with
  | nil => rfl
  | cons e r =>
    obtain ⟨k, v⟩ := e
    simp only [Table.wf, Bool.and_eq_true, decide_eq_true_eq]
    exact ⟨hj (k, v) (by simp), h⟩

theorem Table.mem_set {t : Table α} {k : Nat} {v : α} {e : Nat × α} (h : e ∈ t.set k v) : e = (k, v) ∨ e ∈ t := by
  induction t with
  | nil => simp_all [Table.set]
  | cons f r ih =>
    obtain ⟨i, w⟩ := f
    simp only [Table.set] at h
    split at h
    · rcases List.mem_cons.mp h with h | h <;> simp [h]
    · split at h
      · rcases List.mem_cons.mp h with h | h
        · exact .inl h
        · exact .inr h
      · rcases List.mem_cons.mp h with h | h
        · simp [h]
        · rcases ih h with h | h <;> simp [h]

theorem Table.mem_erase {t : Table α} {k : Nat} {e : Nat × α} (h : e ∈ t.erase k) : e ∈ t := by
  induction t with
  | nil => simp_all [Table.erase]
  | cons f r ih =>
    obtain ⟨i, w⟩ := f
    simp only [Table.erase] at h
    split at h
    · simp [h]
    · rcases List.mem_cons.mp h with h | h
      · simp [h]
      · simp [ih h]

/-- A write keeps the keys strictly rising. -/
theorem Table.wf_set (t : Table α) (k : Nat) (v : α) (h : Table.wf t = true) : Table.wf (t.set k v) = true := by
  induction t with
  | nil => rfl
  | cons e r ih =>
    obtain ⟨i, w⟩ := e
    obtain ⟨hr, hi⟩ := Table.wf_cons h
    simp only [Table.set]
    split
    · subst i; exact Table.wf_cons_of hr hi
    · split
      · exact Table.wf_cons_of h (fun e he => by
          rcases List.mem_cons.mp he with rfl | he
          · assumption
          · exact Nat.lt_trans (by assumption) (hi e he))
      · exact Table.wf_cons_of (ih hr) (fun e he => by
          rcases Table.mem_set he with rfl | he
          · simp; omega
          · exact hi e he)

/-- Erasing keeps the keys strictly rising. -/
theorem Table.wf_erase (t : Table α) (k : Nat) (h : Table.wf t = true) : Table.wf (t.erase k) = true := by
  induction t with
  | nil => rfl
  | cons e r ih =>
    obtain ⟨i, w⟩ := e
    obtain ⟨hr, hi⟩ := Table.wf_cons h
    simp only [Table.erase]
    split
    · exact hr
    · exact Table.wf_cons_of (ih hr) (fun e he => hi e (Table.mem_erase he))

end Sys2Proof
end

