-- ==== Sys2Proof/Laws/Dram.lean ====
section
/-! SUPPORT. The DRAM list: a byte reads what was written to it, and every operation on pages keeps the canonical form. -/
namespace Sys2Proof.Machine

open Sys2Proof

/-- The canonical form in two parts. -/
theorem ramWf_iff (m : List Host.Cell) : ramWf m = true ↔ Table.wf m = true ∧ ∀ c ∈ m, c.2 ≠ 0 := by
  simp [ramWf, List.all_eq_true]

/-- Writing one byte keeps the canonical form. -/
theorem ramWrite_wf (m : List Host.Cell) (a : Nat) (b : Byte) (h : ramWf m = true) : ramWf (ramWrite m a b) = true := by
  rw [ramWf_iff] at h ⊢
  simp only [ramWrite]
  split
  · exact ⟨Table.wf_erase m a h.1, fun c hc => h.2 c (Table.mem_erase hc)⟩
  · rename_i hb
    refine ⟨Table.wf_set m a b h.1, fun c hc => ?_⟩
    rcases Table.mem_set hc with rfl | hc
    · simpa using hb
    · exact h.2 c hc

/-- Writing consecutive bytes keeps the canonical form. -/
theorem ramPut_wf (bs : Bytes) : ∀ (m : List Host.Cell) (a : Nat), ramWf m = true → ramWf (ramPut m a bs) = true := by
  induction bs with
  | nil => intro m a h; exact h
  | cons b bs ih => intro m a h; exact ih _ _ (ramWrite_wf m a b h)

/-- A key that no entry holds reads as the default. -/
theorem Table.get_of_lt {α : Type} (t : Table α) (d : α) (k : Nat) (h : ∀ e ∈ t, k < e.1) : Table.get t d k = d := by
  induction t with
  | nil => rfl
  | cons e r ih =>
    obtain ⟨i, w⟩ := e
    have hi : k < i := h (i, w) (by simp)
    simp only [Table.get]
    rw [if_neg (by omega)]
    exact ih (fun e he => h e (by simp [he]))

/-- In a table with rising keys, an erased key reads as the default. -/
theorem Table.get_erase_self {α : Type} (t : Table α) (d : α) (k : Nat) (h : Table.wf t = true) : Table.get (Table.erase t k) d k = d := by
  induction t with
  | nil => rfl
  | cons e r ih =>
    obtain ⟨i, w⟩ := e
    obtain ⟨hr, hi⟩ := Table.wf_cons h
    by_cases hk : i = k
    · subst hk; simp only [Table.erase, if_true]; exact Table.get_of_lt _ _ _ hi
    · simp only [Table.erase, if_neg hk, Table.get]; exact ih hr

/-- A byte reads what was written to it; every other byte reads as before. -/
theorem ramRead_write (m : List Host.Cell) (a c : Nat) (b : Byte) (h : ramWf m = true) :
    ramRead (ramWrite m a b) c = if c = a then b else ramRead m c := by
  have hw := ((ramWf_iff m).mp h).1
  simp only [ramRead, ramWrite]
  split
  · rename_i hb
    split
    · subst c; rw [Table.get_erase_self m 0 a hw]; simpa using (eq_of_beq hb).symm
    · rename_i hc; exact Table.get_erase_ne m 0 (fun e => hc e.symm)
  · rw [Table.get_set]; split <;> split <;> simp_all

/-- Bytes outside those written read as before. -/
theorem ramRead_put_ne (bs : Bytes) : ∀ (m : List Host.Cell) (a c : Nat), ramWf m = true → (c < a ∨ a + bs.length ≤ c) →
    ramRead (ramPut m a bs) c = ramRead m c := by
  induction bs with
  | nil => intro m a c _ _; rfl
  | cons b bs ih =>
    intro m a c h hc
    simp only [List.length_cons] at hc
    rw [ramPut, ih _ _ _ (ramWrite_wf m a b h) (by omega), ramRead_write m a c b h, if_neg (by omega)]

/-- What every page operation keeps: the canonical form, the clock and the queue. -/
structure Paged (s t : State) : Prop where
  wf : ramWf s.dram = true → ramWf t.dram = true
  now : t.now = s.now
  pending : t.pending = s.pending

theorem Paged.refl (s : State) : Paged s s := ⟨id, rfl, rfl⟩

theorem Paged.dev {s t : State} (h : Paged s t) (d : Dev) : Paged s { t with dev := d } := ⟨h.wf, h.now, h.pending⟩

theorem Paged.onDev {s t : State} (h : Paged s t) (f : Dev → Dev) : Paged s (t.onDev f) := ⟨h.wf, h.now, h.pending⟩

theorem Paged.still {s t u : State} (h : Paged s t) (g : Still t u) : Paged s u :=
  ⟨fun w => g.2.1 ▸ h.wf w, g.1.trans h.now, g.2.2.trans h.pending⟩

theorem Paged.ite {s x y : State} (c : Bool) (hx : Paged s x) (hy : Paged s y) : Paged s (if c = true then x else y) := by
  split <;> assumption

/-- Storing a page keeps them. -/
theorem Paged.store {s t : State} (h : Paged s t) (p : Nat) (x : Bytes) (b : Bool) : Paged s (t.storePage p x b) := by
  simp only [State.storePage]
  split
  · exact h.dev _
  · exact ⟨fun w => ramPut_wf _ _ _ (ramPut_wf _ _ _ (h.wf w)), h.now, h.pending⟩

/-- A remap moves its page into spare SRAM and leaves DRAM as it is. -/
theorem remap_still (s : State) (p : Nat) : Still s (s.remap p) := by
  simp only [State.remap]
  repeat' split
  all_goals exact ⟨rfl, rfl, rfl⟩

theorem Paged.remap {s t : State} (h : Paged s t) (p : Nat) : Paged s (t.remap p) := h.still (remap_still t p)

/-- A read of a page keeps them (R357). -/
theorem Paged.access {s t : State} (h : Paged s t) (p : Nat) (u : PageUser) (scrub : Bool) : Paged s (t.access p u scrub).1 := by
  simp only [State.access]
  generalize hv : State.readPage _ _ = v
  have h1 := Paged.ite (scrub && t.dev.mem.cleared.contains p)
    (h.onDev (fun d => { d with mem := { d.mem with cleared := d.mem.cleared.filter (fun x => x != p) } })) h
  generalize (if (scrub && t.dev.mem.cleared.contains p) = true then _ else t) = t1 at h1 hv ⊢
  split
  · exact h1
  · exact Paged.ite _ ((Paged.ite _ ((Paged.ite _ (((h1.onDev _).store _ _ _).onDev _) ((h1.onDev _).store _ _ _)).dev _ |>.onDev _)
      ((Paged.ite _ (((h1.onDev _).store _ _ _).onDev _) ((h1.onDev _).store _ _ _)).dev _)).remap _)
      ((Paged.ite _ (((h1.onDev _).store _ _ _).onDev _) ((h1.onDev _).store _ _ _)).dev _)
  · dsimp only
    refine Paged.onDev (Paged.ite _ ?_ ?_) _
    · exact ((h1.onDev _).store _ _ _).remap _
    · exact (h1.onDev _).store _ _ _
  · dsimp only
    refine Paged.onDev (Paged.ite _ ?_ ?_) _
    · exact (h1.onDev _).remap _
    · exact h1.onDev _

/-- A whole-page write keeps them. -/
theorem Paged.write {s t : State} (h : Paged s t) (p : Nat) (data : Bytes) : Paged s (t.writePage p data) := by
  simp only [State.writePage]
  exact Paged.ite _ ((h.store _ _ _).onDev _) (h.store _ _ _)

/-- A partial write keeps them. -/
theorem Paged.merge {s t : State} (h : Paged s t) (p off : Nat) (data : Bytes) : Paged s (t.mergePage p off data) := by
  simp only [State.mergePage]
  split
  · exact h.store _ _ _
  · exact (h.onDev _).store _ _ _
  · exact (h.onDev _).store _ _ _
  · exact h.store _ _ _

/-- Scrubbing a block keeps them. -/
theorem Paged.scrub {s t : State} (h : Paged s t) (b : Nat) (u : PageUser) : Paged s (t.scrubBlock b u) := by
  simp only [State.scrubBlock]
  generalize List.range t.dev.blockPages = l
  generalize t.dev.blockSize = k
  induction l generalizing t with
  | nil => exact h
  | cons i l ih => exact ih (h.access _ u true)

theorem lapEnd_still (s : State) : Still s s.lapEnd := by
  simp only [State.lapEnd]; split <;> exact ⟨rfl, rfl, rfl⟩

end Sys2Proof.Machine
end

