-- ==== Sys2Proof/Laws/State.lean ====
section
/-! SUPPORT. What each update of the device leaves of each field: one law per field and update, true by unfolding, so that no later
proof unfolds a record update. -/
namespace Sys2Proof.Machine

open Sys2Proof

@[simp] theorem Dev.put_product (d : Dev) (i j v : Nat) : (d.put i j v).product = d.product := rfl
@[simp] theorem Dev.put_t (d : Dev) (i j v : Nat) : (d.put i j v).t = d.t := rfl
@[simp] theorem Dev.put_out (d : Dev) (i j v : Nat) : (d.put i j v).out = d.out := rfl
@[simp] theorem Dev.put_free (d : Dev) (i j v : Nat) : (d.put i j v).free = d.free := rfl
@[simp] theorem Dev.put_pins (d : Dev) (i j v : Nat) : (d.put i j v).pins = d.pins := rfl
@[simp] theorem Dev.put_sys (d : Dev) (i j v : Nat) : (d.put i j v).sys = d.sys := rfl
@[simp] theorem Dev.put_com (d : Dev) (i j v : Nat) : (d.put i j v).com = d.com := rfl
@[simp] theorem Dev.put_fl (d : Dev) (i j v : Nat) : (d.put i j v).fl = d.fl := rfl
@[simp] theorem Dev.put_time (d : Dev) (i j v : Nat) : (d.put i j v).time = d.time := rfl
@[simp] theorem Dev.put_print (d : Dev) (i j v : Nat) : (d.put i j v).print = d.print := rfl
@[simp] theorem Dev.put_bars (d : Dev) (i j v : Nat) : (d.put i j v).bars = d.bars := rfl
@[simp] theorem Dev.put_ctxs (d : Dev) (i j v : Nat) : (d.put i j v).ctxs = d.ctxs := rfl
@[simp] theorem Dev.put_encs (d : Dev) (i j v : Nat) : (d.put i j v).encs = d.encs := rfl
@[simp] theorem Dev.put_cmps (d : Dev) (i j v : Nat) : (d.put i j v).cmps = d.cmps := rfl
@[simp] theorem Dev.put_reck (d : Dev) (i j v : Nat) : (d.put i j v).reck = d.reck := rfl
@[simp] theorem Dev.put_jobs (d : Dev) (i j v : Nat) : (d.put i j v).jobs = d.jobs := rfl
@[simp] theorem Dev.put_lanes (d : Dev) (i j v : Nat) : (d.put i j v).lanes = d.lanes := rfl
@[simp] theorem Dev.put_cams (d : Dev) (i j v : Nat) : (d.put i j v).cams = d.cams := rfl
@[simp] theorem Dev.put_keeper (d : Dev) (i j v : Nat) : (d.put i j v).keeper = d.keeper := rfl
@[simp] theorem Dev.put_light (d : Dev) (i j v : Nat) : (d.put i j v).light = d.light := rfl
@[simp] theorem Dev.put_mem (d : Dev) (i j v : Nat) : (d.put i j v).mem = d.mem := rfl
@[simp] theorem Dev.put_twin (d : Dev) (i j v : Nat) : (d.put i j v).twin = d.twin := rfl
@[simp] theorem Dev.put_therm (d : Dev) (i j v : Nat) : (d.put i j v).therm = d.therm := rfl
@[simp] theorem Dev.put_cal (d : Dev) (i j v : Nat) : (d.put i j v).cal = d.cal := rfl
@[simp] theorem Dev.put_nv (d : Dev) (i j v : Nat) : (d.put i j v).nv = d.nv := rfl
@[simp] theorem Dev.put_tally (d : Dev) (i j v : Nat) : (d.put i j v).tally = d.tally := rfl
@[simp] theorem Dev.put_saves (d : Dev) (i j v : Nat) : (d.put i j v).saves = d.saves := rfl

@[simp] theorem Dev.putDom_product (d : Dev) (i : Nat) (b : Bytes) : (d.putDom i b).product = d.product := rfl
@[simp] theorem Dev.putDom_t (d : Dev) (i : Nat) (b : Bytes) : (d.putDom i b).t = d.t := rfl
@[simp] theorem Dev.putDom_out (d : Dev) (i : Nat) (b : Bytes) : (d.putDom i b).out = d.out := rfl
@[simp] theorem Dev.putDom_free (d : Dev) (i : Nat) (b : Bytes) : (d.putDom i b).free = d.free := rfl
@[simp] theorem Dev.putDom_pins (d : Dev) (i : Nat) (b : Bytes) : (d.putDom i b).pins = d.pins := rfl
@[simp] theorem Dev.putDom_sys (d : Dev) (i : Nat) (b : Bytes) : (d.putDom i b).sys = d.sys := rfl
@[simp] theorem Dev.putDom_com (d : Dev) (i : Nat) (b : Bytes) : (d.putDom i b).com = d.com := rfl
@[simp] theorem Dev.putDom_fl (d : Dev) (i : Nat) (b : Bytes) : (d.putDom i b).fl = d.fl := rfl
@[simp] theorem Dev.putDom_time (d : Dev) (i : Nat) (b : Bytes) : (d.putDom i b).time = d.time := rfl
@[simp] theorem Dev.putDom_print (d : Dev) (i : Nat) (b : Bytes) : (d.putDom i b).print = d.print := rfl
@[simp] theorem Dev.putDom_bars (d : Dev) (i : Nat) (b : Bytes) : (d.putDom i b).bars = d.bars := rfl
@[simp] theorem Dev.putDom_ctxs (d : Dev) (i : Nat) (b : Bytes) : (d.putDom i b).ctxs = d.ctxs := rfl
@[simp] theorem Dev.putDom_encs (d : Dev) (i : Nat) (b : Bytes) : (d.putDom i b).encs = d.encs := rfl
@[simp] theorem Dev.putDom_cmps (d : Dev) (i : Nat) (b : Bytes) : (d.putDom i b).cmps = d.cmps := rfl
@[simp] theorem Dev.putDom_reck (d : Dev) (i : Nat) (b : Bytes) : (d.putDom i b).reck = d.reck := rfl
@[simp] theorem Dev.putDom_jobs (d : Dev) (i : Nat) (b : Bytes) : (d.putDom i b).jobs = d.jobs := rfl
@[simp] theorem Dev.putDom_lanes (d : Dev) (i : Nat) (b : Bytes) : (d.putDom i b).lanes = d.lanes := rfl
@[simp] theorem Dev.putDom_cams (d : Dev) (i : Nat) (b : Bytes) : (d.putDom i b).cams = d.cams := rfl
@[simp] theorem Dev.putDom_keeper (d : Dev) (i : Nat) (b : Bytes) : (d.putDom i b).keeper = d.keeper := rfl
@[simp] theorem Dev.putDom_light (d : Dev) (i : Nat) (b : Bytes) : (d.putDom i b).light = d.light := rfl
@[simp] theorem Dev.putDom_mem (d : Dev) (i : Nat) (b : Bytes) : (d.putDom i b).mem = d.mem := rfl
@[simp] theorem Dev.putDom_twin (d : Dev) (i : Nat) (b : Bytes) : (d.putDom i b).twin = d.twin := rfl
@[simp] theorem Dev.putDom_therm (d : Dev) (i : Nat) (b : Bytes) : (d.putDom i b).therm = d.therm := rfl
@[simp] theorem Dev.putDom_cal (d : Dev) (i : Nat) (b : Bytes) : (d.putDom i b).cal = d.cal := rfl
@[simp] theorem Dev.putDom_nv (d : Dev) (i : Nat) (b : Bytes) : (d.putDom i b).nv = d.nv := rfl
@[simp] theorem Dev.putDom_tally (d : Dev) (i : Nat) (b : Bytes) : (d.putDom i b).tally = d.tally := rfl
@[simp] theorem Dev.putDom_saves (d : Dev) (i : Nat) (b : Bytes) : (d.putDom i b).saves = d.saves := rfl

@[simp] theorem Dev.emit_product (d : Dev) (o : Out) : (d.emit o).product = d.product := rfl
@[simp] theorem Dev.emit_t (d : Dev) (o : Out) : (d.emit o).t = d.t := rfl
@[simp] theorem Dev.emit_free (d : Dev) (o : Out) : (d.emit o).free = d.free := rfl
@[simp] theorem Dev.emit_pins (d : Dev) (o : Out) : (d.emit o).pins = d.pins := rfl
@[simp] theorem Dev.emit_sys (d : Dev) (o : Out) : (d.emit o).sys = d.sys := rfl
@[simp] theorem Dev.emit_dict (d : Dev) (o : Out) : (d.emit o).dict = d.dict := rfl
@[simp] theorem Dev.emit_com (d : Dev) (o : Out) : (d.emit o).com = d.com := rfl
@[simp] theorem Dev.emit_fl (d : Dev) (o : Out) : (d.emit o).fl = d.fl := rfl
@[simp] theorem Dev.emit_time (d : Dev) (o : Out) : (d.emit o).time = d.time := rfl
@[simp] theorem Dev.emit_print (d : Dev) (o : Out) : (d.emit o).print = d.print := rfl
@[simp] theorem Dev.emit_bars (d : Dev) (o : Out) : (d.emit o).bars = d.bars := rfl
@[simp] theorem Dev.emit_ctxs (d : Dev) (o : Out) : (d.emit o).ctxs = d.ctxs := rfl
@[simp] theorem Dev.emit_encs (d : Dev) (o : Out) : (d.emit o).encs = d.encs := rfl
@[simp] theorem Dev.emit_cmps (d : Dev) (o : Out) : (d.emit o).cmps = d.cmps := rfl
@[simp] theorem Dev.emit_reck (d : Dev) (o : Out) : (d.emit o).reck = d.reck := rfl
@[simp] theorem Dev.emit_jobs (d : Dev) (o : Out) : (d.emit o).jobs = d.jobs := rfl
@[simp] theorem Dev.emit_lanes (d : Dev) (o : Out) : (d.emit o).lanes = d.lanes := rfl
@[simp] theorem Dev.emit_cams (d : Dev) (o : Out) : (d.emit o).cams = d.cams := rfl
@[simp] theorem Dev.emit_keeper (d : Dev) (o : Out) : (d.emit o).keeper = d.keeper := rfl
@[simp] theorem Dev.emit_light (d : Dev) (o : Out) : (d.emit o).light = d.light := rfl
@[simp] theorem Dev.emit_mem (d : Dev) (o : Out) : (d.emit o).mem = d.mem := rfl
@[simp] theorem Dev.emit_twin (d : Dev) (o : Out) : (d.emit o).twin = d.twin := rfl
@[simp] theorem Dev.emit_therm (d : Dev) (o : Out) : (d.emit o).therm = d.therm := rfl
@[simp] theorem Dev.emit_cal (d : Dev) (o : Out) : (d.emit o).cal = d.cal := rfl
@[simp] theorem Dev.emit_nv (d : Dev) (o : Out) : (d.emit o).nv = d.nv := rfl
@[simp] theorem Dev.emit_tally (d : Dev) (o : Out) : (d.emit o).tally = d.tally := rfl
@[simp] theorem Dev.emit_saves (d : Dev) (o : Out) : (d.emit o).saves = d.saves := rfl

@[simp] theorem Dev.emits_product (d : Dev) (os : List Out) : (d.emits os).product = d.product := rfl
@[simp] theorem Dev.emits_t (d : Dev) (os : List Out) : (d.emits os).t = d.t := rfl
@[simp] theorem Dev.emits_free (d : Dev) (os : List Out) : (d.emits os).free = d.free := rfl
@[simp] theorem Dev.emits_pins (d : Dev) (os : List Out) : (d.emits os).pins = d.pins := rfl
@[simp] theorem Dev.emits_sys (d : Dev) (os : List Out) : (d.emits os).sys = d.sys := rfl
@[simp] theorem Dev.emits_dict (d : Dev) (os : List Out) : (d.emits os).dict = d.dict := rfl
@[simp] theorem Dev.emits_com (d : Dev) (os : List Out) : (d.emits os).com = d.com := rfl
@[simp] theorem Dev.emits_fl (d : Dev) (os : List Out) : (d.emits os).fl = d.fl := rfl
@[simp] theorem Dev.emits_time (d : Dev) (os : List Out) : (d.emits os).time = d.time := rfl
@[simp] theorem Dev.emits_print (d : Dev) (os : List Out) : (d.emits os).print = d.print := rfl
@[simp] theorem Dev.emits_bars (d : Dev) (os : List Out) : (d.emits os).bars = d.bars := rfl
@[simp] theorem Dev.emits_ctxs (d : Dev) (os : List Out) : (d.emits os).ctxs = d.ctxs := rfl
@[simp] theorem Dev.emits_encs (d : Dev) (os : List Out) : (d.emits os).encs = d.encs := rfl
@[simp] theorem Dev.emits_cmps (d : Dev) (os : List Out) : (d.emits os).cmps = d.cmps := rfl
@[simp] theorem Dev.emits_reck (d : Dev) (os : List Out) : (d.emits os).reck = d.reck := rfl
@[simp] theorem Dev.emits_jobs (d : Dev) (os : List Out) : (d.emits os).jobs = d.jobs := rfl
@[simp] theorem Dev.emits_lanes (d : Dev) (os : List Out) : (d.emits os).lanes = d.lanes := rfl
@[simp] theorem Dev.emits_cams (d : Dev) (os : List Out) : (d.emits os).cams = d.cams := rfl
@[simp] theorem Dev.emits_keeper (d : Dev) (os : List Out) : (d.emits os).keeper = d.keeper := rfl
@[simp] theorem Dev.emits_light (d : Dev) (os : List Out) : (d.emits os).light = d.light := rfl
@[simp] theorem Dev.emits_mem (d : Dev) (os : List Out) : (d.emits os).mem = d.mem := rfl
@[simp] theorem Dev.emits_twin (d : Dev) (os : List Out) : (d.emits os).twin = d.twin := rfl
@[simp] theorem Dev.emits_therm (d : Dev) (os : List Out) : (d.emits os).therm = d.therm := rfl
@[simp] theorem Dev.emits_cal (d : Dev) (os : List Out) : (d.emits os).cal = d.cal := rfl
@[simp] theorem Dev.emits_nv (d : Dev) (os : List Out) : (d.emits os).nv = d.nv := rfl
@[simp] theorem Dev.emits_tally (d : Dev) (os : List Out) : (d.emits os).tally = d.tally := rfl
@[simp] theorem Dev.emits_saves (d : Dev) (os : List Out) : (d.emits os).saves = d.saves := rfl

@[simp] theorem Dev.drew_product (d : Dev) : (d.drew).product = d.product := rfl
@[simp] theorem Dev.drew_t (d : Dev) : (d.drew).t = d.t := rfl
@[simp] theorem Dev.drew_out (d : Dev) : (d.drew).out = d.out := rfl
@[simp] theorem Dev.drew_pins (d : Dev) : (d.drew).pins = d.pins := rfl
@[simp] theorem Dev.drew_sys (d : Dev) : (d.drew).sys = d.sys := rfl
@[simp] theorem Dev.drew_dict (d : Dev) : (d.drew).dict = d.dict := rfl
@[simp] theorem Dev.drew_com (d : Dev) : (d.drew).com = d.com := rfl
@[simp] theorem Dev.drew_fl (d : Dev) : (d.drew).fl = d.fl := rfl
@[simp] theorem Dev.drew_time (d : Dev) : (d.drew).time = d.time := rfl
@[simp] theorem Dev.drew_print (d : Dev) : (d.drew).print = d.print := rfl
@[simp] theorem Dev.drew_bars (d : Dev) : (d.drew).bars = d.bars := rfl
@[simp] theorem Dev.drew_ctxs (d : Dev) : (d.drew).ctxs = d.ctxs := rfl
@[simp] theorem Dev.drew_encs (d : Dev) : (d.drew).encs = d.encs := rfl
@[simp] theorem Dev.drew_cmps (d : Dev) : (d.drew).cmps = d.cmps := rfl
@[simp] theorem Dev.drew_reck (d : Dev) : (d.drew).reck = d.reck := rfl
@[simp] theorem Dev.drew_jobs (d : Dev) : (d.drew).jobs = d.jobs := rfl
@[simp] theorem Dev.drew_lanes (d : Dev) : (d.drew).lanes = d.lanes := rfl
@[simp] theorem Dev.drew_cams (d : Dev) : (d.drew).cams = d.cams := rfl
@[simp] theorem Dev.drew_keeper (d : Dev) : (d.drew).keeper = d.keeper := rfl
@[simp] theorem Dev.drew_light (d : Dev) : (d.drew).light = d.light := rfl
@[simp] theorem Dev.drew_mem (d : Dev) : (d.drew).mem = d.mem := rfl
@[simp] theorem Dev.drew_twin (d : Dev) : (d.drew).twin = d.twin := rfl
@[simp] theorem Dev.drew_therm (d : Dev) : (d.drew).therm = d.therm := rfl
@[simp] theorem Dev.drew_cal (d : Dev) : (d.drew).cal = d.cal := rfl
@[simp] theorem Dev.drew_nv (d : Dev) : (d.drew).nv = d.nv := rfl
@[simp] theorem Dev.drew_tally (d : Dev) : (d.drew).tally = d.tally := rfl
@[simp] theorem Dev.drew_saves (d : Dev) : (d.drew).saves = d.saves := rfl

@[simp] theorem Dev.setBar_product (d : Dev) (n : Nat) (b : Bar) : (d.setBar n b).product = d.product := rfl
@[simp] theorem Dev.setBar_t (d : Dev) (n : Nat) (b : Bar) : (d.setBar n b).t = d.t := rfl
@[simp] theorem Dev.setBar_out (d : Dev) (n : Nat) (b : Bar) : (d.setBar n b).out = d.out := rfl
@[simp] theorem Dev.setBar_free (d : Dev) (n : Nat) (b : Bar) : (d.setBar n b).free = d.free := rfl
@[simp] theorem Dev.setBar_pins (d : Dev) (n : Nat) (b : Bar) : (d.setBar n b).pins = d.pins := rfl
@[simp] theorem Dev.setBar_sys (d : Dev) (n : Nat) (b : Bar) : (d.setBar n b).sys = d.sys := rfl
@[simp] theorem Dev.setBar_dict (d : Dev) (n : Nat) (b : Bar) : (d.setBar n b).dict = d.dict := rfl
@[simp] theorem Dev.setBar_com (d : Dev) (n : Nat) (b : Bar) : (d.setBar n b).com = d.com := rfl
@[simp] theorem Dev.setBar_fl (d : Dev) (n : Nat) (b : Bar) : (d.setBar n b).fl = d.fl := rfl
@[simp] theorem Dev.setBar_time (d : Dev) (n : Nat) (b : Bar) : (d.setBar n b).time = d.time := rfl
@[simp] theorem Dev.setBar_print (d : Dev) (n : Nat) (b : Bar) : (d.setBar n b).print = d.print := rfl
@[simp] theorem Dev.setBar_ctxs (d : Dev) (n : Nat) (b : Bar) : (d.setBar n b).ctxs = d.ctxs := rfl
@[simp] theorem Dev.setBar_encs (d : Dev) (n : Nat) (b : Bar) : (d.setBar n b).encs = d.encs := rfl
@[simp] theorem Dev.setBar_cmps (d : Dev) (n : Nat) (b : Bar) : (d.setBar n b).cmps = d.cmps := rfl
@[simp] theorem Dev.setBar_reck (d : Dev) (n : Nat) (b : Bar) : (d.setBar n b).reck = d.reck := rfl
@[simp] theorem Dev.setBar_jobs (d : Dev) (n : Nat) (b : Bar) : (d.setBar n b).jobs = d.jobs := rfl
@[simp] theorem Dev.setBar_lanes (d : Dev) (n : Nat) (b : Bar) : (d.setBar n b).lanes = d.lanes := rfl
@[simp] theorem Dev.setBar_cams (d : Dev) (n : Nat) (b : Bar) : (d.setBar n b).cams = d.cams := rfl
@[simp] theorem Dev.setBar_keeper (d : Dev) (n : Nat) (b : Bar) : (d.setBar n b).keeper = d.keeper := rfl
@[simp] theorem Dev.setBar_light (d : Dev) (n : Nat) (b : Bar) : (d.setBar n b).light = d.light := rfl
@[simp] theorem Dev.setBar_mem (d : Dev) (n : Nat) (b : Bar) : (d.setBar n b).mem = d.mem := rfl
@[simp] theorem Dev.setBar_twin (d : Dev) (n : Nat) (b : Bar) : (d.setBar n b).twin = d.twin := rfl
@[simp] theorem Dev.setBar_therm (d : Dev) (n : Nat) (b : Bar) : (d.setBar n b).therm = d.therm := rfl
@[simp] theorem Dev.setBar_cal (d : Dev) (n : Nat) (b : Bar) : (d.setBar n b).cal = d.cal := rfl
@[simp] theorem Dev.setBar_nv (d : Dev) (n : Nat) (b : Bar) : (d.setBar n b).nv = d.nv := rfl
@[simp] theorem Dev.setBar_tally (d : Dev) (n : Nat) (b : Bar) : (d.setBar n b).tally = d.tally := rfl
@[simp] theorem Dev.setBar_saves (d : Dev) (n : Nat) (b : Bar) : (d.setBar n b).saves = d.saves := rfl

@[simp] theorem Dev.setCtx_product (d : Dev) (c : Nat) (x : Ctx) : (d.setCtx c x).product = d.product := rfl
@[simp] theorem Dev.setCtx_t (d : Dev) (c : Nat) (x : Ctx) : (d.setCtx c x).t = d.t := rfl
@[simp] theorem Dev.setCtx_out (d : Dev) (c : Nat) (x : Ctx) : (d.setCtx c x).out = d.out := rfl
@[simp] theorem Dev.setCtx_free (d : Dev) (c : Nat) (x : Ctx) : (d.setCtx c x).free = d.free := rfl
@[simp] theorem Dev.setCtx_pins (d : Dev) (c : Nat) (x : Ctx) : (d.setCtx c x).pins = d.pins := rfl
@[simp] theorem Dev.setCtx_sys (d : Dev) (c : Nat) (x : Ctx) : (d.setCtx c x).sys = d.sys := rfl
@[simp] theorem Dev.setCtx_dict (d : Dev) (c : Nat) (x : Ctx) : (d.setCtx c x).dict = d.dict := rfl
@[simp] theorem Dev.setCtx_com (d : Dev) (c : Nat) (x : Ctx) : (d.setCtx c x).com = d.com := rfl
@[simp] theorem Dev.setCtx_fl (d : Dev) (c : Nat) (x : Ctx) : (d.setCtx c x).fl = d.fl := rfl
@[simp] theorem Dev.setCtx_time (d : Dev) (c : Nat) (x : Ctx) : (d.setCtx c x).time = d.time := rfl
@[simp] theorem Dev.setCtx_print (d : Dev) (c : Nat) (x : Ctx) : (d.setCtx c x).print = d.print := rfl
@[simp] theorem Dev.setCtx_bars (d : Dev) (c : Nat) (x : Ctx) : (d.setCtx c x).bars = d.bars := rfl
@[simp] theorem Dev.setCtx_encs (d : Dev) (c : Nat) (x : Ctx) : (d.setCtx c x).encs = d.encs := rfl
@[simp] theorem Dev.setCtx_cmps (d : Dev) (c : Nat) (x : Ctx) : (d.setCtx c x).cmps = d.cmps := rfl
@[simp] theorem Dev.setCtx_reck (d : Dev) (c : Nat) (x : Ctx) : (d.setCtx c x).reck = d.reck := rfl
@[simp] theorem Dev.setCtx_jobs (d : Dev) (c : Nat) (x : Ctx) : (d.setCtx c x).jobs = d.jobs := rfl
@[simp] theorem Dev.setCtx_lanes (d : Dev) (c : Nat) (x : Ctx) : (d.setCtx c x).lanes = d.lanes := rfl
@[simp] theorem Dev.setCtx_cams (d : Dev) (c : Nat) (x : Ctx) : (d.setCtx c x).cams = d.cams := rfl
@[simp] theorem Dev.setCtx_keeper (d : Dev) (c : Nat) (x : Ctx) : (d.setCtx c x).keeper = d.keeper := rfl
@[simp] theorem Dev.setCtx_light (d : Dev) (c : Nat) (x : Ctx) : (d.setCtx c x).light = d.light := rfl
@[simp] theorem Dev.setCtx_mem (d : Dev) (c : Nat) (x : Ctx) : (d.setCtx c x).mem = d.mem := rfl
@[simp] theorem Dev.setCtx_twin (d : Dev) (c : Nat) (x : Ctx) : (d.setCtx c x).twin = d.twin := rfl
@[simp] theorem Dev.setCtx_therm (d : Dev) (c : Nat) (x : Ctx) : (d.setCtx c x).therm = d.therm := rfl
@[simp] theorem Dev.setCtx_cal (d : Dev) (c : Nat) (x : Ctx) : (d.setCtx c x).cal = d.cal := rfl
@[simp] theorem Dev.setCtx_nv (d : Dev) (c : Nat) (x : Ctx) : (d.setCtx c x).nv = d.nv := rfl
@[simp] theorem Dev.setCtx_tally (d : Dev) (c : Nat) (x : Ctx) : (d.setCtx c x).tally = d.tally := rfl
@[simp] theorem Dev.setCtx_saves (d : Dev) (c : Nat) (x : Ctx) : (d.setCtx c x).saves = d.saves := rfl

@[simp] theorem Dev.setEnc_product (d : Dev) (c : Nat) (e : Enc) : (d.setEnc c e).product = d.product := rfl
@[simp] theorem Dev.setEnc_t (d : Dev) (c : Nat) (e : Enc) : (d.setEnc c e).t = d.t := rfl
@[simp] theorem Dev.setEnc_out (d : Dev) (c : Nat) (e : Enc) : (d.setEnc c e).out = d.out := rfl
@[simp] theorem Dev.setEnc_free (d : Dev) (c : Nat) (e : Enc) : (d.setEnc c e).free = d.free := rfl
@[simp] theorem Dev.setEnc_pins (d : Dev) (c : Nat) (e : Enc) : (d.setEnc c e).pins = d.pins := rfl
@[simp] theorem Dev.setEnc_sys (d : Dev) (c : Nat) (e : Enc) : (d.setEnc c e).sys = d.sys := rfl
@[simp] theorem Dev.setEnc_dict (d : Dev) (c : Nat) (e : Enc) : (d.setEnc c e).dict = d.dict := rfl
@[simp] theorem Dev.setEnc_com (d : Dev) (c : Nat) (e : Enc) : (d.setEnc c e).com = d.com := rfl
@[simp] theorem Dev.setEnc_fl (d : Dev) (c : Nat) (e : Enc) : (d.setEnc c e).fl = d.fl := rfl
@[simp] theorem Dev.setEnc_time (d : Dev) (c : Nat) (e : Enc) : (d.setEnc c e).time = d.time := rfl
@[simp] theorem Dev.setEnc_print (d : Dev) (c : Nat) (e : Enc) : (d.setEnc c e).print = d.print := rfl
@[simp] theorem Dev.setEnc_bars (d : Dev) (c : Nat) (e : Enc) : (d.setEnc c e).bars = d.bars := rfl
@[simp] theorem Dev.setEnc_ctxs (d : Dev) (c : Nat) (e : Enc) : (d.setEnc c e).ctxs = d.ctxs := rfl
@[simp] theorem Dev.setEnc_cmps (d : Dev) (c : Nat) (e : Enc) : (d.setEnc c e).cmps = d.cmps := rfl
@[simp] theorem Dev.setEnc_reck (d : Dev) (c : Nat) (e : Enc) : (d.setEnc c e).reck = d.reck := rfl
@[simp] theorem Dev.setEnc_jobs (d : Dev) (c : Nat) (e : Enc) : (d.setEnc c e).jobs = d.jobs := rfl
@[simp] theorem Dev.setEnc_lanes (d : Dev) (c : Nat) (e : Enc) : (d.setEnc c e).lanes = d.lanes := rfl
@[simp] theorem Dev.setEnc_cams (d : Dev) (c : Nat) (e : Enc) : (d.setEnc c e).cams = d.cams := rfl
@[simp] theorem Dev.setEnc_keeper (d : Dev) (c : Nat) (e : Enc) : (d.setEnc c e).keeper = d.keeper := rfl
@[simp] theorem Dev.setEnc_light (d : Dev) (c : Nat) (e : Enc) : (d.setEnc c e).light = d.light := rfl
@[simp] theorem Dev.setEnc_mem (d : Dev) (c : Nat) (e : Enc) : (d.setEnc c e).mem = d.mem := rfl
@[simp] theorem Dev.setEnc_twin (d : Dev) (c : Nat) (e : Enc) : (d.setEnc c e).twin = d.twin := rfl
@[simp] theorem Dev.setEnc_therm (d : Dev) (c : Nat) (e : Enc) : (d.setEnc c e).therm = d.therm := rfl
@[simp] theorem Dev.setEnc_cal (d : Dev) (c : Nat) (e : Enc) : (d.setEnc c e).cal = d.cal := rfl
@[simp] theorem Dev.setEnc_nv (d : Dev) (c : Nat) (e : Enc) : (d.setEnc c e).nv = d.nv := rfl
@[simp] theorem Dev.setEnc_tally (d : Dev) (c : Nat) (e : Enc) : (d.setEnc c e).tally = d.tally := rfl
@[simp] theorem Dev.setEnc_saves (d : Dev) (c : Nat) (e : Enc) : (d.setEnc c e).saves = d.saves := rfl

@[simp] theorem Dev.setCmp_product (d : Dev) (u : Nat) (x : Cmp) : (d.setCmp u x).product = d.product := rfl
@[simp] theorem Dev.setCmp_t (d : Dev) (u : Nat) (x : Cmp) : (d.setCmp u x).t = d.t := rfl
@[simp] theorem Dev.setCmp_out (d : Dev) (u : Nat) (x : Cmp) : (d.setCmp u x).out = d.out := rfl
@[simp] theorem Dev.setCmp_free (d : Dev) (u : Nat) (x : Cmp) : (d.setCmp u x).free = d.free := rfl
@[simp] theorem Dev.setCmp_pins (d : Dev) (u : Nat) (x : Cmp) : (d.setCmp u x).pins = d.pins := rfl
@[simp] theorem Dev.setCmp_sys (d : Dev) (u : Nat) (x : Cmp) : (d.setCmp u x).sys = d.sys := rfl
@[simp] theorem Dev.setCmp_dict (d : Dev) (u : Nat) (x : Cmp) : (d.setCmp u x).dict = d.dict := rfl
@[simp] theorem Dev.setCmp_com (d : Dev) (u : Nat) (x : Cmp) : (d.setCmp u x).com = d.com := rfl
@[simp] theorem Dev.setCmp_fl (d : Dev) (u : Nat) (x : Cmp) : (d.setCmp u x).fl = d.fl := rfl
@[simp] theorem Dev.setCmp_time (d : Dev) (u : Nat) (x : Cmp) : (d.setCmp u x).time = d.time := rfl
@[simp] theorem Dev.setCmp_print (d : Dev) (u : Nat) (x : Cmp) : (d.setCmp u x).print = d.print := rfl
@[simp] theorem Dev.setCmp_bars (d : Dev) (u : Nat) (x : Cmp) : (d.setCmp u x).bars = d.bars := rfl
@[simp] theorem Dev.setCmp_ctxs (d : Dev) (u : Nat) (x : Cmp) : (d.setCmp u x).ctxs = d.ctxs := rfl
@[simp] theorem Dev.setCmp_encs (d : Dev) (u : Nat) (x : Cmp) : (d.setCmp u x).encs = d.encs := rfl
@[simp] theorem Dev.setCmp_reck (d : Dev) (u : Nat) (x : Cmp) : (d.setCmp u x).reck = d.reck := rfl
@[simp] theorem Dev.setCmp_jobs (d : Dev) (u : Nat) (x : Cmp) : (d.setCmp u x).jobs = d.jobs := rfl
@[simp] theorem Dev.setCmp_lanes (d : Dev) (u : Nat) (x : Cmp) : (d.setCmp u x).lanes = d.lanes := rfl
@[simp] theorem Dev.setCmp_cams (d : Dev) (u : Nat) (x : Cmp) : (d.setCmp u x).cams = d.cams := rfl
@[simp] theorem Dev.setCmp_keeper (d : Dev) (u : Nat) (x : Cmp) : (d.setCmp u x).keeper = d.keeper := rfl
@[simp] theorem Dev.setCmp_light (d : Dev) (u : Nat) (x : Cmp) : (d.setCmp u x).light = d.light := rfl
@[simp] theorem Dev.setCmp_mem (d : Dev) (u : Nat) (x : Cmp) : (d.setCmp u x).mem = d.mem := rfl
@[simp] theorem Dev.setCmp_twin (d : Dev) (u : Nat) (x : Cmp) : (d.setCmp u x).twin = d.twin := rfl
@[simp] theorem Dev.setCmp_therm (d : Dev) (u : Nat) (x : Cmp) : (d.setCmp u x).therm = d.therm := rfl
@[simp] theorem Dev.setCmp_cal (d : Dev) (u : Nat) (x : Cmp) : (d.setCmp u x).cal = d.cal := rfl
@[simp] theorem Dev.setCmp_nv (d : Dev) (u : Nat) (x : Cmp) : (d.setCmp u x).nv = d.nv := rfl
@[simp] theorem Dev.setCmp_tally (d : Dev) (u : Nat) (x : Cmp) : (d.setCmp u x).tally = d.tally := rfl
@[simp] theorem Dev.setCmp_saves (d : Dev) (u : Nat) (x : Cmp) : (d.setCmp u x).saves = d.saves := rfl

@[simp] theorem Dev.setLane_product (d : Dev) (k : Nat) (l : Lane) : (d.setLane k l).product = d.product := rfl
@[simp] theorem Dev.setLane_t (d : Dev) (k : Nat) (l : Lane) : (d.setLane k l).t = d.t := rfl
@[simp] theorem Dev.setLane_out (d : Dev) (k : Nat) (l : Lane) : (d.setLane k l).out = d.out := rfl
@[simp] theorem Dev.setLane_free (d : Dev) (k : Nat) (l : Lane) : (d.setLane k l).free = d.free := rfl
@[simp] theorem Dev.setLane_pins (d : Dev) (k : Nat) (l : Lane) : (d.setLane k l).pins = d.pins := rfl
@[simp] theorem Dev.setLane_sys (d : Dev) (k : Nat) (l : Lane) : (d.setLane k l).sys = d.sys := rfl
@[simp] theorem Dev.setLane_dict (d : Dev) (k : Nat) (l : Lane) : (d.setLane k l).dict = d.dict := rfl
@[simp] theorem Dev.setLane_com (d : Dev) (k : Nat) (l : Lane) : (d.setLane k l).com = d.com := rfl
@[simp] theorem Dev.setLane_fl (d : Dev) (k : Nat) (l : Lane) : (d.setLane k l).fl = d.fl := rfl
@[simp] theorem Dev.setLane_time (d : Dev) (k : Nat) (l : Lane) : (d.setLane k l).time = d.time := rfl
@[simp] theorem Dev.setLane_print (d : Dev) (k : Nat) (l : Lane) : (d.setLane k l).print = d.print := rfl
@[simp] theorem Dev.setLane_bars (d : Dev) (k : Nat) (l : Lane) : (d.setLane k l).bars = d.bars := rfl
@[simp] theorem Dev.setLane_ctxs (d : Dev) (k : Nat) (l : Lane) : (d.setLane k l).ctxs = d.ctxs := rfl
@[simp] theorem Dev.setLane_encs (d : Dev) (k : Nat) (l : Lane) : (d.setLane k l).encs = d.encs := rfl
@[simp] theorem Dev.setLane_cmps (d : Dev) (k : Nat) (l : Lane) : (d.setLane k l).cmps = d.cmps := rfl
@[simp] theorem Dev.setLane_reck (d : Dev) (k : Nat) (l : Lane) : (d.setLane k l).reck = d.reck := rfl
@[simp] theorem Dev.setLane_jobs (d : Dev) (k : Nat) (l : Lane) : (d.setLane k l).jobs = d.jobs := rfl
@[simp] theorem Dev.setLane_cams (d : Dev) (k : Nat) (l : Lane) : (d.setLane k l).cams = d.cams := rfl
@[simp] theorem Dev.setLane_keeper (d : Dev) (k : Nat) (l : Lane) : (d.setLane k l).keeper = d.keeper := rfl
@[simp] theorem Dev.setLane_light (d : Dev) (k : Nat) (l : Lane) : (d.setLane k l).light = d.light := rfl
@[simp] theorem Dev.setLane_mem (d : Dev) (k : Nat) (l : Lane) : (d.setLane k l).mem = d.mem := rfl
@[simp] theorem Dev.setLane_twin (d : Dev) (k : Nat) (l : Lane) : (d.setLane k l).twin = d.twin := rfl
@[simp] theorem Dev.setLane_therm (d : Dev) (k : Nat) (l : Lane) : (d.setLane k l).therm = d.therm := rfl
@[simp] theorem Dev.setLane_cal (d : Dev) (k : Nat) (l : Lane) : (d.setLane k l).cal = d.cal := rfl
@[simp] theorem Dev.setLane_nv (d : Dev) (k : Nat) (l : Lane) : (d.setLane k l).nv = d.nv := rfl
@[simp] theorem Dev.setLane_tally (d : Dev) (k : Nat) (l : Lane) : (d.setLane k l).tally = d.tally := rfl
@[simp] theorem Dev.setLane_saves (d : Dev) (k : Nat) (l : Lane) : (d.setLane k l).saves = d.saves := rfl

@[simp] theorem Dev.setPtp_product (d : Dev) (k : Nat) (p : Ptp) : (d.setPtp k p).product = d.product := rfl
@[simp] theorem Dev.setPtp_t (d : Dev) (k : Nat) (p : Ptp) : (d.setPtp k p).t = d.t := rfl
@[simp] theorem Dev.setPtp_out (d : Dev) (k : Nat) (p : Ptp) : (d.setPtp k p).out = d.out := rfl
@[simp] theorem Dev.setPtp_free (d : Dev) (k : Nat) (p : Ptp) : (d.setPtp k p).free = d.free := rfl
@[simp] theorem Dev.setPtp_pins (d : Dev) (k : Nat) (p : Ptp) : (d.setPtp k p).pins = d.pins := rfl
@[simp] theorem Dev.setPtp_sys (d : Dev) (k : Nat) (p : Ptp) : (d.setPtp k p).sys = d.sys := rfl
@[simp] theorem Dev.setPtp_dict (d : Dev) (k : Nat) (p : Ptp) : (d.setPtp k p).dict = d.dict := rfl
@[simp] theorem Dev.setPtp_com (d : Dev) (k : Nat) (p : Ptp) : (d.setPtp k p).com = d.com := rfl
@[simp] theorem Dev.setPtp_fl (d : Dev) (k : Nat) (p : Ptp) : (d.setPtp k p).fl = d.fl := rfl
@[simp] theorem Dev.setPtp_print (d : Dev) (k : Nat) (p : Ptp) : (d.setPtp k p).print = d.print := rfl
@[simp] theorem Dev.setPtp_bars (d : Dev) (k : Nat) (p : Ptp) : (d.setPtp k p).bars = d.bars := rfl
@[simp] theorem Dev.setPtp_ctxs (d : Dev) (k : Nat) (p : Ptp) : (d.setPtp k p).ctxs = d.ctxs := rfl
@[simp] theorem Dev.setPtp_encs (d : Dev) (k : Nat) (p : Ptp) : (d.setPtp k p).encs = d.encs := rfl
@[simp] theorem Dev.setPtp_cmps (d : Dev) (k : Nat) (p : Ptp) : (d.setPtp k p).cmps = d.cmps := rfl
@[simp] theorem Dev.setPtp_reck (d : Dev) (k : Nat) (p : Ptp) : (d.setPtp k p).reck = d.reck := rfl
@[simp] theorem Dev.setPtp_jobs (d : Dev) (k : Nat) (p : Ptp) : (d.setPtp k p).jobs = d.jobs := rfl
@[simp] theorem Dev.setPtp_lanes (d : Dev) (k : Nat) (p : Ptp) : (d.setPtp k p).lanes = d.lanes := rfl
@[simp] theorem Dev.setPtp_cams (d : Dev) (k : Nat) (p : Ptp) : (d.setPtp k p).cams = d.cams := rfl
@[simp] theorem Dev.setPtp_keeper (d : Dev) (k : Nat) (p : Ptp) : (d.setPtp k p).keeper = d.keeper := rfl
@[simp] theorem Dev.setPtp_light (d : Dev) (k : Nat) (p : Ptp) : (d.setPtp k p).light = d.light := rfl
@[simp] theorem Dev.setPtp_mem (d : Dev) (k : Nat) (p : Ptp) : (d.setPtp k p).mem = d.mem := rfl
@[simp] theorem Dev.setPtp_twin (d : Dev) (k : Nat) (p : Ptp) : (d.setPtp k p).twin = d.twin := rfl
@[simp] theorem Dev.setPtp_therm (d : Dev) (k : Nat) (p : Ptp) : (d.setPtp k p).therm = d.therm := rfl
@[simp] theorem Dev.setPtp_cal (d : Dev) (k : Nat) (p : Ptp) : (d.setPtp k p).cal = d.cal := rfl
@[simp] theorem Dev.setPtp_nv (d : Dev) (k : Nat) (p : Ptp) : (d.setPtp k p).nv = d.nv := rfl
@[simp] theorem Dev.setPtp_tally (d : Dev) (k : Nat) (p : Ptp) : (d.setPtp k p).tally = d.tally := rfl
@[simp] theorem Dev.setPtp_saves (d : Dev) (k : Nat) (p : Ptp) : (d.setPtp k p).saves = d.saves := rfl

@[simp] theorem Dev.setQueue_product (d : Dev) (q : Nat) (x : Queue) : (d.setQueue q x).product = d.product := rfl
@[simp] theorem Dev.setQueue_t (d : Dev) (q : Nat) (x : Queue) : (d.setQueue q x).t = d.t := rfl
@[simp] theorem Dev.setQueue_out (d : Dev) (q : Nat) (x : Queue) : (d.setQueue q x).out = d.out := rfl
@[simp] theorem Dev.setQueue_free (d : Dev) (q : Nat) (x : Queue) : (d.setQueue q x).free = d.free := rfl
@[simp] theorem Dev.setQueue_pins (d : Dev) (q : Nat) (x : Queue) : (d.setQueue q x).pins = d.pins := rfl
@[simp] theorem Dev.setQueue_sys (d : Dev) (q : Nat) (x : Queue) : (d.setQueue q x).sys = d.sys := rfl
@[simp] theorem Dev.setQueue_dict (d : Dev) (q : Nat) (x : Queue) : (d.setQueue q x).dict = d.dict := rfl
@[simp] theorem Dev.setQueue_com (d : Dev) (q : Nat) (x : Queue) : (d.setQueue q x).com = d.com := rfl
@[simp] theorem Dev.setQueue_fl (d : Dev) (q : Nat) (x : Queue) : (d.setQueue q x).fl = d.fl := rfl
@[simp] theorem Dev.setQueue_time (d : Dev) (q : Nat) (x : Queue) : (d.setQueue q x).time = d.time := rfl
@[simp] theorem Dev.setQueue_print (d : Dev) (q : Nat) (x : Queue) : (d.setQueue q x).print = d.print := rfl
@[simp] theorem Dev.setQueue_bars (d : Dev) (q : Nat) (x : Queue) : (d.setQueue q x).bars = d.bars := rfl
@[simp] theorem Dev.setQueue_ctxs (d : Dev) (q : Nat) (x : Queue) : (d.setQueue q x).ctxs = d.ctxs := rfl
@[simp] theorem Dev.setQueue_encs (d : Dev) (q : Nat) (x : Queue) : (d.setQueue q x).encs = d.encs := rfl
@[simp] theorem Dev.setQueue_cmps (d : Dev) (q : Nat) (x : Queue) : (d.setQueue q x).cmps = d.cmps := rfl
@[simp] theorem Dev.setQueue_reck (d : Dev) (q : Nat) (x : Queue) : (d.setQueue q x).reck = d.reck := rfl
@[simp] theorem Dev.setQueue_lanes (d : Dev) (q : Nat) (x : Queue) : (d.setQueue q x).lanes = d.lanes := rfl
@[simp] theorem Dev.setQueue_cams (d : Dev) (q : Nat) (x : Queue) : (d.setQueue q x).cams = d.cams := rfl
@[simp] theorem Dev.setQueue_keeper (d : Dev) (q : Nat) (x : Queue) : (d.setQueue q x).keeper = d.keeper := rfl
@[simp] theorem Dev.setQueue_light (d : Dev) (q : Nat) (x : Queue) : (d.setQueue q x).light = d.light := rfl
@[simp] theorem Dev.setQueue_mem (d : Dev) (q : Nat) (x : Queue) : (d.setQueue q x).mem = d.mem := rfl
@[simp] theorem Dev.setQueue_twin (d : Dev) (q : Nat) (x : Queue) : (d.setQueue q x).twin = d.twin := rfl
@[simp] theorem Dev.setQueue_therm (d : Dev) (q : Nat) (x : Queue) : (d.setQueue q x).therm = d.therm := rfl
@[simp] theorem Dev.setQueue_cal (d : Dev) (q : Nat) (x : Queue) : (d.setQueue q x).cal = d.cal := rfl
@[simp] theorem Dev.setQueue_nv (d : Dev) (q : Nat) (x : Queue) : (d.setQueue q x).nv = d.nv := rfl
@[simp] theorem Dev.setQueue_tally (d : Dev) (q : Nat) (x : Queue) : (d.setQueue q x).tally = d.tally := rfl
@[simp] theorem Dev.setQueue_saves (d : Dev) (q : Nat) (x : Queue) : (d.setQueue q x).saves = d.saves := rfl

@[simp] theorem Dev.setCam_product (d : Dev) (c : Nat) (x : Cam) : (d.setCam c x).product = d.product := rfl
@[simp] theorem Dev.setCam_t (d : Dev) (c : Nat) (x : Cam) : (d.setCam c x).t = d.t := rfl
@[simp] theorem Dev.setCam_out (d : Dev) (c : Nat) (x : Cam) : (d.setCam c x).out = d.out := rfl
@[simp] theorem Dev.setCam_free (d : Dev) (c : Nat) (x : Cam) : (d.setCam c x).free = d.free := rfl
@[simp] theorem Dev.setCam_pins (d : Dev) (c : Nat) (x : Cam) : (d.setCam c x).pins = d.pins := rfl
@[simp] theorem Dev.setCam_sys (d : Dev) (c : Nat) (x : Cam) : (d.setCam c x).sys = d.sys := rfl
@[simp] theorem Dev.setCam_dict (d : Dev) (c : Nat) (x : Cam) : (d.setCam c x).dict = d.dict := rfl
@[simp] theorem Dev.setCam_com (d : Dev) (c : Nat) (x : Cam) : (d.setCam c x).com = d.com := rfl
@[simp] theorem Dev.setCam_fl (d : Dev) (c : Nat) (x : Cam) : (d.setCam c x).fl = d.fl := rfl
@[simp] theorem Dev.setCam_time (d : Dev) (c : Nat) (x : Cam) : (d.setCam c x).time = d.time := rfl
@[simp] theorem Dev.setCam_print (d : Dev) (c : Nat) (x : Cam) : (d.setCam c x).print = d.print := rfl
@[simp] theorem Dev.setCam_bars (d : Dev) (c : Nat) (x : Cam) : (d.setCam c x).bars = d.bars := rfl
@[simp] theorem Dev.setCam_ctxs (d : Dev) (c : Nat) (x : Cam) : (d.setCam c x).ctxs = d.ctxs := rfl
@[simp] theorem Dev.setCam_encs (d : Dev) (c : Nat) (x : Cam) : (d.setCam c x).encs = d.encs := rfl
@[simp] theorem Dev.setCam_cmps (d : Dev) (c : Nat) (x : Cam) : (d.setCam c x).cmps = d.cmps := rfl
@[simp] theorem Dev.setCam_reck (d : Dev) (c : Nat) (x : Cam) : (d.setCam c x).reck = d.reck := rfl
@[simp] theorem Dev.setCam_jobs (d : Dev) (c : Nat) (x : Cam) : (d.setCam c x).jobs = d.jobs := rfl
@[simp] theorem Dev.setCam_lanes (d : Dev) (c : Nat) (x : Cam) : (d.setCam c x).lanes = d.lanes := rfl
@[simp] theorem Dev.setCam_keeper (d : Dev) (c : Nat) (x : Cam) : (d.setCam c x).keeper = d.keeper := rfl
@[simp] theorem Dev.setCam_light (d : Dev) (c : Nat) (x : Cam) : (d.setCam c x).light = d.light := rfl
@[simp] theorem Dev.setCam_mem (d : Dev) (c : Nat) (x : Cam) : (d.setCam c x).mem = d.mem := rfl
@[simp] theorem Dev.setCam_twin (d : Dev) (c : Nat) (x : Cam) : (d.setCam c x).twin = d.twin := rfl
@[simp] theorem Dev.setCam_therm (d : Dev) (c : Nat) (x : Cam) : (d.setCam c x).therm = d.therm := rfl
@[simp] theorem Dev.setCam_cal (d : Dev) (c : Nat) (x : Cam) : (d.setCam c x).cal = d.cal := rfl
@[simp] theorem Dev.setCam_nv (d : Dev) (c : Nat) (x : Cam) : (d.setCam c x).nv = d.nv := rfl
@[simp] theorem Dev.setCam_tally (d : Dev) (c : Nat) (x : Cam) : (d.setCam c x).tally = d.tally := rfl
@[simp] theorem Dev.setCam_saves (d : Dev) (c : Nat) (x : Cam) : (d.setCam c x).saves = d.saves := rfl

@[simp] theorem Dev.onSess_product (d : Dev) (k : Nat) (f : Sess → Sess) : (d.onSess k f).product = d.product := rfl
@[simp] theorem Dev.onSess_t (d : Dev) (k : Nat) (f : Sess → Sess) : (d.onSess k f).t = d.t := rfl
@[simp] theorem Dev.onSess_out (d : Dev) (k : Nat) (f : Sess → Sess) : (d.onSess k f).out = d.out := rfl
@[simp] theorem Dev.onSess_free (d : Dev) (k : Nat) (f : Sess → Sess) : (d.onSess k f).free = d.free := rfl
@[simp] theorem Dev.onSess_pins (d : Dev) (k : Nat) (f : Sess → Sess) : (d.onSess k f).pins = d.pins := rfl
@[simp] theorem Dev.onSess_sys (d : Dev) (k : Nat) (f : Sess → Sess) : (d.onSess k f).sys = d.sys := rfl
@[simp] theorem Dev.onSess_dict (d : Dev) (k : Nat) (f : Sess → Sess) : (d.onSess k f).dict = d.dict := rfl
@[simp] theorem Dev.onSess_fl (d : Dev) (k : Nat) (f : Sess → Sess) : (d.onSess k f).fl = d.fl := rfl
@[simp] theorem Dev.onSess_time (d : Dev) (k : Nat) (f : Sess → Sess) : (d.onSess k f).time = d.time := rfl
@[simp] theorem Dev.onSess_print (d : Dev) (k : Nat) (f : Sess → Sess) : (d.onSess k f).print = d.print := rfl
@[simp] theorem Dev.onSess_bars (d : Dev) (k : Nat) (f : Sess → Sess) : (d.onSess k f).bars = d.bars := rfl
@[simp] theorem Dev.onSess_ctxs (d : Dev) (k : Nat) (f : Sess → Sess) : (d.onSess k f).ctxs = d.ctxs := rfl
@[simp] theorem Dev.onSess_encs (d : Dev) (k : Nat) (f : Sess → Sess) : (d.onSess k f).encs = d.encs := rfl
@[simp] theorem Dev.onSess_cmps (d : Dev) (k : Nat) (f : Sess → Sess) : (d.onSess k f).cmps = d.cmps := rfl
@[simp] theorem Dev.onSess_reck (d : Dev) (k : Nat) (f : Sess → Sess) : (d.onSess k f).reck = d.reck := rfl
@[simp] theorem Dev.onSess_jobs (d : Dev) (k : Nat) (f : Sess → Sess) : (d.onSess k f).jobs = d.jobs := rfl
@[simp] theorem Dev.onSess_lanes (d : Dev) (k : Nat) (f : Sess → Sess) : (d.onSess k f).lanes = d.lanes := rfl
@[simp] theorem Dev.onSess_cams (d : Dev) (k : Nat) (f : Sess → Sess) : (d.onSess k f).cams = d.cams := rfl
@[simp] theorem Dev.onSess_keeper (d : Dev) (k : Nat) (f : Sess → Sess) : (d.onSess k f).keeper = d.keeper := rfl
@[simp] theorem Dev.onSess_light (d : Dev) (k : Nat) (f : Sess → Sess) : (d.onSess k f).light = d.light := rfl
@[simp] theorem Dev.onSess_mem (d : Dev) (k : Nat) (f : Sess → Sess) : (d.onSess k f).mem = d.mem := rfl
@[simp] theorem Dev.onSess_twin (d : Dev) (k : Nat) (f : Sess → Sess) : (d.onSess k f).twin = d.twin := rfl
@[simp] theorem Dev.onSess_therm (d : Dev) (k : Nat) (f : Sess → Sess) : (d.onSess k f).therm = d.therm := rfl
@[simp] theorem Dev.onSess_cal (d : Dev) (k : Nat) (f : Sess → Sess) : (d.onSess k f).cal = d.cal := rfl
@[simp] theorem Dev.onSess_nv (d : Dev) (k : Nat) (f : Sess → Sess) : (d.onSess k f).nv = d.nv := rfl
@[simp] theorem Dev.onSess_tally (d : Dev) (k : Nat) (f : Sess → Sess) : (d.onSess k f).tally = d.tally := rfl
@[simp] theorem Dev.onSess_saves (d : Dev) (k : Nat) (f : Sess → Sess) : (d.onSess k f).saves = d.saves := rfl

@[simp] theorem Dev.emit_out (d : Dev) (o : Out) : (d.emit o).out = d.out ++ [o] := rfl
@[simp] theorem Dev.emits_out (d : Dev) (os : List Out) : (d.emits os).out = d.out ++ os := rfl
@[simp] theorem Dev.drew_free (d : Dev) : d.drew.free = d.free + 1 := rfl

@[simp] theorem State.begin_product (s : State) : s.begin_.product = s.dev.product := rfl
@[simp] theorem State.begin_free (s : State) : s.begin_.free = s.dev.free := rfl
@[simp] theorem State.begin_pins (s : State) : s.begin_.pins = s.dev.pins := rfl
@[simp] theorem State.begin_sys (s : State) : s.begin_.sys = s.dev.sys := rfl
@[simp] theorem State.begin_dict (s : State) : s.begin_.dict = s.dev.dict := rfl
@[simp] theorem State.begin_com (s : State) : s.begin_.com = s.dev.com := rfl
@[simp] theorem State.begin_fl (s : State) : s.begin_.fl = s.dev.fl := rfl
@[simp] theorem State.begin_time (s : State) : s.begin_.time = s.dev.time := rfl
@[simp] theorem State.begin_print (s : State) : s.begin_.print = s.dev.print := rfl
@[simp] theorem State.begin_bars (s : State) : s.begin_.bars = s.dev.bars := rfl
@[simp] theorem State.begin_ctxs (s : State) : s.begin_.ctxs = s.dev.ctxs := rfl
@[simp] theorem State.begin_encs (s : State) : s.begin_.encs = s.dev.encs := rfl
@[simp] theorem State.begin_cmps (s : State) : s.begin_.cmps = s.dev.cmps := rfl
@[simp] theorem State.begin_reck (s : State) : s.begin_.reck = s.dev.reck := rfl
@[simp] theorem State.begin_jobs (s : State) : s.begin_.jobs = s.dev.jobs := rfl
@[simp] theorem State.begin_lanes (s : State) : s.begin_.lanes = s.dev.lanes := rfl
@[simp] theorem State.begin_cams (s : State) : s.begin_.cams = s.dev.cams := rfl
@[simp] theorem State.begin_keeper (s : State) : s.begin_.keeper = s.dev.keeper := rfl
@[simp] theorem State.begin_light (s : State) : s.begin_.light = s.dev.light := rfl
@[simp] theorem State.begin_mem (s : State) : s.begin_.mem = s.dev.mem := rfl
@[simp] theorem State.begin_twin (s : State) : s.begin_.twin = s.dev.twin := rfl
@[simp] theorem State.begin_therm (s : State) : s.begin_.therm = s.dev.therm := rfl
@[simp] theorem State.begin_cal (s : State) : s.begin_.cal = s.dev.cal := rfl
@[simp] theorem State.begin_nv (s : State) : s.begin_.nv = s.dev.nv := rfl
@[simp] theorem State.begin_tally (s : State) : s.begin_.tally = s.dev.tally := rfl
@[simp] theorem State.begin_saves (s : State) : s.begin_.saves = s.dev.saves := rfl
@[simp] theorem State.begin_t (s : State) : s.begin_.t = s.now := rfl
@[simp] theorem State.begin_out (s : State) : s.begin_.out = [] := rfl

@[simp] theorem Dev.flush_product (d : Dev) : d.flush.product = d.product := rfl
@[simp] theorem Dev.flush_t (d : Dev) : d.flush.t = d.t := rfl
@[simp] theorem Dev.flush_free (d : Dev) : d.flush.free = d.free := rfl
@[simp] theorem Dev.flush_pins (d : Dev) : d.flush.pins = d.pins := rfl
@[simp] theorem Dev.flush_sys (d : Dev) : d.flush.sys = d.sys := rfl
@[simp] theorem Dev.flush_dict (d : Dev) : d.flush.dict = d.dict := rfl
@[simp] theorem Dev.flush_fl (d : Dev) : d.flush.fl = d.fl := rfl
@[simp] theorem Dev.flush_time (d : Dev) : d.flush.time = d.time := rfl
@[simp] theorem Dev.flush_print (d : Dev) : d.flush.print = d.print := rfl
@[simp] theorem Dev.flush_bars (d : Dev) : d.flush.bars = d.bars := rfl
@[simp] theorem Dev.flush_ctxs (d : Dev) : d.flush.ctxs = d.ctxs := rfl
@[simp] theorem Dev.flush_encs (d : Dev) : d.flush.encs = d.encs := rfl
@[simp] theorem Dev.flush_cmps (d : Dev) : d.flush.cmps = d.cmps := rfl
@[simp] theorem Dev.flush_reck (d : Dev) : d.flush.reck = d.reck := rfl
@[simp] theorem Dev.flush_jobs (d : Dev) : d.flush.jobs = d.jobs := rfl
@[simp] theorem Dev.flush_lanes (d : Dev) : d.flush.lanes = d.lanes := rfl
@[simp] theorem Dev.flush_cams (d : Dev) : d.flush.cams = d.cams := rfl
@[simp] theorem Dev.flush_keeper (d : Dev) : d.flush.keeper = d.keeper := rfl
@[simp] theorem Dev.flush_light (d : Dev) : d.flush.light = d.light := rfl
@[simp] theorem Dev.flush_mem (d : Dev) : d.flush.mem = d.mem := rfl
@[simp] theorem Dev.flush_twin (d : Dev) : d.flush.twin = d.twin := rfl
@[simp] theorem Dev.flush_therm (d : Dev) : d.flush.therm = d.therm := rfl
@[simp] theorem Dev.flush_cal (d : Dev) : d.flush.cal = d.cal := rfl
@[simp] theorem Dev.flush_nv (d : Dev) : d.flush.nv = d.nv := rfl
@[simp] theorem Dev.flush_tally (d : Dev) : d.flush.tally = d.tally := rfl
@[simp] theorem Dev.flush_saves (d : Dev) : d.flush.saves = d.saves := rfl

end Sys2Proof.Machine
end

