-- ==== Sys2Proof/Laws/Events.lean ====
section
/-! SUPPORT. What raising an event and sending the waiting records can do to the device: the body and the bare device stay, the
fields they never touch stay, and the log holds the record. -/
namespace Sys2Proof.Machine

open Sys2Proof

/-- Sending waiting records changes nothing of a session that `Sess.still` keeps. -/
theorem Sess.sendEvents_still (f : Nat) (x : Sess) : (x.sendEvents f).1.still = x.still := by
  induction f generalizing x with
  | zero => rfl
  | succ f ih =>
    simp only [Sess.sendEvents]
    split
    · rfl
    · rw [ih]; rfl

theorem Sess.enqueue_still (x : Sess) (r : EventRec) : (x.enqueue r).still = x.still := by
  simp only [Sess.enqueue]; split <;> [rfl; split <;> rfl]

theorem Dev.sendWaiting_still (d : Dev) (x : Sess) : (d.sendWaiting x).1.still = x.still := by
  simp only [Dev.sendWaiting]; split
  · rfl
  · exact Sess.sendEvents_still 21 x

/-- Sending the waiting records leaves the device's body. -/
@[simp] theorem Dev.flush_body (d : Dev) : d.flush.body = d.body := by
  simp only [Dev.body, Dev.flush, Table.mapVal_mapVal]
  rw [Table.mapVal_congr _ _ _ (fun _ x => d.sendWaiting_still x)]

@[simp] theorem Dev.emit_body (d : Dev) (o : Out) : (d.emit o).body = d.body := rfl
@[simp] theorem Dev.emits_body (d : Dev) (os : List Out) : (d.emits os).body = d.body := rfl
@[simp] theorem State.begin_body (s : State) : s.begin_.body = s.dev.body := rfl

/-- Devices with equal bodies have equal bare devices. -/
theorem Dev.bare_of_body {d e : Dev} (h : d.body = e.body) : d.bare = e.bare := by
  have h' := fun (β : Type) (f : Dev → β) => congrArg f h
  have hfl : d.fl = e.fl := h' _ Dev.fl
  have hp : d.pins = e.pins := h' _ Dev.pins
  have hd : d.dict = e.dict := h' _ Dev.dict
  simp only [Dev.bare, h, hfl, hp, hd]

@[simp] theorem Dev.flush_bare (d : Dev) : d.flush.bare = d.bare := Dev.bare_of_body d.flush_body
@[simp] theorem Dev.emit_bare (d : Dev) (o : Out) : (d.emit o).bare = d.bare := rfl
@[simp] theorem Dev.emits_bare (d : Dev) (os : List Out) : (d.emits os).bare = d.bare := rfl
@[simp] theorem State.begin_bare (s : State) : s.begin_.bare = s.dev.bare := rfl

/-- An event counter's new value does not show in the bare device. -/
theorem Dev.put_bare (d : Dev) (i j v : Nat) (h : eventKey (key i j) = true) : (d.put i j v).bare = d.bare := by
  simp only [Dev.bare, Dev.put, Dev.body]
  rw [Table.keep_set _ _ _ _ (fun _ => by simp [h])]

theorem Dev.bumpBy_bare (d : Dev) (i j k w : Nat) (h : eventKey (key i j) = true) : (d.bumpBy i j k w).bare = d.bare := Dev.put_bare _ _ _ _ h

theorem eventKey_event (e : Nat) (h : e < 255) : eventKey (key 0x2202 (e + 1)) = true := by
  have : key 0x2202 (e + 1) / 256 = 0x2202 := by simp only [key]; omega
  simp [eventKey, this]

/-- A record says the same whatever overrun count it carries. -/
theorem EventRec.says_overrun {r : EventRec} {l e m u x : Nat} (n : Nat) (h : r.says l e m u x) :
    EventRec.says { r with overrun := n } l e m u x := h

/-- A change of records that leaves all but their overrun counts. -/
def Dev.restamps (g : EventRec → EventRec) : Prop := ∀ r, ∃ n, g r = { r with overrun := n }

theorem Dev.restamps.says {g : EventRec → EventRec} (hg : Dev.restamps g) {r : EventRec} {l e m u x : Nat} (h : r.says l e m u x) :
    (g r).says l e m u x := by
  obtain ⟨n, hn⟩ := hg r; rw [hn]; exact EventRec.says_overrun n h

/-- Restamping changes the overrun counts of logged and of waiting records alone. -/
theorem Dev.restamp_shape (d : Dev) : ∃ g : EventRec → EventRec, Dev.restamps g ∧
    d.restamp =
      { d with
        fl := { d.fl with log := d.fl.log.map g }
        com := { d.com with sess := d.com.sess.mapVal (fun _ x => { x with queue := x.queue.map (fun r => { r with overrun := d.cnt 0x1440 2 }) }) } } := by
  refine ⟨fun r => if d.com.sess.any (fun x => x.2.queue.contains r) then { r with overrun := d.cnt 0x1440 2 } else r, fun r => ?_, rfl⟩
  by_cases h : d.com.sess.any (fun x => x.2.queue.contains r)
  · exact ⟨_, if_pos h⟩
  · exact ⟨r.overrun, if_neg h⟩

/-- Everything that logging an event can do: one record more in the log, one more in the count, ALERT_N by its alert bit, the
event sessions' waiting records, the overrun counts of records, and event counters (R35, R70, R71, R421, R422). -/
theorem Dev.logEvent_shape (d : Dev) (l e m u x : Nat) :
    ∃ (r : EventRec) (g : EventRec → EventRec) (ss : Table Sess) (rs : Table Nat), r.says l e m u (x % 4294967296) ∧ Dev.restamps g ∧
      ss.mapVal (fun _ y => y.still) = d.com.sess.mapVal (fun _ y => y.still) ∧
      (e < 255 → rs.keep (fun k _ => !eventKey k) = d.dict.regs.keep (fun k _ => !eventKey k)) ∧
      d.logEvent l e m u x =
        { d with
          fl := { d.fl with log := ((r :: d.fl.log).take 1024).map g, top := d.fl.top + 1 }
          pins := { d.pins with alertN := d.pins.alertN || bit (d.g 0x2200 (e + 1)) 1 }
          com := { d.com with sess := ss }
          dict := { d.dict with regs := rs } } := by
  have hk (t : Table Nat) (v : Nat) (he : e < 255) :
      (t.set (key 0x2202 (e + 1)) v).keep (fun k _ => !eventKey k) = t.keep (fun k _ => !eventKey k) :=
    Table.keep_set _ _ _ _ (fun _ => by simp [eventKey_event e he])
  have ho (t : Table Nat) (v : Nat) :
      (t.set (key 0x1440 2) v).keep (fun k _ => !eventKey k) = t.keep (fun k _ => !eventKey k) :=
    Table.keep_set _ _ _ _ (fun _ => by decide)
  have hq : ((d.recordEvent l e m u x).com.sess).mapVal (fun _ y => y.still) = d.com.sess.mapVal (fun _ y => y.still) := by
    show Table.mapVal _ (if bit (d.g 0x2200 (e + 1)) 0 then d.com.sess.mapVal _ else d.com.sess) = _
    split
    · exact (Table.mapVal_mapVal _ _ _).trans (Table.mapVal_congr _ _ _ (fun _ y => y.enqueue_still _))
    · rfl
  have hd (n : Nat) (b : Bool) : ∃ g, Dev.restamps g ∧ ∃ (r : EventRec) (ss : Table Sess) (rs : Table Nat), r.says l e m u (x % 4294967296) ∧
      ss.mapVal (fun _ y => y.still) = d.com.sess.mapVal (fun _ y => y.still) ∧
      (e < 255 → rs.keep (fun k _ => !eventKey k) = d.dict.regs.keep (fun k _ => !eventKey k)) ∧
      (if b then d.recordEvent l e m u x else ((d.recordEvent l e m u x).bumpBy 0x1440 2 n).restamp) =
        { d with
          fl := { d.fl with log := ((r :: d.fl.log).take 1024).map g, top := d.fl.top + 1 }
          pins := { d.pins with alertN := d.pins.alertN || bit (d.g 0x2200 (e + 1)) 1 }
          com := { d.com with sess := ss }
          dict := { d.dict with regs := rs } } := by
    cases b
    · obtain ⟨g, hg, h⟩ := ((d.recordEvent l e m u x).bumpBy 0x1440 2 n).restamp_shape
      refine ⟨g, hg, EventRec.mk e l m u d.serviceNow (d.cnt 0x2015 (Dev.lowestBar m + 1)) (x % 4294967296) (d.cnt 0x1440 2), _, _,
        ⟨rfl, rfl, rfl, rfl, rfl⟩, ?_, ?_, h.trans rfl⟩
      · exact (Table.mapVal_mapVal _ _ _).trans hq
      · exact fun he => (ho _ _).trans (hk _ _ he)
    · refine ⟨id, fun r => ⟨r.overrun, rfl⟩,
        EventRec.mk e l m u d.serviceNow (d.cnt 0x2015 (Dev.lowestBar m + 1)) (x % 4294967296) (d.cnt 0x1440 2),
        (d.recordEvent l e m u x).com.sess, (d.recordEvent l e m u x).dict.regs,
        ⟨rfl, rfl, rfl, rfl, rfl⟩, hq, fun he => hk _ _ he, ?_⟩
      rw [List.map_id]; rfl
  obtain ⟨g, hg, r, ss, rs, h⟩ := hd (if bit (d.g 0x2200 (e + 1)) 0 then (d.com.sess.keysWhere (fun _ x => x.full)).length else 0)
    ((if bit (d.g 0x2200 (e + 1)) 0 then (d.com.sess.keysWhere (fun _ x => x.full)).length else 0) == 0)
  exact ⟨r, g, ss, rs, h.1, hg, h.2.1, h.2.2.1, h.2.2.2⟩

/-- A logged event leaves the bare device. -/
theorem Dev.logEvent_bare (d : Dev) (l e m u x : Nat) (h : e < 255) : (d.logEvent l e m u x).bare = d.bare := by
  obtain ⟨r, g, ss, rs, _, _, hs, hr, heq⟩ := d.logEvent_shape l e m u x
  rw [heq]; simp only [Dev.bare, Dev.body, hs, hr h]

/-- A raised event leaves the bare device. -/
theorem Dev.raiseAt_bare (d : Dev) (l e m u x : Nat) (h : e < 255) : (d.raiseAt l e m u x).bare = d.bare := by
  simp only [Dev.raiseAt]
  split
  · rw [Dev.logEvent_bare _ _ _ _ _ _ (by decide), Dev.logEvent_bare _ _ _ _ _ _ h]
  · rw [Dev.logEvent_bare _ _ _ _ _ _ h]

theorem Dev.raise_bare (d : Dev) (e m u x : Nat) (h : e < 255) : (d.raise e m u x).bare = d.bare := Dev.raiseAt_bare _ _ _ _ _ _ h

theorem Dev.logEvent_top (d : Dev) (l e m u x : Nat) : (d.logEvent l e m u x).fl.top = d.fl.top + 1 := by
  obtain ⟨_, _, _, _, _, _, _, _, heq⟩ := d.logEvent_shape l e m u x; rw [heq]

/-- A raised event is the newest record, or followed by EV_EVENT_OVERRUN only; the count of records has risen. -/
theorem Dev.raiseAt_logged (d : Dev) (l e m u x : Nat) :
    d.fl.top < (d.raiseAt l e m u x).fl.top ∧ ∃ r ∈ (d.raiseAt l e m u x).fl.log.take 2, r.says l e m u (x % 4294967296) := by
  simp only [Dev.raiseAt]
  obtain ⟨r, g, ss, rs, hs, hg, _, _, heq⟩ := d.logEvent_shape l e m u x
  split
  · obtain ⟨r', g', ss', rs', _, hg', _, _, heq'⟩ := (d.logEvent l e m u x).logEvent_shape 0x10 125 0 0xFF 0
    rw [Dev.logEvent_top, Dev.logEvent_top, heq', heq]
    exact ⟨by omega, g' (g r), by simp, hg'.says (hg.says hs)⟩
  · rw [Dev.logEvent_top, heq]
    exact ⟨by omega, g r, by simp, hg.says hs⟩

theorem Dev.raise_logged (d : Dev) (e m u x : Nat) :
    d.fl.top < (d.raise e m u x).fl.top ∧ ∃ r ∈ (d.raise e m u x).fl.log.take 2, r.says (evLevel e) e m u (x % 4294967296) :=
  d.raiseAt_logged (evLevel e) e m u x

/-! ### What raising an event never touches -/

@[simp] theorem Dev.logEvent_product (d : Dev) (l e m u x : Nat) : (d.logEvent l e m u x).product = d.product := by
  obtain ⟨_, _, _, _, _, _, _, _, h⟩ := d.logEvent_shape l e m u x; rw [h]
@[simp] theorem Dev.logEvent_t (d : Dev) (l e m u x : Nat) : (d.logEvent l e m u x).t = d.t := by
  obtain ⟨_, _, _, _, _, _, _, _, h⟩ := d.logEvent_shape l e m u x; rw [h]
@[simp] theorem Dev.logEvent_out (d : Dev) (l e m u x : Nat) : (d.logEvent l e m u x).out = d.out := by
  obtain ⟨_, _, _, _, _, _, _, _, h⟩ := d.logEvent_shape l e m u x; rw [h]
@[simp] theorem Dev.logEvent_free (d : Dev) (l e m u x : Nat) : (d.logEvent l e m u x).free = d.free := by
  obtain ⟨_, _, _, _, _, _, _, _, h⟩ := d.logEvent_shape l e m u x; rw [h]
@[simp] theorem Dev.logEvent_sys (d : Dev) (l e m u x : Nat) : (d.logEvent l e m u x).sys = d.sys := by
  obtain ⟨_, _, _, _, _, _, _, _, h⟩ := d.logEvent_shape l e m u x; rw [h]
@[simp] theorem Dev.logEvent_time (d : Dev) (l e m u x : Nat) : (d.logEvent l e m u x).time = d.time := by
  obtain ⟨_, _, _, _, _, _, _, _, h⟩ := d.logEvent_shape l e m u x; rw [h]
@[simp] theorem Dev.logEvent_print (d : Dev) (l e m u x : Nat) : (d.logEvent l e m u x).print = d.print := by
  obtain ⟨_, _, _, _, _, _, _, _, h⟩ := d.logEvent_shape l e m u x; rw [h]
@[simp] theorem Dev.logEvent_bars (d : Dev) (l e m u x : Nat) : (d.logEvent l e m u x).bars = d.bars := by
  obtain ⟨_, _, _, _, _, _, _, _, h⟩ := d.logEvent_shape l e m u x; rw [h]
@[simp] theorem Dev.logEvent_ctxs (d : Dev) (l e m u x : Nat) : (d.logEvent l e m u x).ctxs = d.ctxs := by
  obtain ⟨_, _, _, _, _, _, _, _, h⟩ := d.logEvent_shape l e m u x; rw [h]
@[simp] theorem Dev.logEvent_encs (d : Dev) (l e m u x : Nat) : (d.logEvent l e m u x).encs = d.encs := by
  obtain ⟨_, _, _, _, _, _, _, _, h⟩ := d.logEvent_shape l e m u x; rw [h]
@[simp] theorem Dev.logEvent_cmps (d : Dev) (l e m u x : Nat) : (d.logEvent l e m u x).cmps = d.cmps := by
  obtain ⟨_, _, _, _, _, _, _, _, h⟩ := d.logEvent_shape l e m u x; rw [h]
@[simp] theorem Dev.logEvent_reck (d : Dev) (l e m u x : Nat) : (d.logEvent l e m u x).reck = d.reck := by
  obtain ⟨_, _, _, _, _, _, _, _, h⟩ := d.logEvent_shape l e m u x; rw [h]
@[simp] theorem Dev.logEvent_jobs (d : Dev) (l e m u x : Nat) : (d.logEvent l e m u x).jobs = d.jobs := by
  obtain ⟨_, _, _, _, _, _, _, _, h⟩ := d.logEvent_shape l e m u x; rw [h]
@[simp] theorem Dev.logEvent_lanes (d : Dev) (l e m u x : Nat) : (d.logEvent l e m u x).lanes = d.lanes := by
  obtain ⟨_, _, _, _, _, _, _, _, h⟩ := d.logEvent_shape l e m u x; rw [h]
@[simp] theorem Dev.logEvent_cams (d : Dev) (l e m u x : Nat) : (d.logEvent l e m u x).cams = d.cams := by
  obtain ⟨_, _, _, _, _, _, _, _, h⟩ := d.logEvent_shape l e m u x; rw [h]
@[simp] theorem Dev.logEvent_keeper (d : Dev) (l e m u x : Nat) : (d.logEvent l e m u x).keeper = d.keeper := by
  obtain ⟨_, _, _, _, _, _, _, _, h⟩ := d.logEvent_shape l e m u x; rw [h]
@[simp] theorem Dev.logEvent_light (d : Dev) (l e m u x : Nat) : (d.logEvent l e m u x).light = d.light := by
  obtain ⟨_, _, _, _, _, _, _, _, h⟩ := d.logEvent_shape l e m u x; rw [h]
@[simp] theorem Dev.logEvent_mem (d : Dev) (l e m u x : Nat) : (d.logEvent l e m u x).mem = d.mem := by
  obtain ⟨_, _, _, _, _, _, _, _, h⟩ := d.logEvent_shape l e m u x; rw [h]
@[simp] theorem Dev.logEvent_twin (d : Dev) (l e m u x : Nat) : (d.logEvent l e m u x).twin = d.twin := by
  obtain ⟨_, _, _, _, _, _, _, _, h⟩ := d.logEvent_shape l e m u x; rw [h]
@[simp] theorem Dev.logEvent_therm (d : Dev) (l e m u x : Nat) : (d.logEvent l e m u x).therm = d.therm := by
  obtain ⟨_, _, _, _, _, _, _, _, h⟩ := d.logEvent_shape l e m u x; rw [h]
@[simp] theorem Dev.logEvent_cal (d : Dev) (l e m u x : Nat) : (d.logEvent l e m u x).cal = d.cal := by
  obtain ⟨_, _, _, _, _, _, _, _, h⟩ := d.logEvent_shape l e m u x; rw [h]
@[simp] theorem Dev.logEvent_nv (d : Dev) (l e m u x : Nat) : (d.logEvent l e m u x).nv = d.nv := by
  obtain ⟨_, _, _, _, _, _, _, _, h⟩ := d.logEvent_shape l e m u x; rw [h]
@[simp] theorem Dev.logEvent_tally (d : Dev) (l e m u x : Nat) : (d.logEvent l e m u x).tally = d.tally := by
  obtain ⟨_, _, _, _, _, _, _, _, h⟩ := d.logEvent_shape l e m u x; rw [h]
@[simp] theorem Dev.logEvent_saves (d : Dev) (l e m u x : Nat) : (d.logEvent l e m u x).saves = d.saves := by
  obtain ⟨_, _, _, _, _, _, _, _, h⟩ := d.logEvent_shape l e m u x; rw [h]
@[simp] theorem Dev.raiseAt_product (d : Dev) (l e m u x : Nat) : (d.raiseAt l e m u x).product = d.product := by
  simp only [Dev.raiseAt]; split <;> simp only [Dev.logEvent_product]
@[simp] theorem Dev.raiseAt_t (d : Dev) (l e m u x : Nat) : (d.raiseAt l e m u x).t = d.t := by
  simp only [Dev.raiseAt]; split <;> simp only [Dev.logEvent_t]
@[simp] theorem Dev.raiseAt_out (d : Dev) (l e m u x : Nat) : (d.raiseAt l e m u x).out = d.out := by
  simp only [Dev.raiseAt]; split <;> simp only [Dev.logEvent_out]
@[simp] theorem Dev.raiseAt_free (d : Dev) (l e m u x : Nat) : (d.raiseAt l e m u x).free = d.free := by
  simp only [Dev.raiseAt]; split <;> simp only [Dev.logEvent_free]
@[simp] theorem Dev.raiseAt_sys (d : Dev) (l e m u x : Nat) : (d.raiseAt l e m u x).sys = d.sys := by
  simp only [Dev.raiseAt]; split <;> simp only [Dev.logEvent_sys]
@[simp] theorem Dev.raiseAt_time (d : Dev) (l e m u x : Nat) : (d.raiseAt l e m u x).time = d.time := by
  simp only [Dev.raiseAt]; split <;> simp only [Dev.logEvent_time]
@[simp] theorem Dev.raiseAt_print (d : Dev) (l e m u x : Nat) : (d.raiseAt l e m u x).print = d.print := by
  simp only [Dev.raiseAt]; split <;> simp only [Dev.logEvent_print]
@[simp] theorem Dev.raiseAt_bars (d : Dev) (l e m u x : Nat) : (d.raiseAt l e m u x).bars = d.bars := by
  simp only [Dev.raiseAt]; split <;> simp only [Dev.logEvent_bars]
@[simp] theorem Dev.raiseAt_ctxs (d : Dev) (l e m u x : Nat) : (d.raiseAt l e m u x).ctxs = d.ctxs := by
  simp only [Dev.raiseAt]; split <;> simp only [Dev.logEvent_ctxs]
@[simp] theorem Dev.raiseAt_encs (d : Dev) (l e m u x : Nat) : (d.raiseAt l e m u x).encs = d.encs := by
  simp only [Dev.raiseAt]; split <;> simp only [Dev.logEvent_encs]
@[simp] theorem Dev.raiseAt_cmps (d : Dev) (l e m u x : Nat) : (d.raiseAt l e m u x).cmps = d.cmps := by
  simp only [Dev.raiseAt]; split <;> simp only [Dev.logEvent_cmps]
@[simp] theorem Dev.raiseAt_reck (d : Dev) (l e m u x : Nat) : (d.raiseAt l e m u x).reck = d.reck := by
  simp only [Dev.raiseAt]; split <;> simp only [Dev.logEvent_reck]
@[simp] theorem Dev.raiseAt_jobs (d : Dev) (l e m u x : Nat) : (d.raiseAt l e m u x).jobs = d.jobs := by
  simp only [Dev.raiseAt]; split <;> simp only [Dev.logEvent_jobs]
@[simp] theorem Dev.raiseAt_lanes (d : Dev) (l e m u x : Nat) : (d.raiseAt l e m u x).lanes = d.lanes := by
  simp only [Dev.raiseAt]; split <;> simp only [Dev.logEvent_lanes]
@[simp] theorem Dev.raiseAt_cams (d : Dev) (l e m u x : Nat) : (d.raiseAt l e m u x).cams = d.cams := by
  simp only [Dev.raiseAt]; split <;> simp only [Dev.logEvent_cams]
@[simp] theorem Dev.raiseAt_keeper (d : Dev) (l e m u x : Nat) : (d.raiseAt l e m u x).keeper = d.keeper := by
  simp only [Dev.raiseAt]; split <;> simp only [Dev.logEvent_keeper]
@[simp] theorem Dev.raiseAt_light (d : Dev) (l e m u x : Nat) : (d.raiseAt l e m u x).light = d.light := by
  simp only [Dev.raiseAt]; split <;> simp only [Dev.logEvent_light]
@[simp] theorem Dev.raiseAt_mem (d : Dev) (l e m u x : Nat) : (d.raiseAt l e m u x).mem = d.mem := by
  simp only [Dev.raiseAt]; split <;> simp only [Dev.logEvent_mem]
@[simp] theorem Dev.raiseAt_twin (d : Dev) (l e m u x : Nat) : (d.raiseAt l e m u x).twin = d.twin := by
  simp only [Dev.raiseAt]; split <;> simp only [Dev.logEvent_twin]
@[simp] theorem Dev.raiseAt_therm (d : Dev) (l e m u x : Nat) : (d.raiseAt l e m u x).therm = d.therm := by
  simp only [Dev.raiseAt]; split <;> simp only [Dev.logEvent_therm]
@[simp] theorem Dev.raiseAt_cal (d : Dev) (l e m u x : Nat) : (d.raiseAt l e m u x).cal = d.cal := by
  simp only [Dev.raiseAt]; split <;> simp only [Dev.logEvent_cal]
@[simp] theorem Dev.raiseAt_nv (d : Dev) (l e m u x : Nat) : (d.raiseAt l e m u x).nv = d.nv := by
  simp only [Dev.raiseAt]; split <;> simp only [Dev.logEvent_nv]
@[simp] theorem Dev.raiseAt_tally (d : Dev) (l e m u x : Nat) : (d.raiseAt l e m u x).tally = d.tally := by
  simp only [Dev.raiseAt]; split <;> simp only [Dev.logEvent_tally]
@[simp] theorem Dev.raiseAt_saves (d : Dev) (l e m u x : Nat) : (d.raiseAt l e m u x).saves = d.saves := by
  simp only [Dev.raiseAt]; split <;> simp only [Dev.logEvent_saves]
@[simp] theorem Dev.raise_product (d : Dev) (e m u x : Nat) : (d.raise e m u x).product = d.product := d.raiseAt_product _ _ _ _ _
@[simp] theorem Dev.raise_t (d : Dev) (e m u x : Nat) : (d.raise e m u x).t = d.t := d.raiseAt_t _ _ _ _ _
@[simp] theorem Dev.raise_out (d : Dev) (e m u x : Nat) : (d.raise e m u x).out = d.out := d.raiseAt_out _ _ _ _ _
@[simp] theorem Dev.raise_free (d : Dev) (e m u x : Nat) : (d.raise e m u x).free = d.free := d.raiseAt_free _ _ _ _ _
@[simp] theorem Dev.raise_sys (d : Dev) (e m u x : Nat) : (d.raise e m u x).sys = d.sys := d.raiseAt_sys _ _ _ _ _
@[simp] theorem Dev.raise_time (d : Dev) (e m u x : Nat) : (d.raise e m u x).time = d.time := d.raiseAt_time _ _ _ _ _
@[simp] theorem Dev.raise_print (d : Dev) (e m u x : Nat) : (d.raise e m u x).print = d.print := d.raiseAt_print _ _ _ _ _
@[simp] theorem Dev.raise_bars (d : Dev) (e m u x : Nat) : (d.raise e m u x).bars = d.bars := d.raiseAt_bars _ _ _ _ _
@[simp] theorem Dev.raise_ctxs (d : Dev) (e m u x : Nat) : (d.raise e m u x).ctxs = d.ctxs := d.raiseAt_ctxs _ _ _ _ _
@[simp] theorem Dev.raise_encs (d : Dev) (e m u x : Nat) : (d.raise e m u x).encs = d.encs := d.raiseAt_encs _ _ _ _ _
@[simp] theorem Dev.raise_cmps (d : Dev) (e m u x : Nat) : (d.raise e m u x).cmps = d.cmps := d.raiseAt_cmps _ _ _ _ _
@[simp] theorem Dev.raise_reck (d : Dev) (e m u x : Nat) : (d.raise e m u x).reck = d.reck := d.raiseAt_reck _ _ _ _ _
@[simp] theorem Dev.raise_jobs (d : Dev) (e m u x : Nat) : (d.raise e m u x).jobs = d.jobs := d.raiseAt_jobs _ _ _ _ _
@[simp] theorem Dev.raise_lanes (d : Dev) (e m u x : Nat) : (d.raise e m u x).lanes = d.lanes := d.raiseAt_lanes _ _ _ _ _
@[simp] theorem Dev.raise_cams (d : Dev) (e m u x : Nat) : (d.raise e m u x).cams = d.cams := d.raiseAt_cams _ _ _ _ _
@[simp] theorem Dev.raise_keeper (d : Dev) (e m u x : Nat) : (d.raise e m u x).keeper = d.keeper := d.raiseAt_keeper _ _ _ _ _
@[simp] theorem Dev.raise_light (d : Dev) (e m u x : Nat) : (d.raise e m u x).light = d.light := d.raiseAt_light _ _ _ _ _
@[simp] theorem Dev.raise_mem (d : Dev) (e m u x : Nat) : (d.raise e m u x).mem = d.mem := d.raiseAt_mem _ _ _ _ _
@[simp] theorem Dev.raise_twin (d : Dev) (e m u x : Nat) : (d.raise e m u x).twin = d.twin := d.raiseAt_twin _ _ _ _ _
@[simp] theorem Dev.raise_therm (d : Dev) (e m u x : Nat) : (d.raise e m u x).therm = d.therm := d.raiseAt_therm _ _ _ _ _
@[simp] theorem Dev.raise_cal (d : Dev) (e m u x : Nat) : (d.raise e m u x).cal = d.cal := d.raiseAt_cal _ _ _ _ _
@[simp] theorem Dev.raise_nv (d : Dev) (e m u x : Nat) : (d.raise e m u x).nv = d.nv := d.raiseAt_nv _ _ _ _ _
@[simp] theorem Dev.raise_tally (d : Dev) (e m u x : Nat) : (d.raise e m u x).tally = d.tally := d.raiseAt_tally _ _ _ _ _
@[simp] theorem Dev.raise_saves (d : Dev) (e m u x : Nat) : (d.raise e m u x).saves = d.saves := d.raiseAt_saves _ _ _ _ _

/-! ### Ways to show what a command answers -/

/-- What waiting records leave as are EVENT messages. -/
theorem Sess.sendEvents_isEvent (f : Nat) (x : Sess) : ∀ o ∈ (x.sendEvents f).2, o.isEvent = true := by
  induction f generalizing x with
  | zero => simp [Sess.sendEvents]
  | succ f ih =>
    simp only [Sess.sendEvents]
    split
    · simp
    · intro o ho
      rcases List.mem_cons.mp ho with rfl | ho
      · rfl
      · exact ih _ o ho

theorem Dev.sendWaiting_isEvent (d : Dev) (x : Sess) : ∀ o ∈ (d.sendWaiting x).2, o.isEvent = true := by
  simp only [Dev.sendWaiting]; split
  · simp
  · exact Sess.sendEvents_isEvent 21 x

/-- Sending the waiting records adds EVENT messages only. -/
theorem told_flush (s : State) (d : Dev) : Told d { s with dev := d.flush } := by
  refine ⟨_, rfl, fun o ho => ?_⟩
  obtain ⟨x, _, hx⟩ := List.mem_flatMap.mp ho
  exact d.sendWaiting_isEvent x.2 o hx

theorem Told.of_out {d e : Dev} {t : State} (h : Told d t) (ho : d.out = e.out) : Told e t := by
  obtain ⟨l, h1, h2⟩ := h; exact ⟨l, ho ▸ h1, h2⟩

/-- A command that answers `s.done d` makes `d`. -/
theorem Makes.of_done {i : Instr} {s : State} {d e : Dev} (h : exec i s = s.done d) (hb : d.body = e.body) (ho : d.out = e.out) :
    Makes i s e :=
  ⟨_, h, ⟨rfl, rfl, rfl⟩, by simpa using hb, (told_flush s d).of_out ho⟩

theorem Makes.done {i : Instr} {s : State} {d : Dev} (h : exec i s = s.done d) : Makes i s d := .of_done h rfl rfl

/-- A command that answers with an event raised last reports it. -/
theorem Reports.of_raiseAt {i : Instr} {s : State} {d e : Dev} {l n m u x y : Nat} (h : exec i s = s.done (d.raiseAt l n m u x))
    (hb : d.bare = e.bare) (ho : d.out = e.out) (ht : s.dev.fl.top ≤ d.fl.top) (hy : y = x % 4294967296) (hn : n < 255) :
    Reports i s e l n m u y := by
  refine ⟨_, h, ⟨rfl, rfl, rfl⟩, ?_, (told_flush s _).of_out (by simpa using ho), ?_⟩
  · simp only [Dev.flush_bare, Dev.raiseAt_bare _ _ _ _ _ _ hn, hb]
  · obtain ⟨h1, h2⟩ := d.raiseAt_logged l n m u x
    subst hy
    exact ⟨by simp only [Dev.flush_fl]; omega, by simpa using h2⟩

theorem Reports.of_raise {i : Instr} {s : State} {d e : Dev} {n m u x y : Nat} (h : exec i s = s.done (d.raise n m u x))
    (hb : d.bare = e.bare) (ho : d.out = e.out) (ht : s.dev.fl.top ≤ d.fl.top) (hy : y = x % 4294967296) (hn : n < 255) :
    Reports i s e (evLevel n) n m u y := .of_raiseAt h hb ho ht hy hn

/-- A command whose last record is the event, whatever it changed after raising it. -/
theorem Reports.of_raised {i : Instr} {s : State} {d d0 e : Dev} {l n m u x y : Nat} (h : exec i s = s.done d)
    (hfl : d.fl = (d0.raiseAt l n m u x).fl) (hb : d.bare = e.bare) (ho : d.out = e.out) (ht : s.dev.fl.top ≤ d0.fl.top)
    (hy : y = x % 4294967296) : Reports i s e l n m u y := by
  refine ⟨_, h, ⟨rfl, rfl, rfl⟩, ?_, (told_flush s _).of_out (by simpa using ho), ?_⟩
  · simp only [Dev.flush_bare, hb]
  · obtain ⟨h1, h2⟩ := d0.raiseAt_logged l n m u x
    subst hy
    rw [← hfl] at h1 h2
    exact ⟨by simp only [Dev.flush_fl]; omega, by simpa using h2⟩

theorem Dev.onPd_bare (d : Dev) (f : Pd → Pd) : (d.onPd f).bare = d.bare.onPd f := rfl
@[simp] theorem Dev.onPd_fl (d : Dev) (f : Pd → Pd) : (d.onPd f).fl = d.fl := rfl
@[simp] theorem Dev.onPd_out (d : Dev) (f : Pd → Pd) : (d.onPd f).out = d.out := rfl

/-- A counter below its largest value steps by one. -/
theorem Dev.bump_eq (d : Dev) (i j : Nat) (h : d.cnt i j + 1 < 2 ^ 32) : d.bump i j = d.put i j (d.cnt i j + 1) := by
  simp only [Dev.bump, Dev.bumpBy, if_pos h]

end Sys2Proof.Machine
end

