-- ==== Sys2Proof/Laws/Request.lean ====
section
/-! SUPPORT. What a host write and a COT message come to: granted, refused for the state, answered BUSY, or dropped. -/
namespace Sys2Proof.Machine

open Sys2Proof

@[simp] theorem State.begin_session? (s : State) (k : Nat) : s.begin_.session? k = s.dev.session? k := rfl
@[simp] theorem State.begin_serves (s : State) (v : Nat) : s.begin_.serves v = s.dev.serves v := rfl
@[simp] theorem State.begin_gated (s : State) (i : Nat) : s.begin_.gated i = s.dev.gated i := rfl
@[simp] theorem State.begin_served (s : State) (x : Sess) (i : Nat) : s.begin_.served x i = s.dev.served x i := rfl
@[simp] theorem State.begin_g (s : State) (i j : Nat) : s.begin_.g i j = s.dev.g i j := rfl
@[simp] theorem State.begin_cnt (s : State) (i j : Nat) : s.begin_.cnt i j = s.dev.cnt i j := rfl

/-- A served host write is made, and answered with its code. -/
theorem hostWrite_granted {s : State} {sess idx : Nat} (w : Dev → Dev × Nat) (h : s.Serves sess idx) :
    s.hostWrite sess idx w = s.done ((w s.begin_).1.emit (.answer sess (w s.begin_).2)) := by
  obtain ⟨x, hx, hp, hv, ho, hg, hs⟩ := h
  simp [State.hostWrite, Dev.request, hx, hp, hv, ho, hg, hs]

/-- While a long operation runs, a host write is answered BUSY and changes nothing (R55). -/
theorem hostWrite_busy {s : State} {sess idx : Nat} (w : Dev → Dev × Nat) {x : Sess} (hx : s.dev.session? sess = some x)
    (hp : x.port = 0) (hv : s.dev.serves x.via = true) (ho : s.dev.com.op ≠ none) :
    s.hostWrite sess idx w = s.done (s.begin_.emit (.answer sess 0x0F000010)) := by
  cases hop : s.dev.com.op with
  | none => exact absurd hop ho
  | some o => simp [State.hostWrite, Dev.request, hx, hp, hv, hop]

/-- A host write that the state or recovery service keeps back is answered 0x0800_0022 and changes nothing (R456, R464). -/
theorem hostWrite_gated {s : State} {sess idx : Nat} (w : Dev → Dev × Nat) {x : Sess} (hx : s.dev.session? sess = some x)
    (hp : x.port = 0) (hv : s.dev.serves x.via = true) (ho : s.dev.com.op = none)
    (hg : s.dev.gated idx = true ∨ s.dev.served x idx = false) :
    s.hostWrite sess idx w = s.done (s.begin_.emit (.answer sess 0x08000022)) := by
  rcases hg with hg | hg <;> simp [State.hostWrite, Dev.request, hx, hp, hv, ho, hg]

/-- A granted write that raises nothing: its answer and its device. -/
theorem Answers.of_hostWrite {i : Instr} {s : State} {sess idx code : Nat} {w : Dev → Dev × Nat} {d : Dev} (hs : s.Serves sess idx)
    (he : exec i s = s.hostWrite sess idx w) (hw : w s.begin_ = (d, code)) : Answers i s sess code d := by
  refine Makes.done (he.trans ((hostWrite_granted w hs).trans ?_))
  rw [hw]

/-- A granted write that raises an event last. -/
theorem AnswersReporting.of_hostWrite {i : Instr} {s : State} {sess idx code : Nat} {w : Dev → Dev × Nat} {d e : Dev} {l n m u x y : Nat}
    (hs : s.Serves sess idx) (he : exec i s = s.hostWrite sess idx w) (hw : w s.begin_ = (e.raiseAt l n m u x, code))
    (hb : e.bare = d.bare) (ho : e.out = d.out) (ht : s.dev.fl.top ≤ e.fl.top) (hy : y = x % 4294967296) (hn : n < 255) :
    AnswersReporting i s sess code d l n m u y := by
  refine ⟨_, he.trans (hostWrite_granted w hs), ⟨rfl, rfl, rfl⟩, ?_, (told_flush s _).of_out ?_, ?_⟩
  · simp only [hw, Dev.flush_bare, Dev.emit_bare, Dev.raiseAt_bare _ _ _ _ _ _ hn, hb]
  · simp only [hw, Dev.emit_out, Dev.raiseAt_out, ho]
  · obtain ⟨h1, h2⟩ := e.raiseAt_logged l n m u x
    subst hy
    exact ⟨by simp only [hw, Dev.flush_fl, Dev.emit_fl]; omega, by simpa [hw] using h2⟩

/-- A message on a transport that is not served does nothing (R456). -/
theorem serve_unserved {s : State} {m : Dgram} (h : s.dev.deaf (viaCode m.via) = true) : s.serve m = s.done s.begin_ := by
  have h' : s.begin_.deaf (viaCode m.via) = true := h
  simp only [State.serve, State.receive, h', if_true, State.sdoDev]
  rfl

/-- A message that fails a check of R38 is counted and does nothing else. -/
theorem serve_dropped {s : State} {m : Dgram} (hd : s.dev.deaf (viaCode m.via) = false)
    (h : headerOk m = false ∨ s.dev.allowed (viaCode m.via) m.src = false ∨ s.dev.authentic m = false) :
    s.serve m = s.done (s.begin_.dropMsg (viaCode m.via)) := by
  have hd' : s.begin_.deaf (viaCode m.via) = false := hd
  have h' : (!headerOk m || !s.begin_.allowed (viaCode m.via) m.src || !s.begin_.authentic m) = true := by
    have ha : s.begin_.allowed (viaCode m.via) m.src = s.dev.allowed (viaCode m.via) m.src := rfl
    have hu : s.begin_.authentic m = s.dev.authentic m := rfl
    rw [ha, hu]
    rcases h with h | h | h <;> simp [h]
  simp only [State.serve, State.receive, hd', h', if_true, State.sdoDev]
  rfl

/-- An admitted message is served by its TYPE. -/
theorem receive_admitted {s : State} {m : Dgram} (h : s.dev.admits m) :
    s.receive m = (if m.typ == 1 then s.sdoDev (if bit m.flags 3 then s.dev.openBind m else s.dev.openNew m, [])
      else if m.typ == 0x42 then s.sdoDev (s.dev.gotWake m, [])
      else if decide (0x40 ≤ m.typ) then s.sdoDev (s.dev.gotPair m, [])
      else match s.dev.sessionOf m with
        | none => s.sdoDev (s.dev.dropMsg (viaCode m.via), [])
        | some x => if m.typ == 0x10 then s.gotSdo m x else s.sdoDev (s.dev.inSession m x, [])) := by
  obtain ⟨h1, h2, h3, h4⟩ := h
  simp only [State.receive, h1, h2, h3, h4]
  simp <;> rfl

/-- An SDO request that is asked now is carried out and answered (R44). -/
theorem serve_sdo {s : State} {m : Dgram} {x : Sess} (h : s.Asks m x) :
    s.serve m =
      (let r := ({ s with dev := s.begin_ } : State).sdo x m.payload
       let d := r.state.dev.answered m x r.answers
       if r.restart then .next ({ r.state with dev := d }.restart d 3) else ({ r.state with dev := d } : State).sent) := by
  obtain ⟨ha, ht, hs, hq, hn, ho⟩ := h
  have hs' : s.begin_.sessionOf m = some x := hs
  have hq' : (m.seq == x.rxSeq && x.cached.isSome) = false := by
    rcases hq with h | h <;> simp [h]
  simp only [State.serve]
  rw [receive_admitted (s := { s with dev := s.begin_ }) ha]
  have ho' : s.begin_.com.op = none := ho
  simp only [ht, hs', State.gotSdo, hq', hn, ho', Option.isSome_none, Bool.false_or]
  rfl

end Sys2Proof.Machine
end

