-- ==== Sys2Proof/Laws/Whole.lean ====
section
/-! SUPPORT. What the shared shapes of a command's answer do to the clock, the DRAM pages and the queue. -/
namespace Sys2Proof.Machine

open Sys2Proof

/-- A command that answers `s.done d` touches nothing but the device. -/
theorem done_still (s : State) (d : Dev) : ∃ t, s.done d = .next t ∧ Still s t := ⟨_, rfl, rfl, rfl, rfl⟩

theorem hostWrite_still (s : State) (sess idx : Nat) (w : Dev → Dev × Nat) : ∃ t, s.hostWrite sess idx w = .next t ∧ Still s t :=
  done_still s _

theorem sent_still (s : State) : ∃ t, s.sent = .next t ∧ Still s t := ⟨_, rfl, rfl, rfl, rfl⟩

/-- A restart forms DRAM anew and leaves the clock and the queue. -/
theorem restart_dram (s : State) (d : Dev) (k : Nat) : (s.restart d k).dram = [] := rfl

theorem Still.trans {s t u : State} (h : Still s t) (g : Still t u) : Still s u :=
  ⟨g.1.trans h.1, g.2.1.trans h.2.1, g.2.2.trans h.2.2⟩

theorem still_dev (s : State) (d : Dev) : Still s { s with dev := d } := ⟨rfl, rfl, rfl⟩

/-- A write of one object, REBOOT's restart apart, touches nothing but the device. -/
theorem write_still (s : State) (x : Sess) (idx sub : Nat) (b : Bytes) : Still s (s.write x idx sub b).1 := by
  simp only [State.write]
  split
  · split
    · exact ⟨rfl, rfl, rfl⟩
    · split
      · exact remap_still s _
      · exact ⟨rfl, rfl, rfl⟩
  · exact ⟨rfl, rfl, rfl⟩

/-- A result that leaves the clock, DRAM and the queue. -/
def SdoResult.still (s : State) (r : SdoResult) : Prop := Still s r.state

theorem sdoDev_still (s : State) (r : Dev × List Bytes) : (s.sdoDev r).still s := ⟨rfl, rfl, rfl⟩

theorem sdoWrite_still (s : State) (x : Sess) (idx sub : Nat) (b ok : Bytes) : (s.sdoWrite x idx sub b ok).still s := by
  simp only [State.sdoWrite, SdoResult.still]
  have h := write_still s x idx sub b
  repeat' split
  all_goals exact h

theorem sdo_still (s : State) (x : Sess) (p : Bytes) : (s.sdo x p).still s := by
  have hd (d : Dev) (idx sub : Nat) (b ok : Bytes) : (({ s with dev := d } : State).sdoWrite x idx sub b ok).still s :=
    Still.trans (still_dev s d) (sdoWrite_still { s with dev := d } x idx sub b ok)
  simp only [State.sdo]
  split
  · exact sdoDev_still _ _
  · split
    all_goals first
      | exact sdoDev_still _ _
      | (simp only [State.expedited]; split <;> first | exact sdoDev_still _ _ | exact sdoWrite_still _ _ _ _ _ _)
      | (simp only [State.segment]; repeat' split) <;> first | exact sdoDev_still _ _ | exact hd _ _ _ _ _
      | (simp only [State.blkDownEnd]; repeat' split) <;> first | exact sdoDev_still _ _ | exact hd _ _ _ _ _

theorem receive_still (s : State) (m : Dgram) : (s.receive m).still s := by
  simp only [State.receive, State.gotSdo]
  repeat' split
  all_goals first
    | exact sdoDev_still _ _
    | exact sdo_still s _ _

/-- A message that arrives touches nothing but the device, unless it is REBOOT, which forms DRAM anew. -/
theorem serve_paged (s : State) (m : Dgram) : ∃ t, s.serve m = .next t ∧ t.now = s.now ∧ t.pending = s.pending ∧ (t.dram = s.dram ∨ t.dram = []) := by
  have h := receive_still { s with dev := s.begin_ } m
  simp only [State.serve]
  split
  · exact ⟨_, rfl, h.1, h.2.2, .inr rfl⟩
  · exact ⟨_, rfl, h.1, h.2.2, .inl h.2.1⟩

theorem doorbell_paged (s : State) (n : Nat) (m : Dgram) :
    ∃ t, s.doorbell n m = .next t ∧ t.now = s.now ∧ t.pending = s.pending ∧ (t.dram = s.dram ∨ t.dram = []) := by
  simp only [State.doorbell]
  repeat' split
  · exact ⟨_, rfl, rfl, rfl, .inl rfl⟩
  · exact ⟨_, rfl, rfl, rfl, .inl rfl⟩
  · exact serve_paged { s with dev := s.dev.emptyIn } _

theorem pcie_paged (r : PcieReq) (s : State) :
    ∃ t, execPcieConfigRequest r s = .next t ∧ t.now = s.now ∧ t.pending = s.pending ∧
      (t.dram = s.dram ∨ (t.dram = [] ∧ ∃ off b, r = .barWrite off b)) := by
  cases r
  case barWrite off b =>
    simp only [execPcieConfigRequest]
    split
    · obtain ⟨t, h1, h2, h3, h4⟩ := doorbell_paged s (leNat (Dev.winGet s.begin_.jobs.mbIn 0 4)) s.begin_.windowMsg
      exact ⟨t, h1, h2, h3, h4.imp id fun h => ⟨h, off, b, rfl⟩⟩
    · exact ⟨_, rfl, rfl, rfl, .inl rfl⟩
  all_goals exact ⟨_, rfl, rfl, rfl, .inl rfl⟩

theorem hostObject_paged (s : State) (sess idx sub : Nat) (b : Bytes) :
    ∃ t, s.hostObject sess idx sub b = .next t ∧ t.now = s.now ∧ t.pending = s.pending ∧ (t.dram = s.dram ∨ (t.dram = [] ∧ idx = 0x2000)) := by
  simp only [State.hostObject]
  split
  · exact ⟨_, rfl, rfl, rfl, .inl rfl⟩
  · split
    · exact ⟨_, rfl, rfl, rfl, .inl rfl⟩
    · split
      · exact ⟨_, rfl, rfl, rfl, .inl rfl⟩
      · rename_i x _ _ _
        obtain ⟨h1, h2, h3⟩ := write_still { s with dev := s.begin_ } x idx sub b
        split
        · rename_i hr
          refine ⟨_, rfl, h1, h3, .inr ⟨rfl, ?_⟩⟩
          simp only [Dev.reboots, Bool.and_eq_true, beq_iff_eq] at hr
          exact hr.1.1.1
        · exact ⟨_, rfl, h1, h3, .inl h2⟩

/-- The page rows: a fault beyond the usable capacity, else a next state that keeps what page operations keep. -/
theorem pageRead_paged (port addr : Nat) (u : PageAsk) (s : State) :
    (s.dev.usable_ ≤ addr ∧ execPageRead port addr u s = .fault (.noSuchPage addr)) ∨
      ∃ t, execPageRead port addr u s = .next t ∧ Paged s t := by
  have h0 : Paged s { s with dev := s.begin_.overdue port u.age } := (Paged.refl s).dev _
  simp only [execPageRead]
  split
  · rename_i h; exact .inl ⟨of_decide_eq_true h, rfl⟩
  · exact .inr ⟨_, rfl, (((h0.access _ u.user false).onDev _)).dev _⟩

theorem pageWrite_paged (addr : Nat) (b : Bytes) (s : State) :
    (s.dev.usable_ ≤ addr ∧ execPageWrite addr b s = .fault (.noSuchPage addr)) ∨
      ∃ t, execPageWrite addr b s = .next t ∧ Paged s t := by
  have h0 : Paged s { s with dev := s.begin_ } := (Paged.refl s).dev _
  simp only [execPageWrite]
  split
  · rename_i h; exact .inl ⟨of_decide_eq_true h, rfl⟩
  · exact .inr ⟨_, rfl, (h0.write _ _).dev _⟩

theorem partialWrite_paged (addr off : Nat) (b : Bytes) (s : State) :
    (s.dev.usable_ ≤ addr ∧ execPartialWrite addr off b s = .fault (.noSuchPage addr)) ∨
      ∃ t, execPartialWrite addr off b s = .next t ∧ Paged s t := by
  have h0 : Paged s { s with dev := s.begin_ } := (Paged.refl s).dev _
  simp only [execPartialWrite]
  split
  · rename_i h; exact .inl ⟨of_decide_eq_true h, rfl⟩
  · exact .inr ⟨_, rfl, (h0.merge _ _ _).dev _⟩

theorem scrubRead_paged (sub : Fin 4) (u : PageUser) (s : State) : ∃ t, execScrubRead sub u s = .next t ∧ Paged s t := by
  have h0 : Paged s { s with dev := s.begin_ } := (Paged.refl s).dev _
  simp only [execScrubRead]
  split
  · exact ⟨_, rfl, h0.dev _⟩
  · exact ⟨_, rfl, ((((h0.scrub _ u).onDev _).still (lapEnd_still _))).dev _⟩

end Sys2Proof.Machine
end

