-- ==== Sys2Proof/WellFormed.lean ====
section
/-! DEFINITION. Which commands are well formed: every operand within the width that its message, register or pin gives it. -/
namespace Sys2Proof

/-- `x` fits `k` bits. -/
def fits (k x : Nat) : Bool := decide (x < 2 ^ k)

/-- The header fields of a COT message at their widths (Table 2.2), its UDP port and source address. -/
def Dgram.wf (d : Dgram) : Bool :=
  fits 16 d.udpPort && fits 32 d.src && fits 16 d.proto && fits 8 d.version && fits 8 d.typ && fits 16 d.session && fits 16 d.flags &&
    fits 32 d.seq && fits 16 d.len && fits 16 d.reserved

/-- The fields of a DMA descriptor at their widths (Table 4.5). -/
def Desc.wf (d : Desc) : Bool := fits 64 d.hostAddr && fits 32 d.length && fits 8 d.op && fits 8 d.kind && fits 64 d.tag && fits 64 d.arg

/-- The fields of a tile frame header at their widths (Table 4.10). -/
def FrameHdr.wf (h : FrameHdr) : Bool :=
  fits 8 h.version && fits 8 h.kind && fits 16 h.flags && fits 64 h.tileId && fits 16 h.lines && fits 16 h.columns && fits 8 h.sampleBits &&
    fits 8 h.channels && fits 32 h.ulen && fits 32 h.clen && fits 32 h.crc

/-- The fields of an IDENT (Table 16.4). -/
def Ident.wf (i : Ident) : Bool :=
  fits 32 i.product && fits 32 i.revision && fits 32 i.serial && fits 8 i.mode && fits 8 i.position && fits 8 i.state

/-- The adoption values of R385: eight bars, contexts by bar, six cameras, eight light groups. -/
def Adopt.wf (a : Adopt) : Bool :=
  fits 64 a.repeatNo && a.contexts.length == 8 && a.epochs.length == 8 && a.camGens.length == 6 && a.ledTrims.length == 8 && a.acks.length == 5 &&
    fits 8 a.overspeedMask && fits 8 a.altMask && a.counts.all (fun x => fits 8 x.1 && fits 64 x.2)

/-- A decision's kind is one of Table 16.5. -/
def DecisionMsg.wf (m : DecisionMsg) : Bool := decide (1 ≤ m.kind ∧ m.kind ≤ 15) && fits 8 m.barMask && fits 64 m.repeatNo

/-- Every operand of a command fits its field. -/
def Instr.wf : Instr → Bool
  | .open_ d => d.wf
  | .close d => d.wf
  | .sessionIdleTimeout sess => fits 16 sess
  | .expeditedDownload d => d.wf
  | .segmentedDownloadInitiate d => d.wf
  | .downloadSegment d => d.wf
  | .uploadInitiate d => d.wf
  | .uploadSegmentRequest d => d.wf
  | .blockDownloadInitiate d => d.wf
  | .blockSegment d => d.wf
  | .blockDownloadEnd d => d.wf
  | .blockUploadInitiate d => d.wf
  | .blockUploadAcknowledge d => d.wf
  | .sdoAbort d => d.wf
  | .transferTimeout sess => fits 16 sess
  | .objectWrite sess index sub _ => fits 16 sess && fits 16 index && fits 8 sub
  | .groupCommit sess gg => fits 16 sess && fits 8 gg
  | .groupDiscard sess gg => fits 16 sess && fits 8 gg
  | .keySlotWrite sess _ key => fits 16 sess && key.length == 32
  | .ledgerSelect sess rep => fits 16 sess && fits 64 rep
  | .logSelect sess number => fits 16 sess && fits 32 number
  | .pdOut d => d.wf
  | .pdCycleInstant => true
  | .pdLoss => true
  | .flyingChangeRequest counter ctx atRepeat => fits 8 counter && fits 8 ctx && fits 64 atRepeat
  | .cancelRequest counter opId => fits 8 counter && fits 32 opId
  | .spoilRequest counter rep => fits 8 counter && fits 64 rep
  | .spliceRequest counter => fits 8 counter
  | .eventAck d => d.wf
  | .eventResend slot => decide (1 ≤ slot ∧ slot ≤ 7)
  | .arm sess ctx => fits 16 sess && fits 8 ctx
  | .armComplete _ => true
  | .discard sess ctx => fits 16 sess && fits 8 ctx
  | .unarm sess ctx => fits 16 sess && fits 8 ctx
  | .release sess ctx => fits 16 sess && fits 8 ctx
  | .abort sess ctx => fits 16 sess && fits 8 ctx
  | .clone sess source target => fits 16 sess && fits 8 source && fits 8 target
  | .start sess => fits 16 sess
  | .stop sess => fits 16 sess
  | .stopNow sess => fits 16 sess
  | .stopNowTimeout => true
  | .changeLock => true
  | .renderLine _ => true
  | .sendLinePacket _ => true
  | .mbH2dDoorbell length d => fits 32 length && d.wf
  | .mbD2hAck => true
  | .qTailWrite _ tail => fits 32 tail
  | .queueEnable _ ringOrder _ => fits 4 ringOrder
  | .queueDisable _ => true
  | .queueRestart _ => true
  | .putFrame _ desc hdr payload => desc.wf && hdr.wf && payload.length == hdr.clen
  | .frameCheckDone _ => true
  | .frameCheckTimeout _ => true
  | .getExport _ desc => desc.wf
  | .freeFrame _ desc => desc.wf
  | .freeStream _ desc => desc.wf
  | .dmaTimeout _ desc => desc.wf
  | .dmaError _ desc => desc.wf
  | .exportResume _ => true
  | .exportTimeout _ => true
  | .domainLoad sess value => fits 16 sess && value.length == 12
  | .requestEntryFree _ => true
  | .encoderEdge _ (.raw _ _ _ n) => decide (0 < n)
  | .encoderEdge _ (.adc sin cos) => decide (-8192 ≤ sin ∧ sin < 8192 ∧ -8192 ≤ cos ∧ cos < 8192)
  | .encoderEdge _ _ => true
  | .indexEdge _ _ _ => true
  | .indexAbsent _ => true
  | .analogSignalFault _ ratio _ => fits 16 ratio
  | .signalFaultClear _ _ => true
  | .positionLost => true
  | .tinCapture _ _ => true
  | .captureRead sess _ => fits 16 sess
  | .compareDue _ entry => decide (entry < 1024)
  | .reckonerUpdate => true
  | .fireLine _ _ => true
  | .strobeWatchdog _ _ => true
  | .strobeFaultClear sess _ => fits 16 sess
  | .lanePllLoss => true
  | .laneTrained _ mask => fits 5 mask
  | .laneAttemptTimeout _ => true
  | .trainRetry _ => true
  | .rateSwitch _ openings => openings.length == 16
  | .laneVerified _ => true
  | .eyeScan openings => openings.all (fun o => decide (o.1 < 80) && fits 16 o.2.1 && fits 16 o.2.2)
  | .markSend _ => true
  | .blockLockLoss run => decide (run.invalid + run.unlisted ≤ 64)
  | .lossOfSignal _ => true
  | .relockTimeout _ => true
  | .retrainTimeout _ => true
  | .swapComplete _ readback => readback.all (fits 8)
  | .laneQualifyDone _ _ => true
  | .retrain sess lane => fits 16 sess && fits 8 lane
  | .loopback sess lane arg => fits 16 sess && fits 8 lane && fits 8 arg
  | .prbs sess lane arg => fits 16 sess && fits 8 lane && fits 8 arg
  | .bitslip sess lane => fits 16 sess && fits 8 lane
  | .protect sess lane logical => fits 16 sess && fits 8 lane && fits 8 logical
  | .requalify sess lane => fits 16 sess && fits 8 lane
  | .train _ payload => payload.length == 7
  | .credit _ acked window epoch => fits 40 acked && fits 8 window && fits 8 epoch
  | .retry _ frm reason epoch => fits 40 frm && fits 8 reason && fits 8 epoch
  | .resendTimeout _ => true
  | .compare _ seq kind port => fits 40 seq && fits 8 kind && fits 8 port
  | .status _ page data => fits 8 page && data.length == 6
  | .moduleEvent _ code seq slot => fits 8 code && fits 40 seq && fits 8 slot
  | .checkRsp _ id result pass => fits 8 id && fits 8 result && fits 24 pass
  | .checkTimeout _ => true
  | .heartbeat _ count st => fits 32 count && fits 8 st
  | .heartbeatSend => true
  | .heartbeatTimeout _ => true
  | .ackStallTimeout _ => true
  | .frameStart _ => true
  | .imageLine _ vc dt _ _ _ _ _ => fits 4 vc && fits 6 dt
  | .embeddedData _ vc _ _ _ => fits 4 vc
  | .frameEnd _ => true
  | .frameTimeout _ => true
  | .triggerTimeout _ => true
  | .cciWriteDone _ => true
  | .cciTimeout _ => true
  | .keeperGenerationForm => true
  | .trimReset sess mask => fits 16 sess && fits 32 mask
  | .gateEdge _ _ _ => true
  | .testWindowClose _ => true
  | .sweepStart sess value => fits 16 sess && fits 32 value
  | .sweepStrobe => true
  | .sweepComplete => true
  | .pwmPeriod => true
  | .targetLevelWrite sess _ level => fits 16 sess && fits 16 level
  | .lightMeasurement _ samples => samples.all (fits 16)
  | .ledEnLow => true
  | .uvLatchClear sess value => fits 16 sess && fits 32 value
  | .sync _ _ origin _ arrival => fits 80 origin && fits 80 arrival
  | .followUp _ origin => fits 80 origin
  | .announce _ identity _ receiptTimeout => fits 64 identity && fits 8 receiptTimeout
  | .delayReqSend _ => true
  | .delayResp _ received => fits 80 received
  | .pdelayReq _ arrival => fits 80 arrival
  | .pdelayResp _ t1 t2 t3 t4 => fits 80 t1 && fits 80 t2 && fits 80 t3 && fits 80 t4
  | .masterLoss _ => true
  | .preferredReturn => true
  | .toutEdge _ => true
  | .pageRead port addr ask => fits 64 addr && fits 8 port && fits 32 ask.age
  | .pageWrite addr data => fits 64 addr && data.length == 256
  | .partialWrite addr off data => fits 64 addr && decide (off + data.length ≤ 256) && data.length != 0
  | .remapCommand sess addr => fits 16 sess && fits 64 addr
  | .scrubRead _ _ => true
  | .scrubStarved => true
  | .bucketLeak _ => true
  | .dramRetrain _ _ => true
  | .dramRefresh _ => true
  | .ident i => i.wf
  | .formationRetry => true
  | .state a => a.wf
  | .decision seq m => fits 32 seq && m.wf
  | .commit seq => fits 32 seq
  | .refuse seq cause => fits 32 seq && fits 8 cause
  | .checksum ctx stateCode crc => fits 8 ctx && fits 8 stateCode && fits 32 crc
  | .digest group rep crc => fits 8 group && fits 64 rep && fits 32 crc
  | .position index time _ _ => fits 32 index && fits 64 time
  | .tileReq kind tileId => fits 8 kind && fits 64 tileId
  | .tileData kind tileId frame => fits 8 kind && fits 64 tileId && frame.all (fun f => f.1.wf && f.2.length == f.1.clen)
  | .tileFetchTimeout => true
  | .laneSync entries => entries.all (fun e => decide (e.lane < 64) && fits 8 e.rate && fits 32 e.marker && fits 64 e.departure)
  | .msgAck seq => fits 32 seq
  | .msgNak seq reason => fits 32 seq && fits 8 reason
  | .twinMsgResend => true
  | .twinLinkLoss => true
  | .hbInPulse => true
  | .hbOutPulse => true
  | .partnerSilent => true
  | .twinProbe d => d.wf
  | .twinProbeRsp d => d.wf
  | .probeTimeout => true
  | .handover d => d.wf
  | .pairHandover sess => fits 16 sess
  | .pairRehearse sess => fits 16 sess
  | .pairResynchronise sess => fits 16 sess
  | .rehearsalDue => true
  | .rehearsalCheck => true
  | .blockFault event unit barMask detail => decide (event < 128) && fits 8 unit && fits 8 barMask &&
    fits (if event == 18 then 72 else 32) detail
  | .recoveryComplete _ => true
  | .recoveryTimeout _ => true
  | .warmRestartComplete => true
  | .mgmtWatchdog => true
  | .fabricTimeout unit barMask => fits 8 unit && fits 8 barMask
  | .stateSave _ => true
  | .alertClear sess value => fits 16 sess && fits 32 value
  | .testEvent sess value => fits 16 sess && fits 32 value
  | .sensorSample readings => readings.length == 32
  | .rateWindow => true
  | .nvStagedWrite => true
  | .nvWriteComplete _ => true
  | .calibrationRun item unit => fits 8 item && fits 8 unit
  | .calibrationDone item unit _ _ => fits 8 item && fits 8 unit
  | .calibrationCommand sess mask => fits 16 sess && fits 32 mask
  | .sensorTrim _ => true
  | .wearMinute _ => true
  | .tallyHour => true
  | .eyeDaily => true
  | .sramRepair _ _ => true
  | .engineRequalify sess engine => fits 16 sess && fits 8 engine
  | .porstAssert => true
  | .porstRelease => true
  | .systemReset => true
  | .bootComplete slot _ invalid enginePass => slot.all (fun k => decide (k ≤ 1)) && invalid.all (fun k => decide (k ≤ 1)) && enginePass.all (fun e => decide (e ≤ 8))
  | .wake sess => fits 16 sess
  | .wakeFrame d => d.wf
  | .wakeComplete => true
  | .wakeTimeout step _ detail => decide (1 ≤ step ∧ step ≤ 6) && fits 32 detail
  | .sleep sess => fits 16 sess
  | .prepare sess => fits 16 sess
  | .relax sess => fits 16 sess
  | .clearFault sess => fits 16 sess
  | .warmRestart sess => fits 16 sess
  | .reboot sess => fits 16 sess
  | .saveConfig sess => fits 16 sess
  | .firmwareUpdate sess slot _ => fits 16 sess && fits 8 slot
  | .firmwareUpdateComplete _ _ => true
  | .opTimeout => true
  | .refclkLoss _ => true
  | .supplyOutOfRange supply => fits 8 supply
  | .usbVbusChange _ => true
  | .blockLockRegained _ => true
  | .hbInSilent => true
  | .pcieLinkDown => true
  | .pcieLinkUp _ => true
  | .pcieConfigRequest (.config bar0) => bar0.all (fits 64)
  | .pcieConfigRequest .readId => true
  | .pcieConfigRequest (.barRead offset bytes) => (bytes == 4 || bytes == 8) && decide (offset % bytes = 0 ∧ offset < 65536)
  | .pcieConfigRequest (.barWrite offset data) => (data.length == 4 || data.length == 8) && decide (offset % data.length = 0 ∧ offset < 65536)
  | .sysrstRelease => true
  | .aonSupplyLoss => true
  | .camBudgetMeasure _ => true
  | .dramTargetRecompute => true

end Sys2Proof
end

