-- ==== Sys2Proof/Tests/Slice0.lean ====
section
/-! SUPPORT. Tests: well-formedness refuses, witnesses that the hypotheses of every statement can be met together, and single
commands on small states whose results are worked out from the spec's rules. -/
namespace Sys2Proof.Tests

open Sys2Proof Sys2Proof.Machine

set_option Elab.async false

/-- `n` zero bytes. -/
def zs (n : Nat) : Bytes := List.replicate n 0

/-- A message, a descriptor, a frame header, an IDENT, an adoption list and a decision with every field in range. -/
def dg : Dgram :=
  { via := .usb, udpPort := 34980, src := 0, fragments := false, proto := 0x3254, version := 1, typ := 0, session := 0, flags := 0, seq := 1, len := 0
    reserved := 0, payload := [], tag := [] }
@[inherit_doc dg] def ds : Desc := { hostAddr := 0, length := 0, op := 0, kind := 0, tag := 0, arg := 0 }
@[inherit_doc dg] def fh : FrameHdr :=
  { version := 1, kind := 0, flags := 0, tileId := 0, lines := 0, columns := 0, sampleBits := 0, channels := 0, reserved := 0, ulen := 0, clen := 0, crc := 0 }
@[inherit_doc dg] def idn : Ident :=
  { product := 0x2208, revision := 0, firmware := 0, serial := 0, mode := 0, position := 0, state := 0, healthy := true }
@[inherit_doc dg] def ad : Adopt :=
  { repeatNo := 0, boundary := 0, contexts := List.replicate 8 0, fcCtx := 0, fcRepeat := 0, fcStatus := 0, keeperGen := 0, trimPpm := 0
    overspeedMask := 0, altMask := 0, epochs := List.replicate 8 0, camGens := List.replicate 6 0, ledTrims := List.replicate 8 0
    acks := List.replicate 5 0, tables := [] }
@[inherit_doc dg] def dc : DecisionMsg := { kind := 1, barMask := 0, repeatNo := 0, line := 0, value := 0 }

/-- A term of each command whose operands are checked, every operand in range. -/
theorem test_well_formed_0 : ([
    .open_ dg, .close dg, .sessionIdleTimeout 0, .expeditedDownload dg, .segmentedDownloadInitiate dg, .downloadSegment dg,
     .uploadInitiate dg, .uploadSegmentRequest dg, .blockDownloadInitiate dg, .blockSegment dg, .blockDownloadEnd dg,
     .blockUploadInitiate dg, .blockUploadAcknowledge dg, .sdoAbort dg, .transferTimeout 0, .objectWrite 0 0 0 [], .groupCommit 0 0,
     .groupDiscard 0 0, .keySlotWrite 0 0 (zs 32), .ledgerSelect 0 0, .logSelect 0 0, .pdOut dg, .flyingChangeRequest 0 0 0,
     .cancelRequest 0 0, .spoilRequest 0 0, .spliceRequest 0, .eventAck dg, .eventResend 1, .arm 0 0, .discard 0 0, .unarm 0 0,
     .release 0 0, .abort 0 0, .clone 0 0 0, .start 0, .stop 0, .stopNow 0, .mbH2dDoorbell 0 dg, .qTailWrite 0 0, .queueEnable 0 0 false,
     .putFrame 0 ds fh [], .getExport 0 ds, .freeFrame 0 ds, .freeStream 0 ds, .dmaTimeout 0 ds, .dmaError 0 ds] : List Instr).all (fun i => i.wf == true) = true := by decide +kernel

@[inherit_doc test_well_formed_0]
theorem test_well_formed_1 : ([
    .domainLoad 0 (zs 12), .analogSignalFault 0 0 false, .captureRead 0 0, .compareDue 0 0, .strobeFaultClear 0 0, .laneTrained 0 0,
     .rateSwitch 0 (List.replicate 16 0), .eyeScan [], .blockLockLoss ⟨0, 0, 0⟩, .swapComplete 0 none, .retrain 0 0, .loopback 0 0 0,
     .prbs 0 0 0, .bitslip 0 0, .protect 0 0 0, .requalify 0 0, .train 0 (zs 7), .credit 0 0 0 0, .retry 0 0 0 0, .compare 0 0 0 0,
     .status 0 0 (zs 6), .moduleEvent 0 0 0 0, .checkRsp 0 0 0 0, .heartbeat 0 0 0, .imageLine 0 0 0 false false false false [],
     .embeddedData 0 0 false false [], .trimReset 0 0, .sweepStart 0 0, .targetLevelWrite 0 0 0, .lightMeasurement 0 [],
     .uvLatchClear 0 0, .sync 0 false 0 0 0, .followUp 0 0, .announce 0 0 false 0, .delayResp 0 0, .pdelayReq 0 0, .pdelayResp 0 0 0 0 0,
     .pageRead 0 0 ⟨.free, 0⟩, .pageWrite 0 (zs 256), .partialWrite 0 0 (zs 1), .remapCommand 0 0, .ident idn, .state ad, .decision 0 dc,
     .commit 0, .refuse 0 0] : List Instr).all (fun i => i.wf == true) = true := by decide +kernel

@[inherit_doc test_well_formed_0]
theorem test_well_formed_2 : ([
    .checksum 0 0 0, .digest 0 0 0, .position 0 0 0 0, .tileReq 0 0, .tileData 0 0 none, .laneSync [], .msgAck 0, .msgNak 0 0,
     .twinProbe dg, .twinProbeRsp dg, .handover dg, .pairHandover 0, .pairRehearse 0, .pairResynchronise 0, .blockFault 0 0 0 0,
     .fabricTimeout 0 0, .alertClear 0 0, .testEvent 0 0, .sensorSample (List.replicate 32 none), .calibrationRun 0 0,
     .calibrationDone 0 0 false 0, .calibrationCommand 0 0, .engineRequalify 0 0, .bootComplete none false [] [], .wake 0, .wakeFrame dg,
     .wakeTimeout 1 false 0, .sleep 0, .prepare 0, .relax 0, .clearFault 0, .warmRestart 0, .reboot 0, .saveConfig 0,
     .firmwareUpdate 0 0 [], .supplyOutOfRange 0, .blockFault 18 0 0 (2 ^ 72 - 1), .encoderEdge 0 (.raw false false false 1),
     .encoderEdge 0 (.adc 8191 (-8192)), .pcieConfigRequest (.config none), .pcieConfigRequest (.barRead 65528 8),
     .pcieConfigRequest (.barWrite 4 (zs 4)), .blockLockLoss ⟨0, 64, 0⟩] : List Instr).all (fun i => i.wf == true) = true := by decide +kernel

/-- The same terms with one operand out of range, for each check in turn: each is refused. -/
theorem test_ill_formed_0 : ([
    .open_ { dg with udpPort := 65536 }, .close { dg with udpPort := 65536 }, .sessionIdleTimeout (2 ^ 16),
     .expeditedDownload { dg with udpPort := 65536 }, .segmentedDownloadInitiate { dg with udpPort := 65536 },
     .downloadSegment { dg with udpPort := 65536 }, .uploadInitiate { dg with udpPort := 65536 },
     .uploadSegmentRequest { dg with udpPort := 65536 }, .blockDownloadInitiate { dg with udpPort := 65536 },
     .blockSegment { dg with udpPort := 65536 }, .blockDownloadEnd { dg with udpPort := 65536 },
     .blockUploadInitiate { dg with udpPort := 65536 }, .blockUploadAcknowledge { dg with udpPort := 65536 },
     .sdoAbort { dg with udpPort := 65536 }, .transferTimeout (2 ^ 16), .objectWrite (2 ^ 16) 0 0 [], .objectWrite 0 (2 ^ 16) 0 [],
     .objectWrite 0 0 (2 ^ 8) [], .groupCommit (2 ^ 16) 0, .groupCommit 0 (2 ^ 8), .groupDiscard (2 ^ 16) 0, .groupDiscard 0 (2 ^ 8),
     .keySlotWrite (2 ^ 16) 0 (zs 32), .keySlotWrite 0 0 (zs 31), .ledgerSelect (2 ^ 16) 0, .ledgerSelect 0 (2 ^ 64),
     .logSelect (2 ^ 16) 0, .logSelect 0 (2 ^ 32), .pdOut { dg with udpPort := 65536 }, .flyingChangeRequest (2 ^ 8) 0 0,
     .flyingChangeRequest 0 (2 ^ 8) 0, .flyingChangeRequest 0 0 (2 ^ 64), .cancelRequest (2 ^ 8) 0, .cancelRequest 0 (2 ^ 32),
     .spoilRequest (2 ^ 8) 0, .spoilRequest 0 (2 ^ 64), .spliceRequest (2 ^ 8), .eventAck { dg with udpPort := 65536 }, .eventResend 0,
     .eventResend 8, .arm (2 ^ 16) 0, .arm 0 (2 ^ 8), .discard (2 ^ 16) 0, .discard 0 (2 ^ 8), .unarm (2 ^ 16) 0, .unarm 0 (2 ^ 8)] : List Instr).all (fun i => i.wf == false) = true := by decide +kernel

@[inherit_doc test_ill_formed_0]
theorem test_ill_formed_1 : ([
    .release (2 ^ 16) 0, .release 0 (2 ^ 8), .abort (2 ^ 16) 0, .abort 0 (2 ^ 8), .clone (2 ^ 16) 0 0, .clone 0 (2 ^ 8) 0,
     .clone 0 0 (2 ^ 8), .start (2 ^ 16), .stop (2 ^ 16), .stopNow (2 ^ 16), .mbH2dDoorbell (2 ^ 32) dg,
     .mbH2dDoorbell 0 { dg with udpPort := 65536 }, .qTailWrite 0 (2 ^ 32), .queueEnable 0 (2 ^ 4) false,
     .putFrame 0 { ds with arg := 2 ^ 64 } fh [], .putFrame 0 ds { fh with version := 256 } [], .putFrame 0 ds fh [1],
     .getExport 0 { ds with arg := 2 ^ 64 }, .freeFrame 0 { ds with arg := 2 ^ 64 }, .freeStream 0 { ds with arg := 2 ^ 64 },
     .dmaTimeout 0 { ds with arg := 2 ^ 64 }, .dmaError 0 { ds with arg := 2 ^ 64 }, .domainLoad (2 ^ 16) (zs 12), .domainLoad 0 (zs 13),
     .analogSignalFault 0 (2 ^ 16) false, .captureRead (2 ^ 16) 0, .compareDue 0 1024, .strobeFaultClear (2 ^ 16) 0,
     .laneTrained 0 (2 ^ 5), .rateSwitch 0 [], .eyeScan [(80, 0, 0)], .eyeScan [(0, 65536, 0)], .eyeScan [(0, 0, 65536)],
     .blockLockLoss ⟨0, 65, 0⟩, .blockLockLoss ⟨0, 0, 65⟩, .swapComplete 0 (some 256), .retrain (2 ^ 16) 0, .retrain 0 (2 ^ 8),
     .loopback (2 ^ 16) 0 0, .loopback 0 (2 ^ 8) 0, .loopback 0 0 (2 ^ 8), .prbs (2 ^ 16) 0 0, .prbs 0 (2 ^ 8) 0, .prbs 0 0 (2 ^ 8),
     .bitslip (2 ^ 16) 0, .bitslip 0 (2 ^ 8)] : List Instr).all (fun i => i.wf == false) = true := by decide +kernel

@[inherit_doc test_ill_formed_0]
theorem test_ill_formed_2 : ([
    .protect (2 ^ 16) 0 0, .protect 0 (2 ^ 8) 0, .protect 0 0 (2 ^ 8), .requalify (2 ^ 16) 0, .requalify 0 (2 ^ 8), .train 0 (zs 6),
     .credit 0 (2 ^ 40) 0 0, .credit 0 0 (2 ^ 8) 0, .credit 0 0 0 (2 ^ 8), .retry 0 (2 ^ 40) 0 0, .retry 0 0 (2 ^ 8) 0,
     .retry 0 0 0 (2 ^ 8), .compare 0 (2 ^ 40) 0 0, .compare 0 0 (2 ^ 8) 0, .compare 0 0 0 (2 ^ 8), .status 0 (2 ^ 8) (zs 6),
     .status 0 0 (zs 5), .moduleEvent 0 (2 ^ 8) 0 0, .moduleEvent 0 0 (2 ^ 40) 0, .moduleEvent 0 0 0 (2 ^ 8), .checkRsp 0 (2 ^ 8) 0 0,
     .checkRsp 0 0 (2 ^ 8) 0, .checkRsp 0 0 0 (2 ^ 24), .heartbeat 0 (2 ^ 32) 0, .heartbeat 0 0 (2 ^ 8),
     .imageLine 0 (2 ^ 4) 0 false false false false [], .imageLine 0 0 (2 ^ 6) false false false false [],
     .embeddedData 0 (2 ^ 4) false false [], .trimReset (2 ^ 16) 0, .trimReset 0 (2 ^ 32), .sweepStart (2 ^ 16) 0,
     .sweepStart 0 (2 ^ 32), .targetLevelWrite (2 ^ 16) 0 0, .targetLevelWrite 0 0 (2 ^ 16), .lightMeasurement 0 [65536],
     .uvLatchClear (2 ^ 16) 0, .uvLatchClear 0 (2 ^ 32), .sync 0 false (2 ^ 80) 0 0, .sync 0 false 0 0 (2 ^ 80), .followUp 0 (2 ^ 80),
     .announce 0 (2 ^ 64) false 0, .announce 0 0 false (2 ^ 8), .delayResp 0 (2 ^ 80), .pdelayReq 0 (2 ^ 80),
     .pdelayResp 0 (2 ^ 80) 0 0 0, .pdelayResp 0 0 (2 ^ 80) 0 0] : List Instr).all (fun i => i.wf == false) = true := by decide +kernel

@[inherit_doc test_ill_formed_0]
theorem test_ill_formed_3 : ([
    .pdelayResp 0 0 0 (2 ^ 80) 0, .pdelayResp 0 0 0 0 (2 ^ 80), .pageRead (2 ^ 8) 0 ⟨.free, 0⟩, .pageRead 0 (2 ^ 64) ⟨.free, 0⟩,
     .pageRead 0 0 ⟨.free, 2 ^ 32⟩, .pageWrite (2 ^ 64) (zs 256), .pageWrite 0 (zs 64), .partialWrite (2 ^ 64) 0 (zs 1),
     .partialWrite 0 256 (zs 1), .partialWrite 0 0 [], .partialWrite 0 0 (zs 257), .remapCommand (2 ^ 16) 0, .remapCommand 0 (2 ^ 64),
     .ident { idn with product := 2 ^ 32 }, .state { ad with acks := [] }, .decision (2 ^ 32) dc, .decision 0 { dc with kind := 0 },
     .commit (2 ^ 32), .refuse (2 ^ 32) 0, .refuse 0 (2 ^ 8), .checksum (2 ^ 8) 0 0, .checksum 0 (2 ^ 8) 0, .checksum 0 0 (2 ^ 32),
     .digest (2 ^ 8) 0 0, .digest 0 (2 ^ 64) 0, .digest 0 0 (2 ^ 32), .position (2 ^ 32) 0 0 0, .position 0 (2 ^ 64) 0 0,
     .tileReq (2 ^ 8) 0, .tileReq 0 (2 ^ 64), .tileData (2 ^ 8) 0 none, .tileData 0 (2 ^ 64) none,
     .tileData 0 0 (some ({ fh with version := 256 }, [])), .tileData 0 0 (some (fh, [1])), .laneSync [⟨64, 0, 0, 0⟩],
     .laneSync [⟨1, 256, 0, 0⟩], .laneSync [⟨1, 0, 2 ^ 32, 0⟩], .laneSync [⟨1, 0, 0, 2 ^ 64⟩], .msgAck (2 ^ 32), .msgNak (2 ^ 32) 0,
     .msgNak 0 (2 ^ 8), .twinProbe { dg with udpPort := 65536 }, .twinProbeRsp { dg with udpPort := 65536 },
     .handover { dg with udpPort := 65536 }, .pairHandover (2 ^ 16), .pairRehearse (2 ^ 16)] : List Instr).all (fun i => i.wf == false) = true := by decide +kernel

@[inherit_doc test_ill_formed_0]
theorem test_ill_formed_4 : ([
    .pairResynchronise (2 ^ 16), .blockFault 128 0 0 0, .blockFault 0 (2 ^ 8) 0 0, .blockFault 0 0 (2 ^ 8) 0,
     .blockFault 0 0 0 (2 ^ 32), .fabricTimeout (2 ^ 8) 0, .fabricTimeout 0 (2 ^ 8), .alertClear (2 ^ 16) 0, .alertClear 0 (2 ^ 32),
     .testEvent (2 ^ 16) 0, .testEvent 0 (2 ^ 32), .sensorSample [], .calibrationRun (2 ^ 8) 0, .calibrationRun 0 (2 ^ 8),
     .calibrationDone (2 ^ 8) 0 false 0, .calibrationDone 0 (2 ^ 8) false 0, .calibrationCommand (2 ^ 16) 0,
     .calibrationCommand 0 (2 ^ 32), .engineRequalify (2 ^ 16) 0, .engineRequalify 0 (2 ^ 8), .bootComplete (some 2) false [] [],
     .bootComplete none false [2] [], .bootComplete none false [] [9], .wake (2 ^ 16), .wakeFrame { dg with udpPort := 65536 },
     .wakeTimeout 0 false 0, .wakeTimeout 7 false 0, .wakeTimeout 1 false (2 ^ 32), .sleep (2 ^ 16), .prepare (2 ^ 16), .relax (2 ^ 16),
     .clearFault (2 ^ 16), .warmRestart (2 ^ 16), .reboot (2 ^ 16), .saveConfig (2 ^ 16), .firmwareUpdate (2 ^ 16) 0 [],
     .firmwareUpdate 0 (2 ^ 8) [], .supplyOutOfRange (2 ^ 8), .blockFault 18 0 0 (2 ^ 72), .encoderEdge 0 (.raw false false false 0),
     .encoderEdge 0 (.adc 8192 0), .encoderEdge 0 (.adc 0 (-8193)), .pcieConfigRequest (.config (some (2 ^ 64))),
     .pcieConfigRequest (.barRead 0 5), .pcieConfigRequest (.barRead 2 4), .pcieConfigRequest (.barRead 65536 4)] : List Instr).all (fun i => i.wf == false) = true := by decide +kernel

@[inherit_doc test_ill_formed_0]
theorem test_ill_formed_5 : ([
    .pcieConfigRequest (.barWrite 0 [1]), .pcieConfigRequest (.barWrite 2 (zs 4)), .pcieConfigRequest (.barWrite 65536 (zs 4)),
     .blockLockLoss ⟨0, 64, 1⟩] : List Instr).all (fun i => i.wf == false) = true := by decide +kernel

/-- Each field of a `Dgram` beyond its width is refused. -/
theorem test_dgram_fields : ([
    { dg with udpPort := 2 ^ 16 }, { dg with src := 2 ^ 32 }, { dg with proto := 2 ^ 16 }, { dg with version := 2 ^ 8 },
     { dg with typ := 2 ^ 8 }, { dg with session := 2 ^ 16 }, { dg with flags := 2 ^ 16 }, { dg with seq := 2 ^ 32 },
     { dg with len := 2 ^ 16 }, { dg with reserved := 2 ^ 16 }] : List Dgram).all (fun x => x.wf == false) = true := by decide +kernel

/-- Each field of a `Desc` beyond its width is refused. -/
theorem test_desc_fields : ([
    { ds with hostAddr := 2 ^ 64 }, { ds with length := 2 ^ 32 }, { ds with op := 2 ^ 8 }, { ds with kind := 2 ^ 8 },
     { ds with tag := 2 ^ 64 }, { ds with arg := 2 ^ 64 }] : List Desc).all (fun x => x.wf == false) = true := by decide +kernel

/-- Each field of a `FrameHdr` beyond its width is refused. -/
theorem test_framehdr_fields : ([
    { fh with version := 2 ^ 8 }, { fh with kind := 2 ^ 8 }, { fh with flags := 2 ^ 16 }, { fh with tileId := 2 ^ 64 },
     { fh with lines := 2 ^ 16 }, { fh with columns := 2 ^ 16 }, { fh with sampleBits := 2 ^ 8 }, { fh with channels := 2 ^ 8 },
     { fh with ulen := 2 ^ 32 }, { fh with clen := 2 ^ 32 }, { fh with crc := 2 ^ 32 }] : List FrameHdr).all (fun x => x.wf == false) = true := by decide +kernel

/-- Each field of a `Ident` beyond its width is refused. -/
theorem test_ident_fields : ([
    { idn with product := 2 ^ 32 }, { idn with revision := 2 ^ 32 }, { idn with serial := 2 ^ 32 }, { idn with mode := 2 ^ 8 },
     { idn with position := 2 ^ 8 }, { idn with state := 2 ^ 8 }] : List Ident).all (fun x => x.wf == false) = true := by decide +kernel

/-- Each check of a `Adopt` refuses. -/
theorem test_adopt_fields : ([
    { ad with repeatNo := 2 ^ 64 }, { ad with contexts := [] }, { ad with epochs := [] }, { ad with camGens := [] },
     { ad with ledTrims := [] }, { ad with acks := [] }, { ad with overspeedMask := 256 }, { ad with altMask := 256 },
     { ad with counts := [(256, 0)] }, { ad with counts := [(0, 2 ^ 64)] }] : List Adopt).all (fun x => x.wf == false) = true := by decide +kernel

/-- Each check of a `DecisionMsg` refuses. -/
theorem test_decisionmsg_fields : ([
    { dc with kind := 0 }, { dc with kind := 16 }, { dc with barMask := 256 }, { dc with repeatNo := 2 ^ 64 }] : List DecisionMsg).all (fun x => x.wf == false) = true := by decide +kernel

/-- A session of service data over the USB service port, in slot 1 with identifier 1. -/
def usb : Sess := { id := 1, via := 3, port := 0, peer := 0, rxSeq := 0 }

/-- The device in state `st` with its image verified and that session open, changed by `f`. -/
def on (st : DState) (f : Dev → Dev := fun d => d) : State :=
  { State.reset with dev := f { State.reset.dev with
      sys := { st := st, verified := true }, pins := { faultN := false }, com := { sess := [(1, usb)] } } }

/-- The same with that session changed. -/
def onUsb (st : DState) (x : Sess) (f : Dev → Dev := fun d => d) : State := on st (fun d => f { d with com := { d.com with sess := [(1, x)] } })

/-- A well-formed message of TYPE `typ` in session 1 over the service port. -/
def msg (typ : Nat) (p : Bytes) : Dgram :=
  { via := .usb, udpPort := 34980, src := 0, fragments := false, proto := 0xC0A5, version := 1, typ := typ, session := 1, flags := 0, seq := 1
    len := p.length, reserved := 0, payload := p, tag := [] }

/-- A running long operation of class `c`. -/
def op (c : Nat) : Op := { id := 1, cls := c, start := 0, sess := 1 }

/-- `State.Serves`, as a check. -/
def servesNow (s : State) (sess idx : Nat) : Bool :=
  match s.dev.session? sess with
  | none => false
  | some x => x.port == 0 && s.dev.serves x.via && s.dev.com.op.isNone && !s.dev.gated idx && s.dev.served x idx

theorem serves_of_check {s : State} {sess idx : Nat} (h : servesNow s sess idx = true) : s.Serves sess idx := by
  unfold servesNow at h
  split at h
  · cases h
  · rename_i x hx
    simp only [Bool.and_eq_true, beq_iff_eq, Option.isNone_iff_eq_none, Bool.not_eq_true'] at h
    exact ⟨x, hx, h.1.1.1.1, h.1.1.1.2, h.1.1.2, h.1.2, h.2⟩

/-- What a granted access satisfies, as a check. -/
def okAnd {α : Type} (e : Except Nat α) (p : α → Bool) : Bool := match e with
  | .ok r => p r
  | .error _ => false

theorem ok_of_check {α : Type} {e : Except Nat α} {p : α → Bool} (h : okAnd e p = true) : ∃ r, e = .ok r ∧ p r = true := by
  cases e with
  | error _ => cases h
  | ok r => exact ⟨r, rfl, h⟩

theorem test_witness_StepRunsFrontCommand : ({ State.reset with pending := [.pdLoss] } : State).pending = [.pdLoss] := rfl

theorem test_witness_EmptyQueueTicks : State.reset.pending = [] ∧ ∀ n, (State.reset.dev.bar n).wait = none := ⟨rfl, fun _ => rfl⟩

theorem test_witness_OnlyNamedRowsChangeClockAndDram :
    (∃ t, exec .mbD2hAck State.reset = .next t) ∧ setsClock .mbD2hAck = false ∧ touchesDram .mbD2hAck = false := ⟨⟨_, rfl⟩, rfl, rfl⟩

theorem test_witness_StepKeepsDramCanonical :
    Canonical { State.reset with dram := [(0, 1), (7, 255)] } ∧ ∃ t, step { State.reset with dram := [(0, 1), (7, 255)] } = .next t :=
  ⟨by unfold Canonical; decide, _, rfl⟩

theorem test_witness_BusyAnswersEveryWrite :
    let s := on .ready (fun d => { d with com := { d.com with op := some (op 3) } })
    anyWriteRow (.wake 1) = some (1, 0x2000) ∧ s.dev.session? 1 = some usb ∧ usb.port = 0 ∧ s.dev.serves usb.via = true ∧ s.dev.com.op ≠ none := by
  decide +kernel

theorem test_witness_StateKeepsWritesBack :
    (let s := on .standby
     hostWriteRow (.arm 1 0) = some (1, 0x2012) ∧ s.dev.session? 1 = some usb ∧ s.dev.serves 3 = true ∧ s.dev.com.op = none ∧
      (rowsOf s.dev.product 0x2012).isEmpty = false ∧ s.dev.gated 0x2012 = true) ∧
    (let s := on .boot (fun d => { d with sys := { d.sys with verified := false, bootFailed := true } })
     hostWriteRow (.alertClear 1 1) = some (1, 0x2204) ∧ s.dev.session? 1 = some usb ∧ s.dev.serves 3 = true ∧ s.dev.com.op = none ∧
      (rowsOf s.dev.product 0x2204).isEmpty = false ∧ s.dev.served usb 0x2204 = false) := by
  decide +kernel

/-- Field port FA with an IPv4 address. -/
def fa (d : Dev) : Dev := d.put 0x1400 1 0x0A000001

theorem test_witness_BadMessagesAreOnlyCounted :
    (on .ready (fun d => d.put 0x1400 1 0)).dev.deaf (viaCode .fa) = true ∧
    ((on .ready).dev.deaf 3 = false ∧ headerOk { msg 0x20 [] with version := 2 } = false) ∧
    (let s := on .ready (fun d => (fa d).put 0x1400 5 1)
     s.dev.deaf 0 = false ∧ s.dev.allowed 0 7 = false ∧ s.dev.com.drops.get 0 0 + 1 < 2 ^ 32) ∧
    (on .ready).dev.authentic { msg 1 [] with flags := 1, tag := List.replicate 16 0 } = false := by
  decide +kernel

theorem test_witness_OpenGrantsASessionWithinItsLimits :
    (let s := on .ready fa
     let m := { msg 1 [0] with via := .fa, udpPort := 34982 }
     s.dev.admits m ∧ bit m.flags 3 = false ∧ (∀ i ∈ s.dev.com.freed, 1 ≤ i ∧ i ≤ 65535) ∧ viaCode m.via < 2 ∧
      (List.range 7).find? (fun i => (s.dev.com.sess.find? (i + 1)).isNone) = some 1 ∧
      (s.dev.com.sess.filter (fun x => x.2.port == cotPort m.udpPort)).length < [4, 1, 2].getD (cotPort m.udpPort) 0) ∧
    (let s := on .ready (fun d => { d with com := { d.com with sess := [(1, usb), (2, { usb with id := 2 }), (3, { usb with id := 3 }), (4, { usb with id := 4 })] } })
     let m := msg 1 [0]
     s.dev.admits m ∧ cotPort m.udpPort = 0 ∧ (List.range 7).find? (fun i => (s.dev.com.sess.find? (i + 1)).isNone) = some 4 ∧
      [4, 1, 2].getD (cotPort m.udpPort) 0 ≤ (s.dev.com.sess.filter (fun x => x.2.port == cotPort m.udpPort)).length) := by
  simp only [Dev.admits]; decide +kernel

theorem test_witness_ClosingASessionDropsWhatItStaged :
    (let s := on .ready
     s.dev.admits (msg 3 []) ∧ s.dev.sessionOf (msg 3 []) = some usb ∧ seqNext usb.rxSeq 1 = true ∧ s.dev.slotOf usb.id = some 1) ∧
    (let s := on .ready
     s.dev.slotOf 1 = some 1 ∧ s.dev.session? 1 = some usb) ∧
    (let s := on .ready (fun d => ({ d with dict := { d.dict with owners := [(5, 1)] } } : Dev).setCtx 0 { code := 1, owner := some 1 } |>.setCtx 9
        { code := 4 })
     s.dev.com.sess.find? 1 = some usb ∧ s.dev.ctxs.find? 0 = some { code := 1, owner := some 1 } ∧ s.dev.ctxs.find? 9 = some { code := 4 } ∧
      s.dev.dict.owners.get 0 5 = usb.id ∧ s.dev.dict.owners.find? 5 ≠ none) := by
  simp only [Dev.admits]; decide +kernel

/-- A block download initiate of 8 bytes for 0x2040:01 with block size `b`. -/
def blk (b : Byte) : Bytes := [0x80, 0x20, 0x40, 1, 0, 0, 0, 8, b]

theorem test_witness_DownloadInitiatesOpenATransfer :
    let s := on .ready
    (let p : Bytes := [0x21, 0x20, 0x40, 1, 0, 0, 0, 8]
     s.Asks (msg 0x10 p) usb ∧ s.begin_.initiateCode usb (sdoIndex p).1 (sdoIndex p).2 (sdoTotal p) = 0 ∧ sdoCommand p = 0x21) ∧
    (s.Asks (msg 0x10 (blk 1)) usb ∧ s.Asks (msg 0x10 (blk 127)) usb ∧ s.Asks (msg 0x10 (blk 0)) usb ∧ s.Asks (msg 0x10 (blk 128)) usb) ∧
    (s.begin_.initiateCode usb (sdoIndex (blk 1)).1 (sdoIndex (blk 1)).2 (sdoTotal (blk 1)) = 0 ∧ sdoCommand (blk 1) = 0x80) ∧
    (1 ≤ field (blk 1) 8 1 ∧ field (blk 127) 8 1 ≤ 127 ∧ field (blk 0) 8 1 = 0 ∧ 127 < field (blk 128) 8 1) := by
  simp only [State.Asks, Dev.admits]; decide +kernel

/-- The session with a transfer open. -/
def xf (t : Xfer) : Sess := { usb with xfer := some t }

theorem test_witness_DownloadSegmentsAccumulate :
    (let t : Xfer := { kind := .segDown, index := 0x2040, sub := 1, total := 8 }
     let p : Bytes := [0x22, 0, 0, 0, 1, 2, 3, 4, 5, 6, 7, 8]
     (onUsb .ready (xf t)).Asks (msg 0x10 p) (xf t) ∧ sdoCommand p = 0x22 ∧ sdoCounter p = t.ctr ∧ bit (field p 3 1) 0 = false ∧
      (t.data ++ p.drop 4).length ≤ t.total) ∧
    (let t : Xfer := { kind := .segDown, index := 0x2040, sub := 1, total := 8 }
     let p : Bytes := [0x22, 0, 1, 0, 1]
     (onUsb .ready (xf t)).Asks (msg 0x10 p) (xf t) ∧ sdoCommand p = 0x22 ∧ sdoCounter p ≠ t.ctr) ∧
    (let t : Xfer := { kind := .blkDown, index := 0x2040, sub := 1, total := 8, block := 4, ctr := 0 }
     let p : Bytes := [0x81, 1, 0, 4, 1, 2, 3, 4]
     (onUsb .ready (xf t)).Asks (msg 0x10 p) (xf t) ∧ field p 1 1 = t.ctr + 1 ∧ field p 2 2 = (p.drop 4).length ∧ (t.data ++ p.drop 4).length ≤ t.total) := by
  simp only [State.Asks, Dev.admits]; decide +kernel

theorem test_witness_DownloadsWriteTheWholeValueAtTheEnd :
    (let s := on .ready
     let p : Bytes := [0x20, 0x20, 0x10, 0, 0xFF]
     s.Asks (msg 0x10 p) usb ∧ sdoCommand p = 0x20 ∧ 1 ≤ (p.drop 4).length ∧ (p.drop 4).length ≤ 4 ∧
      (({ s with dev := s.begin_ } : State).write usb (sdoIndex p).1 (sdoIndex p).2 (p.drop 4)).2 = 0 ∧
      Dev.reboots (sdoIndex p).1 (sdoIndex p).2 (p.drop 4) 0 = false) ∧
    (let t : Xfer := { kind := .segDown, index := 0x2010, sub := 0, total := 1 }
     let s := onUsb .ready (xf t)
     let p : Bytes := [0x22, 0, 0, 1, 0xFF]
     s.Asks (msg 0x10 p) (xf t) ∧ sdoCommand p = 0x22 ∧ sdoCounter p = t.ctr ∧ bit (field p 3 1) 0 = true ∧ (t.data ++ p.drop 4).length = t.total ∧
      (({ s with dev := s.begin_.setXfer 1 none } : State).write (xf t) t.index t.sub (t.data ++ p.drop 4)).2 = 0 ∧
      Dev.reboots t.index t.sub (t.data ++ p.drop 4) 0 = false) ∧
    (let t : Xfer := { kind := .blkDown, index := 0x2010, sub := 0, total := 1, data := [0xFF] }
     let s := onUsb .ready (xf t)
     let p : Bytes := 0x82 :: beBytes 2 (crc16 0 [0xFF])
     s.Asks (msg 0x10 p) (xf t) ∧ sdoCommand p = 0x82 ∧ t.data.length = t.total ∧ crc16 0 t.data = field p 1 2 ∧
      (({ s with dev := s.begin_.setXfer 1 none } : State).write (xf t) t.index t.sub t.data).2 = 0 ∧ Dev.reboots t.index t.sub t.data 0 = false ∧
      crc16 0 t.data ≠ field [0x82, 0, 0] 1 2 ∧ (onUsb .ready (xf { t with total := 2 })).Asks (msg 0x10 p) (xf { t with total := 2 })) := by
  simp only [State.Asks, Dev.admits]; decide +kernel

theorem test_witness_UploadsDeliverTheValueRead :
    (let s := on .ready (fun d => { d with dict := { d.dict with doms := [(0x6430, List.replicate 1433 7)] } })
     s.Asks (msg 0x10 [0x40, 0x10, 0x18, 1]) usb ∧ s.Asks (msg 0x10 [0x50, 0x64, 0x30, 0]) usb ∧ s.Asks (msg 0x10 [0xB0, 0x10, 0x18, 1, 127]) usb ∧
      field [0xB0, 0x10, 0x18, 1, 127] 4 1 ≤ 127 ∧
      okAnd (s.begin_.readObj usb 0x1018 1 false).2 (fun b => decide (b.length ≤ 1432) && b != []) = true ∧
      okAnd (s.begin_.readObj usb 0x6430 0 true).2 (fun b => decide (1432 < b.length)) = true) ∧
    (let t : Xfer := { kind := .segUp, index := 0x6430, sub := 0, total := 1437, data := List.replicate 1437 7 }
     (onUsb .ready (xf t)).Asks (msg 0x10 [0x42, 0, 0]) (xf t) ∧ t.pos + segMax < t.total ∧ t.data.length = t.total ∧
      ({ t with pos := 1436 } : Xfer).total ≤ 1436 + ((t.data.drop 1436).take segMax).length) ∧
    (let t : Xfer := { kind := .blkUp, index := 0x6430, sub := 0, total := 8, data := List.replicate 8 7, block := 1, ctr := 1 }
     (onUsb .ready (xf t)).Asks (msg 0x10 [0xA1, 1]) (xf t)) := by
  simp only [State.Asks, Dev.admits]; decide +kernel

theorem test_witness_TransfersEndWithoutAWrite :
    let t : Xfer := { kind := .segUp, index := 0x6430, sub := 0, total := 8 }
    let s := onUsb .ready (xf t)
    s.Asks (msg 0x10 [0xE0, 0, 0, 0, 0, 0, 0, 0]) (xf t) ∧ s.dev.session? 1 = some (xf t) ∧ s.dev.com.op = none ∧ (xf t).xfer ≠ none ∧
    (let y : Sess := { usb with abandoned := true }
     y.xfer = none ∧ (onUsb .ready y).Asks (msg 0x10 [0x22, 0, 0]) y ∧ (onUsb .ready y).Asks (msg 0x10 [0x82, 0, 0]) y) := by
  simp only [State.Asks, Dev.admits]; decide +kernel

theorem error_of_check {α : Type} {e : Except Nat α} (h : okAnd e (fun _ => true) = false) : ∃ c, e = .error c := by
  cases e with
  | error c => exact ⟨c, rfl⟩
  | ok _ => cases h

/-- The session with the object window on context 0. -/
def win : Sess := { usb with window := 0 }

theorem test_witness_ObjectWritesStageOrTakeEffect :
    ((on .ready).dev.session? 1 = some usb ∧ usb.port = 0 ∧ (on .ready).dev.serves usb.via = true ∧ (on .ready).dev.com.op = none) ∧
    (commandObject 0x1000 = false ∧ ∃ c, (on .ready).begin_.writable usb 0x1000 0 1 = .error c) ∧
    (commandObject 0x1420 = false ∧ ∃ r, (on .ready).begin_.writable usb 0x1420 1 2 = .ok r ∧
      (valueCode 0x2208 0x1420 1 r [0, 0] != 0 && valueCode 0x2208 0x1420 1 r [0x59, 2] != 0 && valueCode 0x2208 0x1420 1 r [1, 0] == 0 &&
        valueCode 0x2208 0x1420 1 r [0x58, 2] == 0 && r.ty != .dom && r.acc == .rw) = true) ∧
    (commandObject 0x1430 = false ∧ ∃ r, (on .ready).begin_.writable usb 0x1430 3 1 = .ok r ∧
      (valueCode 0x2208 0x1430 3 r [1] == 0 && r.ty != .dom && r.acc == .rws && groupOf 0x1430 == some 1 && !(on .ready).dev.ownedByOther 1 1 &&
        (on .ready (fun d => { d with dict := { d.dict with owners := [(1, 2)] } })).dev.ownedByOther 1 1) = true) ∧
    (ofContext 0x6228 = false ∧ ∃ r, (on .ready).begin_.writable usb 0x6228 0 1 = .ok r ∧
      (valueCode 0x2208 0x6228 0 r [1] == 0 && r.ty == .dom && (groupOf 0x6228).any (fun gg => !(on .ready).dev.ownedByOther 1 gg)) = true) ∧
    (ofContext 0x4000 = true ∧ ∃ r, (onUsb .ready win).begin_.writable win 0x4000 4 4 = .ok r ∧
      (valueCode 0x2208 0x4000 4 r [1, 0, 0, 0] == 0 && r.ty != .dom && ((onUsb .ready win).dev.ctx 0).code == 0 &&
        ([1, 2].all (fun o => ((onUsb .ready win (fun d => d.setCtx 0 { code := 1, owner := some o })).dev.ctx 0).owner == some o)) &&
        ((onUsb .ready win (fun d => d.setCtx 0 { code := 2 })).dev.ctx 0).code == 2) = true) :=
  ⟨by decide +kernel, ⟨rfl, error_of_check (by decide +kernel)⟩, ⟨rfl, ok_of_check (by decide +kernel)⟩, ⟨rfl, ok_of_check (by decide +kernel)⟩,
    ⟨rfl, ok_of_check (by decide +kernel)⟩, rfl, ok_of_check (by decide +kernel)⟩

theorem test_witness_GroupCommitsTakeAllOrNothing :
    let other := on .ready (fun d => { d with dict := { d.dict with owners := [(12, 2)] } })
    let bad := on .ready (fun d => { d with dict := { d.dict with staged := [(key 0x3C00 1, 1), (key 0x3C00 2, 2), (key 0x3C03 1, 0), (key 0x3C03 2, 0)] } })
    (on .ready).Serves 1 0x2020 ∧ other.Serves 1 0x2020 ∧ bad.Serves 1 0x2020 ∧
    (other.dev.commitGated 12 = false ∧ other.dev.ownedByOther 1 12 = true) ∧
    ((∀ gg ∈ [1, 12, 16, 23], (on .ready).dev.commitGated gg = false ∧ (on .ready).dev.ownedByOther 1 gg = false) ∧
      Machine.firstFail (Dev.groupFails (on .ready).begin_ ((on .ready).begin_.merged 1) 1) = none) ∧
    (bad.dev.ownedByOther 1 12 = false ∧ (Machine.firstFail (Dev.groupFails bad.begin_ (bad.begin_.merged 12) 12)).isSome = true ∧
      Table.wf bad.dev.dict.staged = true) :=
  ⟨serves_of_check (by decide +kernel), serves_of_check (by decide +kernel), serves_of_check (by decide +kernel), by decide +kernel,
    by decide +kernel, by decide +kernel⟩

theorem test_witness_KeySlotsAreWrittenOverUsbOnly :
    ((on .ready).dev.session? 1 = some usb ∧ usb.port = 0 ∧ (on .ready).dev.sys.verified = true ∧ (on .ready).dev.com.op = none ∧
      (zs 32).length = 32 ∧ usb.via = 3) ∧
    ((onUsb .ready { usb with via := 2 }).dev.session? 1 = some { usb with via := 2 } ∧ ({ usb with via := 2 } : Sess).via ≠ 3) := by
  decide +kernel

/-- A repeat of number `k` from line `d` over `n` lines, of context `c`. -/
def rep (k d n : Nat) (c : Option Nat := none) : Rep := { num := k, d := d * 65536, len := n * 65536, gap := 16, ctx := c, opened := true }

/-- A stored frame of kind 3 that holds `b`. -/
def fr (b : Bytes) : Frame := { hdr := { fh with kind := 3, ulen := b.length, clen := b.length }, data := b, payload := b }

theorem test_witness_SelectionsNameRetainedRecords :
    let s := on .ready (fun d => { d with
      print := { d.print with reps := [rep 7 0 100] }, jobs := { d.jobs with frames := [(3 * 2 ^ 64 + 5, fr [1, 2])] } })
    let v : Bytes := leBytes 2 0x6228 ++ [0, 0] ++ leBytes 8 5
    (s.dev.session? 1 = some usb ∧ s.dev.sys.verified = true ∧ s.dev.com.op = none) ∧
    ((∃ r ∈ s.dev.retained, r.num = 7) ∧ (∀ r ∈ s.dev.retained, r.num ≠ 2 ^ 64 - 1)) ∧
    (s.dev.logRecord 1 ≠ none ∧ s.dev.logRecord 2 = none) ∧
    (v.length = 12 ∧ ∃ r, s.begin_.writable usb 0x2A06 0 12 = .ok r ∧ (r.ty != .dom && valueCode 0x2208 0x2A06 0 r v == 0) = true) ∧
    (s.dev.frameOk 3 4 = none ∧ s.dev.frameOk 3 (leNat (slice v 4 8)) = some (fr [1, 2]) ∧
      (rowsOf s.dev.product (leNat (v.take 2))).any (fun r => r.ty == .dom && r.hasSub 0) = true) :=
  ⟨by decide +kernel, ⟨⟨rep 7 0 100, by decide +kernel, rfl⟩, by decide +kernel⟩, by decide +kernel,
    ⟨rfl, ok_of_check (by decide +kernel)⟩, by decide +kernel⟩

/-- Sessions of process data (1) and of events (2) over field port FA, the latter with a message not acknowledged. -/
def fld (p : Nat) (bound : Bool := false) : Sess :=
  { id := 1, via := 0, port := p, peer := 7, bound := bound, rxSeq := 0, unacked := [(4, [{ num := 4, level := 0x20, mask := 0, unit := 0xFF, time := 0, rep := 0, detail := 1 }])] }

/-- A message from FA on UDP port 34980 + `p`. -/
def fmsg (p typ : Nat) (b : Bytes) : Dgram := { msg typ b with via := .fa, udpPort := 34980 + p, src := 7 }

theorem test_witness_CyclicMessagesAreTakenInOrder :
    let pd := onUsb .ready (fld 1) fa
    let cp : Sess := { fld 1 true with rxSeq := 2, taken := [(2, 0), (1, 1)] }
    let bd := onUsb .ready cp fa
    let ev := onUsb .ready (fld 2) fa
    let good := fmsg 1 0x20 (1 :: zs 39)
    let short := fmsg 1 0x20 (zs 39)
    let ack := fmsg 2 0x31 [0, 0, 0, 4]
    (pd.dev.admits good ∧ pd.dev.sessionOf good = some (fld 1) ∧ good.typ = 0x20 ∧ seqNext 0 good.seq = true ∧ pdOk good.payload = true) ∧
    (bd.dev.admits good ∧ bd.dev.sessionOf good = some cp ∧ seqNext cp.rxSeq good.seq = false ∧ cp.bound = true ∧ (1, 1) ∈ cp.taken ∧
      good.seq = 1 ∧ viaCode good.via = 0 ∧ bd.dev.sessionOf { good with seq := 2 } = some cp ∧ seqNext cp.rxSeq 2 = false) ∧
    (pd.dev.admits short ∧ pd.dev.sessionOf short = some (fld 1) ∧ pdOk short.payload = false) ∧
    (ev.dev.admits ack ∧ ev.dev.sessionOf ack = some (fld 2) ∧ ack.typ = 0x31 ∧ seqNext 0 ack.seq = true ∧ ack.payload.length = 4 ∧
      (onUsb .ready { fld 2 with rxSeq := 1 } fa).dev.sessionOf ack = some { fld 2 with rxSeq := 1 } ∧ seqNext 1 ack.seq = false) := by
  simp only [Dev.admits]; decide +kernel

theorem test_witness_TheCycleActsAndReports :
    let s := onUsb .ready (fld 1)
    let b := onUsb .ready (fld 1 true)
    (s.dev.g 0x1430 1 ≠ 0 ∧ s.dev.sys.verified = true ∧ s.begin_.cycleDue = true ∧ s.dev.pdSession = some (fld 1) ∧ s.dev.com.pd.held = none ∧ (fld 1).bound = false ∧
      (fld 1).via ≠ 2) ∧
    (b.dev.pdSession = some (fld 1 true) ∧ (fld 1 true).bound = true ∧ (fa (b.dev.put 0x1401 1 1)).portOff 0 = false ∧
      (fa (b.dev.put 0x1401 1 1)).portOff 1 = false) ∧
    ((s.dev.onPd (fun p => { p with held := some (1 :: zs 39) })).com.pd.held = some (1 :: zs 39)) ∧
    (let d := s.dev.onPd (fun p => { p with supervised := true })
     d.com.pd.supervised = true ∧ d.com.pd.lost = false ∧ d.g 0x1430 1 ≠ 0 ∧ d.g 0x1430 2 ≠ 0 ∧ d.g 0x1430 3 ≠ 1 ∧ d.cnt 0x1430 4 + 1 < 2 ^ 32) ∧
    ((onUsb .ready (fld 2)).dev.com.sess.find? 1 = some (fld 2) ∧ (fld 2).port = 2 ∧ (onUsb .ready (fld 2)).dev.g 0x1440 1 ≠ 0 ∧
      (onUsb .ready (fld 2) fa).dev.portOff 0 = false) := by
  decide +kernel

theorem test_witness_RequestsActOncePerCounter :
    let s := on .ready (fun d => d.setCtx 0 { code := 4 })
    let p := on .printing (fun d => { d with
      print := { d.print with reps := [{ rep 7 0 100 with open_ := 255 }] }, com := { d.com with op := some (op 2), pd := { d.com.pd with ackFc := 255, ackCancel := 255, ackSpoil := 255, ackSplice := 255 } } })
    (255 = p.dev.com.pd.ackFc ∧ 255 = p.dev.com.pd.ackCancel ∧ 255 = p.dev.com.pd.ackSpoil ∧ 255 = p.dev.com.pd.ackSplice) ∧
    (s.dev.fromReady = true ∧ s.dev.follows = false ∧ 1 ≠ s.dev.com.pd.ackFc ∧ (s.dev.ctx 1).code < 4 ∧ s.dev.usable 0 = true ∧ s.dev.phase ≠ .printing) ∧
    (p.dev.fromReady = true ∧ p.dev.follows = false ∧ 1 ≠ p.dev.com.pd.ackCancel ∧ p.dev.com.op = some (op 2) ∧ (op 2).id ≠ 2) ∧
    (p.dev.com.op = some (op 2) ∧ (op 2).id = 1 ∧ (on .ready).dev.phase ≠ .printing) ∧
    (p.dev.rep? 8 = none ∧ p.dev.rep? 7 = some { rep 7 0 100 with open_ := 255 } ∧ p.dev.role ≠ 1) := by
  decide +kernel

theorem u16s_zeros (n : Nat) : (u16s (List.replicate (2 * n) (0 : Byte))).any (fun v => decide (65534 < v)) = false := by
  induction n with
  | zero => rfl
  | succ k ih => rw [show 2 * (k + 1) = 2 * k + 1 + 1 by omega, List.replicate_succ, List.replicate_succ]; simpa [u16s] using ih

/-- A matrix of 256 by 256 thresholds of 0, and a lattice of the source space 1. -/
def matrix0 : Bytes := List.replicate (2 * 65536) 0
@[inherit_doc matrix0] def lattice0 : Bytes := List.replicate 9826 0

/-- A context in Staging of session 1 that enables bar 0 with one drop level and passes every rule of arm. -/
def plain : Ctx :=
  { code := 1, owner := some 1, val := [(key 0x4000 2, 1), (key 0x4000 3, 65536000), (key 0x4003 1, 1), (key 0x4050 1, 1)]
    dom := [(0x6100, lattice0), (0x6140, matrix0)] }

/-- The device with that context as C000. -/
def arming : State := on .ready (fun d => d.setCtx 0 plain)

theorem arming_passes : firstFail (arming.begin_.armFails 0) = none := by
  have hm : arming.begin_.failsMatrix 0 0 1 = [] := by
    have h1 : arming.begin_.matrixOf 0 0 1 = matrix0 := rfl
    have h2 : matrix0.length = 131072 := List.length_replicate
    have h3 := u16s_zeros 65536
    simp only [Dev.failsMatrix, List.range_succ, List.range_zero, List.nil_append, List.flatMap_cons, List.flatMap_nil, Nat.zero_add, h1, h2]
    rw [show matrix0 = List.replicate (2 * 65536) 0 from rfl, h3]
    rfl
  have ht : arming.begin_.failsTone 0 0 = [] := by
    have h1 : arming.begin_.cdom 0 0x6100 = lattice0 := rfl
    simp only [Dev.failsTone, Nat.add_zero, h1, lattice0, List.length_replicate]
    decide +kernel
  have hs : arming.begin_.failsScreen 0 0 = [] := by
    have hd : arming.begin_.cg 0 (0x4050 + 0) 1 = 1 := by decide +kernel
    have h2 : arming.begin_.cg 0 (0x4050 + 0) 2 = 0 := by decide +kernel
    have h3 : arming.begin_.cg 0 (0x4050 + 0) 3 = 255 := by decide +kernel
    simp only [Dev.failsScreen, hd, h2, h3]
    simp [hm]
    decide +kernel
  have hb : arming.begin_.enabledBars 0 = [0] := by decide +kernel
  have e : arming.begin_.armFails 0 = arming.begin_.failsOwn 0 ++ arming.begin_.failsCount 0 ++ ((List.range (arming.begin_.cg 0 0x4003 5)).flatMap
      (arming.begin_.failsLive 0) ++ ((List.range 16).filter (fun s => bit (arming.begin_.cg 0 0x4003 4) s)).flatMap (arming.begin_.failsStatic 0)) ++
      arming.begin_.barList.flatMap (arming.begin_.failsKeeper 0) := by
    simp only [Dev.armFails, hb, List.flatMap_cons, List.flatMap_nil, ht, hs, List.append_nil, List.isEmpty_cons, Bool.false_eq_true, if_false]
  rw [e]
  decide +kernel

theorem test_witness_ArmValidatesAndEndsArmedOrStaging :
    (let s := on .ready (fun d => d.setCtx 0 { code := 1, owner := some 1 })
     s.Serves 1 0x2012 ∧ ((s.dev.ctx 0).code = 1 ∧ (s.dev.ctx 0).owner = some 1) ∧ ∃ p, firstFail (s.begin_.armFails 0) = some p) ∧
    (arming.Serves 1 0x2012 ∧ ((arming.dev.ctx 0).code = 1 ∧ (arming.dev.ctx 0).owner = some 1 ∧ arming.begin_.fixedLoad < 81920000000) ∧
      firstFail (arming.begin_.armFails 0) = none) ∧
    (({ op 1 with result := 0x0F00001C } : Op).cls = 1 ∧ ({ op 1 with result := 0x0F00001C } : Op).result ≠ 0x0F000019) ∧
    (let s := on .ready (fun d => { d with com := { d.com with op := some (op 1) } })
     s.dev.com.op = some (op 1) ∧ (op 1).result = 0 ∧ s.begin_.cacheTiles (op 1).arg = [] ∧ s.begin_.cacheFits (op 1).arg [] = true) :=
  ⟨⟨serves_of_check (by decide +kernel), by decide +kernel, Option.isSome_iff_exists.mp (by decide +kernel)⟩,
    ⟨serves_of_check (by decide +kernel), by decide +kernel, arming_passes⟩, by decide +kernel, by decide +kernel⟩

/-- The device with context 0 in state `c` and a change pending to context 1. -/
def ctx0 (c : Nat) (o : Option Nat := none) (st : DState := .ready) : State :=
  on st (fun d => ({ d with print := { d.print with pending := some { ctx := 1, n := 9 } } } : Dev).setCtx 0 { code := c, owner := o } |>.setCtx 1 { code := 4 })

theorem test_witness_ContextCommandsMoveContexts :
    (∀ c, c < 7 → ((ctx0 c (some 1)).Serves 1 0x2012 ∧ (((ctx0 c (some 1)).dev.ctx 0).code = c ∧ ((ctx0 c (some 1)).dev.ctx 0).owner = some 1))) ∧
    ((ctx0 4).dev.targeted 0 = false ∧ (ctx0 4).dev.role = 0 ∧ (ctx0 4).dev.targeted 1 = true ∧ ((ctx0 4).dev.ctx 1).code = 4) ∧
    ((ctx0 0).dev.ctx 127).code = 0 ∧ ((ctx0 5 none .printing).Serves 1 0x2012 ∧ (ctx0 5 none .printing).dev.targeted 0 = false) := by
  refine ⟨fun c h => ?_, by decide +kernel, by decide +kernel, serves_of_check (by decide +kernel), by decide +kernel⟩
  have : c = 0 ∨ c = 1 ∨ c = 2 ∨ c = 3 ∨ c = 4 ∨ c = 5 ∨ c = 6 := by omega
  rcases this with rfl | rfl | rfl | rfl | rfl | rfl | rfl <;> exact ⟨serves_of_check (by decide +kernel), by decide +kernel⟩

/-- The head lanes of bar 0 in state `st`. -/
def laneSt (st : Nat) (d : Dev) : Dev := (List.range 8).foldl (fun d i => d.put 0x3410 (i + 1) st) d

theorem test_witness_StartAndStopFrameAPrintRun :
    (let s := on .armed (fun d => laneSt 4 (({ d with print := { d.print with startCtx := some 0 } } : Dev).setCtx 0 { plain with code := 4 }))
     s.Serves 1 0x2000 ∧ s.dev.sys.st = .armed ∧ s.dev.role = 0 ∧ s.dev.print.startCtx = some 0 ∧ (s.dev.ctx 0).code = 4 ∧ s.dev.lanesReady 0 = true) ∧
    (let s := on .printing
     s.Serves 1 0x2000 ∧ s.dev.role = 0 ∧ s.dev.sys.st = .printing ∧ s.dev.print.endRep = none) ∧
    (let s := on .printing (fun d => { d with print := { d.print with endRep := some 9 } })
     s.Serves 1 0x2000 ∧ s.dev.print.endRep = some 9) ∧
    ((on .stopping).Serves 1 0x2000 ∧ (on .ready).Serves 1 0x2000) ∧
    (let s := on .stopping (fun d => { d with print := { d.print with stopNow := true } })
     s.dev.print.stopNow = true ∧ s.dev.printingLike = true ∧ (on .stopping).dev.print.stopNow = false) :=
  ⟨⟨serves_of_check (by decide +kernel), by decide +kernel⟩, ⟨serves_of_check (by decide +kernel), by decide +kernel⟩,
    ⟨serves_of_check (by decide +kernel), by decide +kernel⟩, ⟨serves_of_check (by decide +kernel), serves_of_check (by decide +kernel)⟩, by decide +kernel⟩

/-- Printing repeat 7 of 1,000 lines at line `p`, with a change of repeat 8 pending. -/
def changing (p : Nat) (l : Option Chg := none) : State :=
  on .printing (fun d => ({ d with print := { d.print with reps := [rep 7 0 1000], pending := some { ctx := 0, n := 8 }, locked := l } } : Dev).put
    0x3208 1 (p * 65536))

theorem test_witness_AChangeLocksAtItsMargin :
    (∀ p ∈ [904, 905], (changing p).dev.print.pending = some { ctx := 0, n := 8 } ∧ (changing p).dev.printingLike = true ∧
      (changing p).dev.keeper.gen = none ∧ (changing p).dev.print.locked = none) ∧
    (let s := on .printing (fun d => { d with keeper := { d.keeper with gen := some { num := 1, rep := 3, content := {} } } })
     s.dev.keeper.gen = some { num := 1, rep := 3, content := {} } ∧ s.dev.met 3 = false ∧ s.dev.print.pending = none) ∧
    (changing 904).dev.met 8 = true ∧ (changing 905).dev.met 8 = false ∧ (changing 905 (some { ctx := 0, n := 7 })).dev.met 8 = false := by
  decide +kernel

/-- Printing repeat 7 of 1,000 lines, from context 0, at bar 0, which comes to line `j`; its lanes are up and credited. -/
def prt (j : Nat) (f : Bar → Bar := id) (g : Dev → Dev := id) : State :=
  on .printing (fun d => g ((laneSt 4 { d with
    print := { d.print with reps := [rep 7 0 1000 (some 0)] }
    lanes := [(1, { carries := true, baseSent := true, credited := true, next := j, acked := j, window := 32 })] }).setCtx 0 { plain with code := 5 } |>.onBar 0
      (fun b => f { b with next := j, rend := j + 1, ctx := some 0 })))

theorem test_witness_LinesAreRenderedAndSentAhead :
    (let s := prt 0 (fun b => { b with rend := 0 })
     s.dev.printingLike = true ∧ s.dev.fast = true ∧ s.dev.print.sheetStart = false ∧ 0 < s.dev.nbars ∧ (s.dev.bar 0).rend = 0 ∧
      0 < s.dev.upNext 0 + s.dev.lead 0 1 ∧ (s.begin_.ensure 0).repAt 0 = some (rep 7 0 1000 (some 0)) ∧ (s.begin_.ensure 0).print.endRep = none ∧
      (s.begin_.ensure 0).engineOut 0 0 = false ∧ (s.begin_.ensure 0).asks = false) ∧
    (let s := on .printing (fun d => { d with print := { d.print with reps := [rep 7 0 1000] } })
     (s.begin_.ensure 0).noDots 0 0 (rep 7 0 1000) = true ∧ 0 < (rep 7 0 1000).gapStart (s.begin_.ensure 0).sheet ∧ 0 + 1 < ceilLine (rep 7 0 1000).end_) ∧
    (let s := prt 0
     s.dev.maySend 1 = true ∧ s.dev.repAt (s.dev.lane 1).next = some (rep 7 0 1000 (some 0)) ∧ s.dev.carriedLane 1 = some 0 ∧ s.dev.withheldLine 0 0 = false) ∧
    (let s := prt 0 (fun b => { b with store := [{ line := 0, rep := 7, dots := [], tiles := [], held := true }] })
     s.dev.maySend 1 = true ∧ s.dev.withheldLine 0 0 = true) ∧
    (prt 0).dev.maySend 72 = false := by
  decide +kernel

/-- The output has just reached line `j` of the bars, `at_` ns after PORST_N. -/
def reached (j at_ : Nat) (d : Dev) : Dev := { d with reck := { d.reck with hwm := j * 18446744073709551616, at_ := at_ } }

theorem test_witness_LinesFireRetireOrWait :
    (∀ f ∈ [(id : Bar → Bar), fun b => { b with posLost := true }, fun b => { b with tPrev := some 100 }], let s := prt 10 f (reached 10 250)
      s.dev.printingLike = true ∧ s.dev.fast = true ∧ s.dev.sys.st ≠ .fault ∧ 0 < s.dev.nbars ∧ s.dev.print.reps ≠ [] ∧
      s.dev.print.sheetStart = false ∧ (s.dev.bar 0).wait = none ∧ s.begin_.lineDueBy 0 10 100 = some 100 ∧ (s.begin_.ensure 10).endLine = none ∧
      (s.begin_.ensure 10).repAt 10 = some (rep 7 0 1000 (some 0)) ∧ 10 ≠ ceilLine (rep 7 0 1000 (some 0)).d) ∧
    (let d := (prt 10 (fun b => { b with posLost := true }) (reached 10 250)).begin_.ensure 10
     let q := (d.rep? 7).getD (rep 7 0 1000 (some 0))
     (d.plannedSwap 0 10 q).retireFor 0 10 q = some 9) ∧
    (let d := (prt 10 id (reached 10 250)).begin_.ensure 10
     let q := (d.rep? 7).getD (rep 7 0 1000 (some 0))
     (d.plannedSwap 0 10 q).retireFor 0 10 q = none ∧ (d.plannedSwap 0 10 q).fireInstant 0 100 q ≤ 100 ∧ (d.plannedSwap 0 10 q).altTooFast 0 q = false) ∧
    (let d := (prt 10 (fun b => { b with tPrev := some 100 }) (fun d => reached 10 250 (d.onCtx 0 (fun c => { c with ceiling := 1000 })))).begin_.ensure 10
     let q := (d.rep? 7).getD (rep 7 0 1000 (some 0))
     (d.plannedSwap 0 10 q).retireFor 0 10 q = none ∧ 100 < (d.plannedSwap 0 10 q).fireInstant 0 100 q) ∧
    (let s := prt 10 (fun b => { b with wait := some (5, 9) }) (reached 11 250)
     (s.dev.bar 0).wait = some (5, 9) ∧ s.begin_.lineDueBy 0 ((s.dev.bar 0).next + (1 + (s.dev.bar 0).dues.length)) 100 = some 100) ∧
    (prt 10 id (reached 9 250)).begin_.lineDueBy 0 10 100 = none ∧
    (∀ w ∈ [none, some (20, 50)], let s := on .fault (fun d => reached 3 250 (d.onBar 0 (fun b => { b with tail := [(3, w)] })))
     s.dev.fast = true ∧ (s.dev.bar 0).tail = [(3, w)] ∧ s.begin_.lineDueBy 0 3 100 = some 100 ∧ s.dev.lineSends 3 = true ∧
      ((s.begin_.tailTag 0).bar 0).strobeFault = false ∧ ((s.begin_.tailTag 0).bar 0).tPrev = none) := by
  refine ⟨fun f hf => ?_, by decide +kernel, by decide +kernel, by decide +kernel, by decide +kernel, by decide +kernel, by decide +kernel⟩
  simp only [List.mem_cons, List.not_mem_nil, or_false] at hf
  rcases hf with rfl | rfl | rfl <;> decide +kernel

theorem test_witness_StrobeFaultsLatchUntilCleared :
    (((15 : Fin 16) : Nat) / 2 = 7 ∧ 7 < (on .ready).dev.nbars ∧ (on .ready).dev.fast = true ∧ (on .ready).dev.printingLike = false ∧
      (((1817 : Nat) : Rat) < (on .ready).begin_.watchdogGap 7) ∧
      4 * (on .ready).begin_.live 7 ((on .ready).dev.bar 7).rep 0x5007 2 < 1000000) ∧
    (let d := prt 10 (fun b => { b with fired := true })
     (d.dev.repAt 9).isSome = true ∧ (d.dev.bar 0).fired = true ∧ d.dev.printingLike = true ∧ 9 < (rep 7 0 1000 (some 0)).gapStart d.dev.sheet) ∧
    (on .ready).Serves 1 0x5707 ∧ (let s := on .ready (fun d => { d with product := 0x2204 })
      s.dev.session? 1 = some usb ∧ s.dev.nbars ≤ 4) :=
  ⟨by decide +kernel, by decide +kernel, serves_of_check (by decide +kernel), by decide +kernel⟩

/-- The device with queue 0 as given, the PCIe link up and its queues going. -/
def que (q : Queue) (f : Jobs → Jobs := id) : State :=
  on .ready (fun d => { d with jobs := f { d.jobs with link := true, paused := false, queues := [(0, q)] } })

/-- A ring of 16 entries with one descriptor waiting. -/
def ring : Queue := { order := 4, enabled := true, tail := 1 }

theorem test_witness_QueuesRunHaltAndRestart :
    (15 < 2 ^ ((que ring).dev.queue 0).order ∧ 2 ^ ((que ring).dev.queue 0).order ≤ 16) ∧
    (4 ≤ ((que ring).dev.queue 0).order ∧ ((que { ring with order := 12, tail := 4095 }).dev.queue 0).order ≤ 12 ∧
      ((que { ring with order := 12, tail := 4095 }).dev.queue 0).tail < 2 ^ ((que { ring with order := 12, tail := 4095 }).dev.queue 0).order) ∧
    (2 ^ ((que { ring with tail := 16 }).dev.queue 0).order ≤ ((que { ring with tail := 16 }).dev.queue 0).tail ∧
      ((que { ring with order := 3 }).dev.queue 0).order < 4) ∧
    ((que ring).dev.queueReady 0 = true ∧ ((que { ring with check := some ⟨ds, fh, []⟩ }).dev.queue 0).check ≠ none) ∧
    (∀ b : Bool, let s := que { ring with enabled := b } (fun j => { j with enumerated := true })
      s.dev.fast = true ∧ s.dev.jobs.link = true ∧ s.dev.jobs.enumerated = true ∧ (s.dev.queue 0).enabled = b ∧
      (bit 0x4003 0 = true ∧ bit 0x4003 1 = true ∧ 0x4003 / 4096 % 16 = (s.dev.queue 0).order ∧ bit 0x4003 2 = (s.dev.queue 0).irqEn) ∧
      (bit 0x4001 0 = true ∧ bit 0x4001 1 = false) ∧ bit 0x4000 0 = false) ∧ (que ring).dev.jobs.enumerated = false := by
  decide +kernel

theorem test_witness_EmptyAndShortDescriptors :
    (que ring).dev.queueReady 0 = true ∧ ds.length = 0 ∧ 1 ≤ ({ ds with length := 1 } : Desc).length ∧ ({ ds with length := 31 } : Desc).length < 32 := by
  decide +kernel

/-- A frame of one sample, 7, as one stored block, with its descriptor. -/
def one : FrameHdr :=
  { fh with kind := 3, tileId := 5, lines := 1, columns := 1, sampleBits := 8, channels := 1, ulen := 1, clen := 6, crc := (crc32 [7]) }
@[inherit_doc one] def oneBytes : Bytes := [1, 1, 0, 0xFE, 0xFF, 7]

theorem test_witness_DescriptorsCompleteWithTheirStatus :
    (let s : State := { que ring with dev := (que ring).dev.put 0x2A00 1 1 }
     s.dev.queueReady 0 = true ∧ 32 ≤ ({ ds with length := 38 } : Desc).length ∧ s.dev.headerStatus { ds with length := 38 } one = none ∧
      s.dev.headerStatus { ds with length := 32 } one = some 0x14) ∧
    (let k : Check := ⟨{ ds with length := 38 }, one, oneBytes⟩
     let s := que { ring with check := some k }
     (s.dev.queue 0).check = some k ∧
      decodePayload (s.dev.historyOf k.hdr) (k.hdr.flags % 4) k.hdr.ulen k.hdr.crc (k.payload.take k.hdr.clen) = (0, [7]) ∧
      decodePayload (s.dev.historyOf k.hdr) (k.hdr.flags % 4) k.hdr.ulen (k.hdr.crc + 1) (k.payload.take k.hdr.clen) = (0x18, [])) ∧
    (let s := que ring (fun j => { j with frames := [(2 * 2 ^ 64 + 5, { hdr := { fh with tileId := 5 }, data := [] })] })
     let u : State := { s with dev := s.dev.setCtx 0 { code := 4, val := [(key 0x4003 4, 1), (key 0x4020 1, 0), (key 0x4020 2, 6)] } }
     let d : Desc := { ds with kind := 2, arg := 5, length := 1 }
     s.dev.queueReady 0 = true ∧ u.dev.queueReady 0 = true ∧ d.length ≠ 0 ∧ (s.dev.frame? 2 5).isSome = true ∧ s.dev.frame? 2 6 = none ∧
      s.dev.inUse 2 5 = false ∧ u.dev.inUse 2 5 = true ∧
      s.dev.jobs.frames.keysWhere (fun k f => k / 2 ^ 64 == d.kind && f.hdr.tileId / 4294967296 == d.arg / 4294967296) = [2 * 2 ^ 64 + 5] ∧
      (∀ k ∈ [2 * 2 ^ 64 + 5], s.dev.inUse d.kind (k % 2 ^ 64) = false ∧ u.dev.inUse d.kind (k % 2 ^ 64) = true)) ∧
    (let e : Export := { cam := 0, frameNo := 0, hdr := { fh with clen := 1 }, data := [9] }
     (que ring).dev.jobs.exports.find? (fun e => e.waiting.isNone) = none ∧ (que ring).dev.jobs.frames.keysWhere (fun k f => k / 2 ^ 64 == 2 && f.hdr.tileId / 4294967296 == 0) = [] ∧
      (que ring (fun j => { j with exports := [e] })).dev.queueReady 0 = true ∧
      (que ring (fun j => { j with exports := [e] })).dev.jobs.exports.find? (fun e => e.waiting.isNone) = some e ∧
      32 + e.hdr.clen ≤ 33 ∧ 32 < 32 + e.hdr.clen) := by
  decide +kernel

theorem test_witness_MailboxExportsAndRequestsMoveOn :
    ((que ring).dev.jobs.link = true ∧ (que ring).dev.sys.verified = true ∧ 16 ≤ 1472) ∧
    ((que ring).dev.jobs.d2hWait = [] ∧ (que ring (fun j => { j with d2hWait := [[1]] })).dev.jobs.d2hWait = [1] :: []) ∧
    (let e : Export := { cam := 5, frameNo := 0, hdr := { fh with clen := 1 }, data := [9], waiting := some 0 }
     let f := que ring (fun j => { j with exports := [e] })
     let s : State := { f with dev := f.dev.put 0x2A00 4 1 }
     s.dev.jobs.exports.find? (fun e => e.cam == ((5 : Fin 6) : Nat) && e.waiting.isSome) = some e ∧ s.dev.freeBuffers ≠ 0 ∧ f.dev.freeBuffers = 0 ∧
      f.dev.jobs.exports.find? (fun e => e.cam == ((5 : Fin 6) : Nat) && e.waiting.isSome) = some e ∧ s.dev.cnt 0x2B00 5 + 1 < 2 ^ 32) ∧
    (∀ st ∈ [1, 2, 3], ((que ring (fun j => { j with requests := [(16, { kind := 2, state := st, tile := 5 })] })).dev.jobs.requests.find? (15 + 1)).map
      (fun r => r.state) = some st) := by
  decide +kernel

/-- Channel `c` enabled, changed by `f`. -/
def enc (c : Nat) (e : Enc := {}) (f : Dev → Dev := id) : State := on .ready (fun d => f ((d.put (0x3000 + c) 1 1).setEnc c e))

theorem test_witness_EncoderEdgesCountThroughHysteresis :
    ((enc 3).dev.counting 3 = true ∧ (enc 3).dev.g 0x3003 2 = 0 ∧ ((enc 3).dev.enc 3).a ≠ true ∧ ((enc 3).dev.enc 3).b = false) ∧
    ((enc 0 {} (fun d => d.put 0x3000 2 1)).dev.counting 0 = true ∧ (enc 0 {} (fun d => d.put 0x3000 2 1)).dev.g 0x3000 2 = 1) ∧
    ((on .ready).dev.counting 3 = false ∧ (on .ready).dev.g 0x3003 1 ≠ 1 ∧ (on .boot).dev.fast = false) ∧
    ((enc 3).dev.g 0x3003 1 = 1 ∧ (enc 3).dev.fast = true ∧ (enc 0 {} (fun d => d.put 0x3000 2 1)).dev.g 0x3000 1 = 1 ∧
      (enc 0 {} (fun d => d.put 0x3000 2 1)).dev.fast = true) ∧ (accepts false true true 2 1 3 = some 1 ∧ accepts false false true 2 1 3 = none) ∧
    (({} : Enc).held = false ∧ ({} : Enc).last = 1 ∧ ({ held := true } : Enc).held = true) := by
  decide +kernel

theorem test_witness_IndexAndSignalSupervision :
    (∀ z : Bool, ∀ gate ∈ [(0, false, false), (1, true, false), (2, true, true), (3, false, true)],
      let s := enc 1 { z := !z } (fun d => (d.put 0x3001 5 gate.1).put 0x3001 6 (if z then 0 else 1))
      s.dev.g 0x3001 1 = 1 ∧ s.dev.fast = true ∧ z ≠ (s.dev.enc 1).z ∧ z = !(s.dev.g 0x3001 6 == 1) ∧ s.dev.g 0x3001 5 = gate.1) ∧
    ((enc 1 { z := true }).dev.enc 1).z = true ∧
    (∀ n ∈ [0, 4, 17], let e : Enc := { count := 16384 + n, lastLatch := some 0 }
      let s := enc 1 e (fun d => (d.put 0x3001 5 4).put 0x3001 8 1)
      s.dev.g 0x3001 5 = 4 ∧ s.dev.g 0x3001 8 = 1 ∧ (s.dev.enc 1).mirrored = [] ∧ 1 ≠ s.dev.web ∧ (s.dev.enc 1).lastLatch = some 0 ∧
        (s.dev.enc 1).reversal = false ∧ bit (s.dev.encFlags 1) 3 = false ∧ s.dev.g 0x3001 0x0A ≠ 1 ∧
        (((s.dev.enc 1).count - 0 - (s.dev.g 0x3001 7 : Nat)).natAbs ≤ s.dev.g 0x3001 9 ∨
          4 * s.dev.g 0x3001 9 < ((s.dev.enc 1).count - 0 - (s.dev.g 0x3001 7 : Nat)).natAbs)) ∧
    (let s := enc 0
     0 = s.dev.web ∧ s.dev.role = 0 ∧ s.dev.g 0x3000 8 ≠ 1) ∧
    (∀ b : Bool, ∀ n ∈ [24576, 24575], let s := enc 0 { count := n, lastLatch := some 0, absent := b } (fun d => d.put 0x3000 8 1)
      s.dev.g 0x3000 8 = 1 ∧ (s.dev.enc 0).lastLatch = some 0 ∧ s.dev.fast = true ∧ (s.dev.enc 0).absent = b ∧ (s.dev.enc 0).count = n ∧
      (0 + (ceilDiv (3 * s.dev.g 0x3000 7) 2 : Nat) ≤ (s.dev.enc 0).count ↔ n = 24576)) ∧
    (∀ c : Fin 2, ∀ f : Bool, let s := enc c {} (fun d => (d.put (0x3000 + c) 2 1).setFlag c 0 f)
      s.dev.g (0x3000 + c) 1 = 1 ∧ s.dev.g (0x3000 + c) 2 = 1 ∧ s.dev.fast = true ∧ s.dev.signalFault c = f ∧ (c = 0 ↔ (c : Nat) = s.dev.web) ∧
      127 < s.dev.g (0x3000 + c) 0x0D ∧ s.dev.g (0x3000 + c) 0x0E < 385 ∧ ¬ (128 < s.dev.g (0x3000 + c) 0x0D ∨ s.dev.g (0x3000 + c) 0x0E < 128)) ∧
    (∀ c : Fin 2, let s := enc c {} (fun d => ({ d with reck := { d.reck with state := 2 } } : Dev).setFlag c 0 true)
      s.dev.signalFault c = true ∧ (c = 0 → (c : Nat) = s.dev.web ∧ 2 ≤ s.dev.reck.state) ∧ (c = 1 → (c : Nat) ≠ s.dev.web)) := by
  decide +kernel

theorem test_witness_TheReckonerFollowsItsEncoder :
    ((on .ready).dev.fast = true ∧ (on .ready).dev.reck.state ≤ 1 ∧ (on .ready).dev.gi 32 (0x3008 + (on .ready).dev.web) 9 = (on .ready).dev.reck.trim ∧
      (on .ready).dev.twin.slewLeft = 0 ∧ (on .ready).dev.printingLike = false) ∧
    (on .ready (fun d => { d with reck := { d.reck with state := 2 } })).dev.reck.state = 2 := by
  decide +kernel

theorem test_witness_CapturesAndComparesFireOnce :
    (let s := on .ready
     s.dev.fast = true ∧ s.dev.sheet = false ∧ s.dev.g 0x2427 1 = 0 ∧ (s.dev.time.queues.get [] 7).length < 16 ∧ s.dev.time.queues.get [] 7 = [] ∧
      s.dev.session? 1 = some usb ∧ s.dev.sys.verified = true) ∧
    (let s := on .ready (fun d => { d with time := { d.time with queues := [(7, List.replicate 16 ⟨0, 0, false, 0⟩)] } })
     16 ≤ (s.dev.time.queues.get [] 7).length ∧ s.dev.time.queues.get [] 7 = ⟨0, 0, false, 0⟩ :: List.replicate 15 ⟨0, 0, false, 0⟩) ∧
    (∀ sense : Fin 3, ∀ fall : Bool, let s := on .ready (fun d => d.put 0x2420 1 sense)
      (s.dev.g 0x2420 1 = 2 ∨ s.dev.g 0x2420 1 = (if fall then 1 else 0)) ∨ s.dev.g 0x2420 1 = (if fall then 0 else 1)) ∧
    (on .boot).dev.fast = false := by
  decide +kernel

/-- Unit 0 with one entry of target `t`, changed by `f`. -/
def unit0 (t : Nat) (f : Dev → Dev) : State :=
  on .printing (fun d => f { ((d.put 0x3020 2 1).putDom 0x6300 (leBytes 8 t ++ zs 8)) with print := { d.print with reps := [rep 7 0 1000], runFirst := 7 } })

theorem test_witness_CapturesAndComparesFireOnce_due :
    (let s := on .ready (fun d => d.put 0x302F 2 1024)
     1023 < s.dev.g 0x302F 2 ∧ s.dev.fast = true ∧ s.dev.reck.state = 0 ∧ s.dev.g 0x302F 2 ≤ 1024 ∧ (on .boot).dev.fast = false) ∧
    (let s := unit0 0 (fun d => d.setCmp 0 { status := [(0, { state := 1 })] })
     s.dev.g 0x3020 1 = 0 ∧ ((s.dev.cmp 0).status.get {} 0).state ≠ 0 ∧ s.begin_.entryDue 0 0 = none) ∧
    (∀ t ∈ [0, 1], let s := unit0 t (fun d => d.put 0x3020 3 1)
      s.dev.g 0x3020 1 = 0 ∧ s.dev.g 0x3020 3 = 1 ∧ s.dev.cmpReached 0 (s.dev.cmpEntry 0 0).1 = (t == 0) ∧
      (s.begin_.entryDue 0 0).isSome = (t == 0)) ∧
    (let s := unit0 0 id
     s.begin_.entryDue 0 0 = some (0, none, false) ∧ (s.begin_.dueWith 0 0).getLast? = some (0, none)) ∧
    (∀ t ∈ [65536000, 65535999], let s := unit0 t (fun d => reached 2000 250 (d.put 0x3020 1 1))
      0 < s.dev.g 0x3020 2 ∧ s.dev.fast = true ∧ s.dev.g 0x3020 1 ≠ 0 ∧ (s.dev.cmp 0).nextRep.get s.dev.print.runFirst 0 = 7 ∧
        s.dev.rep? 7 = some (rep 7 0 1000) ∧ s.dev.repLength 7 = some 65536000 ∧ (s.dev.cmpEntry 0 0).1 = t ∧
        s.begin_.entryDue 0 0 = some (100, some 7, t == 65536000) ∧
        (t = 65535999 → (s.begin_.dueWith 0 100).getLast? = some (0, some 7))) := by
  decide +kernel

/-- PTP domain 1 enabled with peer delay `p`, in state `st`. -/
def dom1 (p st : Nat) (x : Ptp := {}) (f : Dev → Dev := id) : State :=
  on .ready (fun d => f ((((d.put 0x2401 1 1).put 0x2401 5 p).put 0x2405 1 st).setPtp 1 x))

theorem test_witness_PtpMessagesMeasureTheMaster :
    ((dom1 0 0).dev.ptpOn 1 = true ∧ (dom1 0 0).dev.ptpState 1 = 0 ∧ ((dom1 0 0).dev.ptp 1).waiting = none ∧ (dom1 0 0).dev.g 0x2401 5 = 0 ∧
      (dom1 0 0).dev.g 0x2401 6 = 1) ∧
    ((dom1 1 1 { waiting := some 9, reqSent := some 4 }).dev.ptpOn 1 = true ∧ (dom1 1 1).dev.ptpState 1 ≠ 0 ∧
      ((dom1 1 1 { waiting := some 9, reqSent := some 4 }).dev.ptp 1).waiting = some 9 ∧
      ((dom1 1 1 { waiting := some 9, reqSent := some 4 }).dev.ptp 1).reqSent = some 4 ∧ (dom1 1 1).dev.g 0x2401 5 = 1 ∧
      (dom1 1 1 {} (fun d => d.put 0x2401 6 0)).dev.g 0x2401 6 ≠ 1) := by
  decide +kernel

theorem test_witness_TimeHoldsOverAndTimedOutputsFire :
    ((dom1 0 3).dev.ptpOn 1 = true ∧ (dom1 0 3).dev.ptpState 1 ≠ 0 ∧ (dom1 0 3).dev.ptpState 1 ≠ 4 ∧ (dom1 0 3).dev.time.inForce ≠ 1) ∧
    (∀ st ∈ [1, 3], let s := dom1 0 3 {} (fun d => { d.put 0x2404 1 st with time := { d.time with inForce := 1, away := true } })
      s.dev.ptpOn 1 = true ∧ s.dev.ptpState 1 = 3 ∧
      s.dev.time.inForce = 1 ∧ s.dev.g 0x2401 0x0A ≠ 0 ∧ s.dev.ptpState (1 - 1) = st ∧ s.dev.time.away = true ∧ s.dev.preferred = 0) ∧
    ((on .ready).dev.time.away = false ∧ (on .ready).dev.ptpOn 1 = false ∧ (on .ready).dev.g 0x2417 1 = 0 ∧ (on .boot).dev.fast = false) ∧
    (∀ p ∈ [0, 1000], let s := on .ready (fun d => (d.put 0x2417 1 1).put 0x2417 4 p)
      s.dev.g 0x2417 1 ≠ 0 ∧ s.dev.fast = true ∧ s.dev.g 0x2417 4 = p) := by
  decide +kernel

/-- Lane `k` in state `st`. -/
def ln (k st : Nat) (l : Lane := {}) (f : Dev → Dev := id) (ds : DState := .ready) : State := on ds (fun d => f ((d.put 0x3410 k st).setLane k l))

/-- Bar 0's logical lanes all on its lane 9, so that lanes 1 to 8 serve none; its spare entry as given. -/
def unmapped (sp : Nat) (d : Dev) : Dev := (d.put 0x3417 1 (leNat (List.replicate 8 8))).put 0x3418 1 (sp * 256)

theorem test_witness_LanesTrainStepUpAndRelock :
    ((∀ k ∈ [1, 9, 72], (ln k 1).dev.laneState k = 1 ∧ (ln k 1).dev.qualifying k = false ∧ ((ln k 1).dev.inUseLane k && (ln k 1).dev.stepsUp) = false) ∧
      (ln 9 1).dev.isSpare 9 = true) ∧
    ((ln 80 1 { fails := 1 }).dev.laneState 80 = 1 ∧ ((ln 80 1 { fails := 1 }).dev.lane 80).fails + 1 < 3) ∧
    (let s := ln 8 1 { fails := 2 } (fun d => d.put 0x3401 1 0x7F)
     s.dev.laneState 8 = 1 ∧ 2 ≤ (s.dev.lane 8).fails ∧ s.dev.qualifying 8 = false ∧ s.dev.isSpare 8 = false ∧ (s.dev.lanesOf (Dev.laneBar 8)).contains 8 = false) ∧
    (let s := ln 1 3 { target := 1, upRate := 1 }
     s.dev.laneState 1 = 3 ∧ s.dev.inSwap 1 = false ∧ s.dev.qualifying 1 = false ∧ s.dev.workingRate 1 1 = 1 ∧ (s.dev.lane 1).upRate = (s.dev.lane 1).target ∧
      (s.dev.lane 1).target ≠ 0 ∧ s.dev.sys.preparing = false ∧ s.dev.printingLike = false) ∧
    ((ln 1 2 { target := 5 }).dev.laneState 1 = 2 ∧ ((ln 1 2 { target := 5 }).dev.lane 1).target ≠ 0 ∧ (ln 1 2).dev.laneLive 1 = true) ∧
    (let s := ln 1 3 { qual := true } (unmapped 8)
     s.dev.laneState 1 = 3 ∧ s.dev.inSwap 1 = false ∧ s.dev.qualifying 1 = true) ∧
    (let s := ln 1 4 { carries := true }
     s.dev.laneState 1 = 4 ∧ (s.dev.lane 1).carries = true ∧ s.dev.inSwap 1 = false ∧ (ln 73 4).dev.laneState 73 = 4 ∧ (ln 9 6).dev.laneState 9 = 6 ∧
      (ln 9 6).dev.inSwap 9 = false) ∧
    (let s := ln 1 5
     s.dev.laneState 1 = 5 ∧ ((s.dev.lane 1).retraining && s.dev.inUseLane 1 && s.dev.printingLike) = false ∧ s.dev.spareReady (Dev.laneBar 1) = false) ∧
    (let s := ln 1 5 { retraining := true } id .printing
     s.dev.laneState 1 = 5 ∧ ((s.dev.lane 1).retraining && s.dev.inUseLane 1 && s.dev.printingLike) = true) := by
  decide +kernel

/-- Bar 0 in a swap of its logical lane 0 onto its spare, lane 9. -/
def swapping (w : Swap) (d : Dev) : Dev := d.onBar 0 (fun b => { b with swap := some w })

theorem test_witness_LanesTrainStepUpAndRelock_more :
    (∀ p : Bool, let s := ln 73 1 {} (fun d => if p then (d.put 0x2C00 1 2).put 0x2C00 7 1 else d.put 0x2C00 1 0)
      s.dev.laneState 73 = 1 ∧ (if p then s.dev.g 0x2C00 1 ≠ 0 ∧ bit (s.dev.g 0x2C00 7) (73 - 73) = true else s.dev.g 0x2C00 1 = 0)) ∧
    (let s := ln 1 1 {} id .printing
     s.dev.laneState 1 = 1 ∧ s.dev.isSpare 1 = false ∧ (s.dev.inUseLane 1 && s.dev.stepsUp) = true) ∧
    ((ln 1 1 { qual := true } (unmapped 8)).dev.qualifying 1 = true ∧ ((ln 1 1 { fails := 2, qual := true } (unmapped 8)).dev.lane 1).fails = 2) ∧
    (∀ t ∈ [1, 5], let s := ln 1 3 { target := t } (fun d => d.put 0x3414 1 31)
      s.dev.laneState 1 = 3 ∧ s.dev.inSwap 1 = false ∧ s.dev.qualifying 1 = false ∧ (s.dev.workingRate 1 t ≤ 1 ↔ t = 1)) ∧
    (let s := ln 9 3 {} (swapping { logical := 0, planned := false })
     s.dev.laneState 9 = 3 ∧ s.dev.inSwap 9 = true) ∧
    (let s := ln 1 3 { target := 5, upRate := 1 } id .printing
     (s.dev.lane 1).upRate ≠ (s.dev.lane 1).target ∧ (s.dev.inUseLane 1 && s.dev.printingLike) = true) ∧
    (let s := ln 1 3 { target := 5 } (fun d => d.setCtx 0 { code := 4, rates := [(1, 4)] })
     (s.dev.lane 1).upRate = 0 ∧ s.dev.ctxs.any (fun x => decide (4 ≤ x.2.code ∧ x.2.code ≤ 6) && (x.2.rates.find? 1).any (fun r => r != 5)) = true) ∧
    ((ln 1 4).dev.hears 1 = true ∧ (ln 1 0).dev.hears 1 = false ∧ (ln 1 0).dev.laneLive 1 = false) ∧
    ((ln 1 5).dev.beingSwapped 1 = false ∧ (ln 1 5 { carries := true } (swapping { logical := 0, planned := false })).dev.beingSwapped 1 = true) ∧
    ((ln 9 4 {} (swapping { logical := 0, planned := true, ready := true })).dev.readySpare 9 = true ∧
      ((ln 9 3 {} (swapping { logical := 0, planned := true })).dev.readySpare 9 = false ∧
        (ln 9 3 {} (swapping { logical := 0, planned := true })).dev.inSwap 9 = true)) ∧
    (∀ st ∈ [2, 4, 7], (ln 1 st).dev.readySpare 1 = false ∧ (ln 1 st).dev.inSwap 1 = false ∧ ((ln 1 st).dev.lane 1).carries = false) ∧
    ((ln 1 1).dev.lanesOf (Dev.laneBar 1)).contains 1 = true ∧
    (∀ c ∈ [1, 6], let s := ln 1 2 { ceilingRate := c } (fun d => d.put 0x3414 1 31)
      s.dev.laneState 1 = 2 ∧ (s.dev.lane 1).refused = false ∧ s.dev.qualifying 1 = false ∧ (s.dev.workingRate 1 (s.dev.lane 1).ceilingRate = 1 ↔ c = 1)) ∧
    (∀ sp ∈ [6, 4], let s := ln 1 4 { carries := true } (fun d => (d.put 0x3410 9 sp).put 0x3402 1 1)
      s.dev.beingSwapped 1 = false ∧ s.dev.inSwap 1 = false ∧ (s.dev.lane 1).carries = true ∧
        (((s.dev.logicalOf 1).isSome && s.dev.spareReady 0) = (sp == 6))) := by
  decide +kernel

theorem test_witness_LanesAreScannedQualifiedAndSwapped :
    ((ln 80 4).dev.laneState (79 + 1) = 4 ∧ (ln 80 4).dev.tally.day.get (0, 0) (79 + 1) = (0, 0)) ∧
    (∀ v ∈ [0, 300], let s := ln 1 8 { test := 32, qual := true } (fun d => ((unmapped 8 d).put 0x3413 1 (v * 65536)).put 0x2E04 2 0)
      s.dev.qualifying 1 = true ∧ s.dev.laneState 1 = 8 ∧ (s.dev.lane 1).test = 32 ∧ (s.dev.g 0x3413 1 / 65536 = 0 ∨ s.dev.g 0x2E00 1 ≤ s.dev.g 0x3413 1 / 65536) ∧
        s.dev.swappedOut 1 = false ∧ s.dev.g 0x2E04 2 = 0) ∧
    ((ln 1 8 { test := 32 }).dev.qualifying 1 = false ∧ (ln 80 4).dev.laneState (78 + 1) ≠ 4) ∧
    (let s := ln 1 8 { test := 32, qual := true } (fun d => (unmapped 8 d).put 0x3413 1 65536)
     s.dev.qualifying 1 = true ∧ s.dev.laneState 1 = 8 ∧ (s.dev.lane 1).test = 32 ∧ s.dev.g 0x3413 1 / 65536 ≠ 0 ∧
      s.dev.g 0x3413 1 / 65536 < s.dev.g 0x2E00 1) ∧
    (∀ p : Bool, let w : Swap := { logical := 0, planned := p }
      ((on .ready (swapping w)).dev.bar 0).swap = some w ∧ w.stepped = false ∧ w.started = false) ∧
    (∀ p : Bool, ∀ st ∈ [DState.ready, .printing], let w : Swap := { logical := 0, planned := p, started := true }
      let s := on st (fun d => swapping w { d with print := { d.print with reps := [rep 7 0 1000] } })
      (s.dev.bar 0).swap = some w ∧ w.started = true ∧ w.ready = false ∧ s.dev.printingLike = (st == .printing) ∧ s.dev.spareOf 0 = 8 ∧
        s.dev.boundary (s.dev.barRep 0 + 1) = some 65536000 ∧ s.dev.sends = true) ∧
    ((on .printing (fun d => d.put 0x2C08 1 2)).dev.sends = false ∧ (on .printing (fun d => d.put 0x2C08 1 2)).dev.printingLike = true ∧
      (on .printing).dev.boundary ((on .printing).dev.barRep 0 + 1) = none) ∧
    (((on .ready).dev.bar 0).swap = none ∧ ((on .ready).dev.bar 0).switchSent = [] ∧
      ((on .ready (fun d => d.onBar 0 (fun b => { b with switchSent := [1, 2] }))).dev.bar 0).switchSent = [1, 2]) := by
  decide +kernel

theorem test_witness_LaneCommandsActOnLanesOutOfService :
    (((ln 1 4 { carries := true }).Serves 1 0x3406 ∧ (on .ready).dev.lanePresent 0 = false ∧ (on .ready).dev.lanePresent 81 = false ∧
      (on .ready).dev.lanePresent 80 = true ∧ (on .boot).dev.fast = false ∧ ((ln 1 4 { carries := true }).dev.lane 1).carries = true)) ∧
    (∀ k ∈ [1, 80], let s := ln k 8 { test := 16 }
      s.dev.lanePresent k = true ∧ (s.dev.lane k).carries = false ∧ (k ≤ 72 ∨ s.dev.paired = false) ∧ s.dev.inSwap k = false ∧ s.dev.swappedOut k = false ∧
        16 ≤ (s.dev.lane k).test ∧ s.dev.laneState k = 8 ∧ s.dev.fast = true) ∧
    (let s := ln 1 7 {} (fun d => (unmapped 0xFF d).put 0x3402 1 1)
     s.dev.laneState 1 = 7 ∧ s.dev.laneState 1 ≠ 8 ∧ s.dev.logicalOf 1 = none ∧ s.dev.g 0x3402 (Dev.laneBar 1 + 1) = 1 ∧ s.dev.spareOf (Dev.laneBar 1) = 0xFF ∧
      s.dev.isSpare 1 = false ∧ s.dev.inSwap 1 = false) ∧
    (let s := ln 9 6 {} (fun d => d.put 0x3402 1 1)
     s.dev.lanePresent 1 = true ∧ s.dev.spareReady (Dev.laneBar 1) = true ∧ 7 ∈ s.dev.lanesInUse 0) :=
  ⟨⟨serves_of_check (by decide +kernel), by decide +kernel⟩, by decide +kernel, by decide +kernel, by decide +kernel⟩

/-- Lane 1 UP at line `k`, with bar 0 at line `b`. -/
def lnk (k b : Nat) (f : Lane → Lane := id) (g : Dev → Dev := id) : State :=
  ln 1 4 (f { baseSent := true, next := k, acked := 3 }) (fun d => g ((d.put 0x342A 1 1).onBar 0 (fun x => { x with next := b })))

theorem test_witness_LinkBlocksMoveCreditAndRetry :
    ((ln 9 1).dev.laneState 9 ≠ 0 ∧ (ln 9 1).dev.laneState 9 ≠ 7 ∧ (ln 9 1).dev.logicalOf 9 = none ∧
      (ln 9 1).dev.g 0x3420 9 ≠ leNat [0, 0] * 2 ^ 48 + 1 * 2 ^ 40 + 0 * 2 ^ 32 + 0 * 2 ^ 24 + 32 * 2 ^ 16 ∧
      (ln 9 1).dev.g 0x3420 9 ≠ leNat [0, 0] * 2 ^ 48 + 1 * 2 ^ 40 + 0 * 2 ^ 32 + 0 * 2 ^ 24 + 31 * 2 ^ 16) ∧
    ((lnk 10 5).dev.laneState 1 = 4 ∧ ((lnk 10 5).dev.bar (Dev.laneBar 1)).warmGap = false) ∧
    (((lnk 10 5).dev.epoch 0 + 256 - 0 % 256) % 256 = 1 ∧ ((lnk 10 5).dev.epoch 0 + 256 - 130 % 256) % 256 = 127 ∧
      ((lnk 10 5).dev.epoch 0 + 256 - 1 % 256) % 256 = 0 ∧ 127 < ((lnk 10 5).dev.epoch 0 + 256 - 129 % 256) % 256) ∧
    (max (Dev.nearLine 10 7) 5 < 10 ∧ 5 ≤ max (Dev.nearLine 5 7) 5) ∧
    (let s := lnk 5 5 id (fun d => { d with print := { d.print with revoke := [(0, 4)] } })
     s.dev.print.revoke.find? 0 = some 4 ∧ (s.dev.lane 1).next ≤ (s.dev.bar 0).next) ∧
    (max (((lnk 10 0).dev.lane 1).acked + 1) ((lnk 10 0).dev.bar (Dev.laneBar 1)).next < ((lnk 10 0).dev.lane 1).next ∧
      ((lnk 4 0).dev.lane 1).next ≤ max (((lnk 4 0).dev.lane 1).acked + 1) ((lnk 4 0).dev.bar (Dev.laneBar 1)).next) := by
  decide +kernel

theorem test_witness_LinkBlocksMoveCreditAndRetry_more :
    (∀ l ∈ (ln 9 1).dev.logicalOf 9, (ln 9 1).dev.badTiles 0 l 0 = []) ∧
    (let s := ln 1 1 {} (fun d => d.put 0x5010 1 0)
     let f := s.begin_.put 0x3420 1 (1 * 2 ^ 40 + 32 * 2 ^ 16)
     s.dev.logicalOf 1 = some 0 ∧ f.logicalOf 1 = some 0 ∧ (0 : Nat) < 2 ^ 6) ∧
    (∀ st ∈ [0, 7], (ln 80 st).dev.laneState 80 = st) ∧
    (∀ w : Bool, let s := lnk 10 5 (fun l => { l with credited := true }) (fun d => (List.range 8).foldl (fun d i => d.setLane (i + 1) { baseSent := true, credited := true, next := 10, acked := 3 }) (d.onBar 0 (fun b => { b with warmGap := w })))
      s.dev.laneState 1 = 4 ∧ ((s.dev.bar 0).warmGap && (s.dev.lanesOf 0).all (fun j => s.dev.laneState j != 4 || (s.dev.lane j).credited)) = w) ∧
    ((ln 1 4).dev.hears 1 = true ∧ (ln 1 0).dev.hears 1 = false ∧ (lnk 10 5).dev.print.revoke.find? 0 = none) := by
  decide +kernel

/-- Bar 0 with a disagreement as given, in role `r`. -/
def dis (x : Option (Nat × Nat)) (r now : Nat) : State :=
  { on .ready (fun d => ({ d with fl := { d.fl with disagreements := match x with
      | some v => [(0, v)]
      | none => [] } } : Dev).put 0x2C08 1 r) with now := now }

theorem test_witness_ModuleReportsAndDisagreements :
    ((dis none 0 0).dev.repAt (Dev.nearLine ((dis none 0 0).dev.bar 0).next 7) = none ∧ (dis none 0 0).dev.fl.disagreements.find? 0 = none ∧
      (dis none 0 0).dev.role = 0) ∧
    ((dis (some (3, 0)) 0 3600000000000).dev.fl.disagreements.find? 0 = some (3, 0) ∧ 0 + 3600000000000 ≤ (dis (some (3, 0)) 0 3600000000000).now) ∧
    ((dis (some (1, 0)) 2 3599999999999).dev.fl.disagreements.find? 0 = some (1, 0) ∧ (dis (some (1, 0)) 2 3599999999999).now < 0 + 3600000000000 ∧
      (dis (some (1, 0)) 2 0).dev.role ≠ 1) ∧
    ((dis (some (2, 0)) 2 0).dev.fl.disagreements.find? 0 = some (2, 0) ∧ (dis (some (2, 0)) 2 0).dev.role = 2) ∧
    (2 ^ 44 = leNat (slice (leBytes 6 (2 ^ 44)) 0 6) ∧ 2 ^ 44 = 2 ^ (8 * 5 + 4) ∧ (on .ready).dev.g 0x3422 1 = 0 ∧
      (∀ q, q < 6 → ∀ i, i < 5 → bit 0 (8 * q + i) = true → bit ((on .ready).dev.g 0x3422 1) (8 * q + i) = true)) ∧
    ((on .printing (fun d => { d with print := { d.print with reps := [rep 7 0 1000] } })).dev.repAt (Dev.nearLine 0 7) = some (rep 7 0 1000) ∧
      (on .ready).dev.repAt (Dev.nearLine 0 7) = none) ∧
    ((ln 1 4 { check := some (3, 0, 0, 24) }).dev.lane 1).check = some (3, 0, 0, 24) := by
  decide +kernel

theorem test_witness_ModuleReportsAndDisagreements_more :
    ((ln 1 4).dev.hears 1 = true ∧ (ln 1 0).dev.hears 1 = false ∧ ((ln 1 4).dev.lane 1).check = none) ∧
    (∀ c ∈ [1, 7], 1 ≤ c ∧ c ≤ 7 ∧ bits ((ln 1 4).dev.g 0x3428 1) (8 * (c - 1) + 7) (8 * (c - 1)) = 0) ∧
    ((dis (some (1, 0)) 1 3599999999999).dev.role = 1 ∧ (dis (some (1, 0)) 1 3599999999999).dev.handoverAllowed = false) ∧
    (let p : Ident := { product := 0x2208, revision := 0, firmware := 0, serial := 9, mode := 2, position := 1, state := 5, healthy := true }
     let s := on .printing (fun d => { (d.put 0x2C08 1 1).put 0x2C08 2 15 with twin := { partner := some p } })
     s.dev.role = 1 ∧ s.dev.handoverAllowed = true) := by
  decide +kernel

theorem test_witness_HeartbeatsSuperviseLanes :
    (let s := ln 1 4 { carries := true, next := 9, acked := 3 }
     s.dev.laneState 1 = 4 ∧ (s.dev.lane 1).carries = true ∧ s.dev.inSwap 1 = false ∧ s.dev.spareReady 0 = false ∧
      (s.dev.lane 1).acked + 1 < (s.dev.lane 1).next ∧ s.dev.beingSwapped 1 = false ∧ s.dev.hears 1 = true ∧ s.dev.laneLive 1 = true) ∧
    ((ln 1 0).dev.hears 1 = false ∧ ((ln 1 0).dev.laneLive 1 || (ln 1 0).dev.inSwap 1) = false) ∧
    ((ln 1 2).dev.laneState 1 = 2 ∧ (ln 1 2).dev.inSwap 1 = false ∧ ((ln 1 2).dev.lane 1).next ≤ ((ln 1 2).dev.lane 1).acked + 1) := by
  decide +kernel

/-- Camera `c` enabled for lines of 8 pixels of 10 bits, `h` of them a frame, changed by `f`. -/
def cm (c h : Nat) (x : Cam) (f : Dev → Dev := id) (ds : DState := .ready) : State :=
  on ds (fun d => f (((((d.put (0x3800 + c) 1 1).put (0x3800 + c) 7 8).put (0x3800 + c) 8 h).put (0x3800 + c) 5 0x2B).setCam c x))

/-- An open frame of `n` lines. -/
def ofr (n : Nat) (t : Option Tag := none) : OpenFrame :=
  { num := 3, tag := t, gen := 0, fsTime := 0, fsAt := 0, lines := List.replicate n (zs 10) }

/-- A trigger's tag of repeat 7. -/
def tg : Tag := { unit := 0, entry := 0, rep := some 7, time := 5, at_ := 5, gen := 0 }

theorem test_witness_CamerasTakeFramesPacketByPacket :
    (∀ c ∈ [0, 5], (cm c 2 {}).dev.camOn c = true ∧ ((cm c 2 {}).dev.cam c).frame = none ∧ ((cm c 2 { queue := [tg] }).dev.cam c).frame = none) ∧
    (∀ c ∈ [0, 5], ∀ n ∈ [0, 1, 2], let s := cm c 2 { frame := some (ofr n) }; let x := s.dev.cam c
      s.dev.camOn c = true ∧ s.dev.genVal x x.inForce (0x3800 + c) 4 = 0 ∧ s.dev.genVal x x.inForce (0x3800 + c) 5 = 0x2B ∧
        1 ≠ s.dev.genVal x x.inForce (0x3800 + c) 4 ∧ 0x2C ≠ s.dev.genVal x x.inForce (0x3800 + c) 5 ∧ x.frame = some (ofr n) ∧
        (zs 10).length * 8 = s.dev.genVal x (ofr n).gen (0x3800 + c) 7 * pixelBits 0x2B ∧
        (zs 9).length * 8 ≠ s.dev.genVal x (ofr n).gen (0x3800 + c) 7 * pixelBits 0x2B ∧ (ofr n).dropping = false ∧
        s.dev.genVal x x.inForce (0x3800 + c) 6 = 255) ∧
    (∀ n ∈ [0, 1], (ofr n).lines.length < (cm 5 2 { frame := some (ofr n) }).dev.genVal { frame := some (ofr n) } (ofr n).gen 0x3805 8) ∧
    (cm 5 2 { frame := some (ofr 2) }).dev.genVal { frame := some (ofr 2) } (ofr 2).gen 0x3805 8 ≤ (ofr 2).lines.length ∧
    (((cm 5 2 { queue := [tg] }).dev.cam 5).queue = tg :: [] ∧ ((cm 5 2 {}).dev.cam 5).queue = [] ∧ (on .ready).dev.camOn 5 = false) ∧
    ((cm 5 2 {} (fun d => d.put 0x3805 0x0A 0xFF)).dev.g 0x3805 0x0A = 0xFF ∧ (cm 5 2 { queue := [tg] } (fun d => d.put 0x3805 0x0A 0)).dev.g 0x3805 0x0A ≠ 0xFF) ∧
    (∀ e : Bool, let x := Dev.headerFixed { frame := some { ofr 0 with dropping := e } } e
      x.frame = some { ofr 0 with dropping := e, flags := if e then 128 else 0 } ∧ (Dev.headerFixed {} e).frame = none) := by
  decide +kernel

/-- Repeat 7 of context 0, ended after 1,000 lines. -/
def done7 (d : Dev) : Dev :=
  { d.setCtx 0 { code := 5, val := [(key 0x4070 1, 63)] } with print := { d.print with reps := [{ rep 7 0 1000 (some 0) with fin := some 65536000 }] } }

theorem test_witness_FramesCloseAndCciSequencesRun :
    (∀ c ∈ [0, 5], let s := cm c 2 { frame := some (ofr 1) }
      s.dev.camOn c = true ∧ (s.dev.cam c).frame = some (ofr 1) ∧ (s.dev.cam c).seq ≠ 1 ∧ s.dev.g (0x3800 + c) 0x10 = 0 ∧ (ofr 1).tag = none) ∧
    (∀ c ∈ [0, 5], let s := cm c 2 { frame := some (ofr 2 (some tg)) } done7; let f := ofr 2 (some tg); let x := s.dev.cam c
      let r : Rep := { rep 7 0 1000 (some 0) with fin := some 65536000 }
      s.dev.camOn c = true ∧ x.frame = some f ∧ x.seq ≠ 1 ∧ s.dev.g (0x3800 + c) 0x10 = 0 ∧ f.tag = some tg ∧ tg.rep = some 7 ∧ s.dev.rep? 7 = some r ∧
        r.fin = some 65536000 ∧ (s.dev.barList.map (fun n => Dev.ledgerCtx r n)).findSome? id = some 0 ∧ bit (s.dev.cg 0 0x4070 1) c = true ∧
        tg.uncertain = false ∧ x.cciFault = false ∧ f.flags = 0 ∧ s.dev.genVal x f.gen (0x3800 + c) 8 ≤ f.lines.length ∧ s.dev.role ≠ 2) ∧
    (∀ c ∈ [0, 5], (cm c 2 { cci := [(1, [2]), (3, [4])] }).dev.drives = true ∧ ((cm c 2 { cci := [(1, [2]), (3, [4])] }).dev.cam c).cci = (1, [2]) :: (3, [4]) :: [] ∧
      (∀ q ∈ [2, 4], ((cm c 2 { cci := [(1, [2])], seq := q }).dev.cam c).cci = [(1, [2])] ∧ ((cm c 2 { cci := [(1, [2])], seq := q }).dev.cam c).seq = q ∧
        ((cm c 2 { cci := [(1, [2])], seq := q }).dev.cam c).retried = false ∧ ((cm c 2 { cci := [(1, [2])], seq := q, retried := true }).dev.cam c).retried = true ∧
        ((cm c 2 { cci := [(1, [2])], seq := q, retried := true }).dev.cam c).cci ≠ [])) ∧
    (90 ≤ (on .ready).dev.g 0x3830 1 + (on .ready).dev.g 0x3830 2 ∧ (on .ready).dev.g 0x3830 1 + (on .ready).dev.g 0x3830 2 < 91) := by
  decide +kernel

theorem test_witness_FramesCloseAndCciSequencesRun_more :
    ((cm 5 2 { cci := [(1, [2])], seq := 5, retried := true }).dev.cam 5).seq = 5 ∧
    (∀ x ∈ [({ failAt := some 5 } : Cam)], x.failAt = some 5 ∧ 5 ≤ tg.at_ ∧ ({ tg with at_ := 4 } : Tag).at_ < 5) ∧
    (cm 5 2 {} (fun d => d.put 0x2C08 1 3)).dev.drives = false ∧
    (let x := ((cm 5 2 { pending := 1 }).dev.cam 5)
     x.pending ≠ 0 ∧ x.cci = [] ∧ x.frame = none ∧ x.queue = [] ∧ ((cm 5 2 { pending := 1, queue := [tg] }).dev.cam 5).queue ≠ [] ∧ (cm 5 2 {}).dev.camOn 5 = true) := by
  decide +kernel

/-- A census test of nozzle 0 by gate 0, fired at instant 0. -/
def ct : CensusTest := { gate := 0, g := 0, nozzle := 0, start := some 0 }

/-- Bar 0 with that census. -/
def cen (c : Census) : State := on .ready (fun d => d.setCensus 0 c)

/-- The state with a long operation of class `c`. -/
def opn (c : Nat) (f : Dev → Dev := id) : State := on .ready (fun d => f { d with com := { d.com with op := some (op c) } })

theorem test_witness_GenerationsGapTestsAndSweeps :
    (let s := on .printing (fun d => { d with print := { d.print with reps := [rep 7 0 1000] }, keeper := { d.keeper with held := { resets := 0x80 } } })
     Dev.emptyContent (s.begin_.fresh s.dev.keeper.held) = false ∧ s.dev.keeper.gen = none ∧ s.dev.phase = .printing ∧ s.dev.print.reps ≠ [] ∧ s.dev.role ≠ 2 ∧
      Dev.emptyContent ((on .ready).begin_.fresh (on .ready).dev.keeper.held) = true) ∧
    ((on .ready).Serves 1 0x3A01 ∧ (((on .ready).dev.barList.filter (fun n => bit 0 n)).foldl (fun m n => m + 2 ^ n) 0 = 0) ∧
      (((on .ready).dev.barList.filter (fun n => bit 0x80 n)).foldl (fun m n => m + 2 ^ n) 0 ≠ 0) ∧ (on .ready).dev.role ≠ 2) ∧
    (let s := cen { tests := [ct], heldSince := [(0, 47600)] }
     ((false = true ↔ s.dev.g 0x3A20 6 ≠ 1) ∧ (∀ e ∈ [47600, 52400], (s.dev.census 0).tests.any (fun t => t.gate == 0 && s.dev.edgePlace 0 t e == 0) = true) ∧
        (∀ e ∈ [0, 47599, 52401], (s.dev.census 0).tests.any (fun t => t.gate == 0 && s.dev.edgePlace 0 t e == 0) = false)) ∧
      ((true = true ↔ s.dev.g 0x3A20 6 = 1) ∧ (s.dev.census 0).heldSince.find? 0 = some 47600 ∧ s.dev.heldLong 0 47600 52400 = false)) ∧
    (let t := { ct with edges := [47600] }; let s := cen { tests := [t] }
     let recs := s.dev.liveBytes 0 0x6230 (4 * s.dev.nozzles 0)
     (s.dev.census 0).tests = [t] ∧ s.dev.keeper.sweeps.find? 0 = none ∧ (s.dev.census 0).heldSince = [] ∧ t.discarded = false ∧ t.start.isSome = true ∧
      s.dev.gateDiscarded 0 t.gate = false ∧ t.edges ≠ [] ∧ s.dev.role ≠ 2 ∧
      Dev.hysteresis (leNat ((Dev.nozRec recs t.nozzle).take 1)) true = (0, none) ∧
      bit (leNat (Dev.nozRec (recs.take (4 * t.nozzle) ++ [byte 0, 1] ++ leBytes 2 (Dev.timeOfFlight t) ++ recs.drop (4 * t.nozzle + 4)) t.nozzle)) 1 = false) ∧
    ((on .ready (fun d => { d with product := 0x2204 })).dev.nbars ≤ (8 : Fin 16) / 2 ∧ (on .ready).dev.com.op = none ∧
      (∀ b : Bool, let s := cen { tests := [if b then ct else { ct with start := none }] }
        s.dev.keeper.sweeps.find? 0 = none ∧ s.dev.testsOver 0 = b) ∧ (cen {}).dev.keeper.sweeps.find? 0 = none ∧ (on .ready).dev.sweepBars = [0, 1, 2, 3, 4, 5, 6, 7]) ∧
    (let s := cen { tests := [{ ct with near := true }], heldGates := [0], strays := [(0, 9)] }
     (s.dev.census 0).heldGates.contains 0 = true ∧ s.dev.g 0x3A20 7 < (s.dev.census 0).strays.get 0 0) ∧
    ((on .ready).Serves 1 0x3A29 ∧ (on .armed).Serves 1 0x3A29 ∧ (on .ready).dev.sys.st = .ready ∧ (on .armed).dev.sys.st ≠ .ready) ∧
    (let s := opn 5 (fun d => { (List.range 8).foldl (fun d i => (d.put 0x3410 (i + 1) 4).setLane (i + 1) { baseSent := true, credited := true }) d with
        keeper := { d.keeper with sweeps := [(0, {})] } })
     let up := (s.dev.lanesOf 0).filter (fun k => s.dev.laneState k == 4)
     s.dev.com.op = some (op 5) ∧ (op 5).cls = 5 ∧ s.dev.keeper.sweeps.keysWhere (fun _ _ => true) = [0] ∧ s.dev.keeper.sweeps.find? 0 = some {} ∧
      up ≠ [] ∧ (s.dev.lanesOf 0).all s.dev.laneSettled = true ∧ (s.dev.bar 0).strobeFault = false ∧
      (∀ k ∈ up, (s.dev.lane k).baseSent = true ∧ (s.dev.lane k).credited = true)) :=
  ⟨by decide +kernel, ⟨serves_of_check (by decide +kernel), by decide +kernel, by decide +kernel, by decide +kernel⟩, by decide +kernel, by decide +kernel, by decide +kernel, by decide +kernel,
    ⟨serves_of_check (by decide +kernel), serves_of_check (by decide +kernel), by decide +kernel, by decide +kernel⟩, by decide +kernel⟩

/-- LED channel 0 in group 0 with a settled level and the group's trim `k`, changed by `f`. -/
def lit (k : Nat) (f : Dev → Dev := id) : State :=
  on .ready (fun d => f ((((d.put 0x3C03 1 0).put 0x3C00 1 1).put 0x3C2A 1 k).setLed 0 { level := 100, target := 100 }))

theorem test_witness_LightFollowsLevelsTrimsAndInterlock :
    ((on .ready).dev.g 0x3C03 (0 + 1) = 0xFF ∧ (lit 4096).dev.g 0x3C03 (0 + 1) = 0 ∧ 0 ≠ 0xFF) ∧ (on .ready).dev.fast = true ∧ (on .ready).Serves 1 0x3C20 ∧
    (∀ p ∈ [(2048, 2000), (4096, 1960), (4096, 2040), (8192, 2000), (8192, 2001)], let s := lit p.1
      let q : Int := (s.dev.g 0x3C2A (0 + 1) : Int) + Int.fdiv ((s.dev.g 0x3C07 1 : Int) * ((s.dev.g 0x3C06 1 : Int) - (p.2 : Int)) * 4096) ((65536 * s.dev.g 0x3C06 1 : Nat) : Int)
      (s.dev.cal.values.get 0 ((if s.dev.g 0x3C05 1 = 1 then 4 else 5) * 256 + 0)).toNat = 0 ∧ ([p.2, p.2].map (fun x => x - 0)).sum / [p.2, p.2].length = p.2 ∧
        s.begin_.steady 0 = true ∧ s.dev.g 0x3C07 1 ≠ 0 ∧ s.dev.role ≠ 2 ∧ max (s.dev.g 0x3C06 1 - p.2) (p.2 - s.dev.g 0x3C06 1) ≤ s.dev.g 0x3C08 1 ∧
        2048 ≤ q ∧ q ≤ 8192) ∧
    (∀ p ∈ [(2048, 2001), (8192, 1996)], let s := lit p.1
      let q : Int := (s.dev.g 0x3C2A (0 + 1) : Int) + Int.fdiv ((s.dev.g 0x3C07 1 : Int) * ((s.dev.g 0x3C06 1 : Int) - (p.2 : Int)) * 4096) ((65536 * s.dev.g 0x3C06 1 : Nat) : Int)
      s.begin_.steady 0 = true ∧ max (s.dev.g 0x3C06 1 - p.2) (p.2 - s.dev.g 0x3C06 1) ≤ s.dev.g 0x3C08 1 ∧ (q < 2048 ∨ 8192 < q) ∧
        s.dev.light.limited.contains 0 = false) ∧
    (on .ready).begin_.steady 0 = false ∧
    (let s := lit 4096 (fun d => { d.put 0x3C07 1 0 with light := { (d.setLed 0 { level := 100, target := 100 }).light with deviating := [(0, 15)] } })
     s.begin_.steady 0 = true ∧ s.dev.g 0x3C07 1 = 0 ∧ s.dev.g 0x3C08 1 < max (s.dev.g 0x3C06 1 - 1959) (1959 - s.dev.g 0x3C06 1) ∧
      s.dev.light.deviating.get 0 0 = 15) ∧
    (({ on .ready with now := 10000000 } : State).Serves 1 0x3C22 ∧ ({ on .ready with now := 9999999 } : State).Serves 1 0x3C22 ∧
      (on .ready).dev.light.ledLow + 10000000 ≤ 10000000 ∧ 9999999 < (on .ready).dev.light.ledLow + 10000000) :=
  ⟨by decide +kernel, by decide +kernel, serves_of_check (by decide +kernel), by decide +kernel, by decide +kernel, by decide +kernel, by decide +kernel,
    serves_of_check (by decide +kernel), serves_of_check (by decide +kernel), by decide +kernel, by decide +kernel⟩

/-- Check bytes whose first codeword's last byte is 1, and others with five bytes of it wrong. -/
def chk1 : Bytes := zs 7 ++ [1] ++ zs 8
@[inherit_doc chk1] def chk5 : Bytes := [1, 2, 3, 4, 5, 0, 0, 0] ++ zs 8

theorem gmul_zero (x : Nat) : gmul 0 x = 0 := by simp [gmul, List.range_succ]

theorem gEval_zeros (n : Nat) (w : List Nat) (x : Nat) : gEval (List.replicate n 0 ++ w) x = gEval w x := by
  induction n with
  | zero => rfl
  | succ n ih =>
    have h : gEval (0 :: (List.replicate n 0 ++ w)) x = gEval (List.replicate n 0 ++ w) x := by simp [gEval, gmul_zero]
    rw [List.replicate_succ, List.cons_append, h, ih]

theorem rsSyndromes_zeros (k n : Nat) (w : List Nat) : rsSyndromes k (List.replicate n 0 ++ w) = rsSyndromes k w := by
  simp [rsSyndromes, gEval_zeros]

theorem interleave_zeros : interleave 0 (zs 256) = List.replicate 128 0 ∧ interleave 1 (zs 256) = List.replicate 128 0 := by decide +kernel

theorem clean_of {c : Bytes} (h0 : (rsSyndromes 8 ((c.take 8).map (fun b => b.toNat))).all (fun x => x == 0) = true)
    (h1 : (rsSyndromes 8 ((c.drop 8).map (fun b => b.toNat))).all (fun x => x == 0) = true) : classify 16 (zs 256) c = .clean := by
  simp only [classify, interleave_zeros.1, interleave_zeros.2, Nat.reduceDiv, rsSyndromes_zeros, h0, h1, Bool.and_self, if_true]

theorem clean_zeros : classify 16 (zs 256) (zs 16) = .clean := clean_of (by decide +kernel) (by decide +kernel)

theorem poison_zeros : classify 16 (zs 256) (List.replicate 16 0xFF) = .poison := by decide +kernel

theorem rsDecode_chk1 : rsDecode 8 (List.replicate 128 0 ++ [0, 0, 0, 0, 0, 0, 0, 1]) = some (List.replicate 136 0, 1) := by
  have hs : rsSyndromes 8 [0, 0, 0, 0, 0, 0, 0, 1] = [1, 1, 1, 1, 1, 1, 1, 1] := by decide +kernel
  have hl : rsLocator [1, 1, 1, 1, 1, 1, 1, 1] = [1, 1] := by decide +kernel
  have hp : (List.range 136).filter (fun i => gEval [1, 1] (gpow (255 - i % 255)) == 0) = [0] := by decide +kernel
  have hz : rsSyndromes 8 (List.replicate 136 0) = [0, 0, 0, 0, 0, 0, 0, 0] := by
    have h := rsSyndromes_zeros 8 136 []
    rw [List.append_nil] at h
    rw [h]
    decide +kernel
  unfold rsDecode
  simp only [rsSyndromes_zeros, hs, hl]
  rw [if_neg (by decide +kernel)]
  simp only [List.length_append, List.length_replicate, List.length_cons, List.length_nil, List.reverse_cons, List.reverse_nil, List.nil_append,
    List.cons_append, Nat.zero_add, Nat.reduceAdd, hp]
  rw [if_neg (by decide +kernel)]
  generalize hf : List.foldl _ (List.replicate 128 0 ++ [0, 0, 0, 0, 0, 0, 0, 1]) [0] = f
  have e : f = List.replicate 136 0 := by
    rw [← hf]
    decide +kernel
  rw [e, hz]
  rfl

theorem corrected_chk1 : classify 16 (zs 256) chk1 = .corrected (zs 256) 1 1 := by
  have hw : (chk1.take 8).map (fun b => b.toNat) = [0, 0, 0, 0, 0, 0, 0, 1] := by decide +kernel
  have hv : (chk1.drop 8).map (fun b => b.toNat) = [0, 0, 0, 0, 0, 0, 0, 0] := by decide +kernel
  have h1 : rsDecode 8 (List.replicate 128 0 ++ [0, 0, 0, 0, 0, 0, 0, 0]) = some (List.replicate 128 0 ++ [0, 0, 0, 0, 0, 0, 0, 0], 0) := by
    unfold rsDecode
    simp only [rsSyndromes_zeros]
    rw [if_pos (by decide +kernel)]
  have hn : (chk1 == (pageCheck 16 (zs 256)).map (fun b => ~~~b)) = false := by decide +kernel
  simp only [classify, interleave_zeros.1, interleave_zeros.2, Nat.reduceDiv, hw, hv, hn, rsSyndromes_zeros, rsDecode_chk1, h1]
  decide +kernel

theorem uncorrectable_chk5 : classify 16 (zs 256) chk5 = .uncorrectable := by
  have hw : (chk5.take 8).map (fun b => b.toNat) = [1, 2, 3, 4, 5, 0, 0, 0] := by decide +kernel
  have h1 : rsDecode 8 (List.replicate 128 0 ++ [1, 2, 3, 4, 5, 0, 0, 0]) = none := by
    have hl : rsLocator (rsSyndromes 8 [1, 2, 3, 4, 5, 0, 0, 0]) = [1, 211, 89, 191, 132] := by decide +kernel
    unfold rsDecode
    simp only [rsSyndromes_zeros, hl]
    rw [if_neg (by decide +kernel)]
    rw [if_pos]
    decide +kernel
  have hn : (chk5 == (pageCheck 16 (zs 256)).map (fun b => ~~~b)) = false := by decide +kernel
  simp only [classify, interleave_zeros.1, interleave_zeros.2, Nat.reduceDiv, hw, hn, rsSyndromes_zeros, h1]
  decide +kernel

theorem ramBytes_nil (a n : Nat) : ramBytes [] a n = List.replicate n 0 := by
  induction n with
  | zero => rfl
  | succ n ih => simp only [ramBytes] at ih ⊢; rw [List.range_succ, List.map_append, ih, List.replicate_succ']; rfl

theorem readPage_blank (s : State) (p : Nat) (hd : s.dram = []) (hc : s.dev.checkLen = 16) (hr : s.dev.remapOf p = none) :
    s.readPage p = (zs 256, .clean) := by
  have h := clean_zeros
  simp only [zs] at h
  simp only [State.readPage, hr, State.rawPage, hd, ramBytes_nil, hc, h, zs]

/-- DRAM in which the page of zeros at usable address `a` has check bytes `c`. -/
def pg (a : Nat) (c : Bytes) : State :=
  { on .ready with dram := ((List.range 16).zip c).filterMap (fun x =>
      if x.2 = 0 then none else some ((on .ready).dev.physical a / 4096 * 4096 + 3840 + 16 * ((on .ready).dev.physical a % 4096 / 256) + x.1, x.2)) }

theorem test_witness_DramPagesAreReadWrittenAndPoisoned :
    ((on .ready).dev.usable_ = 64424509440 ∧ (on .ready).dev.checkLen = 16) ∧
    (∀ a ∈ [0, 64424509439], a < (on .ready).dev.usable_ ∧ (on .ready).dev.remapOf ((on .ready).dev.physical (a / 256 * 256)) = none ∧
      (∀ c ∈ [zs 16, chk1, chk5, List.replicate 16 0xFF],
        (pg (a / 256 * 256) c).rawPage ((on .ready).dev.physical (a / 256 * 256)) = (zs 256, c))) ∧
    (classify 16 (zs 256) (zs 16) = .clean ∧ classify 16 (zs 256) (List.replicate 16 0xFF) = .poison ∧
      classify 16 (zs 256) chk1 = .corrected (zs 256) 1 1 ∧ classify 16 (zs 256) chk5 = .uncorrectable) ∧
    (∀ a ∈ [0, 64424509439], ((((pg (a / 256 * 256) chk1).begin_.countCorrected ((on .ready).dev.channelOf ((on .ready).dev.physical (a / 256 * 256)))
        ((on .ready).dev.physical (a / 256 * 256)) 1).pageDay ((on .ready).dev.channelOf ((on .ready).dev.physical (a / 256 * 256)))
        ((on .ready).dev.physical (a / 256 * 256))).2 ≠ (pg (a / 256 * 256) chk1).dev.g 0x2E00 4)) ∧
    ((on .ready).dev.portTarget 8 = some 250000 ∧ (on .ready).dev.portTarget 15 = some (1000 * (on .ready).dev.g 0x2802 9) ∧ (on .ready).dev.portTarget 16 = none) ∧
    ((zs 256).length ≤ 256 ∧ (zs 16).length ≤ (on .ready).dev.checkLen) :=
  ⟨by decide +kernel, by decide +kernel, ⟨clean_zeros, poison_zeros, corrected_chk1, uncorrectable_chk5⟩, by decide +kernel, by decide +kernel, by decide +kernel⟩

/-- Spare entries 1 to `n` of channel 0 in use. -/
def full (n : Nat) : State := on .ready (fun d => (List.range n).foldl (fun d i => d.put 0x280C (i + 1) (2 ^ 63 + 256 * (i + 1))) d)

/-- The next blocks of the four subchannels' laps. -/
def lap (l : List Nat) : State := on .ready (fun d => { d with mem := { d.mem with next := (List.range 4).zip l } })

theorem test_witness_DramIsRemappedScrubbedAndLeaks :
    (((on .ready).Serves 1 0x280E ∧ (on .ready).dev.sys.verified = true ∧ (full 31).Serves 1 0x280E ∧ (full 31).dev.sys.verified = true) ∧
      ((on .ready).dev.remapCheck 1 ≠ 0 ∧ (on .ready).dev.remapCheck (on .ready).dev.fitted ≠ 0 ∧ (full 32).dev.remapCheck 0 ≠ 0) ∧
      (let s := on .ready (fun d => { d.put 0x280C 1 (2 ^ 63 + 256) with mem := { d.mem with spare := [(1, (zs 256, false))] } })
       s.dev.remapCheck 256 = 0 ∧ (s.dev.remapOf 256).isSome = true) ∧
      (∀ p ∈ [0, 68719476480], (on .ready).dev.remapCheck p = 0 ∧ (on .ready).dev.remapOf p = none ∧
        (List.range 32).find? (fun j => !bit ((on .ready).dev.g 0x280C (32 * (on .ready).dev.channelOf p + j + 1)) 63) = some 0) ∧
      ((full 31).dev.remapCheck 0 = 0 ∧ (full 31).dev.remapOf 0 = none ∧ (full 31).dev.channelOf 0 = 0 ∧
        (List.range 32).find? (fun j => !bit ((full 31).dev.g 0x280C (32 * 0 + j + 1)) 63) = some 31) ∧
      ((∀ p, (on .ready).readPage p = (zs 256, .clean)) ∧ (full 31).readPage 0 = (zs 256, .clean))) ∧
    ((∀ l ∈ [[0, 0, 0, 0], [4194303, 4194304, 4194304, 4194304]], (lap l).dev.fast = true ∧ (lap l).dev.mem.next.get 0 0 < (lap l).dev.fitted / (lap l).dev.blockSize / 4) ∧
      (∀ l p, (lap l).readPage p = (zs 256, .clean) ∧ (lap l).dev.mem.cleared.contains p = false) ∧
      ((lap [0, 0, 0, 0]).dev.mem.next.get 0 3 < (lap [0, 0, 0, 0]).dev.fitted / (lap [0, 0, 0, 0]).dev.blockSize / 4) ∧
      (let s := lap [4194303, 4194304, 4194304, 4194304]
       (∀ k, k < 4 → k ≠ 0 → s.dev.fitted / s.dev.blockSize / 4 ≤ s.dev.mem.next.get 0 k) ∧
        s.dev.mem.next.get 0 0 + 1 = s.dev.fitted / s.dev.blockSize / 4)) ∧
    ((on .ready).dev.mem.starved = false ∧ (on .ready).dev.g 0x2804 2 ≠ 0 ∧ (on .ready (fun d => d.put 0x2804 2 0)).dev.g 0x2804 2 = 0) :=
  ⟨⟨⟨serves_of_check (by decide +kernel), by decide +kernel, serves_of_check (by decide +kernel), by decide +kernel⟩, by decide +kernel, by decide +kernel,
      by decide +kernel, by decide +kernel, fun p => readPage_blank _ p rfl rfl rfl, readPage_blank _ 0 rfl rfl rfl⟩,
    ⟨by decide +kernel, fun l p => ⟨readPage_blank _ p rfl rfl rfl, rfl⟩, by decide +kernel, by decide +kernel⟩, by decide +kernel⟩

/-- A device set to pair, in role `r` with synchronisation flags `f`, its twin state as given and its twin link up. -/
def tw (r fl : Nat) (t : Twin := {}) (f : Dev → Dev := id) (ds : DState := .ready) : State :=
  on ds (fun d => f { ((d.put 0x2C00 1 1).put 0x2C08 1 r).put 0x2C08 2 fl with twin := { t with linked := true } })

/-- The partner's identity, in state `st` and position `p`. -/
def idt (st p : Nat) : Ident :=
  { product := 0x2208, revision := (on .ready).dev.g 0x1018 3, firmware := (on .ready).dev.g 0x100A 0, serial := 9, mode := 1, position := p, state := st, healthy := true }

theorem ident_fits {d : Dev} {i : Ident} (h1 : i.product = 0x2208) (h2 : d.product = 0x2208) (h3 : i.revision = d.g 0x1018 3)
    (h4 : i.firmware = d.g 0x100A 0) (h5 : i.mode = d.g 0x2C00 1) (h6 : i.position ≠ d.g 0x2C00 2) : d.identMismatch i = none := by
  simp [Dev.identMismatch, h1, h2, h3, h4, h5, h6]

/-- Adoption values with contexts `cs`, and a decision of kind `k` for repeat `n` and line `l`. -/
def ado (cs : List Nat) : Adopt :=
  { repeatNo := 0, boundary := 0, contexts := cs, fcCtx := 0, fcRepeat := 0, fcStatus := 0, keeperGen := 0, trimPpm := 0, overspeedMask := 0, altMask := 0
    epochs := [], camGens := [], ledTrims := [], acks := [], tables := [] }
@[inherit_doc ado] def dec (k n l : Nat) : DecisionMsg := { kind := k, barMask := 0xFF, repeatNo := n, line := l, value := 0 }

/-- The standby with an index edge of the web channel latched. -/
def idx (bad : Bool := false) : State := tw 2 15 { marks := [{ time := 100000, count := 5, out := 0 }], dc := some 7, posBad := bad }

theorem test_witness_PairFormsAndFollowsDecisions :
    ((on .ready).dev.g 0x2C00 1 = 0 ∧ (tw 0 0).dev.g 0x2C00 1 ≠ 0 ∧ (tw 0 0).dev.twin.linked = true ∧ ({ idt 4 1 with product := 0 } : Ident).product ≠ 0x2208 ∧
      (tw 0 0).dev.paired = false ∧ (tw 0 0).dev.role ≠ 3 ∧
      ((tw 0 0 {} id .printing).dev.phase = .printing ∧ (idt 4 1).state ≠ 6) ∧
      ((tw 0 0).dev.phase ≠ .printing ∧ (tw 0 0).dev.g 0x2C00 2 = 0 ∧ (idt 6 1).state = 6 ∧ (tw 0 0).dev.com.op = none) ∧
      (let s := tw 0 0 {} (fun d => { d.put 0x2C00 2 1 with com := { d.com with op := some (op 2) } })
       s.dev.g 0x2C00 2 ≠ 0 ∧ s.dev.com.op ≠ none ∧ s.dev.phase ≠ .printing ∧ s.dev.paired = false ∧ s.dev.role ≠ 3)) ∧
    ((tw 3 0).dev.role = 3 ∧ adoptPrinting (ado [0]) = true ∧ (tw 3 0).dev.twin.aligned = false ∧ adoptPrinting (ado [0xFF]) = false ∧
      (tw 1 0).dev.role ≠ 2 ∧ (tw 1 0).dev.role ≠ 3) ∧
    ((∀ m ∈ [dec 2 0 0, dec 1 0 0, dec 15 0 0], ∀ r ∈ [1, 2], (tw r 15 { pledges := [{ seq := 3, msg := m }] }).dev.twin.pledges.find? (fun p => p.seq == 3) =
          some { seq := 3, msg := m }) ∧ (tw 2 15).dev.twin.pledges.find? (fun p => p.seq == 3) = none ∧
      (∀ b ∈ [0, 100], (tw 2 15 {} (fun d => d.onBar 0 (fun x => { x with next := b }))).dev.ahead (dec 2 0 b) = true) ∧
      (tw 2 15 {} (fun d => d.onBar 0 (fun x => { x with next := 1 }))).dev.ahead (dec 2 0 0) = false ∧ (tw 2 15).dev.role = 2 ∧ (tw 1 15).dev.role = 1 ∧
      (dec 1 0 0).kind ≠ 6 ∧ (dec 1 0 0).kind ≠ 12) ∧
    ((tw 2 15).dev.g 0x2C00 1 ≠ 0 ∧ 0 = ((tw 2 15).dev.ctx 0).checksum ∧ (∀ c ∈ [5, 6], let s := tw 2 15 {} (fun d => d.setCtx 15 { code := c })
      1 ≠ (s.dev.ctx 15).checksum ∧ 5 ≤ (s.dev.ctx 15).code ∧ (s.dev.ctx 15).code ≤ 6 ∧ s.dev.role = 2)) ∧
    ((∀ t ∈ [0, 200000], idx.dev.twin.marks.find? (fun k => decide (max k.time t - min k.time t ≤ 100000)) = some { time := 100000, count := 5, out := 0 }) ∧
      (∀ c ∈ [0, 2 ^ 64 - 4], ((5 - toSigned 64 c) - 7).natAbs ≤ 2) ∧ idx.dev.twin.dc = some 7 ∧ idx.dev.role = 2 ∧ idx.dev.twin.posBad = false ∧
      (((4096 : Nat) : Int) * 281474976710656 - 0).natAbs ≤ 1152921504606846976 ∧ 9223372036854775808 < (((32769 : Nat) : Int) * 281474976710656 - 0).natAbs) ∧
    (∀ k ∈ [1, 72], let s := tw 2 15 {} (fun d => d.setLane k { upRate := 3 })
      s.dev.role = 2 ∧ s.dev.lanePresent k = true ∧ k ≤ 72 ∧ 3 ≠ 0 ∧ (s.dev.lane k).upRate ≤ 3) ∧
    ((tw 1 15).dev.role ≠ 2 ∧ (tw 2 15).dev.cannot (dec 1 0 0) = some 2 ∧ (tw 2 15 {} (fun d => d.onBar 0 (fun x => { x with next := 1 }))).dev.cannot (dec 2 0 0) = some 1 ∧
      (tw 2 15).dev.cannot (dec 15 0 0) = none ∧ [1, 2, 3, 4, 5, 13].contains (dec 15 0 0).kind = false ∧ (tw 2 15).dev.cannot (dec 3 0 0) = none ∧
      [1, 2, 3, 4, 5, 13].contains (dec 3 0 0).kind = true) ∧
    ((tw 4 0 { retryForm := true }).dev.role = 4 ∧ (tw 4 0 { retryForm := true }).dev.twin.retryForm = true ∧ (tw 4 0 { retryForm := true }).dev.twin.partner = none ∧
      (tw 4 0).dev.twin.retryForm = false ∧
      (let s := tw 4 0 { retryForm := true, partner := some (idt 6 1) }
       s.dev.twin.partner.isSome = true ∧ s.dev.g 0x2C00 1 ≠ 0 ∧ s.dev.phase ≠ .printing ∧ s.dev.com.op = none)) := by
  refine ⟨?_, ?_, ?_, ?_, ?_, ?_, ?_, ?_⟩ <;> decide +kernel

theorem test_witness_PartnersFit :
    (∀ st, (tw 0 0).dev.identMismatch (idt st 1) = none ∧ (tw 0 0 {} id .printing).dev.identMismatch (idt st 1) = none ∧
      (tw 0 0 {} (fun d => { d.put 0x2C00 2 1 with com := { d.com with op := some (op 2) } })).dev.identMismatch (idt st 0) = none) ∧
    (tw 4 0 { retryForm := true, partner := some (idt 6 1) }).dev.identMismatch (idt 6 1) = none :=
  ⟨fun _ => ⟨ident_fits rfl rfl rfl rfl rfl (fun h => by cases h), ident_fits rfl rfl rfl rfl rfl (fun h => by cases h),
      ident_fits rfl rfl rfl rfl rfl (fun h => by cases h)⟩,
    ident_fits rfl rfl rfl rfl rfl (fun h => by cases h)⟩

/-- A twin message waiting for its acknowledgement. -/
def tmsg (k : Nat) : TwinMsg := { seq := 3, kind := k, payload := [], sent := 0, first := 0, lane := 0 }

/-- A pair in role `r`, with its partner. -/
def prd (r fl : Nat) (t : Twin := {}) (f : Dev → Dev := id) (ds : DState := .ready) : State := tw r fl { t with partner := some (idt 6 1) } f ds

/-- Field port A served, and the partner's address 7 known. -/
def peer (d : Dev) : Dev := (fa d).put 0x2C00 3 7

theorem test_witness_TwinLinkProbesAndHandovers :
    (let s := tw 1 15 {} (fun d => { d with jobs := { d.jobs with frames := [(3 * 2 ^ 64 + 5, fr [1, 2])] } })
     s.dev.frameOk 3 4 = none ∧ s.dev.frameOk 3 5 = some (fr [1, 2]) ∧ hdrBytes (fr [1, 2]).hdr ++ (fr [1, 2]).payload ≠ [] ∧
      (hdrBytes (fr [1, 2]).hdr ++ (fr [1, 2]).payload).length ≤ 32768 ∧
      (let u := tw 1 15 { fetches := [(3, 4, 1)] }
       u.dev.twin.fetches.any (fun f => f.1 == 3 && f.2.1 == 5) = false ∧ u.dev.twin.fetches.any (fun f => f.1 == 3 && f.2.1 == 4) = true ∧
        u.dev.frame? 3 4 = none ∧ u.dev.twin.fetches = [(3, 4, 1)])) ∧
    ((tw 0 0).dev.role ≠ 1 ∧ (let s := tw 1 0 { unacked := [tmsg 2] }
      s.dev.role = 1 ∧ s.dev.twin.pledges = [] ∧ s.dev.twin.clearSince = none ∧ s.dev.synced = false ∧ tmsg 2 ∈ s.dev.twin.unacked ∧
        (∀ q ∈ [3, 3 + 2147483647], Dev.seqUpTo (tmsg 2).seq q = true)) ∧
      (∀ k ∈ [8, 9, 11, 15], let s := tw 1 15 { pledges := [{ seq := 3, msg := dec k 0 0 }] }
        s.dev.role = 1 ∧ s.dev.twin.pledges = [{ seq := 3, msg := dec k 0 0 }] ∧ s.dev.synced = true ∧ s.begin_.inTime (dec k 0 0) = true) ∧
      (tw 1 15).begin_.inTime (dec 1 5 0) = false ∧ (dec 1 5 0).kind ≠ 6 ∧ (dec 1 5 0).kind ≠ 12) ∧
    ((∀ r ∈ [0, 1, 2, 3], let s := { tw r 15 { unacked := [tmsg 2] } with now := 2000001 }
        s.dev.twin.linked = true ∧ s.dev.twin.fetches = [] ∧ s.dev.twin.pledges = [] ∧ s.dev.role = r ∧ ∃ m ∈ s.dev.twin.unacked, m.first + 2000000 < s.now) ∧
      (on .ready).dev.twin.linked = false) ∧
    (∀ n ∈ [0, 49999, 50000, 2000000], let s := { tw 1 15 { unacked := [tmsg 2] } with now := n }
      s.dev.twin.unacked = [tmsg 2] ∧ s.now ≤ (tmsg 2).first + 2000000 ∧ (s.now < (tmsg 2).sent + 50000 ∨ (tmsg 2).sent + 50000 ≤ s.now)) ∧
    ((on .ready (fun d => { d with pins := { d.pins with hbInAlive := true } })).dev.pins.hbInAlive = true ∧ (on .ready).dev.pins.hbInAlive = false ∧
      (on .ready).dev.fast = true ∧ (on .ready).dev.twin.hbOutStopped = false ∧ (on .ready).dev.sys.st ≠ .restarting ∧ (on .standby).dev.fast = false) ∧
    ((prd 1 15).dev.paired = true ∧ (prd 1 15).dev.twin.probing = none ∧ (on .ready).dev.paired = false ∧
      (∀ f ∈ [15, 7], let s := prd 2 f { probing := some 0 }
        s.dev.twin.probing.isSome = true ∧ s.dev.role = 2 ∧ s.dev.synced = decide (f = 15))) ∧
    ((∀ m ∈ [fmsg 2 0x40 (zs 8)], (prd 2 15 {} peer).dev.admits { m with session := 0 } ∧ (prd 2 15 {} peer).dev.pairOk { m with session := 0 } 8 = true ∧
        (prd 2 15 {} peer).dev.pairOk { m with session := 1 } 8 = false) ∧
      (let s := prd 2 15 { probing := some 0 } peer; let m := { fmsg 2 0x41 (zs 8 ++ [1, 1] ++ zs 14) with session := 0 }
       s.dev.admits m ∧ s.dev.pairOk m 24 = true ∧ s.dev.twin.probing.isSome = true ∧ pairValue m.payload = s.dev.twin.probe ∧ slice m.payload 8 2 = [1, 1] ∧
        s.dev.role = 2 ∧ (prd 2 15 {} peer).dev.admits m ∧ (prd 2 15 {} peer).dev.pairOk m 24 = true ∧ (prd 2 15 {} peer).dev.twin.probing = none) ∧
      (let m := { fmsg 2 0x43 (zs 24) with session := 0 }
       (∀ f ∈ [15, 7], (prd 2 f {} peer).dev.admits m ∧ (prd 2 f {} peer).dev.pairOk m 24 = true ∧ (prd 2 f {} peer).dev.role = 2 ∧
        (prd 2 f {} peer).dev.synced = decide (f = 15)) ∧
       (prd 1 15 {} peer).dev.admits m ∧ (prd 1 15 {} peer).dev.pairOk m 24 = true ∧ (prd 1 15 {} peer).dev.role ≠ 2)) ∧
    ((prd 1 15 {} id .printing).dev.handoverAllowed = true ∧ (prd 1 15).dev.handoverAllowed = false ∧ (on .ready).dev.paired = false ∧
      (prd 1 15).dev.paired = true ∧ (prd 1 15).dev.role = 1 ∧ (prd 2 15).dev.paired = true ∧ (prd 2 15).dev.role = 2) ∧
    ((prd 1 15 {} id .printing).dev.g 0x2C00 1 = 1 ∧ (prd 1 15 {} id .printing).dev.g 0x2C00 6 ≠ 0 ∧ (on .ready).dev.role ≠ 1 ∧
      (on .ready).dev.twin.rehearsing = none ∧ (prd 1 15 { rehearsing := some 9 }).dev.twin.rehearsing = some 9 ∧
      (∀ x ∈ [8, 9], (prd 1 15 {} (fun d => { d with fl := { d.fl with lastL2 := some x } })).dev.fl.lastL2 = some x)) := by
  simp only [Dev.admits]
  refine ⟨?_, ?_, ?_, ?_, ?_, ?_, ?_, ?_, ?_⟩ <;> decide +kernel

theorem beNat_beBytes4 (n : Nat) : beNat (beBytes 4 n) = n % 4294967296 := by
  simp [beNat, beBytes, leBytes, byte]
  omega

theorem slice_serial (n : Nat) : slice (zs 4 ++ beBytes 4 n ++ zs 16) 4 4 = beBytes 4 n := by
  simp [slice, zs, beBytes, leBytes]

theorem serial_held : (prd 2 15 {} peer).dev.g 0x1018 4 = Config.serial % 4294967296 := by
  rfl

/-- HANDOVER names this device where its bytes 4 to 7 are the serial number. -/
theorem test_witness_HandoverNamesThisDevice :
    let m := { fmsg 2 0x43 (zs 4 ++ beBytes 4 Config.serial ++ zs 16) with session := 0 }
    pairValue m.payload = (prd 2 15 {} peer).dev.g 0x1018 4 ∧ m.payload.length = 24 ∧
      (∀ f ∈ [15, 7], (prd 2 f {} peer).dev.admits m ∧ (prd 2 f {} peer).dev.pairOk m 24 = true) := by
  refine ⟨?_, rfl, ?_⟩
  · rw [serial_held, ← beNat_beBytes4, ← slice_serial]
    rfl
  simp only [Dev.admits]
  decide +kernel

theorem test_witness_TwinCommandsAreServed :
    (∀ s ∈ [on .ready, prd 1 15, prd 2 15, prd 1 15 {} id .printing], s.Serves 1 0x2C02) := by
  intro s hs
  simp only [List.mem_cons, List.not_mem_nil, or_false] at hs
  rcases hs with rfl | rfl | rfl | rfl <;> exact serves_of_check (by decide +kernel)

/-- A keeper generation 1 for repeat 3. -/
def kgen (a : Bool) (d : Dev) : Dev := { d with keeper := { d.keeper with gen := some { num := 1, rep := 3, content := {}, acked := a } } }

/-- A decision of kind 6 for generation 1. -/
def dec6 : DecisionMsg := { dec 6 3 0 with value := 1 }

theorem test_witness_PairFormsAndFollowsDecisions_more :
    ((tw 2 0 { resync := true }).dev.twin.resync = true ∧ (tw 2 0 { resync := true }).dev.printingLike = false ∧ (tw 2 0).dev.twin.posBad = false ∧
      (tw 2 0 {} id .printing).dev.printingLike = true) ∧
    ((tw 3 0 { aligned := true, marks := [{ time := 100000, count := 5, out := 0 }] }).dev.twin.aligned = true ∧ (tw 3 0).dev.twin.aligned = false) ∧
    (∀ a : Bool, let s := tw 1 15 {} (kgen a)
      dec6.kind = 6 ∧ s.dev.keeper.gen = some { num := 1, rep := 3, content := {}, acked := a } ∧ 1 = dec6.value) ∧
    ((∀ n ∈ [4096, 4097, 32768], 0 < n ∧ (((n : Nat) : Int) * 281474976710656 - 0).natAbs ≤ 9223372036854775808) ∧
      1152921504606846976 < (((4097 : Nat) : Int) * 281474976710656 - 0).natAbs ∧ (idx true).dev.twin.posBad = true) ∧
    (let s := tw 2 15 {} (fun d => ((d.setLane 1 { upRate := 3 }).put 0x3410 1 4))
     s.dev.laneOf 0 0 = 1 ∧ s.dev.lanePresent 1 = true ∧ 2 < (s.dev.lane 1).upRate ∧ s.dev.laneState 1 = 4 ∧ (s.dev.lane 1).carries = false ∧
      (63 : Nat) / 8 < s.dev.nbars ∧ (on .ready (fun d => { d with product := 0x2204 })).dev.nbars ≤ 32 / 8) ∧
    (let s := prd 1 15 {} (fun d => d.put 0x2C08 4 9)
     s.dev.paired = true ∧ s.dev.g 0x2C08 4 = (idt 6 1).serial ∧ s.dev.role = 1 ∧ s.dev.synced = true ∧ (prd 1 0).dev.synced = false) ∧
    ((tw 2 0 {} id .armed).dev.sys.st = .armed ∧ (on .ready (fun d => { d with product := 0x2204 })).dev.product ≠ 0x2208) ∧
    (let s := tw 1 15 { sums := [(3, (4, 1))] } (fun d => d.setCtx 3 { code := 4 })
     s.dev.twin.sums.find? 3 = some (4, 1) ∧ 1 ≠ (s.dev.ctx 3).checksum ∧ (s.dev.ctx 3).code = 4) ∧
    (tw 2 15).dev.ahead { dec 4 0 0 with value := 0 } = true := by
  refine ⟨?_, ?_, ?_, ?_, ?_, ?_, ?_, ?_, ?_⟩ <;> decide +kernel

theorem test_witness_TwinLinkProbesAndHandovers_more :
    ((on .ready).dev.heldTile 5 = none ∧ (tw 1 15 { fetches := [(1, 5, 1)] }).dev.twin.fetches.any (fun f => f.1 == 1 && f.2.1 == 5) = true) ∧
    (let h : FrameHdr := { fh with kind := 3, tileId := 4, ulen := 1, clen := 6, crc := crc32 [7] }
     decodePayload ((tw 1 15 { fetches := [(3, 4, 1)] }).dev.historyOf h) (h.flags % 4) h.ulen h.crc (([1, 1, 0, 0xFE, 0xFF, 7] : Bytes).take h.clen) = (0, [7]) ∧
      decodePayload ((tw 1 15 { fetches := [(3, 4, 1)] }).dev.historyOf h) (h.flags % 4) h.ulen h.crc (([] : Bytes).take h.clen) ≠ (0, [7])) ∧
    (let s := { tw 1 15 { fetches := [(3, 4, 1)] } with now := 1000001 }
     s.dev.twin.fetches.filter (fun f => decide (f.2.2 ≠ 0) && decide (f.2.2 + 1000000 ≤ s.now)) = [(3, 4, 1)]) ∧
    (∀ k ∈ [1, 7, 11, 15], let s := tw 1 15 { pledges := [{ seq := 3, msg := dec k 0 0 }] }
      Dev.seqUpTo 3 3 = true ∧ (s.begin_.inTime (dec k 0 0) = true ∨ k = 1 ∨ k = 11)) ∧
    ((on .printing (fun d => { d with print := { d.print with reps := [rep 7 0 1000] } })).begin_.inTime { dec 13 0 0 with value := 0 } = true ∧
      (on .printing (fun d => { d with print := { d.print with reps := [rep 7 0 1000] } })).begin_.inTime { dec 6 100 0 with value := 1 } = true) ∧
    ((on .ready (fun d => { d with product := 0x2204 })).dev.product = 0x2204 ∧ (on .ready).dev.product ≠ 0x2204) ∧
    (let s := prd 1 15 { probing := some 0, pledges := [{ seq := 3, msg := dec 15 0 0 }] }
     s.dev.twin.probing.isSome = true ∧ s.dev.role = 1 ∧ s.dev.twin.pledges ≠ []) ∧
    (let s := prd 1 0 { clearSince := some 0, unacked := [tmsg 2] }
     s.dev.role = 1 ∧ s.dev.synced = false ∧ s.dev.twin.clearSince = some 0 ∧ s.now < 0 + 1000000000 ∧ 0 + 1000000000 ≤ ({ s with now := 1000000000 } : State).now) ∧
    ((prd 1 15 {} peer).dev.pairOk { fmsg 2 0x43 (zs 24) with session := 1 } 24 = false) := by
  refine ⟨?_, ?_, ?_, ?_, ?_, ?_, ?_, ?_, ?_⟩ <;> decide +kernel

/-- A running recovery of event `e` at level `l`. -/
def rc (e l : Nat) : Recovery := { id := 5, event := e, unit := 0, mask := 1, detail := 0, level := l, start := 0 }

/-- The device in state `st` with that recovery. -/
def rec_ (e l : Nat) (st : DState := .ready) : State := on st (fun d => { d with fl := { d.fl with running := [rc e l] } })

theorem test_witness_FaultsClimbTheLadderAndEnd :
    ((on .fault).dev.sys.st = .fault ∧ (∀ st ∈ [DState.ready, .armed], let s := on st
      s.dev.fast = true ∧ s.dev.sys.st ≠ .fault ∧ s.dev.fl.running = [] ∧ s.dev.fl.recentL1 = [] ∧ s.dev.printingLike = false ∧ s.dev.nbars = 8)) ∧
    ((∀ e ∈ [9, 10, 19, 20], (rec_ e 1).dev.fl.running = [rc e 1] ∧ (rec_ e 1).dev.fl.queued = [] ∧ (rc e 1).level = 1 ∧ (rc e 1).event ≠ 50 ∧
      blockKind (rc e 1).event ≠ 25 ∧ (rec_ e 1).dev.fl.escalations = [] ∧ 4 ≠ (rc e 1).id)) ∧
    (let s := on .restarting (fun d => { d with sys := { d.sys with before := .printing } })
     s.dev.sys.st = .restarting ∧ s.dev.saves = [] ∧ s.dev.fl.queued = [] ∧ s.dev.sys.preparing = false ∧ (on .ready).dev.sys.st ≠ .restarting) ∧
    (∀ st ∈ [DState.ready, .armed, .printing, .stopping], (on st).dev.sys.st = st ∧ (on st).dev.fl.running.any (fun r => decide (3 ≤ r.level)) = false ∧
      (rec_ 9 2 st).dev.fl.running.any (fun r => decide (3 ≤ r.level)) = false ∧ (on st).dev.role ≠ 1) ∧
    ((on .printing).dev.sys.st = .printing ∧ (on .ready).dev.sys.st ≠ .printing) ∧
    ((on .ready).dev.pins.faultN = false ∧ (on .ready (fun d => { d with pins := { d.pins with faultN := true } })).dev.pins.faultN = true) := by
  decide +kernel

theorem states_serve : ∀ st ∈ [DState.standby, .waking, .ready, .armed, .printing, .stopping, .fault], (on st).Serves 1 0x2000 := by
  intro st hs
  simp only [List.mem_cons, List.not_mem_nil, or_false] at hs
  rcases hs with rfl | rfl | rfl | rfl | rfl | rfl | rfl <;> exact serves_of_check (by decide +kernel)

theorem test_witness_LadderCommandsAreServed :
    (∀ st ∈ [DState.standby, .waking, .ready, .armed, .printing, .stopping, .fault], (on st).Serves 1 0x2000) ∧ (on .ready).Serves 1 0x2204 ∧
      (on .ready (fun d => { d with pins := { d.pins with faultN := true } })).Serves 1 0x2204 :=
  ⟨states_serve, serves_of_check (by decide +kernel), serves_of_check (by decide +kernel)⟩

/-- The tally as `f` makes it, in state `st`. -/
def tal (f : Tally → Tally) (st : DState := .ready) : State := on st (fun d => { d with tally := f d.tally })

theorem test_witness_TallyCountsWearAndRepairs :
    ((on .ready).dev.phase ≠ .printing ∧ (on .printing).dev.phase = .printing) ∧
    ((tal (fun t => { t with hours := List.replicate 718 (0, 0, 0, 0) })).dev.tally.hours.length < 719 ∧
      (on .ready (fun d => d.put 0x2E00 5 65524)).dev.g 0x2E00 5 < 65525 ∧ (on .ready).dev.g 0x2E00 5 < 65525) ∧
    (∀ k ∈ [1, 80], (tal (fun t => { t with day := [(k, (7, 2))] })).dev.tally.day.get (0, 0) k = (7, 2)) ∧
    (∀ a ∈ [0, 63], (on .ready).dev.tally.repairs.get 0 a = 0 ∧ (tal (fun t => { t with repairs := [(a, 3)] })).dev.tally.repairs.get 0 a = 3 ∧
      (tal (fun t => { t with repairs := [(a, 4)] })).dev.tally.repairs.get 0 a = 4) ∧
    ((on .ready (fun d => d.put 0x2E07 9 2)).dev.g 0x2E07 (8 + 1) = 2 ∧ (on .ready).dev.g 0x2E07 (8 + 1) ≠ 2 ∧
      (on .ready (fun d => d.put 0x2E07 9 2)).Serves 1 0x2E0F ∧ (on .ready).Serves 1 0x2E0F) :=
  ⟨by decide +kernel, by decide +kernel, by decide +kernel, by decide +kernel,
    by decide +kernel, by decide +kernel, serves_of_check (by decide +kernel), serves_of_check (by decide +kernel)⟩

/-- The NV state as `f` makes it. -/
def nvs (f : Nv → Nv) (g : Dev → Dev := id) : State := on .ready (fun d => g { d with nv := f d.nv })

/-- A record of kind `k`. -/
def nrec (k : Nat) : NvRec := { kind := k, obj := 0 }

theorem test_witness_TemperaturesAreSampledAndRecordsStored :
    (∀ k ∈ [0, 27], ∀ r ∈ [-550, 1500], (List.replicate 32 (some r))[k]? = some (some r) ∧ (on .ready).dev.sensorOn k = true ∧
      (r : Int) = r + (on .ready).dev.therm.trims.get 0 k ∧ (-550 : Int) ≤ r ∧ r ≤ 1500 ∧ (on .ready).dev.therm.prev.find? k = none ∧
      (on .ready (fun d => { d with therm := { d.therm with prev := [(k, r + 50)] } })).dev.therm.prev.find? k = some (r + 50) ∧ (r - (r + 50)).natAbs ≤ 50) ∧
    ((on .ready).dev.sensorOn 0 = true ∧ (1250 : Int) = 1250 + (on .ready).dev.therm.trims.get 0 0 ∧ (on .ready).dev.reading 0 < 1250 ∧
      (on .ready).dev.therm.prev.find? 0 = none ∧ (on .ready).dev.sys.st ≠ .boot ∧ (on .ready).dev.sys.st ≠ .off) ∧
    (∀ k ∈ [0, 27], let s := on .ready (fun d => { d with therm := { d.therm with sums := [(k, (605, 2))], means := [(k, 300)] } })
      s.dev.sensorOn k = true ∧ s.dev.therm.sums.get (0, 0) k = (605, 2) ∧ s.dev.therm.means.find? k = some 300) ∧
    (let s := nvs (fun n => { n with staged := [nrec 1, nrec 2] })
     s.dev.nv.staged = nrec 1 :: [nrec 2] ∧ s.dev.nvOpen = true ∧ s.dev.nv.writing = [] ∧ (on .ready).dev.nv.staged = []) ∧
    ((∀ k ∈ [1, 5], (nvs (fun n => { n with writing := [nrec k] })).dev.nv.writing = nrec k :: [] ∧ (nvs (fun n => { n with writing := [nrec k] })).dev.com.op = none) ∧
      (let s := nvs (fun n => { n with writing := [nrec 11] }) (fun d => { d with com := { d.com with op := some (op 3) } })
       s.dev.nv.writing = nrec 11 :: [] ∧ (nrec 11).kind ≠ 5 ∧ s.dev.com.op = some (op 3) ∧ (op 3).cls = 3 ∧
        (∀ b : Bool, (if b then s.begin_.drew.eraseSector else s.begin_.drew).nv.writing.drop 1 = [])) ∧
      (let s := nvs (fun n => { n with writing := [nrec 1], spares := 0, stored := [nrec 7, nrec 9] })
       s.dev.nv.writing = nrec 1 :: [] ∧ s.dev.com.op = none ∧ (nrec 1).kind ≠ 8 ∧ (∀ b : Bool,
        (if b then s.begin_.drew.eraseSector else s.begin_.drew).nv.spares = 0 ∧
          ∀ x ∈ (if b then s.begin_.drew.eraseSector else s.begin_.drew).nv.stored, x.kind ≠ 8))) ∧
    (on .ready).dev.nv.writing = [] := by
  decide +kernel

/-- The calibration state as `f` makes it. -/
def clb (f : Cal → Cal) (g : Dev → Dev := id) (st : DState := .ready) : State := on st (fun d => g { d with cal := f d.cal })

theorem test_witness_CalibrationRunsAreAppliedOrRefused :
    ((∀ p ∈ [(1, 0), (1, 79), (2, 3), (5, 7)], let s := clb (fun c => { c with due := [p.1 * 256 + p.2] }) (fun d => d.put 0x3410 (p.2 + 1) 4)
        bit (s.dev.g 0x2700 2) (p.1 - 1) = true ∧ s.dev.calUnit p.1 p.2 = true ∧ bit s.dev.cal.mask (p.1 - 1) = false ∧
          s.dev.cal.due.contains (p.1 * 256 + p.2) = true ∧ s.dev.cal.running.contains (p.1 * 256 + p.2) = false ∧ s.dev.calWaits p.1 p.2 = false) ∧
      (let s := clb (fun c => { c with refs := [(513, 81)] })
       s.dev.cal.refs.find? 513 = some 81 ∧ s.dev.g 0x2700 1 ≠ 0 ∧ (s.dev.g 0x2700 1 : Int) < (s.dev.calReading 2 1 - 81).natAbs ∧ s.dev.calUnit 2 1 = true ∧
        s.dev.calWaits 2 1 = false) ∧
      (let s := clb (fun c => { c with due := [256] }) (fun d => (d.put 0x3410 1 4).setLane 1 { carries := true }) .printing
       s.dev.calUnit 1 0 = true ∧ s.dev.calWaits 1 0 = true ∧ s.dev.cal.due.contains 256 = true ∧ s.dev.cal.running.contains 256 = false ∧
        bit (s.dev.g 0x2700 2) 0 = true ∧ bit s.dev.cal.mask 0 = false)) ∧
    bit ((on .ready (fun d => d.put 0x2700 2 0)).dev.g 0x2700 2) (1 - 1) = false ∧
    ((let s := clb (fun c => { c with running := [513] })
      s.dev.cal.left.contains 513 = false ∧ s.dev.cal.running.contains 513 = true ∧ s.dev.cal.due.contains 513 = false) ∧
      (on .ready).dev.cal.left.contains 513 = false ∧ (on .ready).dev.cal.running.contains 513 = false) ∧
    (∀ m ∈ [2, 63], ((List.range 6).filter (fun i => bit m i)).flatMap (fun i =>
        ((List.range 80).filter ((on .ready).dev.calUnit (i + 1))).map (fun u => (i + 1) * 256 + u)) ≠ []) ∧
    (let s := { clb id id .standby with now := 10000000000 }
     s.dev.sys.st = .standby ∧ s.dev.sys.standbySince + 10000000000 ≤ s.now ∧ bit (s.dev.g 0x2700 2) 5 = true ∧ s.dev.cal.left = [] ∧
      (∀ k ∈ [2, 27], s.dev.sensorOn k = true ∧ k < (List.replicate 28 (30 : Int)).length) ∧ s.dev.sensorOn 0 = true ∧ s.dev.sensorOn 1 = true ∧
      (∀ v ∈ [(-30 : Int), 30], (roundRat ((((300 + 300 : Int) : Rat) / 2) - ((300 + v : Int) : Rat))).natAbs ≤ 30) ∧ (on .ready).dev.sys.st ≠ .standby ∧
      (on .ready).dev.cal.left = []) ∧
    ((on .standby).dev.fast = false ∧ (on .ready).dev.fast = true ∧ (on .ready).dev.renderedAhead = true ∧ (on .ready).dev.cal.running = [] ∧
      (∀ k ∈ [512, 515], (on .ready).dev.cal.left.contains k = false) ∧
      (on .printing (fun d => d.onBar 0 (fun b => { b with ctx := some 0, next := 1, rend := 16 }))).dev.renderedAhead = false) := by
  decide +kernel

theorem test_witness_CalibrationCommandsAreServed : (on .ready).Serves 1 0x2702 := serves_of_check (by decide +kernel)

theorem test_witness_FaultsClimbTheLadderAndEnd_more :
    (1 ∉ [18, 19, 20, 25, 27, 47, 66, 91, 120] ∧ 5 ∉ (on .ready).dev.fl.decodeFails ∧
      (2 ^ 65 + 7) ∈ (on .ready (fun d => { d with fl := { d.fl with decodeFails := [2 ^ 65 + 7] } })).dev.fl.decodeFails ∧
      (on .ready).dev.barOf 0 = some 0 ∧ (on .ready).dev.barOf 8 = none) ∧
    (let f (n st : Nat) : State := on .boot (fun d => { d with sys := { d.sys with bootTries := n, slots := [(0, (1, 5, [])), (1, (st, 4, []))] } })
     (f 0 1).dev.sys.st = .boot ∧ (f 0 1).dev.sys.bootTries ≠ 1 ∧ (f 1 3).dev.sys.bootTries = 1 ∧ (f 1 3).dev.sys.slots.find? 0 = some (1, 5, []) ∧
      (∀ p ∈ (f 1 3).dev.sys.slots, p ≠ (0, (1, 5, [])) → (p.2.1 = 1 ∨ p.2.1 = 3) → p.2.2.1 < 5) ∧
      (∀ p ∈ (on .boot (fun d => { d with sys := { d.sys with slots := [(0, (2, 5, []))] } })).dev.sys.slots, p.2.1 ≠ 1 ∧ p.2.1 ≠ 3)) ∧
    ((rec_ 13 4).dev.fl.running.any (fun x => decide (4 ≤ x.level)) = true ∧ (on .waking).dev.fast = false ∧ overlap (rc 9 1) (rc 9 1) = true ∧
      (rec_ 9 1).dev.fl.running.any (fun x => overlap x (rc 9 1)) = true) ∧
    (∀ l ∈ [[0], [0, 0]], let s := on .ready (fun d => { d with fl := { d.fl with escalations := l } })
      ((0 :: s.dev.fl.escalations).filter (fun t => decide (s.now < t + 10000000000))).length = l.length + 1) := by
  decide +kernel

theorem test_witness_FaultsClimbTheLadderAndEnd_more_rest :
    (∀ b : Bool, let s := on .ready (fun d => { d with fl := { d.fl with recentL1 := if b then [(9 * 256, 0, 0), (9 * 256, 0, 0)] else [(9 * 256, 0, 0)] } })
      s.dev.printingLike = false ∧ s.dev.thirdL1 (rc 9 1) = b) ∧
    ((on .printing).dev.printingLike = true ∧ (on .printing).dev.thirdL1 (rc 9 1) = false ∧ (rc 9 1).mask ≠ 0) ∧
    (let s := on .printing (fun d => (d.put 0x2C08 1 1).put 0x2C08 2 15)
     s.dev.role = 1 ∧ s.dev.synced = true ∧ (on .ready).dev.role ≠ 1 ∧ (on .ready).dev.printingLike = false) ∧
    ((on .ready (fun d => d.put 0x2E07 9 2)).dev.spareEngine = none ∧ blockKind 25 = 25 ∧ (on .ready).dev.spareEngine.isSome = true) ∧
    ((rec_ 25 2).dev.fl.running.find? (fun x => x.id == (rc 25 2).id) = some (rc 25 2) ∧ (rec_ 9 3).dev.fl.running.find? (fun x => x.id == 5) = some (rc 9 3)) ∧
    (let s := on .restarting (fun d => { d with sys := { d.sys with before := .printing }, fl := { d.fl with savePoison := 3 } })
     s.dev.sys.st = .restarting ∧ s.dev.printingLike = true ∧ (∀ k, k < 2 → bit s.dev.fl.savePoison k = true)) := by
  decide +kernel

theorem test_witness_TallyCountsWearAndRepairs_more :
    (∀ n ∈ [719, 8759], let s := tal (fun t => { t with hours := List.replicate n (0, 0, 0, 0) }) .printing
      720 ≤ s.dev.tally.hours.length + 1 ∧ s.dev.tally.hours.length + 1 ≤ 8760 ∧ s.dev.cnt 0x2E0C 2 = 0 ∧ s.dev.g 0x2E05 10 = 0 ∧ s.dev.g 0x2E05 11 = 0) ∧
    ((on .ready (fun d => d.bump 0x2E01 1)).dev.equivalent = 58) ∧
    (∀ c : Bool, let s := tal (fun t => { t with day := [(1, (7, 2))], crossed := if c then [1] else [] })
      s.dev.tally.day.get (0, 0) 1 = (7, 2) ∧ s.dev.tally.crossed.contains 1 = c ∧ (2 * 7 + 2) / (2 * 2) < s.dev.g 0x2E00 1) ∧
    ((on .ready).dev.tally.day.get (0, 0) 1 = (0, 0) ∧ (on .ready).dev.g 0x2E00 3 = 1 ∧ (on .ready).dev.g 0x2E00 1 < 500) := by
  decide +kernel

theorem test_witness_TemperaturesAreSampledAndRecordsStored_more :
    ((on .ready (fun d => d.put 0x260A 4 0x80)).dev.sensorOn 3 = false ∧ (∀ b ∈ [0, 2], (on .ready (fun d => { d with therm := { d.therm with bad := [(3, b)] } })).dev.therm.bad.get 0 3 = b)) ∧
    (let s := on .ready
     s.dev.lowLimit 3 + 20 ≤ s.dev.highLimit 3 - 20 ∧ s.dev.lowLimit 3 + 20 ≤ s.dev.highLimit 3 ∧ s.dev.lowLimit 3 ≤ s.dev.highLimit 3 - 20 ∧ -550 ≤ s.dev.lowLimit 3 ∧
      s.dev.highLimit 3 ≤ 1500 ∧ s.dev.therm.warnHigh.contains 3 = false ∧ s.dev.therm.warnLow.contains 3 = false) ∧
    ((∀ x ∈ [28, 29, 30, 31], bits ((on .ready (fun d => (((d.put 0x260A 29 0x80).put 0x260A 30 0x80).put 0x260A 31 0x80).put 0x260A 32 0x80)).dev.g 0x260A (x + 1)) 7 6 ≠ 1) ∧
      (∀ sp ∈ [28, 29, 30, 31], bits ((on .ready).dev.g 0x260A (sp + 1)) 7 6 = 1) ∧
      (let s := on .ready (fun d => d.put 0x260A 29 0x80)
       s.dev.roleOf 3 = 3 ∧ bits (s.dev.g 0x260A (28 + 1)) 7 6 ≠ 1 ∧ bits (s.dev.g 0x260A (29 + 1)) 7 6 = 1)) ∧
    (let f (r : Nat) (c : Option Nat) : State := on .ready (fun d => { (List.range 32).foldl (fun d k => d.put 0x2608 (k + 1) r) d with therm := { d.therm with calmSince := c } })
     (∃ k, k < 32 ∧ (f 1200 none).dev.sensorOn k = true ∧ (f 1200 none).dev.highLimit k - 101 < (f 1200 none).dev.reading k) ∧
      (∀ k, k < 32 → (f 400 none).dev.sensorOn k = true → (f 400 none).dev.reading k ≤ (f 400 none).dev.highLimit k - 121 ∧
        (2 ≤ k → (f 400 none).dev.lowLimit k + 121 ≤ (f 400 none).dev.reading k)) ∧ (f 400 (some 0)).dev.therm.calmSince = some 0) ∧
    (let s := nvs (fun n => { n with writing := [nrec 11, nrec 12], spares := 0 }) (fun d => { d with com := { d.com with op := some (op 3) } })
     s.dev.nv.writing = nrec 11 :: [nrec 12] ∧ s.dev.com.op = some (op 3) ∧ (∀ b : Bool,
      (if b then s.begin_.drew.eraseSector else s.begin_.drew).nv.writing.drop 1 = [nrec 12] ∧ (if b then s.begin_.drew.eraseSector else s.begin_.drew).nv.spares = 0)) ∧
    ((nvs (fun n => { n with staged := [nrec 1], writing := [nrec 2] })).dev.nv.writing ≠ [] ∧
      (∀ b : Bool, let s := nvs (fun n => { n with writing := [nrec 1], spares := 3 })
        (if b then s.begin_.drew.eraseSector else s.begin_.drew).nv.spares ≠ 0)) := by
  decide +kernel

theorem test_witness_CalibrationRunsAreAppliedOrRefused_more :
    (let s := clb (fun c => { c with due := [256], running := [256] }) (fun d => d.put 0x3410 1 4)
     bit (s.dev.g 0x2700 2) 0 = true ∧ s.dev.calUnit 1 0 = true ∧ bit s.dev.cal.mask 0 = false ∧ s.dev.cal.due.contains 256 = true ∧ s.dev.cal.running.contains 256 = true) ∧
    ((on .ready).dev.cal.due.contains 513 = false ∧ (on .ready).dev.cal.refs.find? 513 = none) ∧
    (let s := clb (fun c => { c with left := [513, 514], due := [515], running := [515], mask := 2 })
     s.dev.cal.left.contains 513 = true ∧ s.dev.cal.left.contains 515 = false ∧ s.dev.cal.running.contains 515 = true ∧ s.dev.cal.due.contains 515 = true ∧ s.dev.cal.left ≠ []) ∧
    ((on .ready (fun d => d.put 0x3403 1 5)).dev.g 0x3403 1 < 16 ∧ 16 ≤ (on .ready).dev.g 0x3403 1 ∧ (on .ready).dev.calWaits 1 0 = false) ∧
    (∀ p : Bool, let s := clb (fun c => { c with results := [(6 * 256 + 3, p, 5)] })
      s.dev.cal.left = [] ∧ s.dev.cal.results = [(6 * 256 + 3, p, 5)]) ∧
    (∀ m ∈ [1], ((List.range 6).filter (fun i => bit m i)).flatMap (fun i =>
        ((List.range 80).filter ((on .ready).dev.calUnit (i + 1))).map (fun u => (i + 1) * 256 + u)) = []) ∧
    (let s := clb (fun c => { c with left := [1538] })
     s.dev.cal.left.any (fun k => k / 256 == 6) = true ∧ (on .ready).dev.cal.left.any (fun k => k / 256 == 6) = false ∧ (on .ready).dev.sys.st ≠ .standby) ∧
    (∀ v ∈ [(-31 : Int), 31], 30 < (roundRat ((((300 + 300 : Int) : Rat) / 2) - ((300 + v : Int) : Rat))).natAbs) := by
  decide +kernel

/-- The device before an image has been verified. -/
def boot (f : Dev → Dev := id) : State := { State.reset with dev := f State.reset.dev }

/-- In Fault after a thermal shutdown, the first die sensor at `r`. -/
def hot (r : Nat) : State := on .fault (fun d => { d.put 0x2608 1 r with therm := { d.therm with shutdown := true } })

theorem test_witness_ResetsKeepWhatTheyKeepAndBootEndsInStandby :
    ((on .off).dev.sys.st = .off ∧ (on .ready).dev.sys.st ≠ .off) ∧
    ((∀ st ∈ [DState.standby, .ready, .printing, .fault], (on st).dev.sys.st ≠ .off ∧ (on st).dev.rebootCode 1 = some 0 ∧ (on st).dev.session? 1 = some usb ∧
        usb.port = 0 ∧ (on st).dev.served usb 0x2000 = true ∧ (on st).dev.com.op = none ∧ (on st).dev.sys.st ≠ .restarting ∧ (on st).dev.tooHot = false) ∧
      ((on .restarting).dev.sys.st = .restarting ∧ (on .restarting).dev.session? 1 = some usb ∧ (on .restarting).dev.served usb 0x2000 = true) ∧
      ((hot 1001).dev.tooHot = true ∧ (hot 1000).dev.tooHot = false ∧ (hot 1001).dev.session? 1 = some usb ∧ (hot 1001).dev.served usb 0x2000 = true)) ∧
    ((boot).dev.sys.st = .boot ∧ (boot).dev.pins.porst = false ∧ (boot).dev.pins.sysrst = false ∧ (boot).dev.sys.verified = false ∧
      (boot).dev.nv.stored = [] ∧ (boot).dev.nv.staged = [] ∧ (boot).dev.tally.marked = [] ∧ (boot).dev.g 0x2100 2 ≠ 1 ∧
      (boot (fun d => d.put 0x2100 2 1)).dev.g 0x2100 2 = 1 ∧ (boot (fun d => { d with pins := { d.pins with sysrst := true } })).dev.pins.sysrst = true ∧
      (boot (fun d => { d with pins := { d.pins with porst := true } })).dev.pins.porst = true ∧ (on .ready).dev.sys.verified = true) := by
  decide +kernel

/-- Every head lane of the device UP, in state `st`. -/
def settled (st : DState) : State := on st (fun d => (List.range 72).foldl (fun d i => d.put 0x3410 (i + 1) 4) d)

/-- A wake frame. -/
def wake : Dgram := { fmsg 0 0x42 [] with session := 0 }

theorem test_witness_PowerCommandsMoveTheDeviceBetweenStates :
    ((on .standby).dev.sys.st = .standby ∧ (on .standby fa).dev.admits wake ∧ wake.typ = 0x42 ∧ (on .standby fa).dev.g 0x2100 1 = 1 ∧ viaCode wake.via < 2 ∧
      wake.session = 0 ∧ wake.len = 0 ∧ (on .ready fa).dev.admits wake ∧ (on .ready fa).dev.sys.st ≠ .standby ∧
      (on .standby (fun d => (fa d).put 0x2100 1 0)).dev.admits wake ∧ (on .standby (fun d => (fa d).put 0x2100 1 0)).dev.g 0x2100 1 ≠ 1) ∧
    ((∀ st ∈ [DState.standby, .waking, .ready, .armed, .printing, .stopping, .fault], (on st).dev.sys.st = st ∧ (on st).dev.tooHot = false ∧
        (on st).dev.nvOpen = true ∧ (on st).dev.nv.staged = []) ∧
      (settled .ready).dev.headLanes.all (settled .ready).dev.laneSettled = true ∧ (on .ready).dev.headLanes.all (on .ready).dev.laneSettled = false ∧
      (∀ k ∈ [1, 71], k ∈ (settled .armed).dev.headLanes ∧ (settled .armed).dev.laneState k = 4) ∧ (hot 1001).dev.tooHot = true) ∧
    ((∀ b, (on .waking (fun d => { d with sys := { d.sys with firstWake := b } })).dev.sys.st = .waking) ∧ (on .ready).dev.sys.st ≠ .waking) ∧
    ((on .ready).dev.sys.verified = true ∧ (on .ready).dev.sys.slot = 0 ∧ (on .ready).dev.sys.slot ≠ 1 ∧ ([0] : Bytes) ≠ [] ∧ ([0] : Bytes).length ≤ 16777216) ∧
    ((∀ c ∈ [1, 4], (opn c).dev.com.op = some (op c) ∧ (op c).cls = c) ∧ (on .ready).dev.com.op = none) ∧
    ((on .ready).dev.sys.internalOsc = false ∧ (on .ready).dev.sys.st ≠ .off ∧ (on .ready).dev.fast = true ∧ (on .ready).dev.sys.pcieRef = true ∧
      (on .ready).dev.pins.badSupplies.contains 0 = false ∧ (on .ready).dev.pins.usbVbus ≠ true ∧
      (on .ready (fun d => { d with pins := { d.pins with usbVbus := true } })).dev.pins.usbVbus ≠ false ∧ (que ring).dev.jobs.link = true) := by
  simp only [Dev.admits]
  refine ⟨?_, ?_, ?_, ?_, ?_, ?_⟩ <;> decide +kernel

theorem test_witness_PowerCommandsAreServed :
    (∀ st ∈ [DState.standby, .waking, .ready, .armed, .printing, .stopping, .fault], (on st).Serves 1 0x2000) ∧ (settled .ready).Serves 1 0x2000 ∧
      (settled .armed).Serves 1 0x2000 ∧ (hot 1001).Serves 1 0x2000 ∧ (on .ready).Serves 1 0x2108 :=
  ⟨states_serve, serves_of_check (by decide +kernel), serves_of_check (by decide +kernel), serves_of_check (by decide +kernel),
    serves_of_check (by decide +kernel)⟩

theorem test_witness_PowerCommandsMoveTheDeviceBetweenStates_more :
    (let m := { wake with session := 1 }
     (on .standby fa).dev.admits m ∧ m.typ = 0x42 ∧ (on .standby fa).dev.g 0x2100 1 = 1 ∧ viaCode m.via < 2 ∧ m.session ≠ 0) ∧
    ((on .printing (fun d => { d with nv := { d.nv with staged := [nrec 1] } })).dev.nv.staged ≠ [] ∧
      (on .fault).dev.sys.st ∉ [DState.standby, .waking, .ready, .armed, .printing, .stopping]) ∧
    (domOk 0x2108 (List.replicate 33 1) = false ∧ domOk 0x2108 [0] = true ∧ (on .ready (fun d => d.put 0x2608 1 901)).dev.nvOpen = false ∧
      (∀ b : Bool, (boot (fun d => { d with sys := { d.sys with verified := b } })).dev.sys.verified = b)) ∧
    ((on .off).dev.sys.st = .off ∧ (on .boot).dev.fast = false ∧ (on .ready (fun d => { d with sys := { d.sys with internalOsc := true, pcieRef := false } })).dev.sys.internalOsc = true ∧
      (on .ready (fun d => { d with sys := { d.sys with pcieRef := false } })).dev.sys.pcieRef = false ∧ (on .ready).dev.jobs.link = false) ∧
    ((on .waking).dev.sys.st = .waking ∧ (on .waking).dev.fast = false ∧ (on .fault (fun d => { d with sys := { d.sys with asleep := true } })).dev.fast = false) := by
  simp only [Dev.admits]
  refine ⟨?_, ?_, ?_, ?_, ?_⟩ <;> decide +kernel

/-- What a command leaves, as a check. -/
def then_ (r : Host.Outcome State Fault Refusal) (p : State → Bool) : Bool := match r with
  | .next t => p t
  | _ => false

/-- R254 states the check value of CRC-32C over the string "123456789". -/
theorem test_crc32c_check_value : crc32c ("123456789".toList.map (fun c => byte c.toNat)) = 0xE3069283 := by decide +kernel

/-- Chapter 1: bar B3 uses HL27 to HL34 as active lanes and HL35 as its spare. -/
theorem test_bar3_lanes : State.reset.dev.lanesOf 3 = [28, 29, 30, 31, 32, 33, 34, 35] ∧ State.reset.dev.spareOf 3 = 35 := by decide +kernel

/-- One step of an empty queue is one 40 ns tick (log 1). -/
theorem test_idle_ticks : then_ (step State.reset) (fun t => t.now == 40 && t.pending.isEmpty) = true := by decide +kernel

/-- The first session opened over the service port has identifier 1 (R39, R40). -/
theorem test_open_first_session :
    then_ (exec (.open_ (msg 1 [0])) (on .ready (fun d => { d with com := {} }))) (fun t => t.dev.com.sess.map (fun x => x.2.id) == [1]) = true := by decide +kernel

/-- A die sensor at 125.0 °C stops the device, and one at 124.9 °C does not (R428). -/
theorem test_shutdown_at_125 : then_ (exec (.sensorSample [some 1250]) (on .ready)) (fun t => t.dev.sys.st == .fault && t.dev.pins.thermN) = true ∧
    then_ (exec (.sensorSample [some 1249]) (on .ready)) (fun t => t.dev.sys.st == .ready && !t.dev.pins.thermN) = true := by decide +kernel

/-- A page whose check bytes are the inverse of its own is poisoned, and a read hands out POISON (R356, R371). -/
theorem test_poisoned_page_reads_poison : then_ (exec (.pageRead 16 0 ⟨.free, 0⟩) (pg 0 (List.replicate 16 0xFF))) (fun t => t.dev.out.contains (.pageData 0 none)) = true := by
  decide +kernel

end Sys2Proof.Tests
end

section
/-! PROOFS. The key slots (R47): a write of one object by a served session, the checks that an access to a key slot meets, and the write
over the USB service port. -/
namespace Sys2Proof.Machine

open Sys2Proof

/-- A served session's write of one object, other than a remap command or a device command, is made and answered with its code (R55). -/
theorem hostObject_served {s : State} {sess idx sub : Nat} {b : Bytes} {x : Sess} (hx : s.dev.session? sess = some x) (hp : x.port = 0)
    (hv : s.dev.serves x.via = true) (ho : s.dev.com.op = none) (hremap : idx ≠ 0x280E) (hcmd : idx ≠ 0x2000) :
    s.hostObject sess idx sub b =
      s.done ((s.begin_.write x idx sub b).1.emit (.answer sess (s.begin_.write x idx sub b).2)) := by
  simp [State.hostObject, State.write, Dev.reboots, State.done, hx, hp, hv, ho, hremap, hcmd]

/-- A write that fails a check up to its length changes nothing and has the check's code. -/
theorem Dev.write_unwritable {d : Dev} {x : Sess} {idx sub e : Nat} {b : Bytes} (h : d.writable x idx sub b.length = .error e) :
    d.write x idx sub b = (d, e) := by
  simp only [Dev.write, h]

/-- Once an image has been verified, every transport is served (R456). -/
theorem Dev.serves_of_verified {d : Dev} (h : d.sys.verified = true) (via : Nat) : d.serves via = true := by simp [Dev.serves, h]

/-- Once an image has been verified, a session is served for every object (R464). -/
theorem Dev.served_of_verified {d : Dev} (h : d.sys.verified = true) (x : Sess) (idx : Nat) : d.served x idx = true := by
  simp [Dev.served, h]

/-- The row of the key slots, 0x1450:01 to 04: 32 bytes each, write only. -/
def keyRow : ObjRow := ⟨0x1450, 0, 1, 1, 4, .oct 32, .wo, 0, .imm, .any⟩

/-- The rows of 0x1450 are those of the key slots and of the mask of the slots in use, on every product. -/
theorem rowsOf_keySlots (product : Nat) : rowsOf product 0x1450 = [keyRow, ⟨0x1450, 0, 1, 5, 5, .u 1, .ro, 0, .none, .any⟩] := by
  have hbar : (product == 0x2204 && decide (0x5400 ≤ 0x1450 ∧ 0x1450 ≤ 0x57FF)) = false := by simp
  simp only [rowsOf, hbar]
  decide

theorem keyRow_hasSub (slot : Fin 4) : keyRow.hasSub (slot + 1) = true := by
  revert slot; decide

/-- No state keeps the key slots back (R407, R456). -/
theorem Dev.gated_keySlots (d : Dev) : d.gated 0x1450 = false := by
  simp only [Dev.gated]; split <;> rfl

/-- Once an image has been verified, an access to a key slot meets no obstacle before its direction and transport (R33). -/
theorem Dev.access_keySlot {d : Dev} (h : d.sys.verified = true) (x : Sess) (slot : Fin 4) :
    d.access x 0x1450 (slot + 1) = .ok keyRow := by
  have hctx : ofContext 0x1450 = false := by decide
  simp [Dev.access, rowsOf_keySlots, keyRow_hasSub, d.gated_keySlots, Dev.served_of_verified h, hctx]

/-- A key slot is write only: its read is refused over every transport (R33, R47). -/
theorem Dev.readObj_keySlot {d : Dev} (h : d.sys.verified = true) (x : Sess) (slot : Fin 4) (staged : Bool) :
    d.readObj x 0x1450 (slot + 1) staged = (d, .error 0x06010001) := by
  have hwo : (keyRow.acc == .wo) = true := rfl
  simp only [Dev.readObj, Dev.access_keySlot h, hwo, if_true]

/-- What a write of a key slot meets: another transport than USB refuses it, whatever its length, and USB takes 32 bytes (R32, R47). -/
theorem Dev.writable_keySlot {d : Dev} (h : d.sys.verified = true) (x : Sess) (slot : Fin 4) (n : Nat) :
    d.writable x 0x1450 (slot + 1) n =
      if x.via ≠ 3 then .error 0x0F000015 else if n = 32 then .ok keyRow else .error 0x06070010 := by
  have hro : (keyRow.acc == .ro) = false := rfl
  have hlen : lengthOk 0x1450 keyRow n = (n == 32) := rfl
  simp only [Dev.writable, Dev.access_keySlot h, hro, hlen]
  by_cases hvia : x.via = 3 <;> by_cases hn : n = 32 <;> simp [hvia, hn]

/-- Over any transport but USB, a write of a key slot changes nothing (R47). -/
theorem Dev.write_keySlot_other {d : Dev} (h : d.sys.verified = true) {x : Sess} (hvia : x.via ≠ 3) (slot : Fin 4) (b : Bytes) :
    d.write x 0x1450 (slot + 1) b = (d, 0x0F000015) :=
  Dev.write_unwritable ((Dev.writable_keySlot h x slot _).trans (if_pos hvia))

/-- Over USB, a write of 32 bytes puts them in the slot and raises EV_KEY_CHANGE with the slot as its unit, its detail 0 where they
are all zero (R47, Table 17.6). -/
theorem Dev.write_keySlot_usb {d : Dev} (h : d.sys.verified = true) {x : Sess} (hvia : x.via = 3) (slot : Fin 4) {b : Bytes}
    (hb : b.length = 32) :
    d.write x 0x1450 (slot + 1) b =
      ((d.put 0x1450 (slot + 1) (leNat b)).raise 122 0 slot (if leNat b = 0 then 0 else 1), 0) := by
  have hw : d.writable x 0x1450 (slot + 1) b.length = .ok keyRow := by simp [Dev.writable_keySlot h, hvia, hb]
  have hval : valueCode d.product 0x1450 (slot + 1) keyRow b = 0 := rfl
  have hdom : (keyRow.ty == .dom) = false := rfl
  simp [Dev.write, hw, hval, hdom, Dev.writeScalar, Dev.writeKey]

/-- Settles O19: the transport decides the write (`Dev.write_keySlot_other`, `Dev.write_keySlot_usb`), and the row, being write only, the
read (`Dev.readObj_keySlot`). -/
theorem keySlotsAreWrittenOverUsbOnly : Obligations.KeySlotsAreWrittenOverUsbOnly := by
  unfold Obligations.KeySlotsAreWrittenOverUsbOnly
  intro s sess slot k x hx hp hver ho hk
  have hver' : s.begin_.sys.verified = true := hver
  have hexec : exec (.keySlotWrite sess slot k) s =
      s.done ((s.begin_.write x 0x1450 (slot + 1) k).1.emit (.answer sess (s.begin_.write x 0x1450 (slot + 1) k).2)) :=
    hostObject_served hx hp (Dev.serves_of_verified hver _) ho (by decide) (by decide)
  refine ⟨fun hvia => ?_, fun hvia => ?_, Dev.readObj_keySlot hver' x slot⟩
  · rw [Dev.write_keySlot_other hver' hvia] at hexec
    exact Makes.done hexec
  · rw [Dev.write_keySlot_usb hver' hvia slot hk] at hexec
    have hdetail : (if leNat k = 0 then 0 else 1) = (if leNat k = 0 then 0 else 1) % 4294967296 := by split <;> rfl
    exact Reports.of_raised hexec rfl (Dev.raise_bare _ _ _ _ _ (by decide)) (by simp) le_rfl hdetail

end Sys2Proof.Machine
end

section
/-! PROOFS. Descriptors (chapter 04): when a queue takes one, the lengths that end it at once (R113), and what a completion sends and
moves (R109, R110). -/
namespace Sys2Proof.Machine

open Sys2Proof

@[simp] theorem State.begin_queueReady (s : State) (q : Nat) : s.begin_.queueReady q = s.dev.queueReady q := rfl

@[simp] theorem Dev.queue_setQueue_self (d : Dev) (q : Nat) (x : Queue) : (d.setQueue q x).queue q = x := by
  simp [Dev.queue, Dev.setQueue]

@[simp] theorem Dev.emit_queue (d : Dev) (o : Out) (q : Nat) : (d.emit o).queue q = d.queue q := rfl

/-! The four commands by their own meanings. -/

theorem exec_putFrame (q : Fin 16) (desc : Desc) (h : FrameHdr) (p : Bytes) (s : State) :
    exec (.putFrame q desc h p) s = execPutFrame q desc h p s := rfl

theorem exec_getExport (q : Fin 16) (desc : Desc) (s : State) : exec (.getExport q desc) s = execGetExport q desc s := rfl

theorem exec_freeFrame (q : Fin 16) (desc : Desc) (s : State) : exec (.freeFrame q desc) s = execFreeFrame q desc s := rfl

theorem exec_freeStream (q : Fin 16) (desc : Desc) (s : State) : exec (.freeStream q desc) s = execFreeStream q desc s := rfl

/-- `i` is one of the four commands that take descriptor `desc` of queue `q` (Table 4.6); `h` and `p` are what a PUT_FRAME carries. -/
def TakesDescriptor (q : Fin 16) (desc : Desc) (h : FrameHdr) (p : Bytes) (i : Instr) : Prop :=
  i = .putFrame q desc h p ∨ i = .getExport q desc ∨ i = .freeFrame q desc ∨ i = .freeStream q desc

/-- On a queue that is not ready, no descriptor is taken (R108, R111). -/
theorem exec_descriptor_not_ready {s : State} {q : Fin 16} {desc : Desc} {h : FrameHdr} {p : Bytes} {i : Instr}
    (hi : TakesDescriptor q desc h p i) (hq : s.dev.queueReady q = false) : exec i s = s.done s.begin_ := by
  rcases hi with rfl | rfl | rfl | rfl
  · simp [exec_putFrame, execPutFrame, hq]
  · simp [exec_getExport, execGetExport, hq]
  · simp [exec_freeFrame, execFreeFrame, hq]
  · simp [exec_freeStream, execFreeStream, hq]

/-- A ready queue completes a descriptor of no bytes at once with EMPTY, whatever its operation (R113). -/
theorem exec_descriptor_empty {s : State} {q : Fin 16} {desc : Desc} {h : FrameHdr} {p : Bytes} {i : Instr}
    (hi : TakesDescriptor q desc h p i) (hq : s.dev.queueReady q = true) (hlen : desc.length = 0) :
    exec i s = s.done (s.begin_.complete q desc 1 0 0) := by
  rcases hi with rfl | rfl | rfl | rfl
  · simp [exec_putFrame, execPutFrame, hq, hlen]
  · simp [exec_getExport, execGetExport, hq, hlen]
  · simp [exec_freeFrame, execFreeFrame, hq, hlen]
  · simp [exec_freeStream, execFreeStream, hq, hlen]

/-- A PUT_FRAME too short for a header is LENGTH_MISMATCH (R113), counted as a refused frame of tile ID 0 (the model's choice, log 99). -/
theorem exec_putFrame_short {s : State} {q : Fin 16} {desc : Desc} (h : FrameHdr) (p : Bytes) (hq : s.dev.queueReady q = true)
    (hpos : 1 ≤ desc.length) (hlt : desc.length < 32) :
    exec (.putFrame q desc h p) s = s.done ((s.begin_.refuseFrame 0x14 0).complete q desc 0x14 0 0) := by
  have hne : desc.length ≠ 0 := by omega
  simp [exec_putFrame, execPutFrame, hq, hne, hlt]

/-- A completion sends its ring entry, and the vector after it where IRQ_EN and the descriptor's own bit ask for it (R109, R110). -/
theorem Dev.complete_out (d : Dev) (q : Nat) (desc : Desc) (st n tile : Nat) :
    (d.complete q desc st n tile).out = d.out ++ [.completion q (Dev.record (d.queue q) desc st n tile)] ++
      (if (d.queue q).irqEn && bit desc.op 7 then [.msix q] else []) := by
  cases hirq : (d.queue q).irqEn && bit desc.op 7 <;> simp [Dev.complete, hirq]

/-- A completion moves Q_HEAD to the next entry of the ring (R108, R110). -/
theorem Dev.complete_head (d : Dev) (q : Nat) (desc : Desc) (st n tile : Nat) :
    ((d.complete q desc st n tile).queue q).head = ((d.queue q).head + 1) % 2 ^ (d.queue q).order := by
  cases hirq : (d.queue q).irqEn && bit desc.op 7 <;> simp [Dev.complete, hirq]

/-- Settles O32: the three kinds of descriptor by what `exec` answers for each, the last clause by what a completion sends and moves. The
refused frame's tile ID of 0 is the model's choice (log 99). -/
theorem emptyAndShortDescriptors : Obligations.EmptyAndShortDescriptors := by
  unfold Obligations.EmptyAndShortDescriptors
  refine ⟨?empty, ?short, ?notReady, ?completion⟩
  case empty => exact fun s q desc h p i hq hlen hi => Makes.done (exec_descriptor_empty hi hq hlen)
  case short => exact fun s q desc h p hq hpos hlt => Makes.done (exec_putFrame_short h p hq hpos hlt)
  case notReady => exact fun s q desc h p i hq hi => Makes.done (exec_descriptor_not_ready hi hq)
  case completion => exact fun d q desc st n tile => ⟨d.complete_out q desc st n tile, d.complete_head q desc st n tile⟩

end Sys2Proof.Machine
end

section
/-! PROOFS. What every command keeps: the queue behind it, the clock, DRAM and its canonical form (chapters 14, 15 and 20), command by
command, and from it the same of a step. -/
namespace Sys2Proof.Machine

open Sys2Proof

/-- What a command leaves of the state when it answers: the queue; the clock and DRAM unless its row is named for them; DRAM's canonical
form always. -/
structure Kept (i : Instr) (s t : State) : Prop where
  pending : t.pending = s.pending
  now : setsClock i = false → t.now = s.now
  dram : touchesDram i = false → t.dram = s.dram
  canonical : Canonical s → Canonical t

theorem Kept.of_still {i : Instr} {s t : State} (h : Still s t) : Kept i s t :=
  ⟨h.2.2, fun _ => h.1, fun _ => h.2.1, fun hc => by simpa only [Canonical, h.2.1] using hc⟩

theorem Kept.of_paged {i : Instr} {s t : State} (hi : touchesDram i = true) (h : Paged s t) : Kept i s t :=
  ⟨h.pending, fun _ => h.now, fun hn => by simp [hi] at hn, h.wf⟩

/-- A command that leaves DRAM or clears it keeps what a row of DRAM has to. -/
theorem Kept.of_cleared {i : Instr} {s t : State} (hp : t.pending = s.pending) (hn : setsClock i = false → t.now = s.now)
    (hd : t.dram = s.dram ∨ (t.dram = [] ∧ touchesDram i = true)) : Kept i s t := by
  rcases hd with hd | ⟨hd, hi⟩
  · exact ⟨hp, hn, fun _ => hd, fun hc => by simpa only [Canonical, hd] using hc⟩
  · exact ⟨hp, hn, fun h => by simp [hi] at h, fun _ => by simp only [Canonical, hd]; rfl⟩

/-- The command answers, and keeps what every command keeps. -/
def AnswersKept (i : Instr) (s : State) : Prop := ∃ t, exec i s = .next t ∧ Kept i s t

/-- A command that changes the device alone. -/
theorem AnswersKept.of_done {i : Instr} {s : State} (h : ∃ d, exec i s = s.done d) : AnswersKept i s := by
  obtain ⟨d, hd⟩ := h
  exact ⟨_, hd, .of_still ⟨rfl, rfl, rfl⟩⟩

/-- A message row is served as its message. -/
theorem exec_dgramRow {i : Instr} {m : Dgram} (h : dgramRow i = some m) (s : State) : exec i s = s.serve m := by
  cases i <;> simp only [dgramRow, Option.some.injEq, reduceCtorEq] at h <;> exact h ▸ rfl

theorem AnswersKept.of_dgramRow {i : Instr} {m : Dgram} (h : dgramRow i = some m) (s : State) : AnswersKept i s := by
  have htouch : touchesDram i = true := by cases i <;> first | rfl | exact absurd h (by simp [dgramRow])
  obtain ⟨t, ht, hn, hp, hd⟩ := serve_paged s m
  exact ⟨t, (exec_dgramRow h s).trans ht, .of_cleared hp (fun _ => hn) (hd.imp id fun h => ⟨h, htouch⟩)⟩

/-- A write of one object, REBOOT's restart among them. -/
theorem AnswersKept.of_hostObject {i : Instr} {s : State} {sess idx sub : Nat} {b : Bytes} (h : exec i s = s.hostObject sess idx sub b)
    (hi : idx = 0x2000 → touchesDram i = true) : AnswersKept i s := by
  obtain ⟨t, ht, hn, hp, hd⟩ := hostObject_paged s sess idx sub b
  exact ⟨t, h.trans ht, .of_cleared hp (fun _ => hn) (hd.imp id fun hd => ⟨hd.1, hi hd.2⟩)⟩

/-- A page access below the usable capacity. -/
theorem AnswersKept.of_page {i : Instr} {s : State} {addr : Nat} (hi : touchesDram i = true) (ha : addr < s.dev.usable_)
    (h : (s.dev.usable_ ≤ addr ∧ exec i s = .fault (.noSuchPage addr)) ∨ ∃ t, exec i s = .next t ∧ Paged s t) : AnswersKept i s := by
  rcases h with ⟨hb, -⟩ | ⟨t, ht, hp⟩
  · omega
  · exact ⟨t, ht, .of_paged hi hp⟩

theorem remapCommand_answersKept (sess addr : Nat) (s : State) : AnswersKept (.remapCommand sess addr) s := by
  have hs1 (c : Bool) : Still s (if c then ({ s with dev := s.begin_ } : State).remap addr else { s with dev := s.begin_ }) := by
    split
    · exact (still_dev s _).trans (remap_still _ addr)
    · exact still_dev s _
  exact ⟨_, rfl, .of_still ((hs1 _).trans ⟨rfl, rfl, rfl⟩)⟩

theorem porstRelease_answersKept (s : State) : AnswersKept .porstRelease s := by
  refine ⟨_, rfl, .of_cleared ?_ (fun h => by simp [setsClock] at h) (.inl ?_)⟩ <;> split <;> rfl

theorem systemReset_answersKept (s : State) : AnswersKept .systemReset s := by
  refine ⟨_, rfl, .of_cleared ?_ (fun _ => ?_) ?_⟩ <;> split
  all_goals first | rfl | exact .inl rfl | exact .inr ⟨rfl, rfl⟩

theorem wakeComplete_answersKept (s : State) : AnswersKept .wakeComplete s := by
  have hdram (c : Bool) : (if c then [] else s.dram) = s.dram ∨ ((if c then [] else s.dram) = [] ∧ touchesDram .wakeComplete = true) := by
    cases c
    · exact .inl rfl
    · exact .inr ⟨rfl, rfl⟩
  exact ⟨_, rfl, .of_cleared rfl (fun _ => rfl) (hdram _)⟩

theorem reboot_answersKept (sess : Nat) (s : State) : AnswersKept (.reboot sess) s := by
  have hexec : exec (.reboot sess) s = execReboot sess s := rfl
  unfold AnswersKept
  simp only [hexec, execReboot]
  split
  · exact ⟨_, rfl, .of_still ⟨rfl, rfl, rfl⟩⟩
  · split
    · exact ⟨_, rfl, .of_cleared rfl (fun _ => rfl) (.inr ⟨rfl, rfl⟩)⟩
    · exact ⟨_, rfl, .of_still ⟨rfl, rfl, rfl⟩⟩

theorem pcieConfigRequest_answersKept (r : PcieReq) (s : State) : AnswersKept (.pcieConfigRequest r) s := by
  obtain ⟨t, ht, hn, hp, hd⟩ := pcie_paged r s
  refine ⟨t, ht, .of_cleared hp (fun _ => hn) (hd.imp_right fun ⟨hd, off, b, hr⟩ => ⟨hd, hr ▸ rfl⟩)⟩

/-- Every command answers and keeps what commands keep, a page access where its page exists. All but the rows named are a change of the
device alone. -/
theorem exec_answersKept (i : Instr) (s : State) (h : ∀ a, pageAddr i = some a → a < s.dev.usable_) : AnswersKept i s := by
  cases i
  case open_ m | close m | expeditedDownload m | segmentedDownloadInitiate m | downloadSegment m | uploadInitiate m
      | uploadSegmentRequest m | blockDownloadInitiate m | blockSegment m | blockDownloadEnd m | blockUploadInitiate m
      | blockUploadAcknowledge m | sdoAbort m | pdOut m | eventAck m | twinProbe m | twinProbeRsp m | handover m | wakeFrame m =>
    exact .of_dgramRow rfl s
  case objectWrite sess idx sub b => exact .of_hostObject rfl fun _ => rfl
  case keySlotWrite | ledgerSelect | logSelect | domainLoad | firmwareUpdate => exact .of_hostObject rfl fun h => by simp at h
  case strobeFaultClear sess bar => exact .of_hostObject rfl fun h => by omega
  case mbH2dDoorbell n m =>
    obtain ⟨t, ht, hn, hp, hd⟩ := doorbell_paged s n m
    exact ⟨t, ht, .of_cleared hp (fun _ => hn) (hd.imp id fun h => ⟨h, rfl⟩)⟩
  case pageRead port addr ask => exact .of_page rfl (h addr rfl) (pageRead_paged port addr ask s)
  case pageWrite addr b => exact .of_page rfl (h addr rfl) (pageWrite_paged addr b s)
  case partialWrite addr off b => exact .of_page rfl (h addr rfl) (partialWrite_paged addr off b s)
  case remapCommand sess addr => exact remapCommand_answersKept sess addr s
  case scrubRead sub user =>
    obtain ⟨t, ht, hp⟩ := scrubRead_paged sub user s
    exact ⟨t, ht, .of_paged rfl hp⟩
  case porstAssert | aonSupplyLoss => exact ⟨_, rfl, .of_cleared rfl (fun h => by simp [setsClock] at h) (.inr ⟨rfl, rfl⟩)⟩
  case porstRelease => exact porstRelease_answersKept s
  case systemReset => exact systemReset_answersKept s
  case wakeComplete => exact wakeComplete_answersKept s
  case reboot sess => exact reboot_answersKept sess s
  case pcieConfigRequest r => exact pcieConfigRequest_answersKept r s
  all_goals exact .of_done ⟨_, rfl⟩

/-- A page access at or beyond the usable capacity stops with its address (the model's choice, log 10). -/
theorem exec_page_beyond {i : Instr} {a : Nat} (s : State) (hi : pageAddr i = some a) (ha : s.dev.usable_ ≤ a) :
    exec i s = .fault (.noSuchPage a) := by
  have hb : decide (s.dev.usable_ ≤ a) = true := decide_eq_true ha
  have hb' : decide (s.begin_.usable_ ≤ a) = true := hb
  cases i
  case pageRead port addr ask =>
    obtain rfl : addr = a := Option.some.inj hi
    exact if_pos hb
  case pageWrite addr b =>
    obtain rfl : addr = a := Option.some.inj hi
    exact if_pos hb'
  case partialWrite addr off b =>
    obtain rfl : addr = a := Option.some.inj hi
    exact if_pos hb'
  all_goals exact absurd hi (by simp [pageAddr])

/-- A command that answers has kept what commands keep. -/
theorem exec_kept {i : Instr} {s t : State} (h : exec i s = .next t) : Kept i s t := by
  have hpage (a : Nat) (ha : pageAddr i = some a) : a < s.dev.usable_ := by
    by_contra hb
    rw [exec_page_beyond s ha (Nat.le_of_not_lt hb)] at h
    exact Host.Outcome.noConfusion rfl rfl rfl (heq_of_eq h)
  obtain ⟨t', ht, hk⟩ := exec_answersKept i s hpage
  obtain rfl : t' = t := by rw [ht] at h; exact Host.Outcome.next.inj h
  exact hk

/-- Settles O3: `exec_answersKept` where the page exists, `exec_page_beyond` where it does not. The stop is the model's choice (log 10). -/
theorem everyCommandAnswers : Obligations.EveryCommandAnswers := by
  unfold Obligations.EveryCommandAnswers
  refine fun i s => ⟨fun h => ?_, fun a hi ha => exec_page_beyond s hi ha⟩
  obtain ⟨t, ht, hk⟩ := exec_answersKept i s h
  exact ⟨t, ht, hk.pending⟩

/-- Settles O4, from what every command keeps. -/
theorem onlyNamedRowsChangeClockAndDram : Obligations.OnlyNamedRowsChangeClockAndDram := by
  unfold Obligations.OnlyNamedRowsChangeClockAndDram
  intro i s t h
  have hk := exec_kept h
  exact ⟨hk.pending, hk.now, hk.dram⟩

/-- A tick leaves DRAM and the queue, and the clock takes 40 ns (R334). -/
theorem tick_next (s : State) : ∃ t, tick s = .next t ∧ t.now = s.now + 40 ∧ t.dram = s.dram ∧ t.pending = s.pending := by
  simp only [tick]
  split <;> exact ⟨_, rfl, rfl, rfl, rfl⟩

/-- Settles O5: a step is a tick, which leaves DRAM, or the front command, which keeps its form. -/
theorem stepKeepsDramCanonical : Obligations.StepKeepsDramCanonical := by
  unfold Obligations.StepKeepsDramCanonical
  intro s t hs h
  simp only [step] at h
  split at h
  next =>
    obtain ⟨t', ht, -, hd, -⟩ := tick_next s
    obtain rfl : t' = t := by rw [ht] at h; exact Host.Outcome.next.inj h
    simpa only [Canonical, hd] using hs
  next c rest _ => exact (exec_kept h).canonical hs

/-- Settles O6: reset lists no byte of DRAM. -/
theorem resetDramCanonical : Obligations.ResetDramCanonical := ⟨rfl, rfl, rfl⟩

/-- Settles O1. -/
theorem stepRunsFrontCommand : Obligations.StepRunsFrontCommand := by
  unfold Obligations.StepRunsFrontCommand
  intro s c rest h
  simp only [step, h]

/-- Where no bar holds a waiting line, none is due. -/
theorem waitsOver_nil {d : Dev} (h : ∀ n, (d.bar n).wait = none) : d.waitsOver = [] := by
  simp only [Dev.waitsOver, h]
  split <;> simp

/-- Settles O2. -/
theorem emptyQueueTicks : Obligations.EmptyQueueTicks := by
  unfold Obligations.EmptyQueueTicks
  intro s h
  obtain ⟨t, ht, hn, hd, hp⟩ := tick_next s
  have hstep : step s = tick s := by simp only [step, h]
  refine ⟨t, hstep.trans ht, hn, hd, hp.trans h, fun hw => ?_⟩
  have hnone : (State.begin_ { s with now := s.now + 40 }).waitsOver = [] := waitsOver_nil hw
  simp only [tick, hnone, List.isEmpty_nil, if_true] at ht
  exact (congrArg State.dev (Host.Outcome.next.inj ht)).symm

end Sys2Proof.Machine
end

section
/-! PROOFS. Requests and sessions (chapter 02): BUSY and the states that keep a write back (R55, R407, R456, R464), the checks of a
message (R38), OPEN (R39 to R43), and what closing a session drops (R41, R61, R77). -/
namespace Sys2Proof.Machine

open Sys2Proof

/-! ### Host writes -/

/-- While a long operation runs, a write of one object is answered BUSY and changes nothing (R55). -/
theorem hostObject_busy {s : State} {sess idx sub : Nat} {b : Bytes} {x : Sess} (hx : s.dev.session? sess = some x) (hp : x.port = 0)
    (hv : s.dev.serves x.via = true) (ho : s.dev.com.op ≠ none) :
    s.hostObject sess idx sub b = s.done (s.begin_.emit (.answer sess 0x0F000010)) := by
  obtain ⟨o, hop⟩ := Option.ne_none_iff_exists'.mp ho
  simp [State.hostObject, hx, hp, hv, hop]

/-- A transport that is served serves the device commands, recovery service among them (R464). -/
theorem Dev.served_command {d : Dev} {x : Sess} (h : d.serves x.via = true) : d.served x 0x2000 = true := by
  simp [Dev.served, h, Dev.recovery]

/-- Every row that is a write of one object is made as a host write, as a whole object, as REMAP_COMMAND or as REBOOT. -/
theorem exec_anyWriteRow {i : Instr} {sess idx : Nat} (h : anyWriteRow i = some (sess, idx)) (s : State) :
    (∃ w, exec i s = s.hostWrite sess idx w) ∨ (∃ sub b, exec i s = s.hostObject sess idx sub b) ∨ (∃ a, i = .remapCommand sess a) ∨
      i = .reboot sess := by
  cases i <;> simp only [anyWriteRow, hostWriteRow, reduceCtorEq, Option.some.injEq, Prod.mk.injEq] at h
  all_goals obtain ⟨rfl, rfl⟩ := h
  case objectWrite | keySlotWrite | ledgerSelect | logSelect | domainLoad | firmwareUpdate | strobeFaultClear =>
    exact .inr (.inl ⟨_, _, rfl⟩)
  case remapCommand => exact .inr (.inr (.inl ⟨_, rfl⟩))
  case reboot => exact .inr (.inr (.inr rfl))
  all_goals exact .inl ⟨_, rfl⟩

/-- REMAP_COMMAND while a long operation runs: no page moves, and the request is answered BUSY (R55). -/
theorem remapCommand_busy {s : State} {sess addr : Nat} {x : Sess} (hx : s.dev.session? sess = some x) (hp : x.port = 0)
    (hv : s.dev.serves x.via = true) (ho : s.dev.com.op ≠ none) :
    exec (.remapCommand sess addr) s = s.done (s.begin_.emit (.answer sess 0x0F000010)) := by
  obtain ⟨o, hop⟩ := Option.ne_none_iff_exists'.mp ho
  have hexec : exec (.remapCommand sess addr) s = execRemapCommand sess addr s := rfl
  simp only [hexec, execRemapCommand, State.begin_session?, hx, hp, State.begin_com, hop]
  simp [State.onDev, State.sent, State.done, Dev.request, hx, hp, hv, hop]

theorem reboot_busy {s : State} {sess : Nat} {x : Sess} (hx : s.dev.session? sess = some x) (hp : x.port = 0)
    (hv : s.dev.serves x.via = true) (ho : s.dev.com.op ≠ none) :
    exec (.reboot sess) s = s.done (s.begin_.emit (.answer sess 0x0F000010)) := by
  obtain ⟨o, hop⟩ := Option.ne_none_iff_exists'.mp ho
  have hexec : exec (.reboot sess) s = execReboot sess s := rfl
  simp [hexec, execReboot, Dev.rebootCode, hx, hp, Dev.served_command hv, hop]

/-- Settles O7, shape of write by shape of write. -/
theorem busyAnswersEveryWrite : Obligations.BusyAnswersEveryWrite := by
  unfold Obligations.BusyAnswersEveryWrite
  intro i s sess idx x hi hx hp hv ho
  refine Makes.done ?_
  rcases exec_anyWriteRow hi s with ⟨w, h⟩ | ⟨sub, b, h⟩ | ⟨a, rfl⟩ | rfl
  · exact h.trans (hostWrite_busy w hx hp hv ho)
  · exact h.trans (hostObject_busy hx hp hv ho)
  · exact remapCommand_busy hx hp hv ho
  · exact reboot_busy hx hp hv ho

/-- An access to a subindex that exists is refused with 0x0800_0022 where the state or recovery service keeps the object back. -/
theorem Dev.access_gated {d : Dev} {x : Sess} {idx sub : Nat} {r : ObjRow} (hrow : (rowsOf d.product idx).find? (fun r => r.hasSub sub) = some r)
    (h : d.gated idx = true ∨ d.served x idx = false) : d.access x idx sub = .error 0x08000022 := by
  have hne : (rowsOf d.product idx).isEmpty = false := by
    cases hl : rowsOf d.product idx with
    | nil => simp [hl] at hrow
    | cons => rfl
  rcases h with h | h <;> simp [Dev.access, hne, hrow, h]

/-- A write whose access is refused changes nothing. -/
theorem Dev.write_no_access {d : Dev} {x : Sess} {idx sub e : Nat} {b : Bytes} (h : d.access x idx sub = .error e) :
    d.write x idx sub b = (d, e) :=
  Dev.write_unwritable (by simp [Dev.writable, h])

/-- A write of one object that the state or recovery service keeps back (R407, R456, R464). -/
theorem hostObject_gated {s : State} {sess idx sub : Nat} {b : Bytes} {x : Sess} {r : ObjRow} (hx : s.dev.session? sess = some x)
    (hp : x.port = 0) (hv : s.dev.serves x.via = true) (ho : s.dev.com.op = none) (hremap : idx ≠ 0x280E) (hcmd : idx ≠ 0x2000)
    (hrow : (rowsOf s.dev.product idx).find? (fun r => r.hasSub sub) = some r) (h : s.dev.gated idx = true ∨ s.dev.served x idx = false) :
    s.hostObject sess idx sub b = s.done (s.begin_.emit (.answer sess 0x08000022)) := by
  have hacc : s.begin_.access x idx sub = .error 0x08000022 := Dev.access_gated (d := s.begin_) hrow h
  rw [hostObject_served hx hp hv ho hremap hcmd, Dev.write_no_access hacc]

/-- The row of a bar's strobe-fault clear, 0x5007:04 of the first bar. -/
theorem rowsOf_strobeClear (product : Nat) (bar : Fin 8) (h : (rowsOf product (0x5007 + 0x100 * bar)).isEmpty = false) :
    ∃ r, (rowsOf product (0x5007 + 0x100 * bar)).find? (fun r => r.hasSub 4) = some r := by
  have hall : ∀ bar : Fin 8, ((pageOf ((0x5007 + 0x100 * bar) / 256)).filter (fun r => r.hasIdx (0x5007 + 0x100 * bar))).find?
      (fun r => r.hasSub 4) ≠ none := by decide
  simp only [rowsOf] at h ⊢
  split at h
  · simp at h
  · rename_i hc
    rw [if_neg hc]
    exact Option.ne_none_iff_exists'.mp (hall bar)

theorem rowsOf_image (product slot : Nat) (h : slot ≤ 1) : ∃ r, (rowsOf product 0x2108).find? (fun r => r.hasSub (slot + 1)) = some r := by
  have hc : (product == 0x2204 && decide (0x5400 ≤ 0x2108 ∧ 0x2108 ≤ 0x57FF)) = false := by simp
  have hall : ∀ k : Fin 2, ((pageOf (0x2108 / 256)).filter (fun r => r.hasIdx 0x2108)).find? (fun r => r.hasSub (k + 1)) ≠ none := by decide
  simp only [rowsOf, hc]
  exact Option.ne_none_iff_exists'.mp (hall ⟨slot, by omega⟩)

/-- Settles O8: a host write is kept back by its request, a whole object by its access. -/
theorem stateKeepsWritesBack : Obligations.StateKeepsWritesBack := by
  unfold Obligations.StateKeepsWritesBack
  intro i s sess idx x hi hx hp hv ho hrows hg
  refine Makes.done ?_
  cases i <;> simp only [hostWriteRow, reduceCtorEq, Option.some.injEq, Prod.mk.injEq] at hi
  case firmwareUpdate sess' slot image =>
    split at hi
    · obtain ⟨rfl, rfl⟩ := by simpa using hi
      obtain ⟨r, hr⟩ := rowsOf_image s.dev.product slot (by assumption)
      exact hostObject_gated hx hp hv ho (by decide) (by decide) hr hg
    · simp at hi
  case strobeFaultClear sess' bar =>
    obtain ⟨rfl, rfl⟩ := hi
    obtain ⟨r, hr⟩ := rowsOf_strobeClear s.dev.product bar hrows
    exact hostObject_gated hx hp hv ho (by omega) (by omega) hr hg
  all_goals
    obtain ⟨rfl, rfl⟩ := hi
    exact hostWrite_gated _ hx hp hv ho hg

/-! ### Messages -/

/-- A dropped message below the counter's largest value (R38). -/
theorem Dev.dropMsg_eq (d : Dev) (via : Nat) (h : d.com.drops.get 0 via + 1 < 2 ^ 32) :
    d.dropMsg via = { d with com := { d.com with drops := d.com.drops.set via (d.com.drops.get 0 via + 1) } } := by
  simp only [Dev.dropMsg, decide_eq_true h, if_true]

/-- Settles O9: `serve_unserved` and `serve_dropped` for every message row. That a transport not served hears nothing is the model's
choice (log 18), as is the TYPE of the device failing the header check (log 19). -/
theorem badMessagesAreOnlyCounted : Obligations.BadMessagesAreOnlyCounted := by
  unfold Obligations.BadMessagesAreOnlyCounted
  refine fun i s m hi => ⟨fun hd => Makes.done ((exec_dgramRow hi s).trans (serve_unserved hd)), fun hd hbad hc => ?_⟩
  have hexec := (exec_dgramRow hi s).trans (serve_dropped hd hbad)
  rw [Dev.dropMsg_eq s.begin_ _ hc] at hexec
  exact Makes.done hexec

/-- A message whose reception changes the device alone, and answers nothing, is that change. -/
theorem serve_of_receive {s : State} {m : Dgram} {d : Dev}
    (h : ({ s with dev := s.begin_ } : State).receive m = ({ s with dev := s.begin_ } : State).sdoDev (d, [])) : s.serve m = s.done d := by
  simp only [State.serve, h, State.sdoDev]
  rfl

/-- An admitted OPEN without BIND (R39). -/
theorem serve_open {s : State} {m : Dgram} (h : s.dev.admits m) (ht : m.typ = 1) (hb : bit m.flags 3 = false) :
    s.serve m = s.done (s.begin_.openNew m) := by
  refine serve_of_receive ((receive_admitted (s := { s with dev := s.begin_ }) h).trans ?_)
  simp [ht, hb]

/-- The next identifier lies in 1 to 65,535 where those that were freed do (R39). -/
theorem Dev.nextId_range {d : Dev} (h : ∀ i ∈ d.com.freed, 1 ≤ i ∧ i ≤ 65535) : 1 ≤ d.nextId ∧ d.nextId ≤ 65535 := by
  simp only [Dev.nextId]
  split
  · rename_i hlt
    have := of_decide_eq_true hlt
    omega
  · cases hf : d.com.freed with
    | nil => simp
    | cons i r => exact h i (by simp [hf])

/-- Settles O10, by the three outcomes of `Dev.openNew`. The refused OPEN_ACK's SESSION 0 and SEQ 1 are the model's choice (log 20), as
is the numbering from the OPEN's SEQ (log 88). -/
theorem openGrantsASessionWithinItsLimits : Obligations.OpenGrantsASessionWithinItsLimits := by
  unfold Obligations.OpenGrantsASessionWithinItsLimits
  intro s m k hadm ht hb hfreed hport hslot
  have hport' : (decide (2 ≤ viaCode m.via) && cotPort m.udpPort != 0) = false := by
    rcases hport with h | h
    · simp [h]
    · simp [h]
  have hexec : exec (.open_ m) s = s.done (s.begin_.openNew m) := serve_open hadm ht hb
  refine ⟨fun hroom => ⟨(Dev.nextId_range hfreed).1, (Dev.nextId_range hfreed).2, fun h => ?_, fun i r h hf => ?_, ?_⟩, fun hfull => ?_⟩
  · simp [Dev.nextId, h]
  · simp [Dev.nextId, h, hf]
  · refine Makes.done (hexec.trans (congrArg s.done ?_))
    simp only [Dev.openNew, hport', State.begin_com, hslot, decide_eq_true_eq, Nat.not_le.mpr hroom]
    rfl
  · refine Makes.done (hexec.trans (congrArg s.done ?_))
    simp only [Dev.openNew, hport', State.begin_com, hslot, decide_eq_true_eq, hfull]
    rfl

/-! ### Closing a session -/

theorem Table.find?_keep_none {α : Type} (p : Nat → α → Bool) (t : Table α) (k : Nat) (h : ∀ v, p k v = false) : (t.keep p).find? k = none := by
  induction t with
  | nil => rfl
  | cons e r ih =>
    obtain ⟨j, w⟩ := e
    by_cases hp : p j w = true
    · have hj : j ≠ k := by rintro rfl; simp [h] at hp
      simp [Table.keep, hp, Table.find?, hj, ih]
    · simp [Table.keep, hp, ih]

theorem Table.mem_keep {α : Type} {p : Nat → α → Bool} {t : Table α} {e : Nat × α} (h : e ∈ t.keep p) : e ∈ t ∧ p e.1 e.2 = true := by
  induction t with
  | nil => simp [Table.keep] at h
  | cons f r ih =>
    obtain ⟨j, w⟩ := f
    simp only [Table.keep] at h
    split at h
    · rcases List.mem_cons.mp h with rfl | h
      · exact ⟨by simp, by assumption⟩
      · exact ⟨by simp [(ih h).1], (ih h).2⟩
    · exact ⟨by simp [(ih h).1], (ih h).2⟩

theorem Table.find?_keep_of_none {α : Type} (p : Nat → α → Bool) (t : Table α) (k : Nat) (h : t.find? k = none) : (t.keep p).find? k = none := by
  induction t with
  | nil => rfl
  | cons e r ih =>
    obtain ⟨j, w⟩ := e
    simp only [Table.find?] at h
    split at h
    · simp at h
    · rename_i hj
      by_cases hp : p j w = true <;> simp [Table.keep, hp, Table.find?, hj, ih h]

theorem Table.mem_keysWhere {α : Type} {p : Nat → α → Bool} {t : Table α} {k : Nat} {v : α} (h : t.find? k = some v) (hp : p k v = true) :
    k ∈ t.keysWhere p := by
  induction t with
  | nil => simp [Table.find?] at h
  | cons e r ih =>
    obtain ⟨j, w⟩ := e
    simp only [Table.find?] at h
    split at h
    · rename_i hj
      obtain rfl := hj
      obtain rfl := Option.some.inj h
      simp [Table.keysWhere, hp]
    · simp only [Table.keysWhere]
      split <;> simp [ih h]

/-- Nothing of group `gg` is staged, and no session owns it. -/
structure Dev.Dropped (d : Dev) (gg : Nat) : Prop where
  owner : d.dict.owners.find? gg = none
  values : ∀ e ∈ d.dict.staged, groupOf (e.1 / 256) ≠ some gg
  tables : ∀ e ∈ d.dict.stagedDoms, groupOf e.1 ≠ some gg

/-- Dropping a group drops it, and what was dropped stays so. -/
theorem Dev.dropStaged_self (d : Dev) (gg : Nat) : (d.dropStaged gg).Dropped gg where
  owner := Table.find?_keep_none _ _ _ (fun _ => by simp)
  values e he := by simpa using (Table.mem_keep he).2
  tables e he := by simpa using (Table.mem_keep he).2

theorem Dev.Dropped.dropStaged {d : Dev} {gg : Nat} (h : d.Dropped gg) (k : Nat) : (d.dropStaged k).Dropped gg where
  owner := Table.find?_keep_of_none _ _ _ h.owner
  values e he := h.values e (Table.mem_keep he).1
  tables e he := h.tables e (Table.mem_keep he).1

theorem Dev.dropAll_dropped {gg : Nat} (ks : List Nat) (d : Dev) (h : gg ∈ ks ∨ d.Dropped gg) : (ks.foldl Dev.dropStaged d).Dropped gg := by
  induction ks generalizing d with
  | nil => simpa using h
  | cons k ks ih =>
    refine ih _ ?_
    rcases h with h | h
    · rcases List.mem_cons.mp h with rfl | h
      · exact .inr (d.dropStaged_self gg)
      · exact .inl h
    · exact .inr (h.dropStaged k)

/-- Dropping groups touches the dictionary alone. -/
theorem Dev.dropAll_fields (ks : List Nat) (d : Dev) :
    (ks.foldl Dev.dropStaged d).com = d.com ∧ (ks.foldl Dev.dropStaged d).ctxs = d.ctxs ∧ (ks.foldl Dev.dropStaged d).fl = d.fl ∧
      (ks.foldl Dev.dropStaged d).out = d.out := by
  induction ks generalizing d with
  | nil => exact ⟨rfl, rfl, rfl, rfl⟩
  | cons k ks ih => exact ih (d.dropStaged k)

/-- Closing a session touches neither the log nor what was sent. -/
theorem Dev.closeSess_fl_out (d : Dev) (k : Nat) : (d.closeSess k).fl = d.fl ∧ (d.closeSess k).out = d.out := by
  simp only [Dev.closeSess]
  split
  · exact ⟨rfl, rfl⟩
  · obtain ⟨-, -, hfl, hout⟩ := Dev.dropAll_fields (d.dict.owners.keysWhere (fun _ o => o == (‹Sess›).id)) d
    exact ⟨hfl, hout⟩

/-- What closing the session of slot `k` leaves (R41, R61, R77). -/
theorem Dev.closeSess_drops (d : Dev) (k : Nat) (x : Sess) (h : d.com.sess.find? k = some x) :
    (d.closeSess k).com.sess = d.com.sess.erase k ∧
      (∀ c, (d.closeSess k).ctxs.find? c = (d.ctxs.find? c).map (fun y => if y.code == 1 && y.owner == some x.id then {} else y)) ∧
      (∀ gg, d.dict.owners.find? gg = some x.id → (d.closeSess k).Dropped gg) := by
  obtain ⟨hcom, hctx, -, -⟩ := Dev.dropAll_fields (d.dict.owners.keysWhere (fun _ o => o == x.id)) d
  simp only [Dev.closeSess, h]
  refine ⟨by rw [hcom], fun c => by rw [hctx, Table.find?_mapVal], fun gg hgg => ?_⟩
  obtain ⟨ho, hv, ht⟩ := Dev.dropAll_dropped (d.dict.owners.keysWhere (fun _ o => o == x.id)) d (.inl (Table.mem_keysWhere hgg (by simp)))
  exact ⟨ho, hv, ht⟩

/-- An admitted CLOSE of an open session (R41). -/
theorem serve_close {s : State} {m : Dgram} {x : Sess} {k : Nat} (h : s.dev.admits m) (ht : m.typ = 3) (hx : s.dev.sessionOf m = some x)
    (hn : seqNext x.rxSeq m.seq = true) (hk : s.dev.slotOf x.id = some k) : s.serve m = s.done (s.begin_.closeSess k) := by
  refine serve_of_receive ((receive_admitted (s := { s with dev := s.begin_ }) h).trans ?_)
  have hx' : s.begin_.sessionOf m = some x := hx
  have hk' : s.begin_.slotOf x.id = some k := hk
  simp [ht, hx', Dev.inSession, hn, hk']

/-- Settles O11. EV_SESSION's unit, the transport or 4 for a bound session, is the model's choice (log 26). -/
theorem closingASessionDropsWhatItStaged : Obligations.ClosingASessionDropsWhatItStaged := by
  unfold Obligations.ClosingASessionDropsWhatItStaged
  refine ⟨fun s m x k h ht hx hn hk => Makes.done (serve_close h ht hx hn hk), fun s id k x hid hk hx => ?_, fun d k x h => ?_⟩
  · have hexec : exec (.sessionIdleTimeout id) s = s.done ((s.begin_.closeSess k).raise 7 0 (if x.bound then 4 else x.via) id) := by
      have hk' : s.begin_.slotOf id = some k := hk
      show s.done (s.begin_.idleOut id) = _
      simp [Dev.idleOut, hk', hx]
    obtain ⟨hfl, -⟩ := Dev.closeSess_fl_out s.begin_ k
    exact Reports.of_raise hexec rfl rfl (by rw [hfl]; exact le_rfl) (Nat.mod_eq_of_lt (by omega)).symm (by decide)
  · obtain ⟨hsess, hctx, hdrop⟩ := d.closeSess_drops k x h
    refine ⟨hsess, fun c y hy hc ho => by simp [hctx, hy, hc, ho], fun c y hy hne => ?_, fun gg hgg => ?_⟩
    · rcases hne with hne | hne <;> simp [hctx, hy, hne]
    · obtain ⟨howner, hvals, htabs⟩ := hdrop gg hgg
      exact ⟨howner, by simpa [List.all_eq_true] using hvals, by simpa [List.all_eq_true] using htabs⟩

end Sys2Proof.Machine
end

section
/-! PROOFS. Service data transfers (R49 to R53): what each command of Table 2.5 comes to, and what is answered for it. -/
namespace Sys2Proof.Machine

open Sys2Proof

/-- An SDO request that comes to `r` without a restart makes `r`'s device, answered (R44). -/
theorem Makes.of_sdo {i : Instr} {s : State} {m : Dgram} {x : Sess} {r : SdoResult} (hi : dgramRow i = some m) (h : s.Asks m x)
    (hr : ({ s with dev := s.begin_ } : State).sdo x m.payload = r) (hrestart : r.restart = false) :
    Makes i s (r.state.dev.answered m x r.answers) := by
  have hstill : Still s r.state := hr ▸ sdo_still { s with dev := s.begin_ } x m.payload
  have hexec : exec i s = .next { r.state with dev := (r.state.dev.answered m x r.answers).flush } := by
    rw [exec_dgramRow hi, serve_sdo h, hr]
    simp only [hrestart]
    rfl
  exact ⟨_, hexec, hstill, Dev.flush_body _, told_flush r.state _⟩

/-- An SDO request that touches the device alone. -/
theorem Makes.of_sdoDev {i : Instr} {s : State} {m : Dgram} {x : Sess} {d : Dev} {ps : List Bytes} (hi : dgramRow i = some m)
    (h : s.Asks m x) (hr : ({ s with dev := s.begin_ } : State).sdo x m.payload = ({ s with dev := s.begin_ } : State).sdoDev (d, ps)) :
    Makes i s (d.answered m x ps) := Makes.of_sdo hi h hr rfl

/-- No long operation runs where a request is asked. -/
theorem State.Asks.idle {s : State} {m : Dgram} {x : Sess} (h : s.Asks m x) : ({ s with dev := s.begin_ } : State).dev.com.op = none :=
  h.2.2.2.2.2

/-! ### The commands of Table 2.5 while no long operation runs -/

section
variable {s : State} {x : Sess} {p : Bytes}

theorem sdo_expedited (ho : s.dev.com.op = none) (hc : sdoCommand p = 0x20) : s.sdo x p = s.expedited x p := by
  simp only [State.sdo, ho, hc]

theorem sdo_segDownStart (ho : s.dev.com.op = none) (hc : sdoCommand p = 0x21) : s.sdo x p = s.sdoDev (s.dev.segDownStart x p) := by
  simp only [State.sdo, ho, hc]

theorem sdo_segment (ho : s.dev.com.op = none) (hc : sdoCommand p = 0x22) : s.sdo x p = s.segment x p := by
  simp only [State.sdo, ho, hc]

theorem sdo_upStart {staged : Bool} (ho : s.dev.com.op = none) (hc : sdoCommand p = if staged then 0x50 else 0x40) :
    s.sdo x p = s.sdoDev (s.dev.upStart x staged p) := by
  cases staged <;> simp only [Bool.false_eq_true, if_false, if_true] at hc <;> simp only [State.sdo, ho, hc]

theorem sdo_upSegment (ho : s.dev.com.op = none) (hc : sdoCommand p = 0x42) : s.sdo x p = s.sdoDev (s.dev.upSegment x p) := by
  simp only [State.sdo, ho, hc]

theorem sdo_blkDownStart (ho : s.dev.com.op = none) (hc : sdoCommand p = 0x80) : s.sdo x p = s.sdoDev (s.dev.blkDownStart x p) := by
  simp only [State.sdo, ho, hc]

theorem sdo_blkSegment (ho : s.dev.com.op = none) (hc : sdoCommand p = 0x81) : s.sdo x p = s.sdoDev (s.dev.blkSegment x p) := by
  simp only [State.sdo, ho, hc]

theorem sdo_blkDownEnd (ho : s.dev.com.op = none) (hc : sdoCommand p = 0x82) : s.sdo x p = s.blkDownEnd x p := by
  simp only [State.sdo, ho, hc]

theorem sdo_blkUpStart {staged : Bool} (ho : s.dev.com.op = none) (hc : sdoCommand p = if staged then 0xB0 else 0xA0) :
    s.sdo x p = s.sdoDev (s.dev.blkUpStart x staged p) := by
  cases staged <;> simp only [Bool.false_eq_true, if_false, if_true] at hc <;> simp only [State.sdo, ho, hc]

theorem sdo_blkUpNext (ho : s.dev.com.op = none) (hc : sdoCommand p = 0xA1) : s.sdo x p = s.sdoDev (s.dev.blkUpNext x p) := by
  simp only [State.sdo, ho, hc]

theorem sdo_abort (ho : s.dev.com.op = none) (hc : sdoCommand p = 0xE0) : s.sdo x p = s.sdoDev (s.dev.setXfer x.id none, []) := by
  simp only [State.sdo, ho, hc]

/-- A whole value that is written without starting a long operation or a restart is answered with `ok` (R52). -/
theorem sdoWrite_ok {idx sub : Nat} {b ok : Bytes} (hcode : (s.write x idx sub b).2 = 0) (hreboot : Dev.reboots idx sub b 0 = false) :
    s.sdoWrite x idx sub b ok = { state := (s.write x idx sub b).1, answers := [ok] } := by
  simp [State.sdoWrite, hcode, hreboot]

end

/-- A block's size is in range, or it is 0 or above 127 (R51). -/
theorem blockSize_ok {n : Nat} (h1 : 1 ≤ n) (h127 : n ≤ 127) : (n == 0 || decide (127 < n)) = false := by
  simp; omega

/-- Settles O12, by the initiates of the two downloads. -/
theorem downloadInitiatesOpenATransfer : Obligations.DownloadInitiatesOpenATransfer := by
  unfold Obligations.DownloadInitiatesOpenATransfer
  intro s m x h hcode
  refine ⟨fun hc => .of_sdoDev rfl h ((sdo_segDownStart h.idle hc).trans ?_),
    fun hc h1 h127 => .of_sdoDev rfl h ((sdo_blkDownStart h.idle hc).trans ?_),
    fun hc hsize => .of_sdoDev rfl h ((sdo_blkDownStart h.idle hc).trans ?_)⟩
  · simp only [Dev.segDownStart, hcode]
  · simp [Dev.blkDownStart, hcode, blockSize_ok h1 h127]
  · have hbad : (field m.payload 8 1 == 0 || decide (127 < field m.payload 8 1)) = true := by simpa using hsize
    simp [Dev.blkDownStart, hcode, hbad]

/-- Settles O13, by the branches of a segment and of a block segment. -/
theorem downloadSegmentsAccumulate : Obligations.DownloadSegmentsAccumulate := by
  unfold Obligations.DownloadSegmentsAccumulate
  intro s m x t h ht
  refine ⟨fun hk hc hctr hlast hlen => .of_sdoDev rfl h ((sdo_segment h.idle hc).trans ?_),
    fun hk hc hctr => .of_sdoDev rfl h ((sdo_segment h.idle hc).trans ?_), fun hk hc hseq hn hlen => ?_⟩
  · simp only [State.segment, ht, hk, hctr, hlast, decide_eq_false (Nat.not_lt.mpr hlen)]
    simp
  · simp [State.segment, ht, hk, hctr, Dev.endXfer]
  · have hfits : decide (t.total < t.data.length + (m.payload.drop 4).length) = false := by
      rw [← List.length_append]; exact decide_eq_false (Nat.not_lt.mpr hlen)
    have hblk : s.begin_.blkSegment x m.payload =
        if field m.payload 1 1 = t.block ∨ (t.data ++ m.payload.drop 4).length = t.total then
          (s.begin_.setXfer x.id (some { t with ctr := 0, data := t.data ++ m.payload.drop 4 }), [[0x89, byte (field m.payload 1 1)]])
        else (s.begin_.setXfer x.id (some { t with ctr := field m.payload 1 1, data := t.data ++ m.payload.drop 4 }), []) := by
      simp only [Dev.blkSegment, ht, hk, hseq, hn, hfits]
      simp
    have hsdo := (sdo_blkSegment h.idle hc).trans (congrArg ({ s with dev := s.begin_ } : State).sdoDev hblk)
    split at hsdo
    next hend => rw [if_pos hend]; exact .of_sdoDev rfl h hsdo
    next hend => rw [if_neg hend]; exact .of_sdoDev rfl h hsdo

/-- Settles O14: each download's last message comes to `State.sdoWrite`, or ends the transfer with the abort of the check that fails. -/
theorem downloadsWriteTheWholeValueAtTheEnd : Obligations.DownloadsWriteTheWholeValueAtTheEnd := by
  unfold Obligations.DownloadsWriteTheWholeValueAtTheEnd
  intro s m x h
  refine ⟨?expedited, ?segment, ?segmentBad, fun t w ht hk hc => ⟨?blockEnd, ?blockLength, ?blockCrc⟩⟩
  case expedited =>
    rintro w hc h1 h4 rfl hw hreboot
    have hlen : ((m.payload.drop 4).isEmpty || decide (4 < (m.payload.drop 4).length)) = false := by
      rw [decide_eq_false (Nat.not_lt.mpr h4), Bool.or_false]
      cases hp : m.payload.drop 4 with
      | nil => simp [hp] at h1
      | cons => rfl
    have hsdo := (sdo_expedited (x := x) h.idle hc).trans (show _ = ({ s with dev := s.begin_ } : State).sdoWrite x _ _ _ _ from by
      simp only [State.expedited, hlen]; rfl)
    exact .of_sdo rfl h (hsdo.trans (sdoWrite_ok hw hreboot)) rfl
  case segment =>
    rintro t w ht hk hc hctr hlast hlen rfl hw hreboot
    have hsdo := (sdo_segment (x := x) h.idle hc).trans
      (show _ = ({ s with dev := s.begin_.setXfer x.id none } : State).sdoWrite x t.index t.sub
          (t.data ++ m.payload.drop 4) (0x62 :: beBytes 2 t.ctr) from by
        simp only [State.segment, ht, hk, hctr, hlast, hlen]; simp)
    exact .of_sdo rfl h (hsdo.trans (sdoWrite_ok hw hreboot)) rfl
  case segmentBad =>
    intro t ht hk hc hctr hbad
    have hbad' : (decide (t.total < (t.data ++ m.payload.drop 4).length) ||
        (bit (field m.payload 3 1) 0 && (t.data ++ m.payload.drop 4).length != t.total)) = true := by simpa using hbad
    refine .of_sdoDev rfl h ((sdo_segment h.idle hc).trans ?_)
    simp only [State.segment, ht, hk, hctr, hbad']
    simp [Dev.endXfer]
  case blockEnd =>
    rintro hlen hcrc rfl hw hreboot
    have hsdo := (sdo_blkDownEnd (x := x) h.idle hc).trans
      (show _ = ({ s with dev := s.begin_.setXfer x.id none } : State).sdoWrite x t.index t.sub t.data [0x8A] from by
        simp only [State.blkDownEnd, ht, hk, hlen, hcrc]; simp)
    exact .of_sdo rfl h (hsdo.trans (sdoWrite_ok hw hreboot)) rfl
  case blockLength =>
    refine fun hlen => .of_sdoDev rfl h ((sdo_blkDownEnd h.idle hc).trans ?_)
    simp [State.blkDownEnd, ht, hk, hlen, Dev.endXfer]
  case blockCrc =>
    refine fun hlen hcrc => .of_sdoDev rfl h ((sdo_blkDownEnd h.idle hc).trans ?_)
    simp [State.blkDownEnd, ht, hk, hlen, hcrc, Dev.endXfer]

/-- Settles O15, by the branches of each upload command. The upload of no bytes and an acknowledgement beyond what was sent follow log 23. -/
theorem uploadsDeliverTheValueRead : Obligations.UploadsDeliverTheValueRead := by
  unfold Obligations.UploadsDeliverTheValueRead
  intro s m x h
  refine ⟨fun staged d b hc hread => ⟨fun hlen => ?whole, fun hlen => ?segmented⟩, fun staged d e hc hread => ?refused,
    fun t ht hk hc hctr => ?counter, fun t ht hk hc hctr => ⟨fun hmore hdata => ?middle, fun hlast => ?last⟩,
    fun staged d b hc h1 h127 hread => ⟨fun hb => ?blockNone, fun hb => ?blockStart⟩, fun t ht hk hc => ?acknowledge⟩
  case whole =>
    refine .of_sdoDev rfl h ((sdo_upStart h.idle hc).trans ?_)
    simp [Dev.upStart, hread, hlen]
  case segmented =>
    refine .of_sdoDev rfl h ((sdo_upStart h.idle hc).trans ?_)
    simp [Dev.upStart, hread, Nat.not_le.mpr hlen]
  case refused =>
    refine .of_sdoDev rfl h ((sdo_upStart h.idle hc).trans ?_)
    simp [Dev.upStart, hread]
  case counter =>
    refine .of_sdoDev rfl h ((sdo_upSegment h.idle hc).trans ?_)
    simp [Dev.upSegment, ht, hk, hctr, Dev.endXfer]
  case middle =>
    have hpart : ((t.data.drop t.pos).take segMax).length = segMax := by
      simp only [List.length_take, List.length_drop]; omega
    refine .of_sdoDev rfl h ((sdo_upSegment h.idle hc).trans ?_)
    simp only [Dev.upSegment, ht, hk, hctr, hpart, decide_eq_false (Nat.not_le.mpr hmore)]
    simp [byte]
  case last =>
    refine .of_sdoDev rfl h ((sdo_upSegment h.idle hc).trans ?_)
    simp only [Dev.upSegment, ht, hk, hctr, decide_eq_true hlast]
    simp [byte]
  case blockNone =>
    subst hb
    refine .of_sdoDev rfl h ((sdo_blkUpStart h.idle hc).trans ?_)
    simp [Dev.blkUpStart, hread, blockSize_ok h1 h127]
  case blockStart =>
    refine .of_sdoDev rfl h ((sdo_blkUpStart h.idle hc).trans ?_)
    simp [Dev.blkUpStart, hread, blockSize_ok h1 h127, hb]
  case acknowledge =>
    have hnext := (sdo_blkUpNext (x := x) h.idle hc)
    split
    next hend =>
      refine .of_sdoDev rfl h (hnext.trans ?_)
      simp [Dev.blkUpNext, ht, hk, hend]
    next hend =>
      refine .of_sdoDev rfl h (hnext.trans ?_)
      simp [Dev.blkUpNext, ht, hk, hend]

/-- A transfer message that finds an abandoned transfer learns of it, once (R53). -/
theorem Dev.noXfer_abandoned (d : Dev) {x : Sess} (hx : x.xfer = none) (ha : x.abandoned = true) :
    d.noXfer x = (d.onSess x.id (fun y => { y with abandoned := false }), [abortMsg 0x05040000]) := by
  simp [Dev.noXfer, hx, ha]

/-- Settles O16. -/
theorem transfersEndWithoutAWrite : Obligations.TransfersEndWithoutAWrite := by
  unfold Obligations.TransfersEndWithoutAWrite
  refine ⟨fun s m x h hc => .of_sdoDev rfl h (sdo_abort h.idle hc), fun s sess x ho hx hxfer => ?_, fun s sess ho => ?_,
    fun s m x h hx ha => ?_⟩
  · have hexec : exec (.transferTimeout sess) s = s.done (s.begin_.abandonXfer sess) := rfl
    simp only [Dev.abandonXfer, State.begin_com, ho] at hexec
    exact .done hexec
  · have hexec : exec (.transferTimeout sess) s = s.done (s.begin_.abandonXfer sess) := rfl
    simp only [Dev.abandonXfer, State.begin_com, Option.isSome_iff_ne_none.mpr ho] at hexec
    exact .done hexec
  · have hno := s.begin_.noXfer_abandoned hx ha
    refine ⟨fun hc => .of_sdoDev rfl h ((sdo_segment h.idle hc).trans ?_), fun hc => .of_sdoDev rfl h ((sdo_upSegment h.idle hc).trans ?_),
      fun hc => .of_sdoDev rfl h ((sdo_blkSegment h.idle hc).trans ?_), fun hc => .of_sdoDev rfl h ((sdo_blkDownEnd h.idle hc).trans ?_),
      fun hc => .of_sdoDev rfl h ((sdo_blkUpNext h.idle hc).trans ?_)⟩
    · simp only [State.segment, hx, hno]
    · simp only [Dev.upSegment, hx, hno]
    · simp only [Dev.blkSegment, hx, hno]
    · simp only [State.blkDownEnd, hx, hno]
    · simp only [Dev.blkUpNext, hx, hno]

end Sys2Proof.Machine
end

section
/-! PROOFS. Writes of one object (R33, R60 to R63, R75), group commits and discards (R60, R61), and the selections of records and DOMAIN
loads (R98, R127, R422). -/
namespace Sys2Proof.Machine

open Sys2Proof

/-! ### One object -/

theorem commandObject_ne {idx k : Nat} (h : commandObject idx = false)
    (hk : k ∈ [0x1450, 0x2000, 0x2010, 0x2012, 0x2020, 0x2040, 0x2204, 0x2206, 0x2702, 0x280E, 0x2A06, 0x2C02, 0x2E0F, 0x3406, 0x3A01, 0x3A29,
      0x3C20, 0x3C22]) : idx ≠ k := by
  rintro rfl
  simp only [commandObject, List.contains_eq_mem, decide_eq_false_iff_not] at h
  exact h hk

/-- A write of one object by a served session is answered with its code. -/
theorem Answers.of_objectWrite {s : State} {sess idx sub code : Nat} {b : Bytes} {x : Sess} {d : Dev} (hx : s.dev.session? sess = some x)
    (hp : x.port = 0) (hv : s.dev.serves x.via = true) (ho : s.dev.com.op = none) (hi : commandObject idx = false)
    (hw : s.begin_.write x idx sub b = (d, code)) : Answers (.objectWrite sess idx sub b) s sess code d := by
  have hexec : exec (.objectWrite sess idx sub b) s = s.hostObject sess idx sub b := rfl
  rw [hostObject_served hx hp hv ho (commandObject_ne hi (by decide)) (commandObject_ne hi (by decide)), hw] at hexec
  exact Makes.done hexec

/-- A write of an object whose value fails its check changes nothing (R502). -/
theorem Dev.write_bad_value {d : Dev} {x : Sess} {idx sub : Nat} {b : Bytes} {r : ObjRow} (hr : d.writable x idx sub b.length = .ok r)
    (hv : valueCode d.product idx sub r b ≠ 0) : d.write x idx sub b = (d, valueCode d.product idx sub r b) := by
  simp only [Dev.write, hr]

/-- A whole table whose checks pass is written as a table. -/
theorem Dev.write_dom {d : Dev} {x : Sess} {idx sub : Nat} {b : Bytes} {r : ObjRow} (hr : d.writable x idx sub b.length = .ok r)
    (hv : valueCode d.product idx sub r b = 0) (ht : r.ty = .dom) : d.write x idx sub b = d.writeDom x idx sub b := by
  simp [Dev.write, hr, hv, ht]

/-- A scalar whose checks pass is written as a scalar, a DOMAIN load apart. -/
theorem Dev.write_scalar {d : Dev} {x : Sess} {idx sub : Nat} {b : Bytes} {r : ObjRow} (hr : d.writable x idx sub b.length = .ok r)
    (hv : valueCode d.product idx sub r b = 0) (ht : r.ty ≠ .dom) (hi : idx ≠ 0x2A06) :
    d.write x idx sub b = d.writeScalar x r idx sub (leNat b) := by
  simp [Dev.write, hr, hv, ht, hi]

/-- What a write of a scalar that is no command comes to. -/
theorem Dev.writeScalar_plain {d : Dev} {x : Sess} {r : ObjRow} {idx sub v : Nat} (hi : commandObject idx = false)
    (hboot : ¬(idx = 0x2100 ∧ sub = 2)) :
    d.writeScalar x r idx sub v =
      if ofContext idx then d.stageCtx x.id x.window (fun c => { c with val := c.val.set (key idx sub) v })
      else if r.acc == .wo then d.strobeClear ((idx - 0x5000) / 256) v
      else match r.acc, groupOf idx with
        | .rws, some gg => d.stage x.id gg (fun t => { t with staged := t.staged.set (key idx sub) v })
        | _, _ => (d.put idx sub v, 0) := by
  have hboot' : (idx == 0x2100 && sub == 2) = false := by simpa using hboot
  unfold Dev.writeScalar
  split
  case h_17 =>
    rw [hboot']
    rfl
  all_goals simp [commandObject] at hi

/-- What staging in a context comes to, by the context's state and owner (R61, R75). -/
theorem Dev.stageCtx_cases (d : Dev) (sess c : Nat) (f : Ctx → Ctx) :
    ((d.ctx c).code = 0 → d.stageCtx sess c f = (d.setCtx c (f { code := 1, owner := some sess }), 0)) ∧
    ((d.ctx c).code = 1 → (d.ctx c).owner = some sess → d.stageCtx sess c f = (d.setCtx c (f (d.ctx c)), 0)) ∧
    ((d.ctx c).code = 1 → (d.ctx c).owner ≠ some sess → d.stageCtx sess c f = (d, 0x0F000013)) ∧
    (2 ≤ (d.ctx c).code → d.stageCtx sess c f = (d, 0x0F000017)) := by
  refine ⟨fun h => ?_, fun h ho => ?_, fun h ho => ?_, fun h => ?_⟩
  · simp [Dev.stageCtx, h]
  · simp [Dev.stageCtx, h, ho]
  · simp [Dev.stageCtx, h, ho]
  · have h0 : (d.ctx c).code ≠ 0 := by omega
    have h1 : (d.ctx c).code ≠ 1 := by omega
    simp [Dev.stageCtx, h0, h1]

/-- Settles O17: the checks of `Dev.write`, then where the value goes. -/
theorem objectWritesStageOrTakeEffect : Obligations.ObjectWritesStageOrTakeEffect := by
  unfold Obligations.ObjectWritesStageOrTakeEffect
  intro s sess idx sub b x hx hp hv ho hi hboot himage
  have hans {code : Nat} {d : Dev} (hw : s.begin_.write x idx sub b = (d, code)) : Answers (.objectWrite sess idx sub b) s sess code d :=
    .of_objectWrite hx hp hv ho hi hw
  have hload : idx ≠ 0x2A06 := commandObject_ne hi (by decide)
  refine ⟨fun e he => hans (Dev.write_unwritable he), fun r hr => ⟨fun hbad => hans (Dev.write_bad_value hr hbad), fun hgood => ?_⟩⟩
  have hscalar (ht : r.ty ≠ .dom) := (Dev.write_scalar hr hgood ht hload).trans (Dev.writeScalar_plain hi hboot)
  have hdom (ht : r.ty = .dom) : s.begin_.write x idx sub b =
      if ofContext idx then s.begin_.stageCtx x.id x.window (fun c => { c with dom := c.dom.set idx b })
      else match groupOf idx with
        | some gg => s.begin_.stage x.id gg (fun t => { t with stagedDoms := t.stagedDoms.set idx b })
        | none => (s.begin_.putDom idx b, 0) := by
    rw [Dev.write_dom hr hgood ht]
    simp only [Dev.writeDom, beq_eq_false_iff_ne.mpr himage]
    rfl
  have hmine {gg : Nat} (f : Dict → Dict) (h : s.dev.ownedByOther x.id gg = false) : s.begin_.stage x.id gg f =
      ({ s.begin_ with dict := { f s.dev.dict with owners := s.dev.dict.owners.set gg x.id } }, 0) := by
    have h' : s.begin_.ownedByOther x.id gg = false := h
    simp [Dev.stage, h']
  have htheirs {gg : Nat} (f : Dict → Dict) (h : s.dev.ownedByOther x.id gg = true) : s.begin_.stage x.id gg f = (s.begin_, 0x0F000013) := by
    have h' : s.begin_.ownedByOther x.id gg = true := h
    simp [Dev.stage, h']
  refine ⟨fun ht hc hacc => hans ?_, fun ht hc hg => hans ?_, fun gg ht hc hacc hg hown => hans ?_, fun gg ht hc hg hown => hans ?_,
    fun gg hc hst hg hown => hans ?_, fun ht hc => ?_, fun ht hc => ?_⟩
  · rw [hscalar ht]
    simp [hc, hacc]
  · rw [hdom ht]
    simp [hc, hg]
  · rw [hscalar ht]
    simp [hc, hacc, hg, hmine _ hown]
  · rw [hdom ht]
    simp [hc, hg, hmine _ hown]
  · by_cases ht : r.ty = .dom
    · rw [hdom ht]
      simp [hc, hg, htheirs _ hown]
    · have hacc := hst.resolve_left ht
      rw [hscalar ht]
      simp [hc, hacc, hg, htheirs _ hown]
  · have hw := hscalar ht
    rw [if_pos hc] at hw
    obtain ⟨h0, h1, h1', h2⟩ := s.begin_.stageCtx_cases x.id x.window (fun c => { c with val := c.val.set (key idx sub) (leNat b) })
    exact ⟨fun h => hans (hw.trans (h0 h)), fun h hown => hans (hw.trans (h1 h hown)), fun h hown => hans (hw.trans (h1' h hown)),
      fun h => hans (hw.trans (h2 h))⟩
  · have hw := hdom ht
    rw [if_pos hc] at hw
    obtain ⟨h0, h1, h1', h2⟩ := s.begin_.stageCtx_cases x.id x.window (fun c => { c with dom := c.dom.set idx b })
    exact ⟨fun h => hans (hw.trans (h0 h)), fun h hown => hans (hw.trans (h1 h hown)), fun h hown => hans (hw.trans (h1' h hown)),
      fun h => hans (hw.trans (h2 h))⟩

/-! ### Groups -/

theorem Table.wf_keep {α : Type} (p : Nat → α → Bool) {t : Table α} (h : Table.wf t = true) : Table.wf (t.keep p) = true := by
  induction t with
  | nil => rfl
  | cons e r ih =>
    obtain ⟨j, w⟩ := e
    obtain ⟨hr, hj⟩ := Table.wf_cons h
    simp only [Table.keep]
    split
    · exact Table.wf_cons_of (ih hr) fun e he => hj e (Table.mem_keep he).1
    · exact ih hr

/-- What a filter on the keys leaves of an entry. -/
theorem Table.find?_keep_key {α : Type} (p : Nat → Bool) (t : Table α) (k : Nat) :
    (t.keep (fun j _ => p j)).find? k = if p k then t.find? k else none := by
  induction t with
  | nil => simp [Table.keep, Table.find?]
  | cons e r ih =>
    obtain ⟨j, w⟩ := e
    by_cases hp : p j = true
    · by_cases hk : j = k
      · subst hk; simp [Table.keep, hp, Table.find?]
      · simp [Table.keep, hp, Table.find?, hk, ih]
    · by_cases hk : j = k
      · subst hk; simp [Table.keep, hp, ih]
      · simp [Table.keep, hp, Table.find?, hk, ih]

theorem Table.find?_none_of_lt {α : Type} {t : Table α} {k : Nat} (h : ∀ e ∈ t, k < e.1) : t.find? k = none := by
  induction t with
  | nil => rfl
  | cons e r ih =>
    obtain ⟨j, w⟩ := e
    have hj : j ≠ k := (h (j, w) (by simp)).ne'
    simp [Table.find?, hj, ih fun e he => h e (by simp [he])]

/-- A table of values put into the dictionary, key by key. -/
theorem Dev.puts_find? (t : Table Nat) (d : Dev) (k : Nat) (h : Table.wf t = true) :
    (t.foldl (fun d x => d.put (x.1 / 256) (x.1 % 256) x.2) d).dict.regs.find? k = (t.find? k).or (d.dict.regs.find? k) := by
  induction t generalizing d with
  | nil => rfl
  | cons e r ih =>
    obtain ⟨j, w⟩ := e
    obtain ⟨hr, hj⟩ := Table.wf_cons h
    have hkey : key (j / 256) (j % 256) = j := by simp only [key]; omega
    rw [List.foldl_cons, ih _ hr]
    simp only [Dev.put, Table.find?_set, hkey, Table.find?]
    by_cases hk : j = k
    · subst hk
      simp [Table.find?_none_of_lt hj]
    · simp [hk]

theorem Dev.putDoms_regs (t : Table Bytes) (d : Dev) : (t.foldl (fun d x => d.putDom x.1 x.2) d).dict.regs = d.dict.regs := by
  induction t generalizing d with
  | nil => rfl
  | cons e r ih => exact ih _

/-- With a group's staged values in place, an object of it reads its staged value where it has one, and every other as before (R60). -/
theorem Dev.merged_regs (d : Dev) (gg k : Nat) (h : Table.wf d.dict.staged = true) :
    (d.merged gg).dict.regs.find? k =
      if groupOf (k / 256) = some gg then (d.dict.staged.find? k).or (d.dict.regs.find? k) else d.dict.regs.find? k := by
  simp only [Dev.merged, Dev.putDoms_regs]
  rw [Dev.puts_find? (d.stagedOf gg) d k (Table.wf_keep _ h)]
  simp only [Dev.stagedOf, Table.find?_keep_key (fun j => groupOf (j / 256) == some gg)]
  by_cases hg : groupOf (k / 256) = some gg <;> simp [hg]

/-- A group of the device's is named by 1 to 12 or 16 to 23. -/
theorem Dev.writeGroup_eq (d : Dev) (sess gg : Nat) (h : (1 ≤ gg ∧ gg ≤ 12) ∨ (16 ≤ gg ∧ gg ≤ 23)) :
    d.writeGroup sess gg 1 = d.writeCommit sess gg ∧ d.writeGroup sess gg 2 = d.writeDrop sess gg := by
  have h1 : (gg == 0 || decide (23 < gg)) = false := by simp; omega
  have h2 : decide (13 ≤ gg ∧ gg ≤ 15) = false := by simp; omega
  simp [Dev.writeGroup, h1, h2]

/-- Settles O18, by the outcomes of `Dev.writeCommit` and `Dev.writeDrop`, and by what a merge and a drop leave. -/
theorem groupCommitsTakeAllOrNothing : Obligations.GroupCommitsTakeAllOrNothing := by
  unfold Obligations.GroupCommitsTakeAllOrNothing
  intro s sess gg hs hgg
  obtain ⟨hcommit, hdrop⟩ := s.begin_.writeGroup_eq sess gg hgg
  have hans {code : Nat} {d : Dev} (hw : s.begin_.writeCommit sess gg = (d, code)) : Answers (.groupCommit sess gg) s sess code d :=
    .of_hostWrite hs rfl (hcommit.trans hw)
  have hansDrop {code : Nat} {d : Dev} (hw : s.begin_.writeDrop sess gg = (d, code)) : Answers (.groupDiscard sess gg) s sess code d :=
    .of_hostWrite hs rfl (hdrop.trans hw)
  have hgated : s.begin_.commitGated gg = s.dev.commitGated gg := rfl
  have howned : s.begin_.ownedByOther sess gg = s.dev.ownedByOther sess gg := rfl
  refine ⟨fun hg hown => hans ?_, fun hown => hansDrop ?_, fun hown => hansDrop ?_, fun k code hg hown hf => hans ?_,
    fun d c hg hown hf he => hans ?_, fun k hw => s.begin_.merged_regs gg k hw, fun d => ?_⟩
  · simp [Dev.writeCommit, hgated, howned, hg, hown]
  · simp [Dev.writeDrop, howned, hown]
  · simp [Dev.writeDrop, howned, hown]
  · simp [Dev.writeCommit, hgated, howned, hg, hown, hf]
  · simp [Dev.writeCommit, hgated, howned, hg, hown, hf, he]
  · obtain ⟨ho, hv, ht⟩ := d.dropStaged_self gg
    exact ⟨ho, by simpa [List.all_eq_true] using hv, by simpa [List.all_eq_true] using ht⟩

/-! ### Selections and DOMAIN loads -/

@[simp] theorem byte_toNat (n : Nat) : (byte n).toNat = n % 256 := by simp [byte]

/-- A number below 256^k reads back from its `k` bytes (R9). -/
theorem leNat_leBytes (k n : Nat) (h : n < 256 ^ k) : leNat (leBytes k n) = n := by
  induction k generalizing n with
  | zero => simp at h; simp [h, leBytes, leNat]
  | succ k ih =>
    have hn : n / 256 < 256 ^ k := by rw [Nat.div_lt_iff_lt_mul (by decide)]; simpa [Nat.pow_succ] using h
    simp only [leBytes, leNat, byte_toNat, ih _ hn]
    omega

@[simp] theorem leBytes_length (k n : Nat) : (leBytes k n).length = k := by
  induction k generalizing n with
  | zero => rfl
  | succ k ih => simp [leBytes, ih]

/-- The rows of an index outside the bars that a 2204 lacks are the same on every product. -/
theorem rowsOf_any {idx : Nat} (product : Nat) (h : idx < 0x5400) : rowsOf product idx = (pageOf (idx / 256)).filter (fun r => r.hasIdx idx) := by
  have hc : (product == 0x2204 && decide (0x5400 ≤ idx ∧ idx ≤ 0x57FF)) = false := by simp; omega
  simp only [rowsOf, hc]
  rfl

/-- The rows of the ledger's and the log's selection. -/
def ledgerRow : ObjRow := ⟨0x2040, 0, 1, 1, 1, .u 8, .rw, 0, .imm, .any⟩
def logRow : ObjRow := ⟨0x2206, 0, 1, 1, 1, .u 4, .rw, 0, .imm, .any⟩

/-- A subindex whose row exists, in an object that no state keeps back and no context holds, is accessed once an image is verified. -/
theorem Dev.access_ok {d : Dev} {idx sub : Nat} {r : ObjRow} (h : d.sys.verified = true) (x : Sess)
    (hrow : (rowsOf d.product idx).find? (fun r => r.hasSub sub) = some r) (hg : d.gated idx = false) (hc : ofContext idx = false) :
    d.access x idx sub = .ok r := by
  have hne : (rowsOf d.product idx).isEmpty = false := by
    cases hl : rowsOf d.product idx with
    | nil => simp [hl] at hrow
    | cons => rfl
  simp [Dev.access, hne, hrow, hg, hc, Dev.served_of_verified h]

@[simp] theorem State.begin_retained (s : State) : s.begin_.retained = s.dev.retained := rfl
@[simp] theorem State.begin_logRecord (s : State) (n : Nat) : s.begin_.logRecord n = s.dev.logRecord n := rfl

/-- No state keeps back the selections of the ledger and of the log (R407, R456). -/
theorem Dev.gated_selection (d : Dev) : d.gated 0x2040 = false ∧ d.gated 0x2206 = false := by
  simp only [Dev.gated]
  split <;> exact ⟨rfl, rfl⟩

theorem Dev.write_ledger {d : Dev} (h : d.sys.verified = true) (x : Sess) (rep : Nat) (hr : rep < 2 ^ 64) :
    d.write x 0x2040 1 (leBytes 8 rep) = d.writeLedger rep := by
  have hrow : (rowsOf d.product 0x2040).find? (fun r => r.hasSub 1) = some ledgerRow := by rw [rowsOf_any _ (by decide)]; decide
  have hacc := Dev.access_ok h x hrow d.gated_selection.1 (by decide)
  have hw : d.writable x 0x2040 1 (leBytes 8 rep).length = .ok ledgerRow := by
    simp [Dev.writable, hacc, ledgerRow, lengthOk, Ty.size]
  rw [Dev.write_scalar hw rfl (by decide) (by decide), leNat_leBytes 8 rep hr]
  rfl

theorem Dev.write_log {d : Dev} (h : d.sys.verified = true) (x : Sess) (n : Nat) (hn : n < 2 ^ 32) :
    d.write x 0x2206 1 (leBytes 4 n) = d.writeLog n := by
  have hrow : (rowsOf d.product 0x2206).find? (fun r => r.hasSub 1) = some logRow := by rw [rowsOf_any _ (by decide)]; decide
  have hacc := Dev.access_ok h x hrow d.gated_selection.2 (by decide)
  have hw : d.writable x 0x2206 1 (leBytes 4 n).length = .ok logRow := by
    simp [Dev.writable, hacc, logRow, lengthOk, Ty.size]
  rw [Dev.write_scalar hw rfl (by decide) (by decide), leNat_leBytes 4 n hn]
  rfl

/-- Settles O20. -/
theorem selectionsNameRetainedRecords : Obligations.SelectionsNameRetainedRecords := by
  unfold Obligations.SelectionsNameRetainedRecords
  intro s sess x hx hp hver ho
  have hver' : s.begin_.sys.verified = true := hver
  have hans {i : Instr} {idx sub code : Nat} {b : Bytes} {d : Dev} (he : exec i s = s.hostObject sess idx sub b) (hremap : idx ≠ 0x280E)
      (hcmd : idx ≠ 0x2000) (hw : s.begin_.write x idx sub b = (d, code)) : Answers i s sess code d := by
    rw [hostObject_served hx hp (Dev.serves_of_verified hver _) ho hremap hcmd, hw] at he
    exact Makes.done he
  refine ⟨fun rep hr hk => ?_, fun rep hr hk => ?_, fun n hn hk => ?_, fun n hn hk => ?_, fun v r hlen hw ht hv => ?_⟩
  · have hany : s.begin_.retained.any (fun r => r.num == rep) = true := by simpa using hk
    exact hans rfl (by decide) (by decide) ((Dev.write_ledger hver' x rep hr).trans (if_pos hany))
  · have hany : ¬ s.begin_.retained.any (fun r => r.num == rep) = true := by simpa using hk
    exact hans rfl (by decide) (by decide) ((Dev.write_ledger hver' x rep hr).trans (if_neg hany))
  · exact hans rfl (by decide) (by decide) ((Dev.write_log hver' x n hn).trans (if_pos (Option.isSome_iff_ne_none.mpr hk)))
  · exact hans rfl (by decide) (by decide) ((Dev.write_log hver' x n hn).trans (if_neg (by simpa using hk)))
  · have hload : s.begin_.write x 0x2A06 0 v = s.begin_.loadTable x v := by
      simp [Dev.write, hlen, hw, hv, ht]
    refine ⟨fun hf => hans rfl (by decide) (by decide) (hload.trans ?_), fun f d c hf hrow htab => hans rfl (by decide) (by decide) (hload.trans ?_)⟩
    · have hf' : s.begin_.frameOk 3 (leNat (slice v 4 8)) = none := hf
      simp only [Dev.loadTable, hf']
    · have hf' : s.begin_.frameOk 3 (leNat (slice v 4 8)) = some f := hf
      have hrow' : (rowsOf s.begin_.product (leNat (v.take 2))).any (fun r => r.ty == .dom && r.hasSub 0) = true := hrow
      simp only [Dev.loadTable, hf', hrow', if_true, htab]

end Sys2Proof.Machine
end

section
/-! PROOFS. What an object of the dictionary reads after another was written, and after an event was raised. -/
namespace Sys2Proof.Machine

open Sys2Proof

/-- A counter reads the value put into it. -/
@[simp] theorem Dev.cnt_put_self (d : Dev) (i j v : Nat) : (d.put i j v).cnt i j = v := by simp [Dev.cnt, Dev.put]

@[simp] theorem Dev.g_put_self (d : Dev) (i j v : Nat) : (d.put i j v).g i j = v := by simp [Dev.g, Dev.put]

/-- An object reads as before when another is written. -/
theorem Dev.g_put_ne (d : Dev) {i j i' j' : Nat} (v : Nat) (h : key i j ≠ key i' j') : (d.put i j v).g i' j' = d.g i' j' := by
  simp only [Dev.g, Dev.put, Table.find?_set_ne _ _ h]

theorem Dev.g_bump_ne (d : Dev) {i j i' j' : Nat} (h : key i j ≠ key i' j') : (d.bump i j).g i' j' = d.g i' j' := Dev.g_put_ne _ _ h

/-- What devices with the same entry under a key read there. -/
theorem Dev.g_congr {d e : Dev} {i j : Nat} (hp : d.product = e.product) (h : d.dict.regs.find? (key i j) = e.dict.regs.find? (key i j)) :
    d.g i j = e.g i j := by
  simp only [Dev.g, h, hp]

/-- Tables that agree on the kept keys agree on each of them. -/
theorem Table.find?_of_keep_eq {α : Type} {p : Nat → Bool} {t u : Table α} (h : t.keep (fun j _ => p j) = u.keep (fun j _ => p j)) {k : Nat}
    (hk : p k = true) : t.find? k = u.find? k := by
  have ht := Table.find?_keep_key p t k
  have hu := Table.find?_keep_key p u k
  rw [if_pos hk] at ht hu
  rw [← ht, ← hu, h]

/-- Raising an event leaves every entry of the dictionary but the event counters. -/
theorem Dev.raiseAt_find? (d : Dev) (l e m u x : Nat) (he : e < 255) {k : Nat} (hk : eventKey k = false) :
    (d.raiseAt l e m u x).dict.regs.find? k = d.dict.regs.find? k := by
  have hlog (d : Dev) (l e m u x : Nat) (he : e < 255) : (d.logEvent l e m u x).dict.regs.find? k = d.dict.regs.find? k := by
    obtain ⟨_, _, _, rs, _, _, _, hrs, heq⟩ := d.logEvent_shape l e m u x
    rw [heq]
    exact Table.find?_of_keep_eq (p := fun k => !eventKey k) (hrs he) (by simp [hk])
  simp only [Dev.raiseAt]
  split
  · rw [hlog _ _ _ _ _ _ (by decide), hlog _ _ _ _ _ _ he]
  · exact hlog _ _ _ _ _ _ he

/-- Raising an event leaves every object but the event counters. -/
theorem Dev.g_raiseAt (d : Dev) (l e m u x : Nat) (he : e < 255) {i j : Nat} (hk : eventKey (key i j) = false) :
    (d.raiseAt l e m u x).g i j = d.g i j := Dev.g_congr (d.raiseAt_product _ _ _ _ _) (d.raiseAt_find? l e m u x he hk)

theorem Dev.g_raise (d : Dev) (e m u x : Nat) (he : e < 255) {i j : Nat} (hk : eventKey (key i j) = false) :
    (d.raise e m u x).g i j = d.g i j := d.g_raiseAt _ e m u x he hk

end Sys2Proof.Machine
end

section
/-! PROOFS. Process data and events in their sessions (R43 to R45, R66 to R71, R497 to R500), and the requests that process data
carries. -/
namespace Sys2Proof.Machine

open Sys2Proof

/-! ### Messages in a session -/

/-- An admitted message in a session, other than an SDO request, changes the device alone. -/
theorem serve_inSession {s : State} {m : Dgram} {x : Sess} (h : s.dev.admits m) (hx : s.dev.sessionOf m = some x)
    (ht : m.typ = 0x20 ∨ m.typ = 0x31) : s.serve m = s.done (s.begin_.inSession m x) := by
  refine serve_of_receive ((receive_admitted (s := { s with dev := s.begin_ }) h).trans ?_)
  have hx' : s.begin_.sessionOf m = some x := hx
  rcases ht with ht | ht <;> simp [ht, hx']

theorem Dev.inSession_pd {d : Dev} {m : Dgram} (x : Sess) (ht : m.typ = 0x20) : d.inSession m x = d.gotPd m x := by
  simp [Dev.inSession, ht]

theorem Dev.inSession_ack {d : Dev} {m : Dgram} (x : Sess) (ht : m.typ = 0x31) : d.inSession m x = d.gotEventAck m x := by
  simp [Dev.inSession, ht]

/-- Settles O21, by the branches of `Dev.gotPd` and `Dev.gotEventAck`. -/
theorem cyclicMessagesAreTakenInOrder : Obligations.CyclicMessagesAreTakenInOrder := by
  unfold Obligations.CyclicMessagesAreTakenInOrder
  intro s m x hadm hx
  refine ⟨fun ht => ?_, fun ht => ?_⟩
  · have hexec : exec (.pdOut m) s = s.done (s.begin_.gotPd m x) :=
      (serve_inSession hadm hx (.inl ht)).trans (congrArg s.done (Dev.inSession_pd x ht))
    refine ⟨fun hn hok => ?_, fun hn hb hcopy => ?_, fun hbad => ?_⟩
    · exact .done (hexec.trans (by simp only [Dev.gotPd, hn, hok]; rfl))
    · have hany : x.taken.any (fun u => u.1 == m.seq && u.2 != viaCode m.via) = true := by
        obtain ⟨v, hv, hne⟩ := hcopy
        exact List.any_eq_true.mpr ⟨_, hv, by simpa using hne⟩
      exact .done (hexec.trans (by simp only [Dev.gotPd, hn, hb, hany]; rfl))
    · refine .done (hexec.trans (congrArg s.done ?_))
      rcases hbad with ⟨hn, hcopy⟩ | ⟨hn, hok⟩
      · have hno : (x.bound && x.taken.any (fun u => u.1 == m.seq && u.2 != viaCode m.via)) = false := by
          rcases hcopy with hb | hall
          · simp [hb]
          · have hany : x.taken.any (fun u => u.1 == m.seq && u.2 != viaCode m.via) = false := by
              refine List.any_eq_false.mpr fun u hu h => ?_
              simp only [Bool.and_eq_true, beq_iff_eq, bne_iff_ne] at h
              exact h.2 (hall u.2 (h.1 ▸ hu))
            simp [hany]
        simp only [Dev.gotPd, hn, hno]
        rfl
      · simp only [Dev.gotPd, hn, hok]
        rfl
  · have hexec : exec (.eventAck m) s = s.done (s.begin_.gotEventAck m x) :=
      (serve_inSession hadm hx (.inr ht)).trans (congrArg s.done (Dev.inSession_ack x ht))
    refine ⟨fun hn hlen => .done (hexec.trans ?_), fun hn => .done (hexec.trans ?_)⟩
    · simp only [Dev.gotEventAck, hn, hlen]
      rfl
    · simp only [Dev.gotEventAck, hn]
      rfl

/-! ### The loss of process data -/

/-- A device whose process data is supervised and lost without a reaction: a cycle of 1 ms, a loss limit of three cycles. -/
def pdSupervised : State :=
  { State.reset with dev := ((({ State.reset.dev with com := { pd := { supervised := true } } } : Dev).put 0x1430 1 1000).put 0x1430 2 3).put 0x1430 3 0 }

/-- The loss is logged as the catalogue has it: EV_PD_LOSS is a warning, level 0x10 (Table 17.6). -/
theorem pdSupervised_log : (pdSupervised.begin_.pdLost.fl.log.map (fun r => (r.num, r.level))) = [(6, 0x10), (4, 0x20)] := by
  decide +kernel

/-- Refutes O22: the statement has EV_PD_LOSS (6) logged at level 0x20; the model logs it at its catalogue level, 0x10 (Table 17.6), as
`pdSupervised` shows. -/
theorem not_theCycleActsAndReports : ¬ Obligations.TheCycleActsAndReports := by
  unfold Obligations.TheCycleActsAndReports
  rintro ⟨-, -, -, -, -, -, hloss, -, -⟩
  obtain ⟨t, ht, -, -, -, -, r, hr, hnum, hlevel, -⟩ := (hloss pdSupervised rfl rfl (by decide) (by decide)).1 (by decide) (by decide)
  obtain rfl := Host.Outcome.next.inj ht
  have hmem : (r.num, r.level) ∈ pdSupervised.begin_.pdLost.fl.log.map (fun r => (r.num, r.level)) :=
    List.mem_map_of_mem (List.mem_of_mem_take hr)
  rw [pdSupervised_log, hnum, hlevel] at hmem
  exact absurd hmem (by decide)

/-! ### The requests of process data -/

theorem newCount_self {n : Nat} (hn : n ≤ 255) : Dev.newCount n n = false := by
  have : n % 256 = n := by omega
  simp [Dev.newCount, this]

theorem newCount_of_ne {n last : Nat} (h1 : 1 ≤ n) (hn : n ≤ 255) (h : n ≠ last) : Dev.newCount n last = true := by
  have : n % 256 = n := by omega
  simp [Dev.newCount, this, h, Nat.one_le_iff_ne_zero.mp h1]

/-- A device that follows no partner resolves at once what it does not mirror (R389). -/
theorem Dev.resolve_of_role_ne {d : Dev} (m : DecisionMsg) (h : d.role ≠ 1) : d.resolve m = d.applyDecision m := by
  simp [Dev.resolve, h]

section
variable {d : Dev} {n : Nat}

/-- A request for a flying change with a new counter, from Ready on, on a device that follows no partner (R88, R90, R94). -/
theorem Dev.fcRequest_new (c r : Nat) (h1 : 1 ≤ n) (hn : n ≤ 255) (hne : n ≠ d.com.pd.ackFc) (hready : d.fromReady = true)
    (hf : d.follows = false) :
    (d.usable c = false → d.fcRequest n c r = ((d.onPd (fun p => { p with ackFc := n })).put 0x2014 4 n).showFc 6) ∧
    (d.usable c = true → d.phase ≠ .printing → d.fcRequest n c r = ((d.onPd (fun p => { p with ackFc := n })).put 0x2014 4 n).setStart c) := by
  have hmod : n % 256 = n := by omega
  have hnew := newCount_of_ne h1 hn hne
  have hrole : ((d.onPd (fun p => { p with ackFc := n })).put 0x2014 4 n).role = d.role := Dev.g_put_ne _ n (by decide)
  have husable : ((d.onPd (fun p => { p with ackFc := n })).put 0x2014 4 n).usable c = d.usable c := by
    simp only [Dev.usable, Dev.agreed, Dev.paired, hrole]
    rfl
  have hreq : d.fcRequest n c r = (let e := (d.onPd (fun p => { p with ackFc := n })).put 0x2014 4 n
      if !e.usable c then e.showFc 6 else if d.phase == .printing && d.print.endRep.isNone then e.fcPrinting c r else e.setStart c) := by
    have hr : ((d.onPd (fun p => { p with ackFc := n })).put 0x2014 4 n).fromReady = true := hready
    simp only [Dev.onPd] at hr
    simp only [Dev.fcRequest, hnew, hready, hf, hmod, Dev.onPd, Bool.not_true, Bool.false_eq_true, if_false, Bool.and_false, hr]
    rfl
  rw [hreq]
  refine ⟨fun hu => ?_, fun hu hp => ?_⟩
  · simp [husable, hu]
  · simp [husable, hu, hp]

/-- A request for a cancel with a new counter (R58). -/
theorem Dev.cancelRequest_new (o : Nat) (h1 : 1 ≤ n) (hn : n ≤ 255) (hne : n ≠ d.com.pd.ackCancel) (hready : d.fromReady = true)
    (hf : d.follows = false) :
    ((∀ q, d.com.op = some q → q.id ≠ o) → d.cancelRequest n o = d.onPd (fun p => { p with ackCancel := n, resCancel := 1 })) ∧
    (∀ q, d.com.op = some q → q.id = o →
      d.cancelRequest n o = (d.abandonOp 0x0F000016).onPd (fun p => { p with ackCancel := n, resCancel := 0 })) := by
  have hmod : n % 256 = n := by omega
  have hnew := newCount_of_ne h1 hn hne
  have hrole : (d.role == 2) = false := (Bool.or_eq_false_iff.mp hf).1
  refine ⟨fun hq => ?_, fun q hq hid => ?_⟩
  · cases hop : d.com.op with
    | none => simp [Dev.cancelRequest, hnew, hready, hrole, hmod, hop, Dev.onPd]
    | some q => simp [Dev.cancelRequest, hnew, hready, hrole, hmod, hop, hq q hop, Dev.onPd]
  · simp [Dev.cancelRequest, hnew, hready, hrole, hmod, hq, hid, Dev.onPd]

/-- A request for a splice with a new counter while no repeat is printed (R102, R500). -/
theorem Dev.spliceRequest_idle (h1 : 1 ≤ n) (hn : n ≤ 255) (hne : n ≠ d.com.pd.ackSplice) (hready : d.fromReady = true)
    (hf : d.follows = false) (hp : d.phase ≠ .printing) :
    d.spliceRequest n = d.onPd (fun p => { p with ackSplice := n, resSplice := 1 }) := by
  have hmod : n % 256 = n := by omega
  have hnew := newCount_of_ne h1 hn hne
  have hphase : (({ d with com := { d.com with pd := { d.com.pd with ackSplice := n } } } : Dev).phase == .printing) = false :=
    beq_eq_false_iff_ne.mpr hp
  simp only [Dev.spliceRequest, hnew, hready, hf, hmod]
  simp only [Bool.not_true, Bool.false_eq_true, if_false, hphase, bne, Bool.not_false, Bool.true_or, if_true]
  rfl

/-- A request for a spoil on a device that follows no partner, with a new counter (R102, R500). -/
theorem Dev.spoilRequest_new (k : Nat) (h1 : 1 ≤ n) (hn : n ≤ 255) (hne : n ≠ d.com.pd.ackSpoil)
    (hready : d.fromReady = true) (hf : d.follows = false) :
    (d.rep? k = none → d.spoilRequest n k = d.onPd (fun p => { p with ackSpoil := n, resSpoil := 1 })) ∧
    (∀ r, d.rep? k = some r → r.open_ ≠ 0 → d.role ≠ 1 →
      d.spoilRequest n k = ((d.onPd (fun p => { p with ackSpoil := n })).applySpoil k).onPd (fun p => { p with resSpoil := 0 })) := by
  have hmod : n % 256 = n := by omega
  have hnew := newCount_of_ne h1 hn hne
  have hrep : ({ d with com := { d.com with pd := { d.com.pd with ackSpoil := n } } } : Dev).rep? k = d.rep? k := rfl
  refine ⟨fun hr => ?_, fun r hr hopen hrole => ?_⟩
  · simp only [Dev.spoilRequest, hnew, hready, hf, hmod, hrep, hr]
    rfl
  · simp only [Dev.spoilRequest, hnew, hready, hf, hmod, hrep, hr, bne_iff_ne.mpr hopen]
    rw [Dev.resolve_of_role_ne]
    · rfl
    · exact hrole

end

/-- Settles O23, request by request. -/
theorem requestsActOncePerCounter : Obligations.RequestsActOncePerCounter := by
  unfold Obligations.RequestsActOncePerCounter
  intro s n h1 hn
  refine ⟨fun c r h => .done ?_, fun o h => .done ?_, fun k h => .done ?_, fun h => .done ?_, fun hready hf => ?_⟩
  · show s.done (s.begin_.fcRequest n c r) = _
    simp [Dev.fcRequest, ← h, newCount_self hn]
  · show s.done (s.begin_.cancelRequest n o) = _
    simp [Dev.cancelRequest, ← h, newCount_self hn]
  · show s.done (s.begin_.spoilRequest n k) = _
    simp [Dev.spoilRequest, ← h, newCount_self hn]
  · show s.done (s.begin_.spliceRequest n) = _
    simp [Dev.spliceRequest, ← h, newCount_self hn]
  · refine ⟨fun c r hne hbad => .done ?_, fun c r hne hu hp => .done ?_, fun o hne hq => .done ?_, fun o q hne hq hid => .done ?_,
      fun k hne hr => .done ?_, fun k r hne hr hopen hrole => .done ?_, fun hne hp => .done ?_⟩
    · have hu : s.begin_.usable c = false := by
        rcases hbad with h | h
        · simp [Dev.usable, Nat.not_le.mpr h]
        · have h' : (s.begin_.ctx c).code < 4 := h
          simp [Dev.usable, Nat.not_le.mpr h']
      exact congrArg s.done ((Dev.fcRequest_new (d := s.begin_) c r h1 hn hne hready hf).1 hu)
    · exact congrArg s.done ((Dev.fcRequest_new (d := s.begin_) c r h1 hn hne hready hf).2 hu hp)
    · exact congrArg s.done ((Dev.cancelRequest_new (d := s.begin_) o h1 hn hne hready hf).1 hq)
    · exact congrArg s.done ((Dev.cancelRequest_new (d := s.begin_) o h1 hn hne hready hf).2 q hq hid)
    · exact congrArg s.done ((Dev.spoilRequest_new (d := s.begin_) k h1 hn hne hready hf).1 hr)
    · exact congrArg s.done ((Dev.spoilRequest_new (d := s.begin_) k h1 hn hne hready hf).2 r hr hopen hrole)
    · exact congrArg s.done (Dev.spliceRequest_idle (d := s.begin_) h1 hn hne hready hf hp)

end Sys2Proof.Machine
end

section
/-! PROOFS. Arm and the context commands (R76 to R79, R95), the frame of a print run (R84, R458 to R461), and the lock of a change (R86,
R87, R310). -/
namespace Sys2Proof.Machine

open Sys2Proof

/-! ### What a fold over bars keeps -/

/-- A reading that every step of a fold keeps is kept by the fold. -/
theorem foldl_keeps {α β γ : Type} {f : α → β → α} (g : α → γ) (h : ∀ a b, g (f a b) = g a) (l : List β) (a : α) : g (l.foldl f a) = g a := by
  induction l generalizing a with
  | nil => rfl
  | cons b l ih => exact (ih _).trans (h a b)

/-! ### Arm -/

/-- ARM of the session's own Staging context starts the arm. -/
theorem Dev.writeArm_own {d : Dev} {sess c : Nat} (hc : c ≤ 127) (h1 : (d.ctx c).code = 1) (ho : (d.ctx c).owner = some sess) :
    d.writeArm sess c = (d.armStart sess c).started := by
  simp [Dev.writeArm, Nat.not_lt.mpr hc, h1, ho]

/-- What starting an arm comes to: a failing rule, no decode rate, or flattening (R78, R79). -/
theorem Dev.armStart_cases (d : Dev) (sess c : Nat) :
    (∀ k code, firstFail (d.armFails c) = some (k, code) → d.armStart sess c =
      ((((d.onCtx c (fun x => { x with code := 2 })).put 0x2013 1 c).put 0x2013 2 k).put 0x2013 3 code).beginOp 1 sess c 0x0F000019) ∧
    (firstFail (d.armFails c) = none → d.fixedLoad < 81920000000 → d.armStart sess c =
      ((d.onCtx c (fun x =>
        { x with code := 3, planes := d.staticPlanes c, lost := [], tones := d.barList.map (fun n => (n, d.toneTable c n)) })).setCeiling
          c 0).beginOp 1 sess c) ∧
    (firstFail (d.armFails c) = none → 81920000000 ≤ d.fixedLoad → d.armStart sess c =
      (d.onCtx c (fun x => { x with code := 2 })).beginOp 1 sess c 0x0F00001A) := by
  refine ⟨fun k code h => ?_, fun h hload => ?_, fun h hload => ?_⟩
  · simp only [Dev.armStart, h]
  · simp only [Dev.armStart, h, Nat.not_le.mpr hload, decide_false, Bool.false_eq_true, if_false]
  · simp only [Dev.armStart, h, hload, decide_true, if_true]

/-- Where arm steps 1 and 2 have passed, ARM_COMPLETE is the end of steps 3 and 4. -/
theorem Dev.armComplete_passed {d : Dev} {o : Op} (b : Bool) (ho : d.com.op = some o) (hc : o.cls = 1) (hr : o.result = 0) :
    d.armComplete b = d.armEnd o b := by
  simp [Dev.armComplete, ho, hc, hr]

/-- Where arm step 1 or 2 has failed, ARM_COMPLETE records the failure and ends the operation with its result (R79). -/
theorem Dev.armComplete_failed {d : Dev} {o : Op} (b : Bool) (ho : d.com.op = some o) (hc : o.cls = 1) :
    (o.result ≠ 0 → o.result ≠ 0x0F000019 → d.armComplete b = (d.armFailed o 0 o.result o.result).endOp o.result) ∧
    (o.result = 0x0F000019 →
      d.armComplete b = (d.armFailed o (d.g 0x2013 2) (d.g 0x2013 3) 0x0F000019).endOp 0x0F000019) := by
  refine ⟨fun h0 h19 => ?_, fun h19 => ?_⟩
  · simp [Dev.armComplete, ho, hc, h0, h19]
  · simp [Dev.armComplete, ho, hc, h19]

/-- A cache store without room ends the arm with 0x0F00_001B (R79, R114). -/
theorem Dev.armEnd_full {d : Dev} {o : Op} (b : Bool)
    (h : d.cacheFits o.arg ((d.cacheTiles o.arg).foldl (fun t x => t.set x.bar (t.get 0 x.bar + x.hdr.clen)) []) = false) :
    d.armEnd o b = (d.armFailed o 0 0x0F00001B 0x0F00001B).endOp 0x0F00001B := by
  simp only [Dev.armEnd, h, Bool.not_false, if_true]

/-- A cache tile that failed its CRC ends the arm with 0x0F00_001C (R79). -/
theorem Dev.armEnd_crc {d : Dev} {o : Op}
    (h : d.cacheFits o.arg ((d.cacheTiles o.arg).foldl (fun t x => t.set x.bar (t.get 0 x.bar + x.hdr.clen)) []) = true) :
    d.armEnd o true = (d.armFailed o 0 0x0F00001C 0x0F00001C).endOp 0x0F00001C := by
  simp only [Dev.armEnd, h, Bool.not_true, Bool.false_eq_true, if_false, if_true]

/-- Settles O24, by the branches of `Dev.armStart` and of `Dev.armEnd`. -/
theorem armValidatesAndEndsArmedOrStaging : Obligations.ArmValidatesAndEndsArmedOrStaging := by
  unfold Obligations.ArmValidatesAndEndsArmedOrStaging
  refine ⟨fun s sess c hs hc h1 ho => ?_, fun s o b hop hcls => ?_, fun s o ts hop hcls hr hts hfit => ?_⟩
  · have hans {d : Dev} (h : s.begin_.armStart sess c = d) : Answers (.arm sess c) s sess 0x0F000010 d :=
      .of_hostWrite hs rfl ((Dev.writeArm_own (d := s.begin_) hc h1 ho).trans (congrArg Dev.started h))
    obtain ⟨hfail, hpass, hload⟩ := Dev.armStart_cases s.begin_ sess c
    exact ⟨fun k code h => hans (hfail k code h), fun h hl => hans (hpass h hl), fun h hl => hans (hload h hl)⟩
  · obtain ⟨hfailed, hrule⟩ := Dev.armComplete_failed (d := s.begin_) b hop hcls
    exact ⟨fun h0 h19 => .done (congrArg s.done (hfailed h0 h19)), fun h19 => .done (congrArg s.done (hrule h19)), fun ts hr hts hfit =>
      .done (congrArg s.done ((Dev.armComplete_passed (d := s.begin_) b hop hcls hr).trans (Dev.armEnd_full b (hts ▸ hfit))))⟩
  · subst hts
    refine ⟨.done (congrArg s.done ?_), .done (congrArg s.done ?_)⟩
    · exact (Dev.armComplete_passed (d := s.begin_) true hop hcls hr).trans (Dev.armEnd_crc hfit)
    · refine (Dev.armComplete_passed (d := s.begin_) false hop hcls hr).trans ?_
      simp only [Dev.armEnd, hfit, Bool.not_true, Bool.false_eq_true, if_false]

/-! ### Context commands -/

/-- A device that mirrors nothing resolves a decision at once (R389). -/
theorem Dev.resolve_alone {d : Dev} (m : DecisionMsg) (h : d.role ≠ 1 ∨ d.twin.linked = false) : d.resolve m = d.applyDecision m := by
  rcases h with h | h
  · exact Dev.resolve_of_role_ne m h
  · simp [Dev.resolve, h]

/-- Settles O25, command by command; that ABORT at a following device is answered 0 without an effect is the model's choice (log 36). -/
theorem contextCommandsMoveContexts : Obligations.ContextCommandsMoveContexts := by
  unfold Obligations.ContextCommandsMoveContexts
  intro s sess c hs hc
  have hc' : ¬127 < c := Nat.not_lt.mpr hc
  have hctx (k : Nat) : s.begin_.ctx k = s.dev.ctx k := rfl
  have htarget : s.begin_.targeted c = s.dev.targeted c := rfl
  refine ⟨fun h1 ho => ?_, fun h1 => ?_, fun h1 ho => ?_, fun h4 ht => ⟨?_, ?_⟩, fun h4 ht => ⟨?_, ?_⟩, fun h4 => ⟨?_, ?_⟩,
    fun src hsrc h0 => ⟨fun hfree => ?_, fun hused hown => ?_⟩, fun hlive => ⟨fun hf => ?_, fun hf => ?_⟩, fun m hm => Dev.resolve_alone m hm,
    fun k n l ht h5 => ?_, fun h5 h4 => ?_⟩
  · exact .of_hostWrite hs rfl (by simp [Dev.writeDiscard, hc', hctx, h1, ho])
  · exact .of_hostWrite hs rfl (by simp [Dev.writeDiscard, hc', hctx, h1])
  · exact .of_hostWrite hs rfl (by simp [Dev.writeDiscard, hc', hctx, h1, ho])
  · exact .of_hostWrite hs rfl (by simp [Dev.writeUnarm, hc', hctx, h4, htarget, ht, Dev.Ctx.staged])
  · exact .of_hostWrite hs rfl (by simp [Dev.writeRelease, hc', hctx, h4, htarget, ht])
  · exact .of_hostWrite hs rfl (by simp [Dev.writeUnarm, hc', hctx, h4, htarget, ht])
  · exact .of_hostWrite hs rfl (by simp [Dev.writeRelease, hc', hctx, h4, htarget, ht])
  · exact .of_hostWrite hs rfl (by simp [Dev.writeUnarm, hc', hctx, h4])
  · exact .of_hostWrite hs rfl (by simp [Dev.writeRelease, hc', hctx, h4])
  · exact .of_hostWrite hs rfl (by simp [Dev.writeClone, hc', Nat.not_lt.mpr hsrc, hctx, h0, hfree])
  · have hmine : ((s.dev.ctx src).code == 1 && (s.dev.ctx src).owner != some sess) = false := by
      rcases hown with h | h <;> simp [h]
    exact .of_hostWrite hs rfl (by simp [Dev.writeClone, hc', Nat.not_lt.mpr hsrc, hctx, h0, hused, hmine, Dev.Ctx.staged])
  · have hf' : s.begin_.follows = true := hf
    exact .of_hostWrite hs rfl (by rcases hlive with h | ⟨h, ht⟩ <;> simp_all [Dev.writeAbort])
  · have hf' : s.begin_.follows = false := hf
    have hmask : s.begin_.liveMask c = s.dev.liveMask c := rfl
    exact .of_hostWrite hs rfl (by rcases hlive with h | ⟨h, ht⟩ <;> simp_all [Dev.writeAbort])
  · have hval : c % 16777216 % 256 = c := by omega
    simp [Dev.applyDecision, hval, ht, h5]
  · have hno : ((s.dev.ctx c).code == 5 || ((s.dev.ctx c).code == 4 && s.dev.targeted c)) = false := by
      simpa [h5] using h4
    exact .of_hostWrite hs rfl (by simp [Dev.writeAbort, hc', hctx, htarget, hno])

/-! ### The frame of a print run -/

/-- The start that a decision of kind 13 carries (R389). -/
theorem Dev.applyDecision_start (d : Dev) {c : Nat} (hc : c ≤ 127) (k n l : Nat) :
    d.applyDecision { kind := 13, barMask := k, repeatNo := n, line := l, value := 1 + 256 * c } = d.startAt c n l := by
  have hv : (1 + 256 * c) % 16777216 = 1 + 256 * c := by omega
  have hlow : (1 + 256 * c) % 256 = 1 := by omega
  have hhigh : (1 + 256 * c) / 256 = c := by omega
  simp [Dev.applyDecision, hv, hlow, hhigh]

/-- START without the lanes of the context's tiles UP (R458). -/
theorem Dev.writeStart_lanes {d : Dev} {c : Nat} (hst : d.sys.st = .armed) (hf : d.follows = false) (hc : d.print.startCtx = some c)
    (h4 : (d.ctx c).code = 4) (hl : d.lanesReady c = false) : d.writeStart = (d, 0x08000022) := by
  simp [Dev.writeStart, hst, hf, hc, h4, hl]

/-- START on a device that follows no partner, with an Armed start context (R84, R458). -/
theorem Dev.writeStart_armed {d : Dev} {c : Nat} (hst : d.sys.st = .armed) (hf : d.follows = false) (hc : d.print.startCtx = some c)
    (h4 : (d.ctx c).code = 4) (hready : d.lanesReady c = true) :
    d.writeStart =
      (let e := if d.role == 1 then d.barList.foldl (fun e b => e.sendDigest b d.print.nextNum) d else d
       (e.resolve { kind := 13, barMask := e.allBars, repeatNo := d.print.nextNum, line := e.startPos, value := 1 + 256 * c }, 0)) := by
  simp [Dev.writeStart, hst, hf, hc, h4, hready]

theorem Dev.twinSend_product (d : Dev) (k : Nat) (b : Bytes) : (d.twinSend k b).product = d.product := by
  unfold Dev.twinSend
  split <;> rfl

theorem Dev.allBars_sendDigests (d : Dev) (n : Nat) (bs : List Nat) : (bs.foldl (fun d b => d.sendDigest b n) d).allBars = d.allBars := by
  have hp : (bs.foldl (fun d b => d.sendDigest b n) d).product = d.product :=
    foldl_keeps Dev.product (fun d _ => d.twinSend_product _ _) bs d
  simp only [Dev.allBars, Dev.nbars, hp]

/-- START takes effect at once on a device that is not the active one of a pair (R84). -/
theorem Dev.writeStart_alone {d : Dev} {c : Nat} (hst : d.sys.st = .armed) (hf : d.follows = false) (hc : d.print.startCtx = some c)
    (hle : c ≤ 127) (h4 : (d.ctx c).code = 4) (hready : d.lanesReady c = true) (hr : d.role ≠ 1) :
    d.writeStart = (d.startAt c d.print.nextNum d.startPos, 0) := by
  rw [Dev.writeStart_armed hst hf hc h4 hready]
  simp [hr, Dev.resolve_of_role_ne, Dev.applyDecision_start d hle]

/-- START on the active device of a pair sends its digests and mirrors the start (R387, R389). -/
theorem Dev.writeStart_active {d e : Dev} {c : Nat} (hst : d.sys.st = .armed) (hf : d.follows = false) (hc : d.print.startCtx = some c)
    (h4 : (d.ctx c).code = 4) (hready : d.lanesReady c = true) (hr : d.role = 1)
    (he : e = d.barList.foldl (fun e b => e.sendDigest b d.print.nextNum) d) : 
    d.writeStart = (e.resolve
      { kind := 13, barMask := d.allBars, repeatNo := d.print.nextNum, line := e.startPos, value := 1 + 256 * c }, 0) := by
  rw [Dev.writeStart_armed hst hf hc h4 hready]
  simp [hr, Dev.allBars_sendDigests, he]

/-- START without an Armed start context (R458). -/
theorem Dev.writeStart_none {d : Dev} (hst : d.sys.st = .armed) (hf : d.follows = false)
    (hno : ∀ c, d.print.startCtx = some c → (d.ctx c).code ≠ 4) : d.writeStart = (d, 0x0F000017) := by
  cases hc : d.print.startCtx with
  | none => simp [Dev.writeStart, hst, hf, hc]
  | some c => simp [Dev.writeStart, hst, hf, hc, hno c hc]

section
variable {d : Dev}

/-- The first STOP fixes the end boundary (R460). -/
theorem Dev.writeStop_first (hst : d.sys.st = .printing) (hf : d.follows = false) (he : d.print.endRep = none) :
    d.writeStop = (d.resolve { kind := 13, barMask := d.allBars, repeatNo := d.nextMet d.nextNum, line := 0, value := 2 }, 0) := by
  simp [Dev.writeStop, hst, hf, he]

/-- A second STOP has no effect (log 37). -/
theorem Dev.writeStop_again {e : Nat} (hst : d.sys.st = .printing) (hf : d.follows = false) (he : d.print.endRep = some e) :
    d.writeStop = (d, 0) := by
  simp [Dev.writeStop, hst, hf, he]

theorem Dev.writeStart_refused (h : d.sys.st ≠ .armed ∨ d.follows = true) : d.writeStart = (d, 0x08000022) := by
  rcases h with h | h <;> simp [Dev.writeStart, h]

theorem Dev.writeStop_refused (h : d.sys.st ≠ .printing ∨ d.follows = true) : d.writeStop = (d, 0x08000022) := by
  rcases h with h | h <;> simp [Dev.writeStop, h]

theorem Dev.writeStopNow_printing (h : d.sys.st = .printing ∨ d.sys.st = .stopping) (hf : d.follows = false) :
    d.writeStopNow = (d.resolve { kind := 13, barMask := d.allBars, repeatNo := d.nextNum, line := 0, value := 3 }, 0) := by
  rcases h with h | h <;> simp [Dev.writeStopNow, h, hf]

theorem Dev.writeStopNow_refused (h : (d.sys.st ≠ .printing ∧ d.sys.st ≠ .stopping) ∨ d.follows = true) :
    d.writeStopNow = (d, 0x08000022) := by
  rcases h with ⟨hp, hs⟩ | h
  · simp [Dev.writeStopNow, hp, hs]
  · simp [Dev.writeStopNow, h]

/-- One second after STOP_NOW the lines still held are revoked and Stopping ends (R461). -/
theorem Dev.stopNowTimeout_ends (h : d.print.stopNow = true) (hp : d.printingLike = true) :
    d.stopNowTimeout = (d.barList.foldl (fun d n =>
      if decide ((d.bar n).next < (d.bar n).sent) then d.revoke n (d.bar n).next else d) d).stopped := by
  simp [Dev.stopNowTimeout, h, hp]

theorem Dev.stopNowTimeout_idle (h : d.print.stopNow = false ∨ d.printingLike = false) : d.stopNowTimeout = d := by
  rcases h with h | h <;> simp [Dev.stopNowTimeout, h]

/-- Putting a generation's tables back touches the dictionary alone. -/
theorem Dev.unwriteGen_print (d : Dev) (g : Gen) : (d.unwriteGen g).print = d.print := by
  refine foldl_keeps Dev.print (fun d n => ?_) d.barList d
  refine foldl_keeps Dev.print (fun d h => ?_) _ d
  cases h.dom <;> rfl

theorem Dev.withdrawGen_print (d : Dev) : d.withdrawGen.print = d.print := by
  unfold Dev.withdrawGen
  split
  · rfl
  · exact d.unwriteGen_print _

/-- A generation whose margin is crossed unacknowledged is withdrawn (R310). -/
theorem Dev.changeLock_late {g : Gen} (hg : d.keeper.gen = some g) (ha : g.acked = false) (hm : d.met g.rep = false)
    (hp : d.print.pending = none) : d.changeLock = d.mirrorLate := by
  have hp' : d.mirrorLate.print.pending = none := by
    simp [Dev.mirrorLate, hg, ha, Dev.withdrawGen_print, hp]
  simp [Dev.changeLock, hg, ha, hm, hp']

/-- What crossing the margin of a pending change comes to, once no generation is withdrawn with it (R86, R87). -/
theorem Dev.changeLock_pending {c : Chg} (hc : d.print.pending = some c) (hp : d.printingLike = true) (hw : c.waiting = false)
    (hgen : ∀ g, d.keeper.gen = some g → g.acked = true ∨ d.met g.rep = true) :
    (d.met c.n = true → d.changeLock = d) ∧
    (d.met c.n = false → d.print.locked = none →
      d.changeLock = { d with print := { d.print with locked := some c, pending := none, shown := none } }) ∧
    (∀ k, d.met c.n = false → d.print.locked = some k →
      d.changeLock = { d with print := { d.print with pending := some { c with deferred := true, waiting := true } } }) := by
  have hkeep : d.keeper.gen = none ∨ ∃ g, d.keeper.gen = some g ∧ (!g.acked && !d.met g.rep) = false := by
    cases hg : d.keeper.gen with
    | none => exact .inl rfl
    | some g => exact .inr ⟨g, rfl, by rcases hgen g hg with h | h <;> simp [h]⟩
  refine ⟨fun h => ?_, fun h hl => ?_, fun k h hl => ?_⟩ <;> rcases hkeep with hg | ⟨g, hg, hk⟩
  · simp [Dev.changeLock, hg, hc, h]
  · simp [Dev.changeLock, hg, hk, hc, h]
  · simp [Dev.changeLock, hg, hc, hw, hp, h, hl]
  · simp [Dev.changeLock, hg, hk, hc, hw, hp, h, hl]
  · simp [Dev.changeLock, hg, hc, hw, hp, h, hl]
  · simp [Dev.changeLock, hg, hk, hc, hw, hp, h, hl]

end

/-- Settles O26, command by command; that a second STOP has no effect, and 0.002 v taken in 48.16 with the rest dropped, are the model's
readings (log 37). -/
theorem startAndStopFrameAPrintRun : Obligations.StartAndStopFrameAPrintRun := by
  unfold Obligations.StartAndStopFrameAPrintRun
  refine ⟨fun s sess c hs hst hf hc hle h4 => ⟨fun hl => ?_, fun hl => ⟨rfl, fun hr => ?_, fun hr => ?_⟩⟩, fun s sess hs => ?_,
    fun d m h => Dev.resolve_alone m h, fun d k n hst he => ?_, fun d k n => rfl, fun s h hp => ?_, fun s h => ?_⟩
  · exact .of_hostWrite hs rfl (Dev.writeStart_lanes (d := s.begin_) hst hf hc h4 hl)
  · exact .of_hostWrite hs rfl (Dev.writeStart_alone (d := s.begin_) hst hf hc hle h4 hl hr)
  · exact .of_hostWrite hs rfl (Dev.writeStart_active (d := s.begin_) hst hf hc h4 hl hr rfl)
  · refine ⟨fun h => ?_, fun hst hf hno => ?_, fun hst hf he => ?_, fun e hst hf he => ?_, fun h => ?_, fun h hf => ?_, fun h => ?_⟩
    · exact .of_hostWrite hs rfl (Dev.writeStart_refused (d := s.begin_) h)
    · exact .of_hostWrite hs rfl (Dev.writeStart_none (d := s.begin_) hst hf hno)
    · exact .of_hostWrite hs rfl (Dev.writeStop_first (d := s.begin_) hst hf he)
    · exact .of_hostWrite hs rfl (Dev.writeStop_again (d := s.begin_) hst hf he)
    · exact .of_hostWrite hs rfl (Dev.writeStop_refused (d := s.begin_) h)
    · exact .of_hostWrite hs rfl (Dev.writeStopNow_printing (d := s.begin_) h hf)
    · exact .of_hostWrite hs rfl (Dev.writeStopNow_refused (d := s.begin_) h)
  · simp [Dev.applyDecision, Dev.applyStop, hst, he]
  · exact .done (congrArg s.done (Dev.stopNowTimeout_ends (d := s.begin_) h hp))
  · exact .done (congrArg s.done (Dev.stopNowTimeout_idle (d := s.begin_) h))

/-! ### The lock of a change -/

/-- Settles O27, by the branches of `Dev.changeLock`. -/
theorem aChangeLocksAtItsMargin : Obligations.AChangeLocksAtItsMargin := by
  unfold Obligations.AChangeLocksAtItsMargin
  refine ⟨fun s g hg ha hm hp => .done (congrArg s.done (Dev.changeLock_late (d := s.begin_) hg ha hm hp)), fun s c hc hp hw hgen => ?_⟩
  obtain ⟨hmet, hlock, hdefer⟩ := Dev.changeLock_pending (d := s.begin_) hc hp hw hgen
  exact ⟨fun h => .done (congrArg s.done (hmet h)), fun h hl => ⟨.done (congrArg s.done (hlock h hl)), rfl⟩,
    fun k h hl => .done (congrArg s.done (hdefer k h hl))⟩

end Sys2Proof.Machine
end

section
/-! PROOFS. Lines rendered, sent and fired (R99, R100, R210 to R219, R251, R256, R460). -/
namespace Sys2Proof.Machine

open Sys2Proof

/-! ### Rendering and sending -/

section
variable {d : Dev} {n : Nat}

/-- Where the next line of a bar is rendered (R99, R100, R391). -/
theorem Dev.renderLine_now {e : Dev} {r : Rep} {j : Nat} (hp : d.printingLike = true) (hf : d.fast = true) (hst : d.sys.st ≠ .restarting)
    (hs : d.print.sheetStart = false) (hn : n < d.nbars) (hj : j = (d.bar n).rend) (hlead : j < d.upNext n + d.lead n 1) (he : e = d.ensure j)
    (hr : e.repAt j = some r) (hend : ∀ k, e.print.endRep = some k → r.num < k) (hout : e.engineOut n j = false)
    (hask : e.asks = true → ∀ c, r.ctx = some c → e.missingTiles n c (r.lineOf j) r = []) : d.renderLine n = e.renderNow n j r := by
  have hopen : e.print.endRep = none ∨ ∃ k, e.print.endRep = some k ∧ r.num < k := by
    cases hk : e.print.endRep with
    | none => exact .inl rfl
    | some k => exact .inr ⟨k, rfl, hend k hk⟩
  have hwant : r.ctx = none ∨ ∃ c, r.ctx = some c ∧ (e.asks = false ∨ e.missingTiles n c (r.lineOf j) r = []) := by
    cases hc : r.ctx with
    | none => exact .inl rfl
    | some c => exact .inr ⟨c, rfl, (Bool.eq_false_or_eq_true e.asks).symm.imp_right (hask · c hc)⟩
  subst hj he
  have hn' := Nat.not_le.mpr hn
  have hlead' := Nat.not_le.mpr hlead
  rcases hwant with hc | ⟨c, hc, hw⟩
  · rcases hopen with hk | ⟨k, hk, hlt⟩
    · simp [Dev.renderLine, hp, hf, hst, hs, hn', hlead', hr, hout, hk, hc]
    · simp [Dev.renderLine, hp, hf, hst, hs, hn', hlead', hr, hout, hk, Nat.not_le.mpr hlt, hc]
  · rcases hopen with hk | ⟨k, hk, hlt⟩
    · rcases hw with hw | hw <;> simp [Dev.renderLine, hp, hf, hst, hs, hn', hlead', hr, hout, hk, hc, hw]
    · rcases hw with hw | hw <;> simp [Dev.renderLine, hp, hf, hst, hs, hn', hlead', hr, hout, hk, Nat.not_le.mpr hlt, hc, hw]

/-- Beyond the render lead nothing is rendered (R99). -/
theorem Dev.renderLine_beyond (h : d.upNext n + d.lead n 1 ≤ (d.bar n).rend) : d.renderLine n = d := by
  simp [Dev.renderLine, h]

/-- A line that lays no dots in a repeat without a context is stored blank (R100). -/
theorem Dev.renderNow_blank {r : Rep} {j : Nat} (hno : d.noDots n j r = true) (hc : r.ctx = none) (hgap : j < r.gapStart d.sheet)
    (hlast : j + 1 < ceilLine r.end_) : d.renderNow n j r = d.storeLine n { line := j, rep := r.num, dots := [], tiles := [] } := by
  have hgap' : decide (r.gapStart d.sheet ≤ j) = false := by simpa using hgap
  have hlast' : decide (ceilLine r.end_ ≤ j + 1) = false := by simpa using hlast
  simp [Dev.renderNow, hno, hc, hgap', hlast']

/-- The next line of a lane that may send, with the repeat and the logical lane it belongs to (R99, R251, R256). -/
theorem Dev.sendLine_may {e : Dev} {s l : Nat} {r : Rep} (hm : d.maySend s = true) (hr : d.repAt (d.lane s).next = some r)
    (hl : d.carriedLane s = some l)
    (he : e = (d.onLane s (fun x => { x with next := (d.lane s).next + 1 })).onBar (laneBar s)
      (fun b => { b with sent := max b.sent ((d.lane s).next + 1) })) :
    (e.withheldLine (laneBar s) (d.lane s).next = false → d.sendLine s = e.emit (.linePacket (s - 1) ((d.lane s).next % 1099511627776)
      (e.packet (laneBar s) l (bits (e.g 0x3420 s) 31 24) (d.lane s).next r))) ∧
    (e.withheldLine (laneBar s) (d.lane s).next = true → d.sendLine s = e) := by
  subst he
  refine ⟨fun h => ?_, fun h => ?_⟩
  · simp [Dev.sendLine, hm, hr, hl, h]
  · simp [Dev.sendLine, hm, hr, hl, h]

theorem Dev.sendLine_not {s : Nat} (hm : d.maySend s = false) : d.sendLine s = d := by simp [Dev.sendLine, hm]

end

/-- Settles O28. -/
theorem linesAreRenderedAndSentAhead : Obligations.LinesAreRenderedAndSentAhead := by
  unfold Obligations.LinesAreRenderedAndSentAhead
  refine ⟨fun s n d r j hp hf hst hs hn hj hlead hd hr hend hout hask => ⟨.done (congrArg s.done ?_), fun hno hc hgap hlast => ?_⟩,
    fun s n h => .done (congrArg s.done (Dev.renderLine_beyond (d := s.begin_) h)), fun s k r l hm hr hl d hd => ?_,
    fun s k h => .done (congrArg s.done (Dev.sendLine_not (d := s.begin_) h))⟩
  · exact Dev.renderLine_now (d := s.begin_) hp hf hst hs hn hj hlead hd hr hend hout hask
  · exact Dev.renderNow_blank hno hc hgap hlast
  · obtain ⟨hsend, hwith⟩ := Dev.sendLine_may (d := s.begin_) hm hr hl hd
    exact ⟨fun h => .done (congrArg s.done (hsend h)), fun h => .done (congrArg s.done (hwith h))⟩

/-! ### Firing -/

section
variable {d : Dev} {n t due : Nat}

/-- Outside Fault, while lines print, a bar's next line without a waiting one falls due (R210). -/
theorem Dev.fireLine_due (hp : d.printingLike = true) (hf : d.fast = true) (hst : d.sys.st ≠ .fault) (hn : n < d.nbars)
    (hreps : d.print.reps ≠ []) (hs : d.print.sheetStart = false) (hw : (d.bar n).wait = none)
    (hdue : d.lineDueBy n (d.bar n).next t = some due) : d.fireLine n t = d.dueLine n due := by
  simp [Dev.fireLine, hp, hf, hst, Nat.not_le.mpr hn, hreps, hs, hw, hdue]

/-- Behind a waiting line the instants of later lines are kept (R214). -/
theorem Dev.fireLine_behind {w : Nat × Nat} (hp : d.printingLike = true) (hf : d.fast = true) (hst : d.sys.st ≠ .fault) (hn : n < d.nbars)
    (hreps : d.print.reps ≠ []) (hs : d.print.sheetStart = false) (hw : (d.bar n).wait = some w)
    (hdue : d.lineDueBy n ((d.bar n).next + (1 + (d.bar n).dues.length)) t = some due) :
    d.fireLine n t = d.onBar n (fun b => { b with dues := b.dues ++ [due] }) := by
  simp [Dev.fireLine, hp, hf, hst, Nat.not_le.mpr hn, hreps, hs, hw, hdue]

/-- No line falls due that the output has not reached (R210). -/
theorem Dev.fireLine_none (hst : d.sys.st ≠ .fault)
    (hdue : d.lineDueBy n ((d.bar n).next + (if (d.bar n).wait.isSome then 1 + (d.bar n).dues.length else 0)) t = none) : d.fireLine n t = d := by
  simp [Dev.fireLine, hst, hdue]

/-- A due line at the end boundary of a stop ends the bar (R460). -/
theorem Dev.dueLine_end {e : Dev} {j : Nat} (hj : j = (d.bar n).next) (he : e = d.ensure j) (h : e.endLine = some j) :
    d.dueLine n due = e.endBar n j := by
  subst hj he
  simp [Dev.dueLine, h]

/-- A due line before any end boundary (R210). -/
theorem Dev.dueLine_before {e : Dev} {j : Nat} (hj : j = (d.bar n).next) (he : e = d.ensure j) (h : ∀ x, e.endLine = some x → j < x) :
    d.dueLine n due = Dev.dueLine.go n due e j := by
  subst hj he
  cases hx : (d.ensure (d.bar n).next).endLine with
  | none => simp [Dev.dueLine, hx]
  | some x =>
    have hlt := h x hx
    simp [Dev.dueLine, hx, Nat.ne_of_gt hlt, Nat.lt_asymm hlt]

/-- What becomes of a due line after what its repeat's boundary brings: it is retired blank, fires, or waits (R211, R214). -/
theorem Dev.dueLine_go {f e : Dev} {r q : Rep} {j : Nat} (hr : d.repAt j = some r)
    (hf : f = if j = ceilLine r.d then d.boundaryAt n r else d) (hq : q = (f.rep? r.num).getD r) (he : e = f.plannedSwap n j q) :
    (∀ c, e.retireFor n j q = some c → ¬(c = 0 ∧ e.oddAlt n j q = true ∧ e.altTooFast n q = true) →
      Dev.dueLine.go n due d j = (e.retireBlank n j q c (f.prints n j q)).afterLine n j q) ∧
    (e.retireFor n j q = none → e.fireInstant n due q ≤ due → e.altTooFast n q = false →
      Dev.dueLine.go n due d j = ((e.checkDelivered n j (f.prints n j q)).strobe n j (e.fireInstant n due q) q false 0).afterLine n j q) ∧
    (e.retireFor n j q = none → (due < e.fireInstant n due q ∨ e.altTooFast n q = true) →
      Dev.dueLine.go n due d j = e.onBar n (fun b => { b with wait := some (due, e.fireInstant n due q) })) := by
  have hgo : Dev.dueLine.go n due d j = (match e.retireFor n j q with
      | some c => if c == 0 && e.oddAlt n j q && e.altTooFast n q then e.onBar n (fun b => { b with wait := some (due, due) })
        else (e.retireBlank n j q c (f.prints n j q)).afterLine n j q
      | none => if decide (due < e.fireInstant n due q) || e.altTooFast n q then
          e.onBar n (fun b => { b with wait := some (due, e.fireInstant n due q) })
        else ((e.checkDelivered n j (f.prints n j q)).strobe n j (e.fireInstant n due q) q false 0).afterLine n j q) := by
    subst he hq hf
    simp only [Dev.dueLine.go, hr, beq_iff_eq] <;> rfl
  rw [hgo]
  refine ⟨fun c hc hno => ?_, fun hc ht ha => ?_, fun hc h => ?_⟩
  · have hno' : (c == 0 && e.oddAlt n j q && e.altTooFast n q) = false := by
      rw [← Bool.not_eq_true]
      simpa [and_assoc] using hno
    simp [hc, hno']
  · simp [hc, Nat.not_lt.mpr ht, ha]
  · have hwait : (decide (due < e.fireInstant n due q) || e.altTooFast n q) = true := by simpa using h
    simp [hc, hwait]

/-- The device is `d` but for its bars and what was sent. -/
def Dev.SameButBars (d e : Dev) : Prop := ∃ bars out, e = { d with bars := bars, out := out }

theorem Dev.SameButBars.trans {d e f : Dev} (h : d.SameButBars e) (h' : e.SameButBars f) : d.SameButBars f := by
  obtain ⟨_, _, rfl⟩ := h
  obtain ⟨bars, out, rfl⟩ := h'
  exact ⟨bars, out, rfl⟩

theorem Dev.SameButBars.foldl {f : Dev → Nat → Dev} (hf : ∀ (d : Dev) s, d.SameButBars (f d s)) (ss : List Nat) (d : Dev) :
    d.SameButBars (ss.foldl f d) := by
  induction ss generalizing d with
  | nil => exact ⟨d.bars, d.out, rfl⟩
  | cons s ss ih => exact (hf d s).trans (ih _)

/-- The tag of a line changes its bar and what was sent, and nothing else (R211). -/
theorem Dev.sendTag_same (d : Dev) (n j : Nat) (b : Bool) : d.SameButBars (d.sendTag n j b) := by
  simp only [Dev.sendTag]
  split
  · exact ⟨_, _, rfl⟩
  · exact .trans ⟨_, _, rfl⟩ (.foldl (fun e s => ⟨_, _, rfl⟩) _ _)

theorem Dev.tailTag_same (d : Dev) (n : Nat) : d.SameButBars (d.tailTag n) := by
  unfold Dev.tailTag
  split
  · exact ⟨d.bars, d.out, rfl⟩
  · simp only []
    split
    · exact ⟨d.bars, d.out, rfl⟩
    · exact d.sendTag_same _ _ _

/-- Which lines a device sends does not turn on its bars (R398). -/
theorem Dev.SameButBars.lineSends {e : Dev} (h : d.SameButBars e) (j : Nat) : e.lineSends j = d.lineSends j := by
  obtain ⟨bars, out, rfl⟩ := h
  rfl

/-- After a controlled stop, a line that has come due (R409). -/
theorem Dev.fireLine_tail {j : Nat} {w : Option (Nat × Nat)} {rest : List (Nat × Option (Nat × Nat))} (hst : d.sys.st = .fault)
    (hf : d.fast = true) (hn : n < d.nbars) (ht : (d.bar n).tail = (j, w) :: rest) (hdue : d.lineDueBy n j t = some due) :
    d.fireLine n t = d.tailLine n due := by
  simp [Dev.fireLine, hst, hf, hn, ht, hdue]

/-- A held line of a controlled stop, retired blank or fired (R211, R409). -/
theorem Dev.tailLine_cases {e : Dev} {j : Nat} {w : Option (Nat × Nat)} {rest : List (Nat × Option (Nat × Nat))}
    (ht : (d.bar n).tail = (j, w) :: rest)
    (he : e = (d.tailTag n).onBar n (fun b => { b with next := j + 1, tail := rest, tagBlank := none })) :
    ((w = none ∨ ((d.tailTag n).bar n).strobeFault = true) → d.tailLine n due = (e.bump (0x5006 + 0x100 * n) 6).tailTag n) ∧
    (∀ width gap, w = some (width, gap) → ((d.tailTag n).bar n).strobeFault = false → d.lineSends j = true →
      (∀ p, ((d.tailTag n).bar n).tPrev = some p → p + gap ≤ due) →
      d.tailLine n due =
        ((e.onBar n (fun b => { b with tPrev := some due, saturated := false })).emit (.strobe n j due width (e.gb n 0x5007 3))).tailTag n) := by
  subst he
  refine ⟨fun h => ?_, fun width gap hw hsf hls hgap => ?_⟩
  · rcases w with _ | ⟨width, gap⟩
    · simp [Dev.tailLine, ht]
    · simp [Dev.tailLine, ht, h.resolve_left (by simp)]
  · subst hw
    have hsends (f : Bar → Bar) (g : Bar → Bar) : (((d.tailTag n).onBar n f).onBar n g).lineSends j = true := by
      rw [← hls, ← (d.tailTag_same n).lineSends j]
      rfl
    cases hp : ((d.tailTag n).bar n).tPrev with
    | none =>
      simp [Dev.tailLine, ht, hsf, hp, hsends]
      rfl
    | some p =>
      have hmax : max due (p + gap) = due := max_eq_left (hgap p hp)
      simp [Dev.tailLine, ht, hsf, hp, hmax, hsends]
      rfl

end

/-- Settles O29. -/
theorem linesFireRetireOrWait : Obligations.LinesFireRetireOrWait := by
  unfold Obligations.LinesFireRetireOrWait
  refine ⟨fun s n t due d f e r q j hp hf hst hn hreps hs hw hj hdue hd => ?_, fun s n t due w hp hf hst hn hreps hs hw hdue => ?_,
    fun s n t hst hdue => ?_, fun s n t due j w rest e hst hf hn ht hdue he => ?_⟩
  · have hfire : s.begin_.fireLine n t = s.begin_.dueLine n due := Dev.fireLine_due (d := s.begin_) hp hf hst hn hreps hs hw (hj ▸ hdue)
    refine ⟨fun h => .done (congrArg s.done (hfire.trans (Dev.dueLine_end (d := s.begin_) hj hd h))), fun h hr hf' hq he => ?_⟩
    have hgo := hfire.trans (Dev.dueLine_before (d := s.begin_) hj hd h)
    obtain ⟨hblank, hstrobe, hwait⟩ := Dev.dueLine_go (due := due) hr hf' hq he
    exact ⟨fun c hc hno => .done (congrArg s.done (hgo.trans (hblank c hc hno))),
      fun hc ht ha => .done (congrArg s.done (hgo.trans (hstrobe hc ht ha))), fun hc h => .done (congrArg s.done (hgo.trans (hwait hc h)))⟩
  · exact .done (congrArg s.done (Dev.fireLine_behind (d := s.begin_) hp hf hst hn hreps hs hw hdue))
  · exact .done (congrArg s.done (Dev.fireLine_none (d := s.begin_) hst hdue))
  · have hfire : s.begin_.fireLine n t = s.begin_.tailLine n due := Dev.fireLine_tail (d := s.begin_) hst hf hn ht hdue
    obtain ⟨hblank, hstrobe⟩ := Dev.tailLine_cases (d := s.begin_) (due := due) ht he
    exact ⟨fun h => .done (congrArg s.done (hfire.trans (hblank h))),
      fun width gap hw hsf hls hgap => .done (congrArg s.done (hfire.trans (hstrobe width gap hw hsf hls hgap)))⟩

end Sys2Proof.Machine
end

section
/-! PROOFS. The strobe watchdog (R218, R219), and the queues and BAR0 (R106 to R112). -/
namespace Sys2Proof.Machine

open Sys2Proof

/-! ### The strobe watchdog -/

section
variable {d : Dev} {n : Nat}

/-- The device of a cut before its event: the fault latched, counted, its cause kept (R219). -/
def Dev.strobeFaulted (d : Dev) (n cause : Nat) : Dev :=
  ((d.onBar n (fun b => { b with strobeFault := true, strobeWait := false })).bump (0x5006 + 0x100 * n) 7).put (0x5006 + 0x100 * n) 8 cause

/-- While nothing prints a cut ends with its event (R219). -/
theorem Dev.strobeCut_idle (fire cause : Nat) (h : d.printingLike = false) :
    d.strobeCut n fire cause = (d.strobeFaulted n cause).raise 46 (2 ^ n) fire cause := by
  have hp : ((d.strobeFaulted n cause).raise 46 (2 ^ n) fire cause).printingLike = false := by
    rw [← h]
    simp only [Dev.printingLike, Dev.phase, Dev.raise_sys]
    rfl
  simp only [Dev.strobeFaulted] at hp ⊢
  simp only [Dev.strobeCut, hp]
  split <;> simp

/-- The line that a cut shortened spoils its repeat while that prints (R219). -/
theorem Dev.strobeCut_spoils {e : Dev} {fire cause : Nat} {r : Rep} (he : e = (d.strobeFaulted n cause).raise 46 (2 ^ n) fire cause)
    (hr : e.repAt ((d.bar n).next - 1) = some r) (hf : (d.bar n).fired = true) (hp : d.printingLike = true)
    (hgap : (d.bar n).next - 1 < r.gapStart d.sheet) (ho : e.barOff n r = false) : d.strobeCut n fire cause = e.spoil r.num n 10 := by
  have hp' : e.printingLike = true := by
    rw [← hp, he]
    simp only [Dev.printingLike, Dev.phase, Dev.raise_sys]
    rfl
  have hs : e.sheet = d.sheet := by
    have h8 : key (0x5006 + 0x100 * n) 8 ≠ key 0x3040 1 := by simp only [key]; omega
    have h7 : key (0x5006 + 0x100 * n) 7 ≠ key 0x3040 1 := by simp only [key]; omega
    simp only [Dev.sheet, he, Dev.strobeFaulted, Dev.g_raise _ 46 _ _ _ (by decide) (show eventKey (key 0x3040 1) = false by decide),
      Dev.g_put_ne _ _ h8, Dev.g_bump_ne _ h7]
    rfl
  simp only [Dev.strobeFaulted] at he
  simp only [Dev.strobeCut, ← he, hr, hf, hp', hs, hgap, ho]
  rfl

/-- The watchdog lets no edges closer than 4.545 us pass (R218). -/
theorem Dev.le_watchdogGap (d : Dev) (n : Nat) : 1818 ≤ d.watchdogGap n := by
  unfold Dev.watchdogGap
  split
  · split
    · exact le_refl _
    · exact le_max_left _ _
  · exact le_refl _

end

/-- What the watchdog does with a pulse: cuts it for its rate, for its width, or lets it pass (R218). -/
theorem strobeWatchdog_cases {s : State} {fire : Fin 16} {active : Nat} {since : Option Nat} {n : Nat} (hn : n = (fire : Nat) / 2) :
    (n < s.dev.nbars → s.dev.fast = true → (∃ k, since = some k ∧ ((k : Nat) : Rat) < s.begin_.watchdogGap n) →
      exec (.strobeWatchdog fire ⟨active, since⟩) s = s.done (s.begin_.strobeCut n fire 2)) ∧
    (n < s.dev.nbars → s.dev.fast = true → (∀ k, since = some k → s.begin_.watchdogGap n ≤ ((k : Nat) : Rat)) →
      4 * s.begin_.live n (s.dev.bar n).rep 0x5007 2 < active →
      exec (.strobeWatchdog fire ⟨active, since⟩) s = s.done (s.begin_.strobeCut n fire 1)) ∧
    ((∀ k, since = some k → s.begin_.watchdogGap n ≤ ((k : Nat) : Rat)) → active ≤ 4 * s.begin_.live n (s.dev.bar n).rep 0x5007 2 →
      exec (.strobeWatchdog fire ⟨active, since⟩) s = s.done s.begin_) := by
  have hexec : exec (.strobeWatchdog fire ⟨active, since⟩) s = execStrobeWatchdog fire ⟨active, since⟩ s := rfl
  have hbar : s.begin_.bar n = s.dev.bar n := rfl
  have hnb : s.begin_.nbars = s.dev.nbars := rfl
  have hfast : s.begin_.fast = s.dev.fast := rfl
  subst hn
  rw [hexec]
  refine ⟨fun hlt hf h => ?_, fun hlt hf h hw => ?_, fun h hw => ?_⟩
  · obtain ⟨k, rfl, hk⟩ := h
    simp [execStrobeWatchdog, hnb, hfast, Nat.not_le.mpr hlt, hf, hk]
  · cases since with
    | none => simp [execStrobeWatchdog, hnb, hfast, hbar, Nat.not_le.mpr hlt, hf, hw]
    | some k => simp [execStrobeWatchdog, hnb, hfast, hbar, Nat.not_le.mpr hlt, hf, hw, not_lt.mpr (h k rfl)]
  · cases since with
    | none => simp [execStrobeWatchdog, hbar, Nat.not_lt.mpr hw]
    | some k => simp [execStrobeWatchdog, hbar, Nat.not_lt.mpr hw, not_lt.mpr (h k rfl)]

/-- The row of 0x5007:04. -/
def strobeClearRow : ObjRow := ⟨0x5007, 0x100, 8, 0x4, 0x4, .u 1, .wo, 0, .imm, .rg 0 1⟩

/-- A bar that the product has has 0x5007:04, another has no such object (R2). -/
theorem rowsOf_strobeClear_present {d : Dev} (n : Fin 8) :
    ((n : Nat) < d.nbars → (rowsOf d.product (0x5007 + 0x100 * n)).find? (fun r => r.hasSub 4) = some strobeClearRow) ∧
    (d.nbars ≤ (n : Nat) → rowsOf d.product (0x5007 + 0x100 * n) = []) := by
  have hall : ∀ n : Fin 8, ((pageOf ((0x5007 + 0x100 * n) / 256)).filter (fun r => r.hasIdx (0x5007 + 0x100 * n))).find?
      (fun r => r.hasSub 4) = some strobeClearRow := by decide
  have hn := n.isLt
  refine ⟨fun h => ?_, fun h => ?_⟩
  · have hc : (d.product == 0x2204 && decide (0x5400 ≤ 0x5007 + 0x100 * (n : Nat) ∧ 0x5007 + 0x100 * (n : Nat) ≤ 0x57FF)) = false := by
      by_cases hp : d.product = 0x2204
      · have h4 : (n : Nat) < 4 := by simpa [Dev.nbars, hp] using h
        simp; omega
      · simp [hp]
    rw [← hall n, rowsOf]
    simp only [hc]
    rfl
  · have hp : d.product = 0x2204 := by
      by_contra hp
      simp only [Dev.nbars, beq_iff_eq, hp, if_false] at h
      omega
    have h4 : 4 ≤ (n : Nat) := by simpa [Dev.nbars, hp] using h
    have hc : (d.product == 0x2204 && decide (0x5400 ≤ 0x5007 + 0x100 * (n : Nat) ∧ 0x5007 + 0x100 * (n : Nat) ≤ 0x57FF)) = true := by
      simp [hp]; omega
    simp only [rowsOf, hc]
    rfl

/-- 0x5007 of a bar is no command, belongs to no context, and is not served in recovery service. -/
theorem strobeClear_object : ∀ n : Fin 8, commandObject (0x5007 + 0x100 * n) = false ∧ ofContext (0x5007 + 0x100 * n) = false ∧
    Dev.recovery (0x5007 + 0x100 * n) = false := by decide

/-- 1 is a value of 0x5007:04. -/
theorem strobeClear_value (product : Nat) (n : Fin 8) : valueCode product (0x5007 + 0x100 * n) 4 strobeClearRow [1] = 0 := by
  fin_cases n <;> rfl

/-- Settles O30. -/
theorem strobeFaultsLatchUntilCleared : Obligations.StrobeFaultsLatchUntilCleared := by
  unfold Obligations.StrobeFaultsLatchUntilCleared
  refine ⟨fun s fire active cause n since hn hlt hf hcut => ?_, fun s fire active since h hw => .done ((strobeWatchdog_cases rfl).2.2 h hw),
    fun d e n fire cause r he hr hfired hp hgap ho => Dev.strobeCut_spoils he hr hfired hp hgap ho, fun d n => d.le_watchdogGap n,
    fun s sess n hs hlt => ?_, fun s sess n x hx hp hv ho hlt => ?_⟩
  · have hexec : exec (.strobeWatchdog fire ⟨active, since⟩) s = s.done (s.begin_.strobeCut n fire cause) := by
      obtain ⟨hrate, hwidth, -⟩ := strobeWatchdog_cases (s := s) (active := active) (since := since) hn
      rcases hcut with ⟨rfl, h⟩ | ⟨rfl, h, hw⟩
      · exact hrate hlt hf h
      · exact hwidth hlt hf h hw
    have hcause : cause = cause % 4294967296 := by rcases hcut with ⟨rfl, -⟩ | ⟨rfl, -⟩ <;> rfl
    exact ⟨.done hexec, fun hp => .of_raise (hexec.trans (congrArg s.done (Dev.strobeCut_idle (d := s.begin_) fire cause hp))) rfl rfl (le_refl _)
      hcause (by decide)⟩
  · obtain ⟨x, hx, hp, hv, ho, hg, hserved⟩ := hs
    obtain ⟨hcmd, hctx, hrec⟩ := strobeClear_object n
    have hver : s.begin_.sys.verified = true := by simpa [Dev.served, hrec] using hserved
    have hacc := Dev.access_ok (d := s.begin_) hver x ((rowsOf_strobeClear_present n).1 hlt) hg hctx
    have hw : s.begin_.writable x (0x5007 + 0x100 * n) 4 ([1] : Bytes).length = .ok strobeClearRow := by
      have hkey : ¬0x5007 + 0x100 * (n : Nat) = 0x1450 := by omega
      simp [Dev.writable, hacc, strobeClearRow, lengthOk, Ty.size, hkey]
    have hbar : (0x5007 + 0x100 * (n : Nat) - 0x5000) / 256 = n := by omega
    refine .done ((hostObject_served hx hp hv ho (by omega) (by omega)).trans ?_)
    rw [Dev.write_scalar hw (strobeClear_value _ n) (by decide) (by omega), Dev.writeScalar_plain hcmd (by omega), hctx, hbar]
    rfl
  · have hacc : s.begin_.access x (0x5007 + 0x100 * n) 4 = .error 0x06020000 := by
      have hrow : rowsOf s.begin_.product (0x5007 + 0x100 * n) = [] := (rowsOf_strobeClear_present (d := s.begin_) n).2 hlt
      simp only [Dev.access, hrow]
      rfl
    refine .done ((hostObject_served hx hp hv ho (by omega) (by omega)).trans ?_)
    rw [Dev.write_no_access hacc]

end Sys2Proof.Machine
end

section
/-! PROOFS. The DMA queues and their BAR0 registers (R106 to R112). -/
namespace Sys2Proof.Machine

open Sys2Proof

/-- Of two writes of one entry the second stays. -/
theorem Table.set_set {α : Type} (t : Table α) (k : Nat) (v w : α) : (t.set k v).set k w = t.set k w := by
  induction t with
  | nil => simp [Table.set]
  | cons e t ih =>
    obtain ⟨j, x⟩ := e
    by_cases hj : j = k
    · simp [Table.set, hj]
    · by_cases hlt : k < j
      · simp [Table.set, hj, hlt]
      · simp [Table.set, hj, hlt, ih]

@[simp] theorem Dev.setQueue_setQueue (d : Dev) (q : Nat) (x y : Queue) : (d.setQueue q x).setQueue q y = d.setQueue q y := by
  simp [Dev.setQueue, Table.set_set]

/-! ### Queue registers -/

section
variable {d : Dev} {q : Nat}

theorem Dev.writeTail_inside {tail : Nat} (h : tail < 2 ^ (d.queue q).order) : d.writeTail q tail = d.setQueue q { d.queue q with tail := tail } := by
  simp only [Dev.writeTail, Nat.not_le.mpr h, decide_false, Bool.false_eq_true, if_false]

theorem Dev.writeTail_outside {tail : Nat} (h : 2 ^ (d.queue q).order ≤ tail) :
    d.writeTail q tail = (d.setQueue q { d.queue q with tail := tail, cfgErr := true, halted := true }).raise 31 := by
  simp only [Dev.writeTail, h, decide_true, if_true]

theorem Dev.enableQueue_valid {order : Nat} (irq : Bool) (h4 : 4 ≤ order) (h12 : order ≤ 12) : d.enableQueue q order irq =
    d.setQueue q { d.queue q with
      order := order, irqEn := irq, enabled := true, cfgErr := false, halted := (d.queue q).halted && !(d.queue q).cfgErr } := by
  have hmod : order % 16 = order := by omega
  simp [Dev.enableQueue, h4, h12, hmod]

theorem Dev.enableQueue_invalid {order : Nat} (irq : Bool) (hlt : order < 16) (h : order < 4 ∨ 12 < order) : d.enableQueue q order irq =
    (d.setQueue q { d.queue q with order := order, irqEn := irq, enabled := true, cfgErr := true, halted := true }).raise 31 := by
  have hmod : order % 16 = order := by omega
  have hno : ¬(4 ≤ order ∧ order ≤ 12) := by omega
  simp only [Dev.enableQueue, hno, decide_false, Bool.false_eq_true, if_false, hmod]

theorem Dev.restartQueue_valid (h4 : 4 ≤ (d.queue q).order) (h12 : (d.queue q).order ≤ 12) (ht : (d.queue q).tail < 2 ^ (d.queue q).order) :
    d.restartQueue q = d.setQueue q { d.queue q with halted := false, cfgErr := false } := by
  simp [Dev.restartQueue, h4, h12, ht]

theorem Dev.restartQueue_invalid (h : (d.queue q).order < 4 ∨ 12 < (d.queue q).order ∨ 2 ^ (d.queue q).order ≤ (d.queue q).tail) :
    d.restartQueue q = d := by
  have hno : ¬(4 ≤ (d.queue q).order ∧ (d.queue q).order ≤ 12 ∧ (d.queue q).tail < 2 ^ (d.queue q).order) := by omega
  simp only [Dev.restartQueue, hno, decide_false, Bool.false_eq_true, if_false]

/-- A failed transfer completes its descriptor with the status, moved bytes open, and halts its queue (R111). -/
theorem Dev.haltQueue_busy {e : Dev} {st : Nat} {desc : Desc} (h : d.queueReady q = true ∨ (d.queue q).check ≠ none)
    (he : e = d.drew.complete q desc st (d.freeNat % 4294967296) (match (d.queue q).check with
      | some k => k.hdr.tileId
      | none => 0)) :
    d.haltQueue q desc st = (e.setQueue q { e.queue q with halted := true, lastErr := st }).raise 16 := by
  have hgo : (!((d.queue q).check.isSome || d.queueReady q)) = false := by
    rcases h with h | h
    · simp [h]
    · simp [Option.isSome_iff_ne_none.mpr h]
  subst he
  simp only [Dev.haltQueue, hgo, Bool.false_eq_true, if_false] <;> rfl

/-! ### BAR0 -/

/-- A write of four bytes is one word. -/
theorem Dev.barWords_word {v : Nat} (off : Nat) (hv : v < 2 ^ 32) : Dev.barWords off (leBytes 4 v) = [(off, v)] := by
  have h := leNat_leBytes 4 v hv
  simp only [leBytes] at h ⊢
  simp only [Dev.barWords, h]

/-- A word written to a queue's registers (Table 4.2). -/
theorem Dev.writeWord_queue {r v : Nat} (hq : q < 16) (hr : r < 256) : d.writeWord (256 * q + r) v = d.writeQueueWord q r v := by
  have hoff : 256 * q + r < 0x1000 := by omega
  have hdiv : (256 * q + r) / 256 = q := by omega
  have hmod : (256 * q + r) % 256 = r := by omega
  simp [Dev.writeWord, hoff, hdiv, hmod]

/-- A word read of a queue's registers (Table 4.2). -/
theorem Dev.barWord_queue {r : Nat} (hq : q < 16) (hr : r < 256) : d.barWord (256 * q + r) = Dev.queueWord (d.queue q) r := by
  have hoff : 256 * q + r < 0x1000 := by omega
  have hdiv : (256 * q + r) / 256 = q := by omega
  have hmod : (256 * q + r) % 256 = r := by omega
  simp [Dev.barWord, hoff, hdiv, hmod]

/-- Q_CTRL written with ENABLE 0 disables the queue under its new ring order and IRQ_EN (Table 4.3). -/
theorem Dev.writeCtrl_disable {v : Nat} (h0 : bit v 0 = false) (h1 : bit v 1 = false) : d.writeCtrl q v =
    d.setQueue q { d.queue q with order := v / 4096 % 16, irqEn := bit v 2, enabled := false } := by
  simp [Dev.writeCtrl, h0, h1, Dev.disableQueue]

/-- ENABLE written 1 to a queue that is not enabled (R108). -/
theorem Dev.writeCtrl_enable {v : Nat} (h0 : bit v 0 = true) (h1 : bit v 1 = false) (he : (d.queue q).enabled = false) :
    d.writeCtrl q v = d.enableQueue q (v / 4096 % 16) (bit v 2) := by
  simp [Dev.writeCtrl, h0, h1, he]

/-- RESTART written to an enabled queue whose other fields stay (R111). -/
theorem Dev.writeCtrl_restart {v : Nat} (h0 : bit v 0 = true) (h1 : bit v 1 = true) (he : (d.queue q).enabled = true)
    (ho : v / 4096 % 16 = (d.queue q).order) (hi : bit v 2 = (d.queue q).irqEn) :
    d.writeCtrl q v = (d.setQueue q (d.queue q)).restartQueue q := by
  have h : d.writeCtrl q v = (d.setQueue q { d.queue q with order := v / 4096 % 16, irqEn := bit v 2 }).restartQueue q := by
    simp [Dev.writeCtrl, h0, h1, he]
  rw [h, ho, hi]

end

/-- Where BAR0 is open, a word written to it is that word's write, but for a doorbell (R106). -/
theorem exec_barWrite_word {s : State} {off v : Nat} (ho : s.begin_.barOpen = true) (hv : v < 2 ^ 32) (hne : off ≠ 0xA000) :
    exec (.pcieConfigRequest (.barWrite off (leBytes 4 v))) s = s.done (s.begin_.writeWord off v) := by
  have hbell : [(off, v)].contains (0xA000, 1) = false := by simp [hne.symm]
  show execPcieConfigRequest (.barWrite off (leBytes 4 v)) s = _
  simp only [execPcieConfigRequest, Dev.barWords_word off hv, hbell, Dev.pcieRequest, ho]
  rfl

/-- 1 written to the doorbell submits the message in the window (R107). -/
theorem exec_barWrite_doorbell {s : State} (ho : s.begin_.barOpen = true) :
    exec (.pcieConfigRequest (.barWrite 0xA000 (leBytes 4 1))) s =
      exec (.mbH2dDoorbell (leNat (Dev.winGet s.dev.jobs.mbIn 0 4)) s.dev.windowMsg) s := by
  show execPcieConfigRequest (.barWrite 0xA000 (leBytes 4 1)) s = _
  have hbell : [(0xA000, 1)].contains (0xA000, 1) = true := by decide
  simp only [execPcieConfigRequest, Dev.barWords_word 0xA000 (show 1 < 2 ^ 32 by decide), hbell, ho]
  rfl

/-- A BAR0 access where the endpoint does not serve, or was not enumerated, does nothing (R470). -/
theorem exec_bar_closed {s : State} (ho : s.begin_.barOpen = false) (off n : Nat) (b : Bytes) :
    exec (.pcieConfigRequest (.barRead off n)) s = s.done s.begin_ ∧ exec (.pcieConfigRequest (.barWrite off b)) s = s.done s.begin_ := by
  refine ⟨?_, ?_⟩
  · show execPcieConfigRequest (.barRead off n) s = _
    simp only [execPcieConfigRequest, Dev.pcieRequest, ho, Bool.false_eq_true, if_false]
  · show execPcieConfigRequest (.barWrite off b) s = _
    simp only [execPcieConfigRequest, Dev.pcieRequest, ho, Bool.false_eq_true, Bool.false_and, if_false]

/-- Settles O31. That a valid ENABLE clears CFG_ERR and the halt it caused is the model's reading (log 42); BAR0 by words, and RESTART under
an invalid configuration, are its choices (logs 43, 95). -/
theorem queuesRunHaltAndRestart : Obligations.QueuesRunHaltAndRestart := by
  unfold Obligations.QueuesRunHaltAndRestart
  refine ⟨fun s q tail => ⟨fun h => ?_, fun h => ?_⟩, fun s q order irq hlt => ⟨fun h4 h12 => ?_, fun h => ?_⟩, fun s q => .done rfl,
    fun s q h4 h12 ht => ?_, fun s q h => ?_, fun s q desc h => ⟨.done rfl, .done rfl⟩, fun d e q st desc h he => Dev.haltQueue_busy h he,
    fun s off n v b q opened hop => ?_, fun d q hq => ?_⟩
  · exact .done (congrArg s.done (Dev.writeTail_inside (d := s.begin_) h))
  · exact .of_raise (congrArg s.done (Dev.writeTail_outside (d := s.begin_) h)) rfl rfl (le_refl _) rfl (by decide)
  · exact .done (congrArg s.done (Dev.enableQueue_valid (d := s.begin_) irq h4 h12))
  · exact .of_raise (congrArg s.done (Dev.enableQueue_invalid (d := s.begin_) irq hlt h)) rfl rfl (le_refl _) rfl (by decide)
  · exact .done (congrArg s.done (Dev.restartQueue_valid (d := s.begin_) h4 h12 ht))
  · exact .done (congrArg s.done (Dev.restartQueue_invalid (d := s.begin_) h))
  · have hopen : opened ↔ s.begin_.barOpen = true := by
      rw [hop]
      show _ ↔ (s.dev.fast && s.dev.jobs.link && s.dev.jobs.enumerated) = true
      simp [and_assoc]
    have hq := q.isLt
    refine ⟨fun h => ?_, fun h => ?_, fun h hv hb => ?_⟩
    · have hclosed := exec_bar_closed (s := s) (Bool.eq_false_iff.mpr (fun h' => h (hopen.mpr h'))) off n b
      exact ⟨.done hclosed.1, .done hclosed.2⟩
    · refine .done (congrArg s.done ?_)
      simp only [Dev.pcieRequest, hopen.mp h, if_true]
      rfl
    · have ho := hopen.mp h
      subst hb
      have hword {r : Nat} (hr : r < 256) : exec (.pcieConfigRequest (.barWrite (256 * q + r) (leBytes 4 v))) s =
          s.done (s.begin_.writeQueueWord q r v) := by
        rw [exec_barWrite_word ho hv (by omega), Dev.writeWord_queue hq hr]
      have hword0 : exec (.pcieConfigRequest (.barWrite (256 * q) (leBytes 4 v))) s = s.done (s.begin_.writeQueueWord q 0 v) :=
        hword (r := 0) (by decide)
      refine ⟨hword (by decide), ?_, exec_barWrite_doorbell ho, fun h0 h1 he => ?_, fun h0 h1 he hord hirq => ?_, fun h0 h1 => ?_,
        .done hword0, .done (hword (by decide)), .done (hword (by decide)), .done ?_⟩
      · exact exec_barWrite_word ho (by decide) (by decide)
      · exact (hword (by decide)).trans (congrArg s.done (Dev.writeCtrl_enable (d := s.begin_) h0 h1 he))
      · exact (hword (by decide)).trans (congrArg s.done (Dev.writeCtrl_restart (d := s.begin_) h0 h1 he hord hirq))
      · exact .done ((hword (by decide)).trans (congrArg s.done (Dev.writeCtrl_disable (d := s.begin_) h0 h1)))
      · exact exec_barWrite_word ho hv (by decide)
  · have hq0 : d.barWord (256 * q) = Dev.queueWord (d.queue q) 0 := Dev.barWord_queue (r := 0) hq (by decide)
    exact ⟨Dev.barWord_queue hq (by decide), Dev.barWord_queue hq (by decide), hq0, Dev.barWord_queue hq (by decide),
      Dev.barWord_queue hq (by decide), Dev.barWord_queue hq (by decide), Dev.barWord_queue hq (by decide), rfl, rfl, rfl, rfl, rfl⟩

/-! ### Descriptors -/

section
variable {s : State} {q : Fin 16} {desc : Desc}

/-- A PUT_FRAME with a whole header waits for its decode, or is refused at once (R118). -/
theorem exec_putFrame_whole (h : FrameHdr) (p : Bytes) (hq : s.dev.queueReady q = true) (hlen : 32 ≤ desc.length) :
    (s.dev.headerStatus desc h = none → exec (.putFrame q desc h p) s =
      s.done (s.begin_.setQueue q { s.dev.queue q with check := some { desc := desc, hdr := h, payload := p } })) ∧
    (∀ st, s.dev.headerStatus desc h = some st → exec (.putFrame q desc h p) s =
      s.done (((s.begin_.refuseFrame st h.tileId).drew).complete q desc st (s.dev.freeNat % 4294967296) h.tileId)) := by
  have hne : desc.length ≠ 0 := by omega
  have hno : ¬desc.length < 32 := by omega
  have hst : s.begin_.headerStatus desc h = s.dev.headerStatus desc h := rfl
  refine ⟨fun hs => ?_, fun st hs => ?_⟩
  · simp only [exec_putFrame, execPutFrame, State.begin_queueReady, hq, hst, hs, hno, beq_iff_eq, hne]
    rfl
  · simp only [exec_putFrame, execPutFrame, State.begin_queueReady, hq, hst, hs, hno, beq_iff_eq, hne]
    rfl

/-- What FREE_FRAME answers for a stored frame, and for another (R115). -/
theorem exec_freeFrame_cases (hq : s.dev.queueReady q = true) (hne : desc.length ≠ 0) :
    (∀ f, s.dev.frame? desc.kind desc.arg = some f → s.dev.inUse desc.kind desc.arg = false → exec (.freeFrame q desc) s =
      s.done ({ s.begin_ with jobs := { s.dev.jobs with frames := s.dev.jobs.frames.erase (frameKey desc.kind desc.arg) } } |>.complete q desc 0 0 desc.arg)) ∧
    (∀ f, s.dev.frame? desc.kind desc.arg = some f → s.dev.inUse desc.kind desc.arg = true → exec (.freeFrame q desc) s =
      s.done (s.begin_.complete q desc 0x22 0 desc.arg)) ∧
    (s.dev.frame? desc.kind desc.arg = none → exec (.freeFrame q desc) s = s.done (s.begin_.complete q desc 0x23 0 desc.arg)) := by
  have hf : s.begin_.frame? desc.kind desc.arg = s.dev.frame? desc.kind desc.arg := rfl
  have hu : s.begin_.inUse desc.kind desc.arg = s.dev.inUse desc.kind desc.arg := rfl
  refine ⟨fun f h hfree => ?_, fun f h huse => ?_, fun h => ?_⟩
  · simp only [exec_freeFrame, execFreeFrame, State.begin_queueReady, hq, beq_iff_eq, hne, hf, h, hu, hfree]
    rfl
  · simp only [exec_freeFrame, execFreeFrame, State.begin_queueReady, hq, beq_iff_eq, hne, hf, h, hu, huse]
    rfl
  · simp only [exec_freeFrame, execFreeFrame, State.begin_queueReady, hq, beq_iff_eq, hne, hf, h]
    rfl

/-- What FREE_STREAM answers (R115); a stream without a stored frame is not found (log 101). -/
theorem exec_freeStream_cases {mine : Nat → Frame → Bool} (hq : s.dev.queueReady q = true) (hne : desc.length ≠ 0)
    (hm : mine = fun k f => k / 2 ^ 64 == desc.kind && f.hdr.tileId / 4294967296 == desc.arg / 4294967296) :
    (s.dev.jobs.frames.keysWhere mine = [] → exec (.freeStream q desc) s = s.done (s.begin_.complete q desc 0x23 0 0)) ∧
    (s.dev.jobs.frames.keysWhere mine ≠ [] → (∀ k ∈ s.dev.jobs.frames.keysWhere mine, s.dev.inUse desc.kind (k % 2 ^ 64) = false) →
      exec (.freeStream q desc) s =
        s.done ({ s.begin_ with jobs := { s.dev.jobs with frames := s.dev.jobs.frames.keep (fun k f => !mine k f) } } |>.complete q desc 0 0 0)) ∧
    (s.dev.jobs.frames.keysWhere mine ≠ [] → (∃ k ∈ s.dev.jobs.frames.keysWhere mine, s.dev.inUse desc.kind (k % 2 ^ 64) = true) →
      exec (.freeStream q desc) s = s.done (s.begin_.complete q desc 0x22 0 0)) := by
  have hexec : exec (.freeStream q desc) s = s.done (if (s.dev.jobs.frames.keysWhere mine).isEmpty then s.begin_.complete q desc 0x23 0 0
      else if (s.dev.jobs.frames.keysWhere mine).any (fun k => s.dev.inUse desc.kind (k % 2 ^ 64)) then s.begin_.complete q desc 0x22 0 0
      else ({ s.begin_ with jobs := { s.dev.jobs with frames := s.dev.jobs.frames.keep (fun k f => !mine k f) } } : Dev).complete q desc 0 0 0) := by
    subst hm
    simp only [exec_freeStream, execFreeStream, State.begin_queueReady, hq, beq_iff_eq, hne]
    rfl
  rw [hexec]
  refine ⟨fun h => by rw [h]; rfl, fun h hfree => ?_, fun h huse => ?_⟩
  · have hany : (s.dev.jobs.frames.keysWhere mine).any (fun k => s.dev.inUse desc.kind (k % 2 ^ 64)) = false :=
      List.any_eq_false.mpr fun k hk => Bool.eq_false_iff.mp (hfree k hk)
    rw [if_neg (by simpa using h), if_neg (by simp only [hany]; decide)]
  · have hany : (s.dev.jobs.frames.keysWhere mine).any (fun k => s.dev.inUse desc.kind (k % 2 ^ 64)) = true := List.any_eq_true.mpr huse
    rw [if_neg (by simpa using h), if_pos hany]

/-- What GET_EXPORT answers (R126, Table 4.6). -/
theorem exec_getExport_cases (hq : s.dev.queueReady q = true) (hne : desc.length ≠ 0) :
    (s.dev.jobs.exports.find? (fun e => e.waiting.isNone) = none → exec (.getExport q desc) s = s.done (s.begin_.complete q desc 0x23 0 0)) ∧
    (∀ e, s.dev.jobs.exports.find? (fun e => e.waiting.isNone) = some e →
      (32 + e.hdr.clen ≤ desc.length → exec (.getExport q desc) s =
        s.done (({ s.begin_.emit (.hostWrite desc.hostAddr (hdrBytes e.hdr ++ e.data)) with
          jobs := { s.dev.jobs with exports := s.dev.jobs.exports.erase e } } : Dev).complete q desc 0 (32 + e.hdr.clen) e.hdr.tileId)) ∧
      (desc.length < 32 + e.hdr.clen → exec (.getExport q desc) s = s.done (s.begin_.complete q desc 0x25 0 e.hdr.tileId))) := by
  have hexports : s.begin_.jobs.exports = s.dev.jobs.exports := rfl
  refine ⟨fun h => ?_, fun e h => ⟨fun hfit => ?_, fun hlong => ?_⟩⟩
  · simp only [exec_getExport, execGetExport, State.begin_queueReady, hq, beq_iff_eq, hne, hexports, h]
    rfl
  · simp only [exec_getExport, execGetExport, State.begin_queueReady, hq, beq_iff_eq, hne, hexports, h, Nat.not_lt.mpr hfit]
    rfl
  · simp only [exec_getExport, execGetExport, State.begin_queueReady, hq, beq_iff_eq, hne, hexports, h, hlong]
    rfl

/-- How a frame's check ends (R118 to R120). -/
theorem exec_frameCheck_cases {k : Check} (hk : (s.dev.queue q).check = some k) :
    (∀ st data, decodePayload (s.dev.historyOf k.hdr) (k.hdr.flags % 4) k.hdr.ulen k.hdr.crc (k.payload.take k.hdr.clen) = (st, data) →
      exec (.frameCheckDone q) s = s.done ((if st == 0 then s.begin_.acceptFrame (s.begin_.accepted k.hdr (k.payload.take k.hdr.clen) data)
        else s.begin_.refuseFrame st k.hdr.tileId).complete q k.desc st k.desc.length k.hdr.tileId)) ∧
    exec (.frameCheckTimeout q) s = s.done ((s.begin_.refuseFrame 0x28 k.hdr.tileId).complete q k.desc 0x28 k.desc.length k.hdr.tileId) := by
  have hk' : (s.begin_.queue q).check = some k := hk
  refine ⟨fun st data h => ?_, ?_⟩
  · show execFrameCheckDone q s = _
    have hh : s.begin_.historyOf k.hdr = s.dev.historyOf k.hdr := rfl
    simp only [execFrameCheckDone, hk', hh, h]
  · show execFrameCheckTimeout q s = _
    simp only [execFrameCheckTimeout, hk']

end

/-- Settles O33, command by command; that a frame refused at its header leaves BYTES open, and that CHECK_TIMEOUT counts as a refused
frame, are the model's readings (log 42). -/
theorem descriptorsCompleteWithTheirStatus : Obligations.DescriptorsCompleteWithTheirStatus := by
  unfold Obligations.DescriptorsCompleteWithTheirStatus
  refine ⟨fun s q desc h p hq hlen hs => .done ((exec_putFrame_whole h p hq hlen).1 hs),
    fun s q desc h p st hq hlen hs => .done ((exec_putFrame_whole h p hq hlen).2 st hs), fun s q k hk => ?_, fun s q desc hq hne => ?_⟩
  · obtain ⟨hdone, htimeout⟩ := exec_frameCheck_cases hk
    refine ⟨fun data h => .done (hdone 0 data h), fun st data hst h => .done ((hdone st data h).trans ?_), .done htimeout⟩
    rw [if_neg (by simpa using hst)]
  · obtain ⟨hfree, huse, hnone⟩ := exec_freeFrame_cases hq hne
    obtain ⟨hempty, hfits⟩ := exec_getExport_cases hq hne
    refine ⟨fun f hf => ⟨fun h => .done (hfree f hf h), fun h => .done (huse f hf h)⟩, fun h => .done (hnone h), fun mine hm => ?_,
      fun h => .done (hempty h), fun e he => ⟨fun h => .done ((hfits e he).1 h), fun h => .done ((hfits e he).2 h)⟩⟩
    obtain ⟨hno, hall, hany⟩ := exec_freeStream_cases hq hne hm
    exact ⟨fun h => .done (hno h), fun h => ⟨fun ha => .done (hall h ha), fun ha => .done (hany h ha)⟩⟩

end Sys2Proof.Machine
end

section
/-! PROOFS. The mailbox, exports and request entries (R107, R125, R126, R129). -/
namespace Sys2Proof.Machine

open Sys2Proof

section
variable {s : State}

/-- What a doorbell comes to (R107). -/
theorem exec_doorbell_cases (n : Nat) (m : Dgram) :
    (s.dev.jobs.link = true → s.dev.sys.verified = true → 16 ≤ n → n ≤ 1472 → exec (.mbH2dDoorbell n m) s =
      ({ s with dev := s.dev.emptyIn } : State).serve { m with via := .mailbox, udpPort := 34980, src := 0, fragments := false }) ∧
    (s.dev.jobs.link = true → s.dev.sys.verified = true → (n < 16 ∨ 1472 < n) →
      exec (.mbH2dDoorbell n m) s = s.done (s.begin_.emptyIn.dropMsg 2)) ∧
    ((s.dev.jobs.link = false ∨ s.dev.sys.verified = false) → exec (.mbH2dDoorbell n m) s = s.done s.begin_) := by
  have hexec : exec (.mbH2dDoorbell n m) s = (if !s.dev.jobs.link || !s.dev.sys.verified then s.done s.begin_
      else if decide (n < 16 ∨ 1472 < n) then s.done (s.begin_.emptyIn.dropMsg 2)
      else ({ s with dev := s.dev.emptyIn } : State).serve { m with via := .mailbox, udpPort := 34980, src := 0, fragments := false }) := rfl
  rw [hexec]
  refine ⟨fun hl hv h16 hmax => ?_, fun hl hv h => ?_, fun h => ?_⟩
  · have hno : ¬(n < 16 ∨ 1472 < n) := by omega
    simp only [hl, hv, hno, decide_false, Bool.not_true, Bool.or_self, Bool.false_eq_true, if_false]
  · simp only [hl, hv, h, decide_true, Bool.not_true, Bool.or_self, Bool.false_eq_true, if_false, if_true]
  · rcases h with h | h <;> simp [h]

/-- The host's acknowledgement with no message waiting, and with one (R107). -/
theorem Dev.ackWindow_cases (d : Dev) :
    (d.jobs.d2hWait = [] → d.ackWindow = { d with jobs := { d.jobs with d2hFull := false } }) ∧
    (∀ m r, d.jobs.d2hWait = m :: r → d.ackWindow = ({ d with jobs := { d.jobs with d2hWait := r } } : Dev).fillWindow m) :=
  ⟨fun h => by simp only [Dev.ackWindow, h], fun m r h => by simp only [Dev.ackWindow, h]⟩

/-- What becomes of a camera's oldest of the waiting exports (R125, R126). -/
theorem exec_export_waiting {c : Fin 6} {e : Export} (h : s.dev.jobs.exports.find? (fun e => e.cam == (c : Nat) && e.waiting.isSome) = some e) :
    (s.dev.freeBuffers ≠ 0 → exec (.exportResume c) s = s.done { s.begin_ with jobs := { s.dev.jobs with
      exports := s.dev.jobs.exports.map (fun x => if x == e then s.begin_.encodeOn e else x) } }) ∧
    (s.dev.freeBuffers = 0 → exec (.exportResume c) s = s.done s.begin_) ∧
    exec (.exportTimeout c) s = s.done (s.begin_.dropExport e) := by
  have hfree : s.begin_.freeBuffers = s.dev.freeBuffers := rfl
  have h' : s.begin_.jobs.exports.find? (fun e => e.cam == (c : Nat) && e.waiting.isSome) = some e := h
  refine ⟨fun hb => ?_, fun hb => ?_, ?_⟩
  · show execExportResume c s = _
    simp only [execExportResume, h', hfree, beq_iff_eq, hb, if_false]
    rfl
  · show execExportResume c s = _
    simp only [execExportResume, h', hfree, beq_iff_eq, hb, if_true]
  · show execExportTimeout c s = _
    simp only [execExportTimeout, h']

/-- Where the camera has no waiting exports nothing moves (R126). -/
theorem exec_export_none {c : Fin 6} (h : ∀ e ∈ s.dev.jobs.exports, e.cam ≠ (c : Nat) ∨ e.waiting = none) :
    exec (.exportResume c) s = s.done s.begin_ ∧ exec (.exportTimeout c) s = s.done s.begin_ := by
  have hnone : s.begin_.jobs.exports.find? (fun e => e.cam == (c : Nat) && e.waiting.isSome) = none := by
    refine List.find?_eq_none.mpr fun e he => ?_
    rcases h e he with hc | hw
    · simp [hc]
    · simp [hw]
  refine ⟨?_, ?_⟩
  · show execExportResume c s = _
    simp only [execExportResume, hnone]
  · show execExportTimeout c s = _
    simp only [execExportTimeout, hnone]

/-- A request entry that reads RESTORED or EXPIRED is freed, another stays (R129). -/
theorem exec_requestEntryFree_cases {k : Fin 16} {r : Request} (h : s.dev.jobs.requests.find? (k + 1) = some r) :
    ((r.state = 2 ∨ r.state = 3) → exec (.requestEntryFree k) s =
      s.done { s.begin_ with jobs := { s.dev.jobs with requests := s.dev.jobs.requests.erase (k + 1) } }) ∧
    (r.state ≠ 2 → r.state ≠ 3 → exec (.requestEntryFree k) s = s.done s.begin_) := by
  have h' : s.begin_.jobs.requests.find? (k + 1) = some r := h
  refine ⟨fun hst => ?_, fun h2 h3 => ?_⟩
  · have hdone : (r.state == 2 || r.state == 3) = true := by simpa using hst
    show execRequestEntryFree k s = _
    simp only [execRequestEntryFree, h', hdone, if_true]
    rfl
  · have hopen : (r.state == 2 || r.state == 3) = false := by simp [h2, h3]
    show execRequestEntryFree k s = _
    simp only [execRequestEntryFree, h', hopen, Bool.false_eq_true, if_false]

end

/-- Settles O34. -/
theorem mailboxExportsAndRequestsMoveOn : Obligations.MailboxExportsAndRequestsMoveOn := by
  unfold Obligations.MailboxExportsAndRequestsMoveOn
  refine ⟨fun s n m hl hv => ?_, fun s n m h => .done ((exec_doorbell_cases n m).2.2 h), fun s h => .done (congrArg s.done ?_),
    fun s m r h => .done (congrArg s.done ?_), fun d m => ⟨rfl, ?_⟩, fun s c e h => ?_, fun s c h => ?_, fun s k h => ?_, fun s k r h => ?_⟩
  · obtain ⟨hserve, hdrop, -⟩ := exec_doorbell_cases (s := s) n m
    exact ⟨hserve hl hv, fun h => .done (hdrop hl hv h)⟩
  · exact s.begin_.ackWindow_cases.1 h
  · exact s.begin_.ackWindow_cases.2 m r h
  · simp [Dev.fillWindow, Dev.emit]
  · obtain ⟨hgo, hfull, hover⟩ := exec_export_waiting h
    exact ⟨fun hb => .done (hgo hb), fun hb => .done (hfull hb), .of_raise hover rfl rfl (le_refl _) rfl (by decide)⟩
  · obtain ⟨hresume, htimeout⟩ := exec_export_none h
    exact ⟨.done hresume, .done htimeout⟩
  · refine .done ?_
    have h' : s.begin_.jobs.requests.find? (k + 1) = none := h
    show execRequestEntryFree k s = _
    simp only [execRequestEntryFree, h']
  · obtain ⟨hfree, hstay⟩ := exec_requestEntryFree_cases h
    exact ⟨fun hst => .done (hfree hst), fun h2 h3 => .done (hstay h2 h3)⟩

end Sys2Proof.Machine
end

section
/-! PROOFS. Encoders (R180 to R186), the Reckoner (R204 to R209), captures (R191, R346) and position compare (R196 to R200). -/
namespace Sys2Proof.Machine

open Sys2Proof

/-! ### Encoder samples -/

section
variable {d : Dev} {c : Nat} {a b : Bool} {e : Enc}

@[simp] theorem Dev.enc_setEnc_self (d : Dev) (c : Nat) (e : Enc) : (d.setEnc c e).enc c = e := by simp [Dev.enc, Dev.setEnc]

/-- A sample in which one of A and B changes is one step, in the sense of the change (R181). -/
theorem Dev.encSample_one {st : Int} (he : e = d.enc c) :
    (e.a ≠ a → e.b = b → st = (if (a != b) != (d.g (0x3000 + c) 4 == 1) then 1 else -1) →
      d.encSample c a b = (d.setEnc c { e with a := a, b := b }).putEnc c (Enc.step { e with a := a, b := b } st)) ∧
    (e.a = a → e.b ≠ b → st = (if (a == b) != (d.g (0x3000 + c) 4 == 1) then 1 else -1) →
      d.encSample c a b = (d.setEnc c { e with a := a, b := b }).putEnc c (Enc.step { e with a := a, b := b } st)) := by
  subst he
  have hg (x : Enc) : (d.setEnc c x).g (0x3000 + c) 4 = d.g (0x3000 + c) 4 := rfl
  refine ⟨fun ha hb hst => ?_, fun ha hb hst => ?_⟩
  · subst hst hb
    simp [Dev.encSample, ha, Dev.encStep, hg]
  · subst hst ha
    simp [Dev.encSample, hb, Dev.encStep, hg]

/-- A sample in which both change is an impossible transition, one in which neither does counts nothing (R181). -/
theorem Dev.encSample_both (he : e = d.enc c) :
    (e.a ≠ a → e.b ≠ b → d.encSample c a b =
      ((d.setEnc c { e with a := a, b := b }).bump (0x3008 + c) 2).raiseLimited 100000000 32 0 c (ofSigned 32 e.count)) ∧
    (e.a = a → e.b = b → d.encSample c a b = d.setEnc c { e with a := a, b := b }) := by
  subst he
  refine ⟨fun ha hb => ?_, fun ha hb => ?_⟩
  · simp [Dev.encSample, ha, hb]
  · simp [Dev.encSample, ha, hb]

/-- The sample that completes the filter's length, where the input changes its level (R180). -/
theorem accepts_eq_some {level raw new : Bool} {run n filter k : Nat} : accepts level raw new run n filter = some k ↔
    new ≠ level ∧ k = max 1 (filter - (if new = raw then run else 0)) ∧ k ≤ n := by
  simp only [accepts, beq_iff_eq, Option.ite_none_right_eq_some, Bool.and_eq_true, bne_iff_ne, decide_eq_true_eq, Option.some.injEq]
  constructor
  · rintro ⟨⟨hlevel, hle⟩, rfl⟩
    exact ⟨hlevel, rfl, hle⟩
  · rintro ⟨hlevel, rfl, hle⟩
    exact ⟨⟨hlevel, hle⟩, rfl⟩

/-- The hysteresis holds the first step against the last direction and takes a second (R183). -/
theorem Enc.step_cases (e : Enc) (st : Int) :
    (e.held = false → st = e.last → (e.step st).count = e.count + st ∧ (e.step st).held = false) ∧
    (e.held = false → st ≠ e.last → (e.step st).count = e.count ∧ (e.step st).held = true) ∧
    (e.held = true → st = e.last → (e.step st).count = e.count ∧ (e.step st).held = false) ∧
    (e.held = true → st ≠ e.last → (e.step st).count = e.count + st ∧ (e.step st).last = st ∧ (e.step st).held = false) := by
  refine ⟨fun h hl => ?_, fun h hl => ?_, fun h hl => ?_, fun h hl => ?_⟩ <;> simp [Enc.step, h, hl]

end

/-- What reaches an encoder channel that counts, that is on, or neither (R180, R186). -/
theorem exec_encoderEdge_cases (s : State) (c : Fin 4) :
    (s.dev.counting c = true → (∀ a b, s.dev.g (0x3000 + c) 2 = 0 → exec (.encoderEdge c (.ab a b)) s = s.done (s.begin_.encSample c a b)) ∧
      (∀ up, s.dev.g (0x3000 + c) 2 = 1 → exec (.encoderEdge c (.interp up)) s = s.done (s.begin_.encStep c up))) ∧
    (s.dev.g (0x3000 + c) 1 = 1 → s.dev.fast = true →
      (∀ a b z n, exec (.encoderEdge c (.raw a b z n)) s = s.done (s.begin_.rawSamples c a b z n)) ∧
      (∀ sin cos, s.dev.g (0x3000 + c) 2 = 1 → exec (.encoderEdge c (.adc sin cos)) s = s.done (s.begin_.adcSample c sin cos))) ∧
    (s.dev.counting c = false → ∀ a b up,
      exec (.encoderEdge c (.ab a b)) s = s.done s.begin_ ∧ exec (.encoderEdge c (.interp up)) s = s.done s.begin_) ∧
    ((s.dev.g (0x3000 + c) 1 ≠ 1 ∨ s.dev.fast = false) → ∀ x, exec (.encoderEdge c x) s = s.done s.begin_) := by
  have hexec (x : EncInput) : exec (.encoderEdge c x) s = execEncoderEdge c x s := rfl
  have hg (i j : Nat) : s.begin_.g i j = s.dev.g i j := rfl
  have hf : s.begin_.fast = s.dev.fast := rfl
  have hcount : s.begin_.counting c = s.dev.counting c := rfl
  simp only [hexec]
  refine ⟨fun h => ⟨fun a b hm => ?_, fun up hm => ?_⟩, fun hon hfast => ⟨fun a b z n => ?_, fun sin cos hm => ?_⟩, fun h a b up => ⟨?_, ?_⟩,
    fun h x => ?_⟩
  · simp [execEncoderEdge, hcount, h, hg, hm]
  · simp [execEncoderEdge, hcount, h, hg, hm]
  · simp [execEncoderEdge, hg, hf, hon, hfast]
  · simp [execEncoderEdge, hg, hf, hon, hfast, hm]
  · simp [execEncoderEdge, hcount, h]
  · simp [execEncoderEdge, hcount, h]
  · have hoff : (s.dev.g (0x3000 + c) 1 == 1 && s.dev.fast) = false := by
      rcases h with h | h <;> simp [h]
    have hno : s.dev.counting c = false := by simp only [Dev.counting, hoff, Bool.false_and]
    cases x <;> simp [execEncoderEdge, hcount, hno, hg, hf, hoff]

/-- Settles O35. -/
theorem encoderEdgesCountThroughHysteresis : Obligations.EncoderEdgesCountThroughHysteresis := by
  unfold Obligations.EncoderEdgesCountThroughHysteresis
  refine ⟨fun s c a b e st hc hm he => ?_, fun s c up hc hm => .done (((exec_encoderEdge_cases s c).1 hc).2 up hm),
    fun s c a b z n hon hf => .done (((exec_encoderEdge_cases s c).2.1 hon hf).1 a b z n), fun level raw new run n filter k => accepts_eq_some,
    fun s c sin cos hon hf hm => .done (((exec_encoderEdge_cases s c).2.1 hon hf).2 sin cos hm), fun s c a b up h => ?_,
    fun s c x h => .done ((exec_encoderEdge_cases s c).2.2.2 h x), Enc.step_cases⟩
  · have hexec := ((exec_encoderEdge_cases s c).1 hc).1 a b hm
    obtain ⟨hone, hother⟩ := Dev.encSample_one (d := s.begin_) (c := c) (a := a) (b := b) (st := st) he
    obtain ⟨hboth, hnone⟩ := Dev.encSample_both (d := s.begin_) (c := c) (a := a) (b := b) he
    exact ⟨fun ha hb hst => .done (hexec.trans (congrArg s.done (hone ha hb hst))),
      fun ha hb hst => .done (hexec.trans (congrArg s.done (hother ha hb hst))),
      fun ha hb => .done (hexec.trans (congrArg s.done (hboth ha hb))), fun ha hb => .done (hexec.trans (congrArg s.done (hnone ha hb)))⟩
  · obtain ⟨hab, hinterp⟩ := (exec_encoderEdge_cases s c).2.2.1 h a b up
    exact ⟨.done hab, .done hinterp⟩

/-! ### Index supervision -/

/-- A standby-to-be whose web channel is numbered 2,048: the capture time of that number, 0x2408 + 2048, is 0x2C08, the device's role. -/
def roleOnChannel : Dev := (State.reset.dev.put 0x3200 1 2048).put 0x2C08 1 0

/-- The capture time 2 makes it a standby, which keeps the index edge as a mark. -/
theorem roleOnChannel_marks : (roleOnChannel.indexEdge 2048 1).twin.marks.length = 1 ∧ roleOnChannel.g (0x3000 + 2048) 8 ≠ 1 := by
  decide +kernel

/-- Refutes O36: its clause on the index edge speaks of every channel number, and the record of an index time at number 2,048 is the object
that holds the role, so there the edge does more than the clause says, as `roleOnChannel` shows. -/
theorem not_indexAndSignalSupervision : ¬ Obligations.IndexAndSignalSupervision := by
  unfold Obligations.IndexAndSignalSupervision
  rintro ⟨-, hedge, -⟩
  obtain ⟨hmarks, hoff⟩ := roleOnChannel_marks
  have h := (hedge roleOnChannel _ 2048 1 (roleOnChannel.enc 2048) rfl (by decide +kernel) (.inr (by decide +kernel)) rfl).1 hoff
  rw [h] at hmarks
  exact absurd hmarks (by decide +kernel)

/-! ### The Reckoner -/

section
variable {d : Dev}

/-- What an update leaves before its loop: coasting or tracking, the anchor of a changed trim, a share of a standby's slew (R205, R208, R386). -/
def Dev.beforeLoop (d : Dev) : Dev :=
  let d := if d.signalFault d.web then d.coast else d.trackAgain d.web
  let d := if d.gi 32 (0x3008 + d.web) 9 != d.reck.trim then d.reAnchor else d
  if d.twin.slewLeft == 0 then d else { d with
    reck := { d.reck with anchorP := d.reck.anchorP + d.twin.slew }
    twin := { d.twin with slewLeft := d.twin.slewLeft - 1 } }

/-- What follows the loop, from its velocity and its output (R206, R207). -/
def Dev.afterLoop (b : Dev) (q : Rat) (vel p : Int) : Dev :=
  let r := b.reck
  let hwm := max r.hwm p
  let rate := ((max 0 vel) * 25000000 / 18446744073709551616).toNat
  let d := (((({ b with reck := { r with vel := vel, p := p, hwm := hwm, at_ := b.t } } : Dev).drew).put 0x3208 1
    (hwm / 281474976710656).toNat).put 0x3208 2 rate).put 0x3208 3 (rate * 100000 / 787402)
  let d := if decide (r.state ≤ 1) then d.reckState (if decide (p < hwm) then 1 else 0) else d
  let d := if r.state == 1 && d.reck.state == 0 then d.resumeWaits else d
  let f := (d.reverse (decide (r.hwm < hwm)) q).fireWarn
  if f.printingLike then f.barList.foldl Dev.altReturn f.retireAll else f.retireAll

theorem Dev.beforeLoop_eq {a a' b : Dev} (ha : a = if d.signalFault d.web then d.coast else d.trackAgain d.web)
    (ha' : a' = if a.gi 32 (0x3008 + a.web) 9 = a.reck.trim then a else a.reAnchor)
    (hb : b = if a'.twin.slewLeft = 0 then a' else { a' with
      reck := { a'.reck with anchorP := a'.reck.anchorP + a'.twin.slew }, twin := { a'.twin with slewLeft := a'.twin.slewLeft - 1 } }) :
    b = d.beforeLoop := by
  have hanchor : (if a.gi 32 (0x3008 + a.web) 9 != a.reck.trim then a.reAnchor else a) = a' := by
    rw [ha']
    by_cases h : a.gi 32 (0x3008 + a.web) 9 = a.reck.trim
    · simp [h]
    · simp [h]
  simp only [Dev.beforeLoop, ← ha, hanchor, hb, beq_iff_eq]

/-- What follows the loop, with its conditions as propositions. -/
theorem Dev.afterLoop_eq (b : Dev) (q : Rat) (vel p : Int) : b.afterLoop q vel p =
    (let r := b.reck
     let hwm := max r.hwm p
     let rate := ((max 0 vel) * 25000000 / 18446744073709551616).toNat
     let d := (((({ b with reck := { r with vel := vel, p := p, hwm := hwm, at_ := b.t } } : Dev).drew).put 0x3208 1
       (hwm / 281474976710656).toNat).put 0x3208 2 rate).put 0x3208 3 (rate * 100000 / 787402)
     let d := if r.state ≤ 1 then d.reckState (if p < hwm then 1 else 0) else d
     let d := if r.state = 1 ∧ d.reck.state = 0 then d.resumeWaits else d
     let f := (d.reverse (decide (r.hwm < hwm)) q).fireWarn
     if f.printingLike then f.barList.foldl Dev.altReturn f.retireAll else f.retireAll) := by
  simp only [Dev.afterLoop, decide_eq_true_eq, Bool.and_eq_true, beq_iff_eq]

/-- One update, as its loop with what comes before and after it (R204). -/
theorem Dev.reckon_loop {b : Dev} {q w : Rat} {e vel p : Int} (hb : b = d.beforeLoop)
    (hq : q = (b.g 0x3200 2 : Nat) / (b.g 0x3200 3 : Nat) * (1 + (b.reck.trim : Rat) / 100000000)) (hw : w = omega (b.g 0x3200 4))
    (he : e = b.reck.anchorP + ((((b.enc b.web).count - b.reck.anchorC : Int) : Rat) * q * 18446744073709551616).floor - b.reck.p)
    (htrack : b.reck.state ≤ 1 → vel = b.reck.vel + (w * w * (e : Rat)).floor + b.loopRound 0 ∧
      p = b.reck.p + vel + (14142 / 10000 * w * (e : Rat)).floor + b.loopRound 1)
    (hcoast : b.reck.state = 2 → vel = b.reck.vel ∧ p = b.reck.p + b.reck.vel)
    (hlost : 3 ≤ b.reck.state → vel = b.reck.vel ∧ p = b.reck.p) : d.reckon = b.afterLoop q vel p := by
  let tracked := b.reck.vel + (w * w * (e : Rat)).floor + b.loopRound 0
  let loop : Int × Int :=
    if decide (b.reck.state ≤ 1) then (tracked, b.reck.p + tracked + (14142 / 10000 * w * (e : Rat)).floor + b.loopRound 1)
    else if b.reck.state == 2 then (b.reck.vel, b.reck.p + b.reck.vel) else (b.reck.vel, b.reck.p)
  have hreckon : d.reckon = b.afterLoop q loop.1 loop.2 := by
    subst hb hq hw he
    rfl
  have hloop : loop = (vel, p) := by
    rcases Nat.lt_or_ge b.reck.state 2 with h | h
    · obtain ⟨hv, hp⟩ := htrack (by omega)
      simp only [loop, tracked, Nat.le_of_lt_succ h, decide_true, if_true, hv, hp]
    · rcases Nat.eq_or_lt_of_le h with h | h
      · obtain ⟨hv, hp⟩ := hcoast h.symm
        simp [loop, ← h, hv, hp]
      · obtain ⟨hv, hp⟩ := hlost h
        have h1 : ¬b.reck.state ≤ 1 := by omega
        have h2 : ¬b.reck.state = 2 := by omega
        simp [loop, h1, h2, hv, hp]
  rw [hreckon, hloop]

/-- The rounding of the loop is within 2^-32 line (R204). -/
theorem Dev.loopRound_bounds (d : Dev) (k : Nat) : -4294967296 ≤ d.loopRound k ∧ d.loopRound k ≤ 4294967296 := by
  simp only [Dev.loopRound, clampInt]
  omega

/-- The device in which position has just been lost, before its event (R209). -/
def Dev.positionGone (d : Dev) : Dev :=
  (((({ d with reck := { d.reck with vel := 0 } } : Dev).reckState 3).put 0x3208 2 0).put 0x3208 3 0).bump 0x3208 8

theorem Dev.reckState_web (d : Dev) (st : Nat) : (d.reckState st).web = d.web := Dev.g_put_ne _ _ (by decide)

theorem Dev.reckState_nbars (d : Dev) (st : Nat) : (d.reckState st).nbars = d.nbars := rfl

/-- Losing position is reported for every bar, and spoils what prints (R209). -/
theorem Dev.losePosition_eq (d : Dev) : d.losePosition = (let e := d.positionGone.raise 43 (2 ^ d.nbars - 1) d.web
    if !e.printingLike then e else (e.barList.filter (fun n => !e.pastEnd n)).foldl (fun e n =>
      (e.spoil (e.barRep n) n 9).onBar n (fun b => { b with posLost := true })) e) := by
  simp only [Dev.losePosition, Dev.positionGone, Dev.reckState_web, Dev.reckState_nbars]
  rfl

theorem Dev.positionGone_printing (d : Dev) : (d.positionGone.raise 43 (2 ^ d.nbars - 1) d.web).printingLike = d.printingLike := by
  simp only [Dev.printingLike, Dev.phase, Dev.raise_sys]
  rfl

end

/-- What POSITION_LOST comes to (R209). -/
theorem exec_positionLost_cases (s : State) :
    (s.dev.reck.state = 2 → exec .positionLost s = s.done s.begin_.losePosition) ∧
    (s.dev.reck.state ≠ 2 → exec .positionLost s = s.done s.begin_) := by
  have hst : s.begin_.reck = s.dev.reck := rfl
  refine ⟨fun h => ?_, fun h => ?_⟩
  · show execPositionLost s = _
    simp [execPositionLost, hst, h]
  · show execPositionLost s = _
    simp [execPositionLost, hst, h]

/-- Settles O37: the update cut into what comes before its loop, the loop, and what follows it (`Dev.reckon_loop`). -/
theorem theReckonerFollowsItsEncoder : Obligations.TheReckonerFollowsItsEncoder := by
  unfold Obligations.TheReckonerFollowsItsEncoder
  refine ⟨fun s a a' b f r q w e vel p hwm rate hfast ha ha' hb hr hq hw he htrack hcoast hlost hhwm hrate => ⟨b.loopRound_bounds 0, fun hf => ?_⟩,
    fun s h => ?_, fun s h hp => ?_, fun s d h hp hd => ?_, fun s h => .done ((exec_positionLost_cases s).2 h)⟩
  · subst hr
    have hbefore : b = s.begin_.beforeLoop := Dev.beforeLoop_eq (d := s.begin_) ha ha' hb
    have hexec : exec .reckonerUpdate s = s.done s.begin_.reckon := by
      show execReckonerUpdate s = _
      have hfast' : s.begin_.fast = true := hfast
      simp [execReckonerUpdate, hfast']
    refine .done (hexec.trans (congrArg s.done ((Dev.reckon_loop hbefore hq hw he htrack hcoast hlost).trans ?_)))
    subst hhwm hrate
    rw [hf]
    exact b.afterLoop_eq q vel p
  · refine .done ?_
    have hfast : s.begin_.fast = false := h
    show execReckonerUpdate s = _
    simp [execReckonerUpdate, hfast]
  · have hp' := (Dev.positionGone_printing s.begin_).trans hp
    have hlose : s.begin_.losePosition = s.begin_.positionGone.raise 43 (2 ^ s.begin_.nbars - 1) s.begin_.web := by
      rw [Dev.losePosition_eq]
      simp only [hp', Bool.not_false, if_true]
    exact .of_raise (((exec_positionLost_cases s).1 h).trans (congrArg s.done hlose)) rfl rfl (le_refl _) rfl (by decide)
  · have hp' := (Dev.positionGone_printing s.begin_).trans hp
    refine .done (((exec_positionLost_cases s).1 h).trans (congrArg s.done ?_))
    have hd' : d = s.begin_.positionGone.raise 43 (2 ^ s.begin_.nbars - 1) s.begin_.web := hd
    rw [Dev.losePosition_eq, ← hd']
    simp only [hd', hp', Bool.not_true, Bool.false_eq_true, if_false]

end Sys2Proof.Machine
end

section
/-! PROOFS. Captures (R191, R346) and position compare (R196 to R200). -/
namespace Sys2Proof.Machine

open Sys2Proof

/-! ### Captures -/

/-- What an edge of a capture input comes to (R191, R346). -/
theorem exec_tinCapture_cases {s : State} {k : Fin 8} {falling : Bool} {t : Nat} {b : Dev}
    (hb : b = if s.dev.sheet && s.dev.g 0x3040 2 == (k : Nat) && (s.dev.g 0x3040 3 == 1) == falling then s.begin_.sheetCapture t else s.begin_) :
    (s.dev.fast = true → (s.dev.g (0x2420 + k) 1 = 2 ∨ s.dev.g (0x2420 + k) 1 = (if falling then 1 else 0)) →
      exec (.tinCapture k ⟨falling, t⟩) s = s.done (b.capture k falling t)) ∧
    (s.dev.fast = true → s.dev.g (0x2420 + k) 1 = (if falling then 0 else 1) → exec (.tinCapture k ⟨falling, t⟩) s = s.done b) ∧
    (s.dev.fast = false → exec (.tinCapture k ⟨falling, t⟩) s = s.done s.begin_) := by
  have hexec : exec (.tinCapture k ⟨falling, t⟩) s = s.done (if !s.dev.fast then s.begin_
      else if s.dev.g (0x2420 + k) 1 == 2 || (s.dev.g (0x2420 + k) 1 == 0 && !falling) || (s.dev.g (0x2420 + k) 1 == 1 && falling) then
        b.capture k falling t
      else b) := by
    subst hb
    rfl
  rw [hexec]
  refine ⟨fun hf h => ?_, fun hf h => ?_, fun hf => by simp [hf]⟩
  · rcases h with h | h
    · simp [hf, h]
    · cases falling <;> simp [hf, h]
  · cases falling <;> simp [hf, h]

/-- An accepted edge in a queue with room, and in a full one (R346). -/
theorem Dev.capture_cases (d : Dev) (k t : Nat) (falling : Bool) :
    ((d.time.queues.get [] k).length < 16 → ∀ c : Capture, c.time = d.serviceAt (t * 5 / 2) →
      c.seq = (d.time.seqs.get 0 k + 1) % 4294967296 → c.falling = falling → c.gen = d.g 0x2406 2 % 256 →
      d.capture k falling t = Dev.bump { d with time := { d.time with
        queues := d.time.queues.set k (d.time.queues.get [] k ++ [c]), seqs := d.time.seqs.set k (d.time.seqs.get 0 k + 1) } } (0x2428 + k) 1) ∧
    (16 ≤ (d.time.queues.get [] k).length → d.capture k falling t = (d.bump (0x2428 + k) 2).raiseLimited 1000000000 82 0 0xFF 0) := by
  refine ⟨fun h c htime hseq hfall hgen => ?_, fun h => ?_⟩
  · obtain ⟨time, seq, fall, gen⟩ := c
    subst htime hseq hfall hgen
    simp only [Dev.capture, Nat.not_le.mpr h, decide_false, Bool.false_eq_true, if_false]
  · simp only [Dev.capture, h, decide_true, if_true]

/-- No state keeps back the captures (R407, R456). -/
theorem Dev.gated_capture (d : Dev) (k : Fin 8) : d.gated (0x2428 + k) = false := by
  have h := k.isLt
  simp only [Dev.gated]
  split <;> simp <;> omega

/-- A read of an input's captures takes the oldest (R346). -/
theorem exec_captureRead {s : State} {sess : Nat} {k : Fin 8} {x : Sess} (hx : s.dev.session? sess = some x) (hp : x.port = 0)
    (hv : s.dev.sys.verified = true) (ho : s.dev.com.op = none) :
    exec (.captureRead sess k) s = s.done ((s.begin_.popCapture k).1.emit (.value sess (s.begin_.popCapture k).2)) := by
  have hx' : s.begin_.session? sess = some x := hx
  show s.done (s.begin_.readRequest sess (0x2428 + k) (fun d => d.popCapture k)) = _
  simp [Dev.readRequest, hx', hp, hv, ho, Dev.gated_capture]

theorem Dev.popCapture_cases (d : Dev) (k : Nat) :
    (d.time.queues.get [] k = [] → d.popCapture k = (d, List.replicate 16 0)) ∧
    (∀ c r, d.time.queues.get [] k = c :: r → d.popCapture k = ({ d with time := { d.time with queues := d.time.queues.set k r } },
      leBytes 8 c.time ++ leBytes 4 c.seq ++ [byte (if c.falling then 1 else 0), byte c.gen, 0, 0])) :=
  ⟨fun h => by simp only [Dev.popCapture, h], fun c r h => by simp only [Dev.popCapture, h]⟩

/-! ### Position compare -/

section
variable {d : Dev} {u i : Nat}

/-- A due entry of a unit that may fire: nothing, skipped, or one pulse for those due in the same cycle (R196, R199). -/
theorem Dev.cmpDue_fires (hf : d.cmpFires u i = true) :
    (d.entryDue u i = none → d.cmpDue u i = d) ∧
    (∀ t k, d.entryDue u i = some (t, k, true) → d.cmpDue u i = d.markEntry u i k true) ∧
    (∀ t k e, d.entryDue u i = some (t, k, false) → (d.dueWith u t).getLast? = some e →
      d.cmpDue u i = ((d.dueWith u t).foldl (fun d e => d.markEntry u e.1 e.2 false) d).cmpPulse u e.1 e.2 (t * 5 / 2)) := by
  refine ⟨fun h => ?_, fun t k h => ?_, fun t k e h he => ?_⟩
  · simp [Dev.cmpDue, hf, h]
  · simp [Dev.cmpDue, hf, h]
  · simp [Dev.cmpDue, hf, h, he]

theorem Dev.cmpDue_idle (hf : d.cmpFires u i = false) : d.cmpDue u i = d := by simp [Dev.cmpDue, hf]

/-- An entry of a unit in once mode (R196). -/
theorem Dev.entryDue_once (hm : d.g (0x3020 + u) 1 = 0) :
    (((d.cmp u).status.get {} i).state ≠ 0 → d.entryDue u i = none) ∧
    (((d.cmp u).status.get {} i).state = 0 → d.g (0x3020 + u) 3 = 1 →
      (d.cmpReached u (d.cmpEntry u i).1 = true → d.entryDue u i = some (d.t * 2 / 5, none, false)) ∧
      (d.cmpReached u (d.cmpEntry u i).1 = false → d.entryDue u i = none)) ∧
    (((d.cmp u).status.get {} i).state = 0 → d.g (0x3020 + u) 3 ≠ 1 →
      d.entryDue u i = (d.reachedAt (((d.cmpEntry u i).1 * 281474976710656 : Nat) : Int)).map (fun t => (t, none, false))) := by
  refine ⟨fun h => ?_, fun h hc => ⟨fun hr => ?_, fun hr => ?_⟩, fun h hc => ?_⟩
  · simp [Dev.entryDue, hm, h]
  · simp [Dev.entryDue, hm, h, hc, hr]
  · simp [Dev.entryDue, hm, h, hc, hr]
  · simp [Dev.entryDue, hm, h, hc]

/-- An entry of a unit in per-repeat mode, for the repeat it stands at (R197). -/
theorem Dev.entryDue_repeat {k len : Nat} {r : Rep} (hm : d.g (0x3020 + u) 1 ≠ 0) (hk : k = (d.cmp u).nextRep.get d.print.runFirst i)
    (hr : d.rep? k = some r) (hl : d.repLength k = some len) :
    d.entryDue u i = (d.reachedAt (((r.d + d.g (0x3020 + u) 4 + (d.cmpEntry u i).1) * 281474976710656 : Nat) : Int)).map
      (fun t => (t, some k, decide (len ≤ (d.cmpEntry u i).1))) := by
  subst hk
  have hm' : (d.g (0x3020 + u) 1 == 0) = false := beq_eq_false_iff_ne.mpr hm
  simp only [Dev.entryDue, hm', hr, hl, Bool.false_eq_true, if_false]

end

/-- Settles O38. -/
theorem capturesAndComparesFireOnce : Obligations.CapturesAndComparesFireOnce := by
  unfold Obligations.CapturesAndComparesFireOnce
  refine ⟨fun s k falling t b hf hb => ?_, fun s k falling t hf => .done ((exec_tinCapture_cases rfl).2.2 hf), Dev.capture_cases,
    fun s sess k x hx hp hv ho => ?_, fun s u i hi hf hst => ?_, fun s u i h => .done (congrArg s.done (Dev.cmpDue_idle ?_)),
    fun d u i => ⟨rfl, fun k e he => ?_, fun hm => Dev.entryDue_once hm, fun k r len hm hk hr hl => Dev.entryDue_repeat hm hk hr hl⟩⟩
  · obtain ⟨hsel, hother, -⟩ := exec_tinCapture_cases (t := t) hb
    exact ⟨fun h => .done (hsel hf h), fun h => .done (hother hf h)⟩
  · have hread := exec_captureRead (k := k) hx hp hv ho
    obtain ⟨hempty, htake⟩ := s.begin_.popCapture_cases k
    refine ⟨fun h => .done ?_, fun c r h => .done ?_⟩
    · rw [hread, hempty h]
    · rw [hread, htake c r h]
      rfl
  · have hfires : s.begin_.cmpFires u i = true := by
      have hst' : (s.dev.reck.state == 0 || s.dev.reck.state == 2) = true := by simpa using hst
      show (decide (i < s.dev.g (0x3020 + u) 2) && s.dev.fast && (s.dev.reck.state == 0 || s.dev.reck.state == 2)) = true
      simp [hi, hf, hst']
    obtain ⟨hnone, hskip, hpulse⟩ := Dev.cmpDue_fires hfires
    exact ⟨fun h => .done (congrArg s.done (hnone h)), fun t k h => .done (congrArg s.done (hskip t k h)),
      fun t k e h he => .done (congrArg s.done (hpulse t k e h he))⟩
  · show (decide (i < s.dev.g (0x3020 + u) 2) && s.dev.fast && (s.dev.reck.state == 0 || s.dev.reck.state == 2)) = false
    rcases h with h | h | h | h
    · simp [Nat.not_lt.mpr h]
    · simp [h]
    · simp [h]
    · simp [h]
  · subst he
    exact ⟨rfl, rfl⟩

end Sys2Proof.Machine
end

section
/-! PROOFS. Network time: PTP messages, holdover and timed outputs (R338 to R344). -/
namespace Sys2Proof.Machine

open Sys2Proof

@[simp] theorem Dev.ptp_setPtp_self (d : Dev) (k : Nat) (p : Ptp) : (d.setPtp k p).ptp k = p := by simp [Dev.ptp, Dev.setPtp]

@[simp] theorem Dev.setPtp_setPtp (d : Dev) (k : Nat) (p q : Ptp) : (d.setPtp k p).setPtp k q = d.setPtp k q := by
  simp [Dev.setPtp, Table.set_set]

/-! ### PTP messages -/

section
variable {s : State} {k : Fin 2}

/-- A message of a PTP domain. -/
def PtpMessage (k : Fin 2) (i : Instr) : Prop :=
  (∃ t o l a, i = .sync k t o l a) ∨ (∃ o, i = .followUp k o) ∨ (∃ d b r, i = .announce k d b r) ∨ i = .delayReqSend k ∨
    (∃ r, i = .delayResp k r) ∨ (∃ a, i = .pdelayReq k a) ∨ ∃ a b c d, i = .pdelayResp k a b c d

/-- A domain that is not enabled hears and sends nothing (R338). -/
theorem exec_ptp_off {i : Instr} (hi : PtpMessage k i) (h : s.dev.ptpOn k = false) : exec i s = s.done s.begin_ := by
  have hoff : s.begin_.ptpOn k = false := h
  rcases hi with ⟨t, o, l, a, rfl⟩ | ⟨o, rfl⟩ | ⟨id, best, rt, rfl⟩ | rfl | ⟨r, rfl⟩ | ⟨a, rfl⟩ | ⟨t1, t2, t3, t4, rfl⟩
  · show execSync k t o l a s = _
    simp [execSync, hoff]
  · show execFollowUp k o s = _
    cases hw : (s.begin_.ptp k).waiting <;> simp [execFollowUp, hoff, hw]
  · show execAnnounce k id best rt s = _
    simp [execAnnounce, hoff]
  · show execDelayReqSend k s = _
    simp [execDelayReqSend, hoff]
  · show execDelayResp k r s = _
    cases hr : (s.begin_.ptp k).reqSent <;> simp [execDelayResp, hoff, hr]
  · show execPdelayReq k a s = _
    simp [execPdelayReq, hoff]
  · show execPdelayResp k t1 t2 t3 t4 s = _
    simp [execPdelayResp, hoff]

/-- A Sync of an enabled domain, one-step or two-step (R339). -/
theorem exec_sync_on (h : s.dev.ptpOn k = true) (origin : Nat) (li : Int) (arrival : Nat) :
    exec (.sync k false origin li arrival) s =
      s.done ((s.begin_.setPtp k { s.dev.ptp k with lastSync := arrival, interval := li }).measure k origin arrival) ∧
    exec (.sync k true origin li arrival) s =
      s.done (s.begin_.setPtp k { s.dev.ptp k with lastSync := arrival, interval := li, waiting := some arrival }) := by
  have hon : s.begin_.ptpOn k = true := h
  have hptp : s.begin_.ptp k = s.dev.ptp k := rfl
  refine ⟨?_, ?_⟩
  · show execSync k false origin li arrival s = _
    simp [execSync, hon, hptp]
  · show execSync k true origin li arrival s = _
    simp [execSync, hon, hptp]

/-- A Follow_Up of an enabled domain measures the Sync that waits for it (R339). -/
theorem exec_followUp_on (h : s.dev.ptpOn k = true) (origin : Nat) :
    (∀ a, (s.dev.ptp k).waiting = some a → exec (.followUp k origin) s = s.done (s.begin_.measure k origin a)) ∧
    ((s.dev.ptp k).waiting = none → exec (.followUp k origin) s = s.done s.begin_) := by
  have hon : s.begin_.ptpOn k = true := h
  refine ⟨fun a hw => ?_, fun hw => ?_⟩
  · have hw' : (s.begin_.ptp k).waiting = some a := hw
    show execFollowUp k origin s = _
    simp only [execFollowUp, hw', hon, if_true]
  · have hw' : (s.begin_.ptp k).waiting = none := hw
    show execFollowUp k origin s = _
    simp only [execFollowUp, hw']

/-- The best master's Announce is kept, another's changes nothing (R338). -/
theorem exec_announce_on (h : s.dev.ptpOn k = true) (id rt : Nat) :
    (s.dev.ptpState k ≠ 0 → exec (.announce k id true rt) s =
      s.done ((s.begin_.setPtp k { s.dev.ptp k with lastAnnounce := s.now, receiptTimeout := rt }).put (0x2404 + k) 5 id)) ∧
    (s.dev.ptpState k = 0 → exec (.announce k id true rt) s =
      s.done (((s.begin_.setPtp k { s.dev.ptp k with lastAnnounce := s.now, receiptTimeout := rt }).put (0x2404 + k) 5 id).put (0x2404 + k) 1 1)) ∧
    exec (.announce k id false rt) s = s.done s.begin_ := by
  have hon : s.begin_.ptpOn k = true := h
  have hst : s.begin_.ptpState k = s.dev.ptpState k := rfl
  have hptp : s.begin_.ptp k = s.dev.ptp k := rfl
  have ht : s.begin_.t = s.now := rfl
  refine ⟨fun hs => ?_, fun hs => ?_, ?_⟩
  · show execAnnounce k id true rt s = _
    simp [execAnnounce, hon, hst, hs, hptp, ht]
  · show execAnnounce k id true rt s = _
    simp [execAnnounce, hon, hst, hs, hptp, ht]
  · show execAnnounce k id false rt s = _
    simp [execAnnounce]

/-- The path's requests and responses of an enabled domain (R338, R339). -/
theorem exec_delay_on (h : s.dev.ptpOn k = true) :
    exec (.delayReqSend k) s = s.done ((s.begin_.setPtp k { s.dev.ptp k with reqSent := some s.now }).emit
      (.ptp k (if s.dev.g (0x2400 + k) 5 = 1 then 2 else 1) s.now)) ∧
    (∀ received l, (s.dev.ptp k).reqSent = some l → s.dev.g (0x2400 + k) 5 = 0 → exec (.delayResp k received) s =
      s.done (s.begin_.setDelay k (Int.fdiv (s.begin_.ptpBase k (s.dev.ptp k).syncArrival - s.begin_.ptpBase k l +
        ((received : Int) - (s.dev.ptp k).syncOrigin) * 65536) 2))) ∧
    (∀ arrival, s.dev.g (0x2400 + k) 6 = 1 → exec (.pdelayReq k arrival) s = s.done (s.begin_.emit (.ptp k 3 arrival))) ∧
    (∀ arrival, s.dev.g (0x2400 + k) 6 ≠ 1 →
      exec (.pdelayReq k arrival) s = s.done (s.begin_.emits [.ptp k 3 arrival, .ptp k 4 s.now])) ∧
    (∀ t1 t2 t3 t4 : Nat, s.dev.g (0x2400 + k) 5 = 1 → exec (.pdelayResp k t1 t2 t3 t4) s =
      s.done (s.begin_.setDelay k (Int.fdiv ((((t4 : Int) - t1) - ((t3 : Int) - t2)) * 65536) 2))) := by
  have hon : s.begin_.ptpOn k = true := h
  have hg (i j : Nat) : s.begin_.g i j = s.dev.g i j := rfl
  have hptp : s.begin_.ptp k = s.dev.ptp k := rfl
  have ht : s.begin_.t = s.now := rfl
  refine ⟨?_, fun received l hl h0 => ?_, fun arrival h1 => ?_, fun arrival h1 => ?_, fun t1 t2 t3 t4 h1 => ?_⟩
  · show execDelayReqSend k s = _
    simp only [execDelayReqSend, hon, hg, hptp, ht, beq_iff_eq, if_true]
  · show execDelayResp k received s = _
    simp [execDelayResp, hptp, hl, hon, hg, h0]
  · show execPdelayReq k arrival s = _
    simp [execPdelayReq, hon, hg, h1]
  · show execPdelayReq k arrival s = _
    simp [execPdelayReq, hon, hg, h1, ht]
  · show execPdelayResp k t1 t2 t3 t4 s = _
    simp [execPdelayResp, hon, hg, h1]

end

/-- Settles O39, message by message. -/
theorem ptpMessagesMeasureTheMaster : Obligations.PtpMessagesMeasureTheMaster := by
  unfold Obligations.PtpMessagesMeasureTheMaster
  refine ⟨fun s k i h hi => .done (exec_ptp_off hi h), fun s k h => ?_⟩
  obtain ⟨hreq, hresp, hone, htwo, hpresp⟩ := exec_delay_on h
  exact ⟨fun origin li arrival => .done (exec_sync_on h origin li arrival).1, fun origin li arrival => .done (exec_sync_on h origin li arrival).2,
    fun origin a hw => .done ((exec_followUp_on h origin).1 a hw), fun origin hw => .done ((exec_followUp_on h origin).2 hw),
    fun id rt hs => .done ((exec_announce_on h id rt).1 hs), fun id rt hs => .done ((exec_announce_on h id rt).2.1 hs),
    fun id rt => .done (exec_announce_on h id rt).2.2, .done hreq, fun received l hl h0 => .done (hresp received l hl h0),
    fun arrival h1 => .done (hone arrival h1), fun arrival h1 => .done (htwo arrival h1), fun t1 t2 t3 t4 h1 => .done (hpresp t1 t2 t3 t4 h1)⟩

/-! ### Holdover and timed outputs -/

/-- Neither the state nor the event of one domain is the state of the other. -/
theorem ptpState_keys : ∀ k : Fin 2, key (0x2404 + k) 1 ≠ key (0x2404 + (1 - k : Nat)) 1 ∧ eventKey (key (0x2404 + (1 - k : Nat)) 1) = false := by
  decide

/-- A domain's state is as it was while the other goes into holdover. -/
theorem Dev.ptpState_holdover (d : Dev) (k : Fin 2) (p : Ptp) :
    ((((d.put (0x2404 + k) 1 4).setPtp k p).raise 79)).ptpState (1 - k) = d.ptpState (1 - k) := by
  obtain ⟨hne, hev⟩ := ptpState_keys k
  rw [Dev.ptpState, Dev.g_raise _ 79 _ _ _ (by decide) hev]
  exact Dev.g_put_ne d 4 hne

/-- What losing its master brings a domain (R340, R341). -/
theorem exec_masterLoss_cases {s : State} {k : Fin 2} {e : Dev}
    (he : e = ((s.begin_.put (0x2404 + k) 1 4).setPtp k { s.dev.ptp k with inRow := 0, outRow := 0, waiting := none })) :
    exec (.masterLoss k) s = s.done (if !s.dev.ptpOn k || s.dev.ptpState k == 0 || s.dev.ptpState k == 4 then s.begin_
      else if s.dev.time.inForce != k || s.dev.g (0x2400 + k) 0x0A == 0 then e.raise 79
      else if s.dev.ptpState (1 - k) == 3 then (e.raise 79).switchTo (1 - k)
      else { e.raise 79 with time := { (e.raise 79).time with wantSwitch := true } }) := by
  have hother : (e.raise 79).ptpState (1 - k) = s.dev.ptpState (1 - k) := by
    rw [he]
    exact Dev.ptpState_holdover s.begin_ k _
  subst he
  show execMasterLoss k s = _
  simp only [execMasterLoss]
  rw [← hother]
  rfl

theorem exec_preferredReturn (s : State) : exec .preferredReturn s =
    s.done (if s.begin_.time.away && s.begin_.ptpState s.begin_.preferred == 3 then s.begin_.switchTo s.begin_.preferred else s.begin_) := rfl

/-- An edge of a timed output (R344). -/
theorem exec_toutEdge_cases {s : State} {k : Fin 8} {m at_ : Nat} {e : Dev} (hm : m = s.dev.time.toutNext.get 0 k)
    (hat : at_ = s.dev.g (0x2410 + k) 3 + m * s.dev.g (0x2410 + k) 4)
    (he : e = ((s.begin_.toutPulse k at_).bump (0x2418 + k) 1).put (0x2418 + k) 4 at_) :
    exec (.toutEdge k) s = s.done (if s.dev.g (0x2410 + k) 1 == 0 || !s.dev.fast then s.begin_
      else if s.dev.g (0x2410 + k) 4 == 0 then e.put (0x2410 + k) 1 0 else e.setTout k (m + 1)) := by
  subst hm hat he
  rfl

/-- Settles O40. -/
theorem timeHoldsOverAndTimedOutputsFire : Obligations.TimeHoldsOverAndTimedOutputsFire := by
  unfold Obligations.TimeHoldsOverAndTimedOutputsFire
  refine ⟨fun s k e hon h0 h4 he => ?_, fun s ha hp => ?_, fun s h => ?_, fun s k h => ?_, fun s k h => ?_, fun s k m at_ e hm hf hm' hat he => ?_⟩
  · have hexec := exec_masterLoss_cases he
    have hgo : (!s.dev.ptpOn k || s.dev.ptpState k == 0 || s.dev.ptpState k == 4) = false := by simp [hon, h0, h4]
    rw [hgo] at hexec
    refine ⟨fun h => ?_, fun hk hr ho => ?_, fun hk hr ho => ?_⟩
    · have hstay : (s.dev.time.inForce != (k : Nat) || s.dev.g (0x2400 + k) 0x0A == 0) = true := by simpa using h
      rw [hstay] at hexec
      exact .of_raise hexec rfl rfl (by rw [he]; exact le_refl _) rfl (by decide)
    · have hswitch : (s.dev.time.inForce != (k : Nat) || s.dev.g (0x2400 + k) 0x0A == 0) = false := by simp [hk, hr]
      have hlocked : (s.dev.ptpState (1 - k) == 3) = true := by simpa using ho
      rw [hswitch, hlocked] at hexec
      exact .done hexec
    · have hswitch : (s.dev.time.inForce != (k : Nat) || s.dev.g (0x2400 + k) 0x0A == 0) = false := by simp [hk, hr]
      have hwait : (s.dev.ptpState (1 - k) == 3) = false := by simpa using ho
      rw [hswitch, hwait] at hexec
      exact .done hexec
  · have hgo : (s.begin_.time.away && s.begin_.ptpState s.begin_.preferred == 3) = true := by
      show (s.dev.time.away && s.dev.ptpState s.dev.preferred == 3) = true
      simp [ha, hp]
    exact .done ((exec_preferredReturn s).trans (by rw [hgo]; rfl))
  · have hstay : (s.begin_.time.away && s.begin_.ptpState s.begin_.preferred == 3) = false := by
      show (s.dev.time.away && s.dev.ptpState s.dev.preferred == 3) = false
      rcases h with h | h <;> simp [h]
    exact .done ((exec_preferredReturn s).trans (by rw [hstay]; rfl))
  · have hstay : (!s.dev.ptpOn k || s.dev.ptpState k == 0 || s.dev.ptpState k == 4) = true := by
      rcases h with h | h | h <;> simp [h]
    have hexec := exec_masterLoss_cases (s := s) (k := k) rfl
    rw [hstay] at hexec
    exact .done hexec
  · have hstay : (s.dev.g (0x2410 + k) 1 == 0 || !s.dev.fast) = true := by
      rcases h with h | h <;> simp [h]
    have hexec := exec_toutEdge_cases (s := s) (k := k) rfl rfl rfl
    rw [hstay] at hexec
    exact .done hexec
  · have hexec := exec_toutEdge_cases hm' hat he
    have hgo : (s.dev.g (0x2410 + k) 1 == 0 || !s.dev.fast) = false := by simp [hm, hf]
    rw [hgo] at hexec
    exact ⟨fun h => .done (hexec.trans (by simp [h])), fun h => .done (hexec.trans (by simp [h]))⟩

end Sys2Proof.Machine
end

section
/-! PROOFS. Head and twin lanes: bring-up, step-up, loss of lock and relock (R225, R228 to R236, R246, R247). -/
namespace Sys2Proof.Machine

open Sys2Proof

section
variable {d : Dev} {k : Nat}

/-- A lane that ends TRAIN: a twin lane, a spare, one that steps up, or one that serves no logical lane (R228, R230). -/
theorem Dev.trained_cases {mask : Nat} {e : Dev} (hk : k ≤ 80)
    (he : e = ((d.put 0x3414 k mask).put 0x3411 k 1).setLane k { d.lane k with known := true, fails := 0 }) :
    (73 ≤ k → (e.g 0x2C00 1 = 0 ∨ bit (e.g 0x2C00 7) (k - 73) = false) → d.trained k mask = e.putLane k 2) ∧
    (73 ≤ k → e.g 0x2C00 1 ≠ 0 → bit (e.g 0x2C00 7) (k - 73) = true → d.trained k mask = (e.putLane k 2).stepUp k) ∧
    (k ≤ 72 → e.isSpare k = true → d.trained k mask = e.putLane k 6) ∧
    (k ≤ 72 → e.isSpare k = false → (e.qualifying k || (e.inUseLane k && e.stepsUp)) = true →
      d.trained k mask = (e.putLane k 2).stepUp k) ∧
    (k ≤ 72 → e.isSpare k = false → (e.qualifying k || (e.inUseLane k && e.stepsUp)) = false →
      d.trained k mask = e.putLane k (if e.logicalOf k = none then 7 else 2)) := by
  have h1 : (e.putLane k 2).g 0x2C00 1 = e.g 0x2C00 1 := Dev.g_put_ne _ _ (by simp only [key]; omega)
  have h7 : (e.putLane k 2).g 0x2C00 7 = e.g 0x2C00 7 := Dev.g_put_ne _ _ (by simp only [key]; omega)
  have htrained : d.trained k mask = (if decide (73 ≤ k) then
      if (e.putLane k 2).g 0x2C00 1 != 0 && bit ((e.putLane k 2).g 0x2C00 7) (k - 73) then (e.putLane k 2).stepUp k else e.putLane k 2
    else if e.isSpare k then e.putLane k 6
    else if e.qualifying k || (e.inUseLane k && e.stepsUp) then (e.putLane k 2).stepUp k
    else if (e.logicalOf k).isNone then e.putLane k 7
    else e.putLane k 2) := by
    subst he
    rfl
  rw [htrained, h1, h7]
  refine ⟨fun hk h => ?_, fun hk hr hb => ?_, fun hk hs => ?_, fun hk hs hq => ?_, fun hk hs hq => ?_⟩
  · rcases h with h | h <;> simp [hk, h]
  · simp [hk, hr, hb]
  · simp [Nat.not_le.mpr (Nat.lt_succ_of_le hk), hs]
  · simp only [Nat.not_le.mpr (Nat.lt_succ_of_le hk), hs, hq]
    rfl
  · simp only [Nat.not_le.mpr (Nat.lt_succ_of_le hk), hs, hq]
    cases e.logicalOf k <;> rfl

/-- A TRAIN attempt that runs out (R228). -/
theorem Dev.attemptOver_train {e : Dev} (hst : d.laneState k = 1) (he : e = d.setLane k { d.lane k with fails := (d.lane k).fails + 1 }) :
    ((d.lane k).fails + 1 < 3 → d.attemptOver k = e) ∧
    (2 ≤ (d.lane k).fails → e.qualifying k = true → d.attemptOver k = e.qualifyFailed k) ∧
    (2 ≤ (d.lane k).fails → e.qualifying k = false → (e.laneFailed k).isSpare k = true →
      d.attemptOver k = (e.laneFailed k).noSpare (Dev.laneBar k)) ∧
    (2 ≤ (d.lane k).fails → e.qualifying k = false → (e.laneFailed k).isSpare k = false → d.attemptOver k = e.laneFailed k) := by
  have hover : d.attemptOver k = (if decide ((d.lane k).fails + 1 < 3) then e
      else if e.qualifying k then e.qualifyFailed k
      else if (e.laneFailed k).isSpare k then (e.laneFailed k).noSpare (Dev.laneBar k) else e.laneFailed k) := by
    subst he
    simp only [Dev.attemptOver, hst]
    rfl
  rw [hover]
  refine ⟨fun h => ?_, fun h hq => ?_, fun h hq hs => ?_, fun h hq hs => ?_⟩
  · simp [h]
  · have h' : ¬(d.lane k).fails + 1 < 3 := by omega
    simp [h', hq]
  · have h' : ¬(d.lane k).fails + 1 < 3 := by omega
    simp [h', hq, hs]
  · have h' : ¬(d.lane k).fails + 1 < 3 := by omega
    simp [h', hq, hs]

/-- A STEP attempt that runs out (R228, R239, R241). -/
theorem Dev.attemptOver_step (hst : d.laneState k = 3) :
    (d.inSwap k = true → d.attemptOver k = d.abandonSwap (Dev.laneBar k)) ∧
    (d.inSwap k = false → d.qualifying k = true → d.attemptOver k = d.qualifyFailed k) ∧
    (∀ e : Dev, d.inSwap k = false → d.qualifying k = false →
      e = ((d.putLane k 2).put 0x3411 k 1).setLane k { d.lane k with ceilingRate := (d.lane k).target, target := 0 } →
      (e.workingRate k (d.lane k).target ≤ 1 → d.attemptOver k = e) ∧
      (1 < e.workingRate k (d.lane k).target → d.attemptOver k = e.stepUp k)) := by
  refine ⟨fun h => ?_, fun h hq => ?_, fun e h hq he => ?_⟩
  · simp [Dev.attemptOver, hst, h]
  · simp [Dev.attemptOver, hst, h, hq]
  · subst he
    exact ⟨fun hw => by simp [Dev.attemptOver, hst, h, hq, Nat.not_lt.mpr hw], fun hw => by simp [Dev.attemptOver, hst, h, hq, hw]⟩

theorem Dev.attemptOver_other (h1 : d.laneState k ≠ 1) (h3 : d.laneState k ≠ 3) : d.attemptOver k = d := by
  simp [Dev.attemptOver, h1, h3]

/-- The equaliser code of a lane: its fixed one, or the lowest with the largest opening (R225). -/
theorem Dev.equaliser_fixed (openings : List Nat) (h : d.g 0x3403 k < 16) : d.equaliser k openings = d.g 0x3403 k := by
  simp [Dev.equaliser, h]

/-- What `max` folds to bounds every entry, and is the start or one of them. -/
theorem foldl_max_spec (l : List Nat) (m : Nat) : (m ≤ l.foldl max m ∧ ∀ a ∈ l, a ≤ l.foldl max m) ∧ (l.foldl max m = m ∨ l.foldl max m ∈ l) := by
  induction l generalizing m with
  | nil => simp
  | cons b l ih =>
    obtain ⟨⟨hm, hl⟩, h⟩ := ih (max m b)
    refine ⟨⟨(le_max_left _ _).trans hm, fun a ha => ?_⟩, ?_⟩
    · rcases List.mem_cons.mp ha with rfl | ha
      · exact (le_max_right _ _).trans hm
      · exact hl a ha
    · rcases h with h | h
      · rcases max_choice m b with hc | hc
        · exact .inl (h.trans hc)
        · exact .inr (List.mem_cons.mpr (.inl (h.trans hc)))
      · exact .inr (List.mem_cons_of_mem _ h)

/-- The largest opening among the 16 codes is that of one of them, and none is larger (R225). -/
theorem largest_opening (openings : List Nat) :
    (∀ i, i < 16 → openings.getD i 0 ≤ (openings.take 16).foldl max 0) ∧ ∃ i, i < 16 ∧ openings.getD i 0 = (openings.take 16).foldl max 0 := by
  obtain ⟨⟨-, hle⟩, hmem⟩ := foldl_max_spec (openings.take 16) 0
  have hbound : ∀ i, i < 16 → openings.getD i 0 ≤ (openings.take 16).foldl max 0 := fun i hi => by
    by_cases hlen : i < openings.length
    · rw [List.getD_eq_getElem _ _ hlen]
      exact hle _ (List.mem_take_iff_getElem.mpr ⟨i, by omega, rfl⟩)
    · rw [List.getD_eq_default _ _ (Nat.le_of_not_lt hlen)]
      exact Nat.zero_le _
  refine ⟨hbound, ?_⟩
  rcases hmem with h | h
  · exact ⟨0, by decide, Nat.le_antisymm (hbound 0 (by decide)) (by rw [h]; exact Nat.zero_le _)⟩
  · obtain ⟨i, hi, heq⟩ := List.mem_take_iff_getElem.mp h
    exact ⟨i, by omega, (List.getD_eq_getElem _ _ (by omega)).trans heq⟩

theorem Dev.equaliser_largest (openings : List Nat) (h : 16 ≤ d.g 0x3403 k) : d.equaliser k openings < 16 ∧ ∀ i, i < 16 →
    openings.getD i 0 ≤ openings.getD (d.equaliser k openings) 0 ∧
      (i < d.equaliser k openings → openings.getD i 0 < openings.getD (d.equaliser k openings) 0) := by
  obtain ⟨hle, i, hi, hbest⟩ := largest_opening openings
  have heq : d.equaliser k openings =
      ((List.range 16).find? (fun i => openings.getD i 0 == (openings.take 16).foldl max 0)).getD 0 := by
    simp [Dev.equaliser, Nat.not_lt.mpr h]
  cases hf : (List.range 16).find? (fun i => openings.getD i 0 == (openings.take 16).foldl max 0) with
  | none =>
    have hno := List.find?_eq_none.mp hf i (List.mem_range.mpr hi)
    rw [hbest, beq_self_eq_true] at hno
    exact absurd rfl hno
  | some q =>
    obtain ⟨hq, hmem, hfirst⟩ := List.find?_range_eq_some.mp hf
    have hbest' : openings.getD q 0 = (openings.take 16).foldl max 0 := by simpa using hq
    rw [heq, hf, Option.getD_some, hbest']
    refine ⟨List.mem_range.mp hmem, fun j hj => ⟨hle j hj, fun hlt => lt_of_le_of_ne (hle j hj) ?_⟩⟩
    simpa using hfirst j hlt

/-- A lane in STEP that has run without error, a swap's spare and a lane under qualification apart (R156, R229, R230). -/
theorem Dev.verified_up {e : Dev} (hs : d.inSwap k = false) (hq : d.qualifying k = false)
    (he : e = (d.putLane k 4).setLane k { d.lane k with upRate := (d.lane k).target, target := 0, since := d.t }) :
    (73 ≤ k → d.verified k = e.linkUp) ∧
    (∀ f : Dev, k ≤ 72 → f = (if (if (d.lane k).upRate ≠ 0 then (d.lane k).upRate != (d.lane k).target
        else d.ctxs.any (fun x => decide (4 ≤ x.2.code ∧ x.2.code ≤ 6) && (x.2.rates.find? k).any (fun r => r != (d.lane k).target))) = true
        then e.raise 51 (2 ^ Dev.laneBar k) else e) →
      ((f.inUseLane k && f.printingLike) = true → d.verified k = (f.carry k).prepareDone) ∧
      ((f.inUseLane k && f.printingLike) = false → d.verified k = f.prepareDone)) := by
  subst he
  refine ⟨fun hk => by simp [Dev.verified, hs, hq, hk], fun f hk hf => ?_⟩
  have hk' : ¬73 ≤ k := by omega
  have hmoved : ∀ a b : Bool, (if (d.lane k).upRate != 0 then a else b) = (if (d.lane k).upRate ≠ 0 then a else b) := fun a b => by
    by_cases hu : (d.lane k).upRate = 0 <;> simp [hu]
  have hver : d.verified k = (if f.inUseLane k && f.printingLike then f.carry k else f).prepareDone := by
    rw [hf, ← hmoved]
    simp only [Dev.verified, hs, hq, hk']
    rfl
  rw [hver]
  exact ⟨fun h => by rw [if_pos h], fun h => by rw [if_neg (by simp [h])]⟩

theorem Dev.verified_qualifying (hs : d.inSwap k = false) (hq : d.qualifying k = true) :
    d.verified k = ((d.putLane k 8).put 0x3419 k 0).setLane k { d.lane k with test := 32, since := d.t } := by
  simp [Dev.verified, hs, hq]
  rfl

theorem Dev.verified_swap (hs : d.inSwap k = true) : d.verified k = d.spareStepped (Dev.laneBar k) := by simp [Dev.verified, hs]

/-- A lane loses its signal or its block lock (R235, R236). -/
theorem Dev.loseLock_cases (d : Dev) (k : Nat) :
    (d.readySpare k = true → d.loseLock k = d.abandonSwap (Dev.laneBar k)) ∧
    (d.readySpare k = false → d.inSwap k = true → d.loseLock k = d) ∧
    (d.readySpare k = false → d.inSwap k = false →
      (d.laneState k = 4 → ((d.lane k).carries = true ∨ 73 ≤ k) → d.loseLock k =
        ((d.putLane k 5).bump 0x3415 k).setLane k { d.lane k with retraining := false, since := d.t }) ∧
      (d.laneState k = 4 → (d.lane k).carries = false → k ≤ 72 → d.loseLock k = d.retrainLane k) ∧
      ((d.laneState k = 2 ∨ d.laneState k = 6) → d.loseLock k = d.retrainLane k) ∧
      ((d.laneState k ≠ 2 ∧ d.laneState k ≠ 4 ∧ d.laneState k ≠ 6) → d.loseLock k = d)) := by
  refine ⟨fun h => by simp [Dev.loseLock, h], fun h hi => by simp [Dev.loseLock, h, hi], fun h hi => ⟨fun h4 hc => ?_, fun h4 hc hk => ?_, fun h26 => ?_, fun hst => ?_⟩⟩
  · have hc' : ((d.lane k).carries || decide (73 ≤ k)) = true := by simpa using hc
    simp only [Dev.loseLock, h, hi, h4, hc']
    rfl
  · have hk' : ¬73 ≤ k := by omega
    simp [Dev.loseLock, h, hi, h4, hc, hk']
  · rcases h26 with h2 | h6
    · simp [Dev.loseLock, h, hi, h2]
    · simp [Dev.loseLock, h, hi, h6]
  · obtain ⟨h2, h4, h6⟩ := hst
    simp [Dev.loseLock, h, hi, h2, h4, h6]

/-- A lane that can no longer serve (R235, R414, R458). -/
theorem Dev.laneFailed_cases {f : Dev} (hf : f = (d.putLane k 7).setLane k { d.lane k with carries := false, target := 0, retraining := false }) :
    (73 ≤ k → d.laneFailed k = f.raise 60) ∧
    (k ≤ 72 → (f.lanesOf (Dev.laneBar k)).contains k = false → d.laneFailed k = f) ∧
    (k ≤ 72 → (f.lanesOf (Dev.laneBar k)).contains k = true → ∀ hot, hot = (f.role != 0 && f.g 0x2C00 1 == 2 && f.synced) →
      (f.printingLike = true → hot = false → d.laneFailed k = (f.fault 4 52 k (2 ^ Dev.laneBar k) 0).prepareDone) ∧
      ((f.printingLike = false ∨ hot = true) → d.laneFailed k = (f.raiseAt 0x10 52 (2 ^ Dev.laneBar k) 0xFF 0).prepareDone)) := by
  have hfailed : d.laneFailed k = (if decide (73 ≤ k) then f.raise 60
      else if (f.lanesOf (Dev.laneBar k)).contains k then
        (if f.printingLike && !(f.role != 0 && f.g 0x2C00 1 == 2 && f.synced) then f.fault 4 52 k (2 ^ Dev.laneBar k) 0
          else f.raiseAt 0x10 52 (2 ^ Dev.laneBar k) 0xFF 0).prepareDone
      else f) := by
    subst hf
    rfl
  rw [hfailed]
  refine ⟨fun hk => if_pos (decide_eq_true hk), fun hk hc => ?_, fun hk hc hot hhot => ?_⟩
  · rw [if_neg (by simp; omega), if_neg (by rw [hc]; exact Bool.false_ne_true)]
  · rw [if_neg (by simp; omega), if_pos hc, ← hhot]
    exact ⟨fun hp hh => by simp [hp, hh], fun h => by rcases h with h | h <;> simp [h]⟩

/-- A lane in UP_LOW announces its working rate, or stays at 1.25 Gb/s (R228, R229, R241). -/
theorem Dev.stepUp_cases (d : Dev) (k : Nat) :
    (∀ r m, d.laneState k = 2 → (d.lane k).refused = false → m = ((d.lane k).marker + 1) % 4294967296 →
      r = (if d.qualifying k then (d.barRate (Dev.laneBar k)).getD (d.workingRate k (d.lane k).ceilingRate)
        else d.workingRate k (d.lane k).ceilingRate) →
      ((r ≠ 1 ∨ (d.lane k).ceilingRate = 6) → d.stepUp k = (d.setLane k { d.lane k with target := r, since := d.t }).sendTrain k r m) ∧
      (r = 1 → (d.lane k).ceilingRate ≠ 6 → d.stepUp k = d)) ∧
    ((d.laneState k ≠ 2 ∨ (d.lane k).refused = true) → d.stepUp k = d) := by
  refine ⟨fun r m h2 hr hm hrate => ?_, fun h => ?_⟩
  · have hstep : d.stepUp k = (if r == 1 && (d.lane k).ceilingRate != 6 then d
        else (d.setLane k { d.lane k with target := r, since := d.t }).sendTrain k r m) := by
      subst hm hrate
      exact if_pos (by simp [h2, hr])
    rw [hstep]
    exact ⟨fun h => by rcases h with h | h <;> simp [h], fun h h6 => by simp [h, h6]⟩
  · rcases h with h | h <;> simp [Dev.stepUp, h]

/-- A lane is down: a swap stands in for it, its spare takes its place, or it retrains (R235, R236, R268). -/
theorem Dev.laneDown_cases {n l : Nat} {retrain : Dev → Dev} (hn : n = Dev.laneBar k) (hl : l = (d.logicalOf k).getD 0xFF)
    (hretrain : ∀ x : Dev, retrain x = ((x.putLane k 5).bump 0x3416 k).setLane k { x.lane k with retraining := true, since := x.t }) :
    (d.beingSwapped k = true → d.laneDown k = d) ∧
    (73 ≤ k → d.laneDown k = retrain (d.raise 49 0 k 0xFF)) ∧
    (k ≤ 72 → d.beingSwapped k = false →
      (d.inSwap k = true → d.laneDown k = (d.raise 49 (2 ^ n) k 0xFF).abandonSwap n) ∧
      (d.inSwap k = false → (d.lane k).carries = false → d.laneDown k = (d.raise 49 (2 ^ n) k l).retrainLane k) ∧
      (d.inSwap k = false → (d.lane k).carries = true → ∀ e, e = (d.raise 49 (2 ^ n) k l).onLane k (fun x =>
          { x with carries := false, credited := false, baseSent := false }) →
        (((d.logicalOf k).isSome && d.spareReady n) = true → d.laneDown k = ((e.putLane k 5).beginSwap n l false).swapRecovery n k) ∧
        (((d.logicalOf k).isSome && d.spareReady n) = false → d.laneDown k = retrain e))) := by
  have hdown : d.laneDown k = (if d.beingSwapped k then d
      else if decide (73 ≤ k) then retrain (d.raise 49 0 k 0xFF)
      else if d.inSwap k then (d.raise 49 (2 ^ n) k 0xFF).abandonSwap n
      else if !(d.lane k).carries then (d.raise 49 (2 ^ n) k l).retrainLane k
      else if (d.logicalOf k).isSome && d.spareReady n then
        ((((d.raise 49 (2 ^ n) k l).onLane k (fun x =>
          { x with carries := false, credited := false, baseSent := false })).putLane k 5).beginSwap n l false).swapRecovery n k
      else retrain ((d.raise 49 (2 ^ n) k l).onLane k (fun x => { x with carries := false, credited := false, baseSent := false }))) := by
    subst hn hl
    rw [hretrain, hretrain]
    rfl
  rw [hdown]
  refine ⟨fun hb => if_pos hb, fun hk => ?_, fun hk hb => ⟨fun hi => ?_, fun hi hc => ?_, fun hi hc e he => ⟨fun hs => ?_, fun hs => ?_⟩⟩⟩
  · have hk' : ¬k ≤ 72 := by omega
    simp [Dev.beingSwapped, hk, hk']
  all_goals have hk' : ¬73 ≤ k := by omega
  · simp [hb, hk', hi]
  · simp [hb, hk', hi, hc]
  · rw [he]
    simp only [hb, hk', hi, hc, hs]
    rfl
  · rw [he]
    simp only [hb, hk', hi, hc, hs]
    rfl

/-- The rate switch of a lane that has announced a rate (R225, R229). -/
theorem exec_rateSwitch {s : State} {lane : Fin 80} {l : Lane} {openings : List Nat} {q : Nat} (hk : k = lane + 1) (hl : l = s.dev.lane k)
    (hq : q = s.dev.equaliser k openings) : exec (.rateSwitch lane openings) s = s.done (if s.dev.laneState k == 2 && l.target != 0 then
      (((s.begin_.putLane k 3).put 0x3411 k l.target).put 0x3412 k q).setLane k
          { l with eqHeld := l.eqHeld.set l.target q, since := s.now } else s.begin_) := by
  subst hk hl hq
  rfl

/-- Block lock regained (R235, R257). -/
theorem exec_blockLockRegained {s : State} {lane : Fin 80} {l : Lane} {u : Dev} (hk : k = lane + 1) (hl : l = s.dev.lane k)
    (hu : u = (s.begin_.putLane k 4).setLane k { l with retraining := false }) : exec (.blockLockRegained lane) s = s.done
      (if s.dev.laneState k != 5 || s.dev.beingSwapped k then s.begin_
        else if l.retraining && s.dev.inUseLane k && s.dev.printingLike then u.carry k else u) := by
  subst hk hl hu
  rfl

/-- A lane's state does not tell which lanes serve a bar, nor which bars swap. -/
theorem Dev.inUseLane_putLane (hk : k ≤ 80) (v : Nat) (l : Lane) : ((d.putLane k v).setLane k l).inUseLane k = d.inUseLane k := by
  have hmap : ∀ i, ((d.putLane k v).setLane k l).g 0x3417 i = d.g 0x3417 i := fun i => Dev.g_put_ne _ _ (by simp only [key]; omega)
  have huse : ((d.putLane k v).setLane k l).g 0x3401 (Dev.laneBar k + 1) = d.g 0x3401 (Dev.laneBar k + 1) :=
    Dev.g_put_ne _ _ (by simp only [key, Dev.laneBar]; omega)
  have hof : ((d.putLane k v).setLane k l).laneOf = d.laneOf := funext fun n => funext fun l => by simp only [Dev.laneOf, hmap]
  have hin : ((d.putLane k v).setLane k l).lanesInUse (Dev.laneBar k) = d.lanesInUse (Dev.laneBar k) := by
    simp only [Dev.lanesInUse, huse]
  simp only [Dev.inUseLane, Dev.lanesOf, Dev.swappedOut, hof, hin]
  rfl

end

/-- Settles O41, by the cases of each of the lane's functions. -/
theorem lanesTrainStepUpAndRelock : Obligations.LanesTrainStepUpAndRelock := by
  unfold Obligations.LanesTrainStepUpAndRelock
  refine ⟨fun s lane k l e hk hl => ?_, fun s lane k l u hk hl => ?_, fun d k => ?_, fun d k n l retrain hn hl hretrain => Dev.laneDown_cases hn hl hretrain⟩
  · have hk80 : k ≤ 80 := by have := lane.isLt; omega
    refine ⟨fun mask h1 he => ?_, fun h1 he => ?_, fun h3 => ?_, fun h1 => ⟨fun mask => ?_, ?_, fun h3 => ?_⟩, fun h1 => ?_,
      fun openings q hq => ⟨fun h2 ht => ?_, fun h => ?_, fun hc => ?_, fun hc => ?_⟩, fun h3 => ?_, fun h3 hi => ?_, fun h3 hi hq => ?_,
      fun h3 hi hq he => ?_, fun hlive m hm => ?_, fun hlive => ?_⟩
    · subst hl
      have hexec : exec (.laneTrained lane mask) s = s.done (s.begin_.trained k (mask % 32)) := by
        subst hk
        exact congrArg s.done (if_pos (beq_iff_eq.mpr h1))
      obtain ⟨h0, h7, hsp, hup, hno⟩ := Dev.trained_cases hk80 he
      exact ⟨fun a b => .done (hexec.trans (congrArg s.done (h0 a b))), fun a b c => .done (hexec.trans (congrArg s.done (h7 a b c))),
        fun a b => .done (hexec.trans (congrArg s.done (hsp a b))), fun a b c => .done (hexec.trans (congrArg s.done (hup a b c))),
        fun a b c => .done (hexec.trans (congrArg s.done (hno a b c)))⟩
    · subst hl hk
      obtain ⟨ha, hb, hc, hd⟩ := Dev.attemptOver_train (d := s.begin_) h1 he
      exact ⟨fun h => .done (congrArg s.done (ha h)), fun h h' => .done (congrArg s.done (hb h h')),
        fun h h' h'' => .done (congrArg s.done (hc h h' h'')), fun h h' h'' => .done (congrArg s.done (hd h h' h''))⟩
    · subst hl hk
      obtain ⟨ha, hb, hc⟩ := Dev.attemptOver_step (d := s.begin_) h3
      exact ⟨fun h => .done (congrArg s.done (ha h)), fun h h' => .done (congrArg s.done (hb h h')),
        fun h h' he => ⟨fun hw => .done (congrArg s.done ((hc e h h' he).1 hw)), fun hw => .done (congrArg s.done ((hc e h h' he).2 hw))⟩⟩
    · subst hk
      exact .done (congrArg s.done (if_neg (fun h => h1 (beq_iff_eq.mp h))))
    · subst hk
      exact .done (congrArg s.done (if_neg (fun h => h1 (beq_iff_eq.mp h))))
    · subst hk
      exact .done (congrArg s.done (Dev.attemptOver_other (d := s.begin_) h1 h3))
    · subst hl hk
      exact .done (congrArg s.done (if_pos (beq_iff_eq.mpr h1)))
    · exact .done ((exec_rateSwitch hk hl hq).trans (congrArg s.done (if_pos (by simp [h2, ht]))))
    · exact .done ((exec_rateSwitch hk hl hq).trans (congrArg s.done (if_neg (by rcases h with h | h <;> simp [h]))))
    · exact hq.trans (Dev.equaliser_fixed openings hc)
    · exact hq ▸ Dev.equaliser_largest openings hc
    · subst hk
      exact .done (congrArg s.done (if_neg (fun h => h3 (beq_iff_eq.mp h))))
    · subst hk
      exact .done (congrArg s.done ((if_pos (beq_iff_eq.mpr h3)).trans (Dev.verified_swap (d := s.begin_) hi)))
    · subst hk hl
      exact .done (congrArg s.done ((if_pos (beq_iff_eq.mpr h3)).trans (Dev.verified_qualifying (d := s.begin_) hi hq)))
    · subst hk hl
      obtain ⟨htwin, hhead⟩ := Dev.verified_up (d := s.begin_) hi hq he
      have hexec : exec (.laneVerified lane) s = s.done (s.begin_.verified (lane + 1)) := congrArg s.done (if_pos (beq_iff_eq.mpr h3))
      exact ⟨fun h => .done (hexec.trans (congrArg s.done (htwin h))), fun f h hf =>
        ⟨fun hc => .done (hexec.trans (congrArg s.done ((hhead f h hf).1 hc))), fun hc => .done (hexec.trans (congrArg s.done ((hhead f h hf).2 hc)))⟩⟩
    · subst hk hl hm
      exact .done (congrArg s.done (if_pos hlive))
    · subst hk
      exact .done (congrArg s.done (if_neg (by rw [show s.begin_.laneLive (lane + 1) = false from hlive]; exact Bool.false_ne_true)))
  · have hk80 : k ≤ 80 := by have := lane.isLt; omega
    refine ⟨fun invalid unlisted hh => ?_, fun invalid unlisted e hh he => ⟨fun hi => ?_, fun hi => ?_⟩, ?_, fun hu => ⟨fun h5 hs hc => ?_, fun h5 hs hc => ?_, fun h => ?_⟩,
      fun h5 hr => ?_, fun h => ?_, fun h5 hr => ?_, fun h => ?_⟩
    · subst hk
      exact .done (congrArg s.done (if_pos (by rw [show s.begin_.hears (lane + 1) = false from hh]; rfl)))
    · subst hk hl he
      exact .done (congrArg s.done ((if_neg (by rw [show s.begin_.hears (lane + 1) = true from hh]; decide)).trans (if_neg (by simp; omega))))
    · subst hk hl he
      exact .done (congrArg s.done ((if_neg (by rw [show s.begin_.hears (lane + 1) = true from hh]; decide)).trans (if_pos (decide_eq_true hi))))
    · subst hk
      exact .done rfl
    · have huse : u.inUseLane k = s.dev.inUseLane k := by
        rw [hu]
        exact Dev.inUseLane_putLane (d := s.begin_) hk80 _ _
      have hprint : u.printingLike = s.dev.printingLike := by
        rw [hu]
        rfl
      rw [huse, hprint] at hc
      exact .done ((exec_blockLockRegained hk hl hu).trans (congrArg s.done ((if_neg (by simp [h5, hs])).trans (if_neg (by rw [hc]; exact Bool.false_ne_true)))))
    · exact .done ((exec_blockLockRegained hk hl hu).trans (congrArg s.done ((if_neg (by simp [h5, hs])).trans (if_pos hc))))
    · exact .done ((exec_blockLockRegained hk hl hu).trans (congrArg s.done (if_pos (by rcases h with h | h <;> simp [h]))))
    · subst hk hl
      exact .done (congrArg s.done (if_pos (by
        rw [show s.begin_.laneState (lane + 1) = 5 from h5, show (s.begin_.lane (lane + 1)).retraining = false from hr]
        rfl)))
    · subst hk hl
      refine .done (congrArg s.done (if_neg ?_))
      show ¬(s.dev.laneState (lane + 1) == 5 && !(s.dev.lane (lane + 1)).retraining) = true
      rcases h with h | h <;> simp [h]
    · subst hk hl
      exact .done (congrArg s.done (if_pos (by
        rw [show s.begin_.laneState (lane + 1) = 5 from h5, show (s.begin_.lane (lane + 1)).retraining = true from hr]
        rfl)))
    · subst hk hl
      refine .done (congrArg s.done (if_neg ?_))
      show ¬(s.dev.laneState (lane + 1) == 5 && (s.dev.lane (lane + 1)).retraining) = true
      rcases h with h | h <;> simp [h]
  · obtain ⟨hready, hin, hrest⟩ := Dev.loseLock_cases d k
    obtain ⟨hup, hstay⟩ := Dev.stepUp_cases d k
    exact ⟨hready, hin, hrest, rfl, fun f hf => Dev.laneFailed_cases hf, hup, hstay⟩

end Sys2Proof.Machine
end

section
/-! PROOFS. Lanes under supervision: eye scans, qualification and swaps (R227, R238 to R241, R444). -/
namespace Sys2Proof.Machine

open Sys2Proof

section
variable {d : Dev} {k n : Nat}

/-- A lane's qualification fails (R241). -/
theorem Dev.qualifyFailed_eq {e : Dev} (he : e = (d.putLane k 7).setLane k { d.lane k with target := 0, test := 0, qual := false }) :
    d.qualifyFailed k = if e.g 0x2E04 (2 + Dev.laneBar k) = 0 then e else e.consume (2 + Dev.laneBar k) := by
  have hfailed : d.qualifyFailed k = if (e.g 0x2E04 (2 + Dev.laneBar k) == 0) = true then e else e.consume (2 + Dev.laneBar k) := by
    subst he
    rfl
  rw [hfailed]
  simp only [beq_iff_eq]

/-- A swap's spare has stepped up (R239, R240). -/
theorem Dev.spareStepped_cases {e : Dev} {w : Swap} (hw : (d.bar n).swap = some w) :
    (w.stepped = true → d.spareStepped n = d) ∧
    (w.stepped = false → e = (d.putLane (d.spareOf n + 1) 4).onBar n (fun b => { b with swap := some { w with stepped := true } }) →
      (w.planned = true → d.spareStepped n = e) ∧ (w.planned = false → d.spareStepped n = e.startSwap n)) := by
  refine ⟨fun h => by simp [Dev.spareStepped, hw, h], fun h he => ?_⟩
  subst he
  exact ⟨fun hp => by simp [Dev.spareStepped, hw, h, hp], fun hp => by simp [Dev.spareStepped, hw, h, hp]⟩

/-- What a qualification that ends does not touch: the map, the swap and the pools of the bar. -/
theorem Dev.qualified_outside : (d.qualifying k = false ∨ d.laneState k ≠ 8 ∨ (d.lane k).test ≠ 32) → ∀ pass, d.qualified k pass = d := by
  intro h pass
  rcases h with h | h | h <;> simp [Dev.qualified, h]

/-- A qualification ends (R241, R444): the lane is its bar's spare, or FAILED. -/
theorem Dev.qualified_eq (hq : d.qualifying k = true) (h8 : d.laneState k = 8) (ht : (d.lane k).test = 32) (pass : Bool) {p f g : Dev}
    (hp : p = d.drew.put 0x3419 k (if pass then 0 else d.freeNat % 4294967295 + 1))
    (hf : f = (if (((p.putLane k 6).put 0x3411 k 1).setLane k { d.lane k with test := 0, qual := false, since := d.t }).g 0x2E04 (2 + Dev.laneBar k) == 0
      then (((p.putLane k 6).put 0x3411 k 1).setLane k { d.lane k with test := 0, qual := false, since := d.t }).restorePool (2 + Dev.laneBar k)
      else (((p.putLane k 6).put 0x3411 k 1).setLane k { d.lane k with test := 0, qual := false, since := d.t })))
    (hg : g = f.put 0x3418 (Dev.laneBar k + 1) ((k - 1) * 256 + f.g 0x3418 (Dev.laneBar k + 1) % 256)) :
    d.qualified k pass = if pass && (p.g 0x3413 k / 65536 == 0 || decide (p.g 0x2E00 1 ≤ p.g 0x3413 k / 65536)) then
      if f.swappedOut k then f else g.saveNv (g.laneRec (Dev.laneBar k)) else p.qualifyFailed k := by
  subst hg hf hp
  exact if_neg (by simp [hq, h8, ht])

/-- A swap's old lane is read off the map and the swap of its bar. -/
theorem Dev.swappedOut_congr {e : Dev} (hmap : e.g 0x3417 (Dev.laneBar k + 1) = d.g 0x3417 (Dev.laneBar k + 1))
    (hbar : e.bar (Dev.laneBar k) = d.bar (Dev.laneBar k)) : e.swappedOut k = d.swappedOut k := by
  simp only [Dev.swappedOut, Dev.laneOf, hmap, hbar]

/-- A qualification that passed with an opening not below the floor (R241, R444). -/
theorem Dev.qualified_pass (hk : k ≤ 72) (hq : d.qualifying k = true) (h8 : d.laneState k = 8) (ht : (d.lane k).test = 32)
    (heye : d.g 0x3413 k / 65536 = 0 ∨ d.g 0x2E00 1 ≤ d.g 0x3413 k / 65536) {e f g : Dev}
    (he : e = ((((d.drew.put 0x3419 k 0).putLane k 6).put 0x3411 k 1).setLane k { d.lane k with test := 0, qual := false, since := d.t }))
    (hf : f = (if d.g 0x2E04 (2 + Dev.laneBar k) = 0 then e.restorePool (2 + Dev.laneBar k) else e))
    (hg : g = f.put 0x3418 (Dev.laneBar k + 1) ((k - 1) * 256 + f.g 0x3418 (Dev.laneBar k + 1) % 256)) :
    d.qualified k true = if d.swappedOut k then f else g.saveNv (g.laneRec (Dev.laneBar k)) := by
  have hbar : Dev.laneBar k ≤ 8 := by simp only [Dev.laneBar]; omega
  have hscan : (d.drew.put 0x3419 k 0).g 0x3413 k = d.g 0x3413 k := Dev.g_put_ne _ _ (by simp only [key]; omega)
  have hfloor : (d.drew.put 0x3419 k 0).g 0x2E00 1 = d.g 0x2E00 1 := Dev.g_put_ne _ _ (by simp only [key]; omega)
  have hkeep : ∀ i j, key i j ≠ key 0x3411 k → key i j ≠ key 0x3410 k → key i j ≠ key 0x3419 k → e.g i j = d.g i j := fun i j h1 h0 h9 => by
    subst he
    show (((d.drew.put 0x3419 k 0).put 0x3410 k 6).put 0x3411 k 1).g i j = d.drew.g i j
    rw [Dev.g_put_ne _ _ h1.symm, Dev.g_put_ne _ _ h0.symm, Dev.g_put_ne _ _ h9.symm]
  have hpool : e.g 0x2E04 (2 + Dev.laneBar k) = d.g 0x2E04 (2 + Dev.laneBar k) :=
    hkeep _ _ (by simp only [key]; omega) (by simp only [key]; omega) (by simp only [key]; omega)
  have hmap : e.g 0x3417 (Dev.laneBar k + 1) = d.g 0x3417 (Dev.laneBar k + 1) :=
    hkeep _ _ (by simp only [key]; omega) (by simp only [key]; omega) (by simp only [key]; omega)
  have hout : f.swappedOut k = d.swappedOut k := by
    by_cases h0 : d.g 0x2E04 (2 + Dev.laneBar k) = 0
    · rw [hf, if_pos h0]
      refine Dev.swappedOut_congr ((Dev.g_put_ne _ _ (by simp only [key]; omega)).trans hmap) ?_
      rw [he]
      rfl
    · rw [hf, if_neg h0]
      exact Dev.swappedOut_congr hmap (by rw [he]; rfl)
  rw [Dev.qualified_eq (p := d.drew.put 0x3419 k 0) (f := f) hq h8 ht true rfl (by subst he; simp only [hf, ← hpool, beq_iff_eq]) hg, hscan, hfloor, hout]
  exact if_pos (by simpa using heye)

/-- A qualification that passed with an opening below the floor (R444). -/
theorem Dev.qualified_closed (hq : d.qualifying k = true) (h8 : d.laneState k = 8) (ht : (d.lane k).test = 32) (hk : k ≤ 72)
    (h0 : d.g 0x3413 k / 65536 ≠ 0) (heye : d.g 0x3413 k / 65536 < d.g 0x2E00 1) : d.qualified k true = (d.drew.put 0x3419 k 0).qualifyFailed k := by
  have hscan : (d.drew.put 0x3419 k 0).g 0x3413 k = d.g 0x3413 k := Dev.g_put_ne _ _ (by simp only [key]; omega)
  have hfloor : (d.drew.put 0x3419 k 0).g 0x2E00 1 = d.g 0x2E00 1 := Dev.g_put_ne _ _ (by simp only [key]; omega)
  rw [Dev.qualified_eq (p := d.drew.put 0x3419 k 0) hq h8 ht true rfl rfl rfl, hscan, hfloor]
  exact if_neg (by simp [h0, heye])

/-- A qualification that did not pass (R241). -/
theorem Dev.qualified_failed (hq : d.qualifying k = true) (h8 : d.laneState k = 8) (ht : (d.lane k).test = 32) :
    d.qualified k false = (d.drew.put 0x3419 k (d.freeNat % 4294967295 + 1)).qualifyFailed k := by
  rw [Dev.qualified_eq hq h8 ht false rfl rfl rfl]
  exact if_neg (by simp)

/-- The readback of a swap that does not wait for one, or that is not the one written (R238). -/
theorem Dev.swapDone_other {w : Swap} (hw : (d.bar n).swap = some w) (back : Option Nat) :
    ((w.started = false ∨ w.ready = true) → d.swapDone n back = d) ∧
    (w.started = true → w.ready = false → back ≠ some (0x80 + w.logical) → d.swapDone n back = d.abandonSwap n) := by
  refine ⟨fun h => ?_, fun hs hr hb => ?_⟩
  · rcases h with h | h <;> simp [Dev.swapDone, hw, h]
  · simp [Dev.swapDone, hw, hs, hr, hb]

/-- The switch has answered (R239): the spare is UP for the swap's logical lane, at once while nothing prints, and else from the next boundary. -/
theorem Dev.swapDone_answered {w : Swap} {sp : Nat} {c e : Dev} (hw : (d.bar n).swap = some w) (hsp : sp = d.spareOf n + 1)
    (hs : w.started = true) (hr : w.ready = false)
    (hc : c = (((d.onBar n (fun b => { b with swap := some { w with ready := true } })).sendTrain sp (d.lane sp).target
          (d.lane sp).marker).putLane sp 4).setLane sp { d.lane sp with upRate := (d.lane sp).target, target := 0, since := d.t })
    (he : e = (if w.planned then c else c.swapOver n)) :
    (e.printingLike = false → d.swapDone n (some (0x80 + w.logical)) = e.exchange n) ∧
    (e.printingLike = true → ∀ b, e.boundary (e.barRep n + 1) = some b →
      (e.sends = true → d.swapDone n (some (0x80 + w.logical)) = e.sendBase sp (ceilLine b)) ∧
      (e.sends = false → d.swapDone n (some (0x80 + w.logical)) = e)) ∧
    (e.printingLike = true → e.boundary (e.barRep n + 1) = none → d.swapDone n (some (0x80 + w.logical)) = e) := by
  have hbase : ¬(!w.started || w.ready) = true := by simp [hs, hr]
  have hdone : d.swapDone n (some (0x80 + w.logical)) = if !e.printingLike then e.exchange n
      else match e.boundary (e.barRep n + 1) with
        | some b => if e.sends then e.sendBase sp (ceilLine b) else e
        | none => e := by
    subst hsp hc he
    simp only [Dev.swapDone, hw]
    exact (if_neg hbase).trans (if_neg (by simp))
  rw [hdone]
  refine ⟨fun hp => by simp [hp], fun hp b hb => ⟨fun hsend => ?_, fun hsend => ?_⟩, fun hp hb => ?_⟩
  · simp [hp, hb, hsend]
  · simp [hp, hb, hsend]
  · simp [hp, hb]

/-- The readback of the switch's map at boot (R238). -/
theorem Dev.swapDone_boot (hw : (d.bar n).swap = none) (back : Option Nat) :
    ((d.bar n).switchSent = [] → d.swapDone n back = d) ∧
    (∀ c rest, (d.bar n).switchSent = c :: rest →
      (back = some c → d.swapDone n back = d.onBar n (fun b => { b with switchSent := rest })) ∧
      (back ≠ some c → d.swapDone n back = (d.onBar n (fun b => { b with switchSent := [] })).drew.raise 50 (2 ^ n) 0xFF
        (d.freeNat % 4294967295 + 1))) := by
  have hboot : d.swapDone n back = d.bootReadback n back := by simp only [Dev.swapDone, hw]
  rw [hboot]
  refine ⟨fun h => by simp [Dev.bootReadback, h], fun c rest h => ⟨fun hb => by simp [Dev.bootReadback, h, hb], fun hb => ?_⟩⟩
  simp only [Dev.bootReadback, h]
  exact if_neg (by simpa using hb)

end

/-- Settles O42, by the cases of the qualification, of the swap and of the switch's answer. -/
theorem lanesAreScannedQualifiedAndSwapped : Obligations.LanesAreScannedQualifiedAndSwapped := by
  unfold Obligations.LanesAreScannedQualifiedAndSwapped
  refine ⟨fun s openings f hf => .done (congrArg s.done ?_), fun s => .done rfl, fun s lane k n e d hk hn => ⟨fun h pass => ?_, fun hq h8 ht => ⟨fun heye he hd => ?_, fun h0 heye => ?_, ?_⟩⟩,
    fun d k e he => Dev.qualifyFailed_eq he, fun d e n w hw => Dev.spareStepped_cases hw, fun s n w sp c d hw hsp => ⟨fun h back => ?_, fun hs hr => ⟨fun back hb => ?_, fun hc hd => ?_⟩⟩,
    fun s n back hw => ?_⟩
  · refine congrArg (fun g => openings.foldl g s.begin_) (funext fun d => funext fun o => ?_)
    obtain ⟨i, h, v⟩ := o
    obtain ⟨hscan, hother⟩ := hf d i h v _ _
    by_cases hi : 80 ≤ i ∨ d.laneState (i + 1) ≠ 4
    · exact (if_pos (by simpa using hi)).trans (hother hi).symm
    · obtain ⟨hlt, h4⟩ := not_or.mp hi
      exact (if_neg (by simpa using hi)).trans (hscan (Nat.not_le.mp hlt) (not_not.mp h4) rfl).symm
  · subst hk
    exact .done (congrArg s.done (Dev.qualified_outside (d := s.begin_) h pass))
  · have hbar : Dev.laneBar k = n := by
      subst hk hn
      rfl
    subst hbar
    have hpass : ∀ g, g = d.put 0x3418 (Dev.laneBar k + 1) (lane * 256 + d.g 0x3418 (Dev.laneBar k + 1) % 256) →
        exec (.laneQualifyDone lane true) s = s.done (if s.dev.swappedOut k then d else g.saveNv (g.laneRec (Dev.laneBar k))) := fun g hg => by
      subst hk
      exact congrArg s.done (Dev.qualified_pass (d := s.begin_) (by omega) hq h8 ht heye he hd hg)
    exact ⟨fun ho => .done ((hpass _ rfl).trans (by rw [ho]; rfl)), fun ho g hg => .done ((hpass g hg).trans (by rw [ho]; rfl))⟩
  · subst hk
    exact .done (congrArg s.done (Dev.qualified_closed (d := s.begin_) hq h8 ht (by omega) h0 heye))
  · subst hk
    exact .done (congrArg s.done (Dev.qualified_failed (d := s.begin_) hq h8 ht))
  · exact .done (congrArg s.done ((Dev.swapDone_other (d := s.begin_) hw back).1 h))
  · exact .done (congrArg s.done ((Dev.swapDone_other (d := s.begin_) hw back).2 hs hr hb))
  · obtain ⟨hidle, hnext, hlast⟩ := Dev.swapDone_answered (d := s.begin_) hw hsp hs hr hc hd
    exact ⟨fun hp => .done (congrArg s.done (hidle hp)), fun hp b hb => ⟨fun h => .done (congrArg s.done ((hnext hp b hb).1 h)),
      fun h => .done (congrArg s.done ((hnext hp b hb).2 h))⟩, fun hp hb => .done (congrArg s.done (hlast hp hb))⟩
  · obtain ⟨hnil, hcons⟩ := Dev.swapDone_boot (d := s.begin_) hw back
    exact ⟨fun h => .done (congrArg s.done (hnil h)), fun c rest h => ⟨fun hb => .done (congrArg s.done ((hcons c rest h).1 hb)),
      fun hb => .done (congrArg s.done ((hcons c rest h).2 hb))⟩⟩

end Sys2Proof.Machine
end

section
/-! PROOFS. The lane commands of 0x3406 (R237, Table 9.4). -/
namespace Sys2Proof.Machine

open Sys2Proof

section
variable {d : Dev} {k : Nat}

/-- A lane that does not exist has no command (Table 9.4). -/
theorem Dev.laneCommand_absent (h : d.lanePresent k = false) (cmd arg : Nat) : d.laneCommand cmd arg k = (d, 0x06090030) := by
  simp [Dev.laneCommand, h]

/-- With the lane domain stopped every command is refused. -/
theorem Dev.laneCommand_stopped {cmd : Nat} (h1 : 1 ≤ cmd) (h6 : cmd ≤ 6) (hp : d.lanePresent k = true) (hk : k ≤ 80) (hf : d.fast = false)
    (arg : Nat) : d.laneCommand cmd arg k = (d, 0x0F00003A) := by
  have hargs : ¬(cmd == 0 || decide (6 < cmd) || !d.lanePresent k || decide (80 < k)) = true := by
    simp [hp]
    omega
  exact (if_neg hargs).trans (if_pos (by simp [hf]))

/-- A lane in service refuses every command but PROTECT. -/
theorem Dev.laneCommand_inService {cmd : Nat} (h1 : 1 ≤ cmd) (h6 : cmd ≤ 6) (h5 : cmd ≠ 5) (hp : d.lanePresent k = true) (hk : k ≤ 80)
    (h : (d.lane k).carries = true ∨ (73 ≤ k ∧ d.paired = true) ∨ d.inSwap k = true ∨ d.swappedOut k = true) (arg : Nat) :
    d.laneCommand cmd arg k = (d, 0x0F00003A) := by
  by_cases hf : d.fast = true
  · have hargs : ¬(cmd == 0 || decide (6 < cmd) || !d.lanePresent k || decide (80 < k)) = true := by
      simp [hp]
      omega
    exact (if_neg hargs).trans ((if_neg (by simp [hf])).trans (if_pos (by simpa [h5, or_assoc] using h)))
  · exact Dev.laneCommand_stopped h1 h6 hp hk (by simpa using hf) arg

/-- PROTECT (R237, R240). -/
theorem Dev.laneCommand_protect (hp : d.lanePresent k = true) (hk : k ≤ 80) (hf : d.fast = true) {n : Nat} (hn : n = Dev.laneBar k) (a : Nat) :
    ((7 < a ∨ 72 < k) → d.laneCommand 5 a k = (d, 0x06090030)) ∧
    (a ≤ 7 → k ≤ 72 → d.spareReady n = true → a ∈ d.lanesInUse n → d.laneCommand 5 a k = (d.beginSwap n a true, 0)) ∧
    (a ≤ 7 → k ≤ 72 → (d.spareReady n = false ∨ a ∉ d.lanesInUse n) → d.laneCommand 5 a k = (d, 0x0F00003A)) := by
  have hprotect : d.laneCommand 5 a k = if decide (7 < a) || decide (72 < k) then (d, 0x06090030)
      else if d.spareReady n && (d.lanesInUse n).contains a then (d.beginSwap n a true, 0) else (d, 0x0F00003A) := by
    subst hn
    exact (if_neg (by simp [hp]; omega)).trans ((if_neg (by simp [hf])).trans (if_neg (by simp)))
  rw [hprotect]
  refine ⟨fun h => if_pos (by simpa using h), fun ha hk' hs hm => ?_, fun ha hk' h => ?_⟩
  · exact (if_neg (by simp; omega)).trans (if_pos (by simp [hs, hm]))
  · refine (if_neg (by simp; omega)).trans (if_neg ?_)
    rcases h with h | h <;> simp [h]

/-- The count that a PRBS test leaves is a free value (R237; log 47). -/
theorem Dev.endPrbs_eq : d.endPrbs k = if 16 ≤ (d.lane k).test then d.drew.put 0x3419 k (d.freeNat % 4294967296) else d := by
  simp only [Dev.endPrbs, decide_eq_true_eq]

end

section
variable {d : Dev} {k : Nat} (hp : d.lanePresent k = true) (hk : k ≤ 80) (hf : d.fast = true) (hc : (d.lane k).carries = false)
  (htwin : k ≤ 72 ∨ d.paired = false) (hi : d.inSwap k = false) (ho : d.swappedOut k = false)
include hp hk hf hc htwin hi ho

/-- A lane out of service passes the checks that all of its commands share. -/
theorem Dev.laneCommand_free {cmd : Nat} (h1 : 1 ≤ cmd) (h6 : cmd ≤ 6) : ¬(cmd == 0 || decide (6 < cmd) || !d.lanePresent k || decide (80 < k)) = true ∧
    ¬(!d.fast) = true ∧ ¬(cmd != 5 && ((d.lane k).carries || (decide (73 ≤ k) && d.paired) || d.inSwap k || d.swappedOut k)) = true := by
  refine ⟨by simp [hp]; omega, by simp [hf], ?_⟩
  rcases htwin with h | h
  · have hk' : ¬73 ≤ k := by omega
    simp [hc, hi, ho, hk']
  · simp [hc, hi, ho, h]

theorem Dev.laneCommand_retrain : d.laneCommand 1 0 k = ((d.endPrbs k).retrainLane k, 0) := by
  obtain ⟨ha, hb, hc'⟩ := Dev.laneCommand_free hp hk hf hc htwin hi ho (cmd := 1) (by decide) (by decide)
  exact (if_neg ha).trans ((if_neg hb).trans (if_neg hc'))

/-- LOOPBACK (R237). -/
theorem Dev.laneCommand_loopback : d.laneCommand 2 0 k = ((d.endPrbs k).retrainLane k, 0) ∧
    (∀ a, 1 ≤ a → a ≤ 3 → d.laneCommand 2 a k =
      ((d.putLane k 8).setLane k { d.lane k with test := (d.lane k).test - (d.lane k).test % 16 + a, since := d.t }, 0)) ∧
    (∀ a, 3 < a → d.laneCommand 2 a k = (d, 0x06090030)) := by
  obtain ⟨ha, hb, hc'⟩ := Dev.laneCommand_free hp hk hf hc htwin hi ho (cmd := 2) (by decide) (by decide)
  have hloop : ∀ a, d.laneCommand 2 a k = if decide (3 < a) then (d, 0x06090030)
      else if a == 0 then ((d.endPrbs k).retrainLane k, 0)
      else ((d.putLane k 8).setLane k { d.lane k with test := (d.lane k).test - (d.lane k).test % 16 + a, since := d.t }, 0) := fun a =>
    (if_neg ha).trans ((if_neg hb).trans (if_neg hc'))
  refine ⟨hloop 0, fun a h1 h3 => (hloop a).trans ?_, fun a h => (hloop a).trans (if_pos (decide_eq_true h))⟩
  exact (if_neg (by simp; omega)).trans (if_neg (by simp; omega))

/-- PRBS (R237). -/
theorem Dev.laneCommand_prbs : d.laneCommand 3 0 k = ((d.endPrbs k).onLane k (fun l => { l with test := l.test % 16 }), 0) ∧
    (∀ a, 1 ≤ a → a ≤ 2 → d.laneCommand 3 a k =
      (((d.putLane k 8).put 0x3419 k 0).setLane k { d.lane k with test := (d.lane k).test % 16 + 16 * a, since := d.t }, 0)) ∧
    (∀ a, 2 < a → d.laneCommand 3 a k = (d, 0x06090030)) := by
  obtain ⟨ha, hb, hc'⟩ := Dev.laneCommand_free hp hk hf hc htwin hi ho (cmd := 3) (by decide) (by decide)
  have hprbs : ∀ a, d.laneCommand 3 a k = if decide (2 < a) then (d, 0x06090030)
      else if a == 0 then ((d.endPrbs k).onLane k (fun l => { l with test := l.test % 16 }), 0)
      else (((d.putLane k 8).put 0x3419 k 0).setLane k { d.lane k with test := (d.lane k).test % 16 + 16 * a, since := d.t }, 0) := fun a =>
    (if_neg ha).trans ((if_neg hb).trans (if_neg hc'))
  refine ⟨hprbs 0, fun a h1 h2 => (hprbs a).trans ?_, fun a h => (hprbs a).trans (if_pos (decide_eq_true h))⟩
  exact (if_neg (by simp; omega)).trans (if_neg (by simp; omega))

/-- BITSLIP of a lane under test, and of another (R234, R237). -/
theorem Dev.laneCommand_bitslip :
    (d.laneState k = 8 → d.laneCommand 4 0 k = (d.setLane k { d.lane k with slip := ((d.lane k).slip + 1) % 66 }, 0)) ∧
    (d.laneState k ≠ 8 → d.laneCommand 4 0 k = (d, 0x0F00003A)) := by
  obtain ⟨ha, hb, hc'⟩ := Dev.laneCommand_free hp hk hf hc htwin hi ho (cmd := 4) (by decide) (by decide)
  have hslip : d.laneCommand 4 0 k = if d.laneState k == 8 then (d.setLane k { d.lane k with slip := ((d.lane k).slip + 1) % 66 }, 0)
      else (d, 0x0F00003A) := (if_neg ha).trans ((if_neg hb).trans (if_neg hc'))
  exact ⟨fun h => hslip.trans (if_pos (beq_iff_eq.mpr h)), fun h => hslip.trans (if_neg (fun h' => h (beq_iff_eq.mp h')))⟩

/-- REQUALIFY of a FAILED lane out of its bar's map, and of another (R237, R241). -/
theorem Dev.laneCommand_requalify {q : Bool} {n : Nat} (hn : n = Dev.laneBar k)
    (hq : q = decide (k ≤ 72 ∧ d.laneState k = 7 ∧ d.logicalOf k = none ∧ d.g 0x3402 (n + 1) = 1 ∧ (d.spareOf n = 0xFF ∨ d.isSpare k = true))) :
    (q = true → ∀ e, e = (if d.isSpare k then d.noSpare n else d) → d.laneCommand 6 0 k = (((e.putLane k 1).put 0x3411 k 0).setLane k
            { d.lane k with fails := 0, target := 0, test := 0, ceilingRate := 6, qual := true, since := d.t }, 0)) ∧
    (q = false → d.laneCommand 6 0 k = (d, 0x0F00003A)) := by
  obtain ⟨ha, hb, hc'⟩ := Dev.laneCommand_free hp hk hf hc htwin hi ho (cmd := 6) (by decide) (by decide)
  have hcond : (decide (k ≤ 72) && d.laneState k == 7 && (d.logicalOf k).isNone && d.g 0x3402 (n + 1) == 1 &&
      (d.spareOf n == 0xFF || d.isSpare k)) = q := by
    rw [hq, Bool.eq_iff_iff]
    simp [and_assoc]
  have hqual : ∀ e, e = (if d.isSpare k then d.noSpare n else d) → d.laneCommand 6 0 k = if q then (((e.putLane k 1).put 0x3411 k 0).setLane k
      { e.lane k with fails := 0, target := 0, test := 0, ceilingRate := 6, qual := true, since := e.t }, 0) else (d, 0x0F00003A) := fun e he => by
    subst he
    rw [← hcond]
    subst hn
    exact (if_neg ha).trans ((if_neg hb).trans (if_neg hc'))
  refine ⟨fun h e he => ?_, fun h => (hqual _ rfl).trans (if_neg (by simp [h]))⟩
  rw [hqual e he, if_pos h]
  have hlane : e.lane k = d.lane k ∧ e.t = d.t := by
    subst he
    cases d.isSpare k <;> exact ⟨rfl, rfl⟩
  rw [hlane.1, hlane.2]

end

/-- A lane command, but PROTECT, is one of the codes of Table 9.4. -/
theorem laneCommand_code {sess k : Nat} {i : Instr} (h : i = .retrain sess k ∨ i = .bitslip sess k ∨ i = .requalify sess k ∨
    ∃ a, i = .loopback sess k a ∨ i = .prbs sess k a) :
    ∃ cmd arg, 1 ≤ cmd ∧ cmd ≤ 6 ∧ cmd ≠ 5 ∧ ∀ s : State, exec i s = s.hostWrite sess 0x3406 (fun d => d.laneCommand cmd arg k) := by
  rcases h with rfl | rfl | rfl | ⟨a, rfl | rfl⟩
  · exact ⟨1, 0, by decide, by decide, by decide, fun s => rfl⟩
  · exact ⟨4, 0, by decide, by decide, by decide, fun s => rfl⟩
  · exact ⟨6, 0, by decide, by decide, by decide, fun s => rfl⟩
  · exact ⟨2, a, by decide, by decide, by decide, fun s => rfl⟩
  · exact ⟨3, a, by decide, by decide, by decide, fun s => rfl⟩

/-- A lane command is one of the codes of Table 9.4. -/
theorem laneCommand_anyCode {sess k : Nat} {i : Instr} (h : i = .retrain sess k ∨ i = .bitslip sess k ∨ i = .requalify sess k ∨
    ∃ a, i = .loopback sess k a ∨ i = .prbs sess k a ∨ i = .protect sess k a) :
    ∃ cmd arg, 1 ≤ cmd ∧ cmd ≤ 6 ∧ ∀ s : State, exec i s = s.hostWrite sess 0x3406 (fun d => d.laneCommand cmd arg k) := by
  rcases h with h | h | h | ⟨a, h | h | h⟩
  · obtain ⟨cmd, arg, h1, h6, -, he⟩ := laneCommand_code (.inl h)
    exact ⟨cmd, arg, h1, h6, he⟩
  · obtain ⟨cmd, arg, h1, h6, -, he⟩ := laneCommand_code (.inr (.inl h))
    exact ⟨cmd, arg, h1, h6, he⟩
  · obtain ⟨cmd, arg, h1, h6, -, he⟩ := laneCommand_code (.inr (.inr (.inl h)))
    exact ⟨cmd, arg, h1, h6, he⟩
  · obtain ⟨cmd, arg, h1, h6, -, he⟩ := laneCommand_code (.inr (.inr (.inr ⟨a, .inl h⟩)))
    exact ⟨cmd, arg, h1, h6, he⟩
  · obtain ⟨cmd, arg, h1, h6, -, he⟩ := laneCommand_code (.inr (.inr (.inr ⟨a, .inr h⟩)))
    exact ⟨cmd, arg, h1, h6, he⟩
  · subst h
    exact ⟨5, a, by decide, by decide, fun s => rfl⟩

/-- Settles O43, by the command's code and the lane's state; a lane in a swap refuses commands, and the error count of a PRBS test is free
(both the model's choices, log 47). -/
theorem laneCommandsActOnLanesOutOfService : Obligations.LaneCommandsActOnLanesOutOfService := by
  unfold Obligations.LaneCommandsActOnLanesOutOfService
  intro s sess k l hs hl
  subst hl
  refine ⟨fun hp i hi => ?_, fun hp hk hf i hi => ?_, fun hp hk hsvc i hi => ?_, fun hp hk hf hc htwin hin ho e he => ?_, fun a n hp hk hf hn => ?_⟩
  · obtain ⟨cmd, arg, -, -, hexec⟩ := laneCommand_anyCode hi
    exact .of_hostWrite hs (hexec s) (Dev.laneCommand_absent (d := s.begin_) hp cmd arg)
  · obtain ⟨cmd, arg, h1, h6, hexec⟩ := laneCommand_anyCode hi
    exact .of_hostWrite hs (hexec s) (Dev.laneCommand_stopped (d := s.begin_) h1 h6 hp hk hf arg)
  · obtain ⟨cmd, arg, h1, h6, h5, hexec⟩ := laneCommand_code hi
    exact .of_hostWrite hs (hexec s) (Dev.laneCommand_inService (d := s.begin_) h1 h6 h5 hp hk hsvc arg)
  · have hend : s.begin_.endPrbs k = e := Dev.endPrbs_eq.trans he.symm
    have hlane : e.lane k = s.dev.lane k := by
      rw [he]
      split <;> rfl
    obtain ⟨hloop0, hloop, hloopBad⟩ := Dev.laneCommand_loopback (d := s.begin_) hp hk hf hc htwin hin ho
    obtain ⟨hprbs0, hprbs, hprbsBad⟩ := Dev.laneCommand_prbs (d := s.begin_) hp hk hf hc htwin hin ho
    obtain ⟨hslip, hnoSlip⟩ := Dev.laneCommand_bitslip (d := s.begin_) hp hk hf hc htwin hin ho
    refine ⟨fun i hi => ?_, fun a h1 h3 => .of_hostWrite hs rfl (hloop a h1 h3), fun a h1 h2 => .of_hostWrite hs rfl (hprbs a h1 h2),
      .of_hostWrite hs rfl (hprbs0.trans (by rw [hend, Dev.onLane, hlane])),
      fun a => ⟨fun h => .of_hostWrite hs rfl (hloopBad a h), fun h => .of_hostWrite hs rfl (hprbsBad a h)⟩,
      fun h => .of_hostWrite hs rfl (hslip h), fun h => .of_hostWrite hs rfl (hnoSlip h), fun q n hn hq => ?_⟩
    · rw [← hend]
      rcases hi with rfl | rfl
      · exact .of_hostWrite hs rfl (Dev.laneCommand_retrain (d := s.begin_) hp hk hf hc htwin hin ho)
      · exact .of_hostWrite hs rfl hloop0
    · obtain ⟨hyes, hno⟩ := Dev.laneCommand_requalify (d := s.begin_) hp hk hf hc htwin hin ho hn hq
      exact ⟨fun h d hd => .of_hostWrite hs rfl (hyes h d hd), fun h => .of_hostWrite hs rfl (hno h)⟩
  · obtain ⟨hbad, hyes, hno⟩ := Dev.laneCommand_protect (d := s.begin_) hp hk hf hn a
    exact ⟨fun h => .of_hostWrite hs rfl (hbad h), fun h h' hr hm => .of_hostWrite hs rfl (hyes h h' hr hm), fun h h' hr => .of_hostWrite hs rfl (hno h h' hr)⟩

end Sys2Proof.Machine
end

section
/-! PROOFS. The head link's control blocks: TRAIN, CREDIT and RETRY (R247, R249, R256 to R264). -/
namespace Sys2Proof.Machine

open Sys2Proof

section
variable {d : Dev} {k n : Nat}

/-- A byte of a block is its number. -/
theorem leNat_single (b : Byte) : leNat [b] = b.toNat := by simp [leNat]

/-- TRAIN page 0, and a page that the lane does not take (R249). -/
theorem Dev.gotTrain_page (d : Dev) (k : Nat) :
    (∀ (m : Byte) rest, d.gotTrain k (0 :: m :: rest) = (d.put 0x3414 k (m.toNat % 32)).setLane k { d.lane k with known := true }) ∧
    (∀ (page : Byte) rest, page ≠ 0 → (page ≠ 1 ∨ 73 ≤ k) → d.gotTrain k (page :: rest) = d) ∧
    (∀ depth slots ports version a b : Byte, k ≤ 72 → d.gotTrain k [1, depth, slots, ports, version, a, b] =
      d.moduleTrain k depth.toNat slots.toNat ports.toNat version.toNat (leNat [a, b])) := by
  refine ⟨fun m rest => ?_, fun page rest h0 h1 => ?_, fun depth slots ports version a b hk => ?_⟩
  · have hb : leNat [m] = m.toNat := leNat_single m
    simp only [Dev.gotTrain, slice]
    exact (if_pos rfl).trans (by simp [hb]; rfl)
  · have hb : leNat (slice (page :: rest) 0 1) = page.toNat := leNat_single page
    have h0' : ¬page.toNat = 0 := fun h => h0 (BitVec.eq_of_toNat_eq h)
    have h1' : ¬(page.toNat = 1 ∧ k ≤ 72) := fun ⟨h, hk⟩ => h1.elim (fun h' => h' (BitVec.eq_of_toNat_eq h)) (by omega)
    simp only [Dev.gotTrain, hb]
    exact (if_neg (by simpa using h0')).trans (if_neg (by simpa using h1'))
  · have hb : ∀ x : Byte, leNat [x] = x.toNat := leNat_single
    simp only [Dev.gotTrain]
    refine (if_neg (show ¬((1 : Nat) == 0) = true by decide)).trans ((if_pos ?_).trans ?_)
    · rw [Bool.and_eq_true]
      exact ⟨rfl, decide_eq_true hk⟩
    · simp [slice, hb]

/-- Page 1 of a head lane's TRAIN (R247, R249). -/
theorem Dev.moduleTrain_cases {depth slots ports version ident v : Nat} (hn : n = Dev.laneBar k)
    (hv : v = ident * 2 ^ 48 + version * 2 ^ 40 + ports % 4 * 2 ^ 32 + slots % 64 * 2 ^ 24 + depth * 2 ^ 16) :
    (d.g 0x3420 k = v → d.moduleTrain k depth slots ports version ident = d) ∧
    (∀ (bad : Bool) (e f : Dev), d.g 0x3420 k ≠ v → bad = (decide (depth < 32) || decide (version ≠ 1)) →
      e = (d.put 0x3420 k v).setLane k { d.lane k with refused := bad } → f = (if bad then (e.raise 53 (2 ^ n)).stepDown k else e) →
      ((∀ l, f.logicalOf k = some l → f.badTiles n l (slots % 64) = []) → d.moduleTrain k depth slots ports version ident = f) ∧
      (∀ l, f.logicalOf k = some l → f.badTiles n l (slots % 64) ≠ [] →
        d.moduleTrain k depth slots ports version ident = f.raise 53 (2 ^ n))) := by
  subst hn hv
  refine ⟨fun h => if_pos (beq_iff_eq.mpr h), fun bad e f h hbad he hf => ?_⟩
  have hmodule : d.moduleTrain k depth slots ports version ident = match f.logicalOf k with
      | some l => if (f.badTiles (Dev.laneBar k) l (slots % 64)).isEmpty then f else f.raise 53 (2 ^ Dev.laneBar k)
      | none => f := by
    have hbad' : bad = (decide (depth < 32) || version != 1) := by
      rw [hbad]
      by_cases hv : version = 1 <;> simp [hv]
    subst hf he hbad'
    exact if_neg (fun h' => h (beq_iff_eq.mp h'))
  rw [hmodule]
  refine ⟨fun hall => ?_, fun l hl hne => ?_⟩
  · cases hl : f.logicalOf k with
    | none => rfl
    | some l => simp [hall l hl]
  · simp [hl, hne]

/-- CREDIT on a lane that is UP (R256, R257, R396). -/
theorem Dev.gotCredit_cases {acked window : Nat} {e : Dev} {opened : Bool} (hn : n = Dev.laneBar k)
    (he : e = d.setLane k { d.lane k with credited := (d.lane k).baseSent, acked := Dev.nearLine (d.lane k).next acked, window := window, since := d.t })
    (hopened : opened = ((e.bar n).warmGap && (e.lanesOf n).all (fun j => e.laneState j != 4 || (e.lane j).credited))) :
    d.gotCredit k acked window = if opened then e.onBar n (fun b => { b with warmGap := false }) else e := by
  subst hopened he hn
  rfl

/-- A RETRY is counted, and one of an older revoke epoch does nothing more (R259, R260, R264). -/
theorem Dev.gotRetry_cases {e : Dev} {frm reason epoch age : Nat} (hk : k ≤ 72) (hn : n = Dev.laneBar k)
    (hage : age = (d.epoch n + 256 - epoch % 256) % 256) (he : e = d.bump 0x3425 k) :
    (1 ≤ age → age ≤ 127 → d.gotRetry k frm reason epoch = e) ∧
    ((age = 0 ∨ 127 < age) →
      ((reason ≠ 4 ∨ d.print.revoke.find? n = none) → d.gotRetry k frm reason epoch = e.goBack k (Dev.nearLine (d.lane k).next frm)) ∧
      (∀ first pl, reason = 4 → d.print.revoke.find? n = some first →
        pl = leBytes 5 (first % 1099511627776) ++ [byte (d.epoch n)] →
        d.gotRetry k frm reason epoch = ((e.block k 0x55 pl).block k 0x55 pl).goBack k (Dev.nearLine (d.lane k).next frm))) := by
  have hepoch : (d.bump 0x3425 k).epoch n = d.epoch n := Dev.g_bump_ne _ (by subst hn; simp only [key, Dev.laneBar]; omega)
  subst he hage hn
  refine ⟨fun h1 h127 => ?_, fun hage => ⟨fun h => ?_, fun first pl h4 hf hpl => ?_⟩⟩
  · simp only [Dev.gotRetry, hepoch]
    exact if_pos (decide_eq_true ⟨h1, h127⟩)
  all_goals
    simp only [Dev.gotRetry, hepoch]
    refine (if_neg (by simp only [decide_eq_true_eq]; omega)).trans ?_
  · split
    next f hf =>
      rcases h with h | h
      · exact absurd rfl h
      · exact absurd (h.symm.trans hf) (by simp)
    next => rfl
  · subst h4 hpl
    split
    next f hf' =>
      cases Option.some.inj (hf.symm.trans hf')
      rfl
    next hno => exact absurd hf (hno first rfl)

/-- A lane goes back, no further than its bar's next line (R260). -/
theorem Dev.goBack_cases {line back : Nat} (hb : back = max line (d.bar (Dev.laneBar k)).next) :
    (back < (d.lane k).next →
      d.goBack k line = (d.setLane k { d.lane k with next := back }).bumpBy 0x3424 k ((d.lane k).next - back)) ∧
    ((d.lane k).next ≤ back → d.goBack k line = d) := by
  subst hb
  exact ⟨fun h => if_pos (decide_eq_true h), fun h => if_neg (by simp only [decide_eq_true_eq]; omega)⟩

end

/-- Settles O44, by the cases of each block's function. -/
theorem linkBlocksMoveCreditAndRetry : Obligations.LinkBlocksMoveCreditAndRetry := by
  unfold Obligations.LinkBlocksMoveCreditAndRetry
  refine ⟨fun s lane k hk => ⟨fun h payload => ?_, fun h0 h7 => ?_⟩, fun s lane k n l e hk hn hl => ⟨fun acked window epoch h4 => ?_,
    fun acked window epoch h4 he opened hopened => ?_, fun frm reason epoch hh => ?_, fun frm reason epoch age hh hage he => ?_, ?_⟩,
    fun d k line back hb => Dev.goBack_cases hb⟩
  · subst hk
    refine .done (congrArg s.done (if_pos ?_))
    show (s.dev.laneState (lane + 1) == 0 || s.dev.laneState (lane + 1) == 7) = true
    rcases h with h | h <;> simp [h]
  · have hexec : ∀ payload, exec (.train lane payload) s = s.done (s.begin_.gotTrain k payload) := fun payload => by
      subst hk
      refine congrArg s.done (if_neg ?_)
      show ¬(s.dev.laneState (lane + 1) == 0 || s.dev.laneState (lane + 1) == 7) = true
      simp [h0, h7]
    obtain ⟨hpage0, hother, hpage1⟩ := Dev.gotTrain_page s.begin_ k
    refine ⟨fun m rest => .done ((hexec _).trans (congrArg s.done (hpage0 m rest))),
      fun page rest h h' => .done ((hexec _).trans (congrArg s.done (hother page rest h h'))),
      fun depth slots ports version a b v n bad e f hk72 hn hv => ?_⟩
    have hmodule := (hexec [1, depth, slots, ports, version, a, b]).trans (congrArg s.done (hpage1 depth slots ports version a b hk72))
    obtain ⟨hsame, hnew⟩ := Dev.moduleTrain_cases (d := s.begin_) hn hv
    exact ⟨fun h => .done (hmodule.trans (congrArg s.done (hsame h))), fun h hbad he hf =>
      ⟨fun hall => .done (hmodule.trans (congrArg s.done ((hnew bad e f h hbad he hf).1 hall))),
        fun l hl hne => .done (hmodule.trans (congrArg s.done ((hnew bad e f h hbad he hf).2 l hl hne)))⟩⟩
  · subst hk
    exact .done (congrArg s.done (if_neg (fun h => h4 (beq_iff_eq.mp h))))
  · subst hl
    have hexec : exec (.credit lane acked window epoch) s = s.done (if opened then e.onBar n (fun b => { b with warmGap := false }) else e) := by
      subst hk
      exact congrArg s.done ((if_pos (beq_iff_eq.mpr h4)).trans (Dev.gotCredit_cases (d := s.begin_) hn he hopened))
    exact ⟨fun h => .done (hexec.trans (by rw [if_pos h])), fun h => .done (hexec.trans (by rw [if_neg (by simp [h])]))⟩
  · subst hk
    exact .done (congrArg s.done (if_neg (by rw [show s.begin_.hears (lane + 1) = false from hh]; exact Bool.false_ne_true)))
  · subst hl
    have hexec : exec (.retry lane frm reason epoch) s = s.done (s.begin_.gotRetry k frm reason epoch) := by
      subst hk
      exact congrArg s.done (if_pos hh)
    obtain ⟨hold, hnow⟩ := Dev.gotRetry_cases (d := s.begin_) (frm := frm) (reason := reason) (by omega : k ≤ 72) hn hage he
    exact ⟨fun h h' => .done (hexec.trans (congrArg s.done (hold h h'))), fun h => ⟨fun h' => .done (hexec.trans (congrArg s.done ((hnow h).1 h'))),
      fun first pl h4 hf hpl => .done (hexec.trans (congrArg s.done ((hnow h).2 first pl h4 hf hpl)))⟩⟩
  · subst hk hl
    exact .done rfl

end Sys2Proof.Machine
end

section
/-! PROOFS. Reports of the modules: COMPARE, STATUS, MODULE_EVENT and CHECK (R263, R265, R269 to R271, R415). -/
namespace Sys2Proof.Machine

open Sys2Proof

section
variable {d : Dev} {n : Nat}

/-- A disagreement, the first within its hour (R415): synchronisation is lost. -/
theorem Dev.disagreement_first {e : Dev} {k first : Nat} (hget : d.fl.disagreements.get (0, 0) n = (k, first))
    (h : k = 0 ∨ first + 3600000000000 ≤ d.t)
    (he : e = { d with fl := { d.fl with disagreements := d.fl.disagreements.set n (1, d.t) } }.raiseAt 0x10 101 (2 ^ n) 0xFF 0) :
    d.disagreement n = if e.role == 2 then e.loseFlag 1 else if e.role == 1 then e.put 0x2C08 2 (setBit (e.g 0x2C08 2) 1 false) else e := by
  subst he
  simp only [Dev.disagreement, hget]
  refine if_pos ?_
  rcases h with h | h
  · simp [h]
  · simp [Nat.not_lt.mpr h]

/-- The second disagreement within an hour (R415): an active device hands over or restarts. -/
theorem Dev.disagreement_second {e : Dev} {first : Nat} (hget : d.fl.disagreements.get (0, 0) n = (1, first)) (h : d.t < first + 3600000000000)
    (he : e = { d with fl := { d.fl with disagreements := d.fl.disagreements.set n (2, first) } }.raiseAt 3 101 (2 ^ n) 0xFF 0) :
    d.disagreement n = if e.role != 1 then e
      else if e.handoverAllowed then ({ e with twin := { e.twin with restartAfter := true } } : Dev).askHandover 3
      else e.startRec { id := 0, event := 101, unit := 0xFF, mask := 2 ^ n, detail := 0, level := 3, start := e.t } := by
  subst he
  simp only [Dev.disagreement, hget]
  exact (if_neg (by simp [h])).trans (if_pos rfl)

/-- A later disagreement within an hour (R415): the pair ends, and the standby fails. -/
theorem Dev.disagreement_later {e f : Dev} {k first : Nat} (hget : d.fl.disagreements.get (0, 0) n = (k, first)) (hk : 2 ≤ k)
    (h : d.t < first + 3600000000000)
    (he : e = { d with fl := { d.fl with disagreements := d.fl.disagreements.set n (k + 1, first) } }.raiseAt 4 101 (2 ^ n) 0xFF 0)
    (hf : f = { e with twin := { e.twin with partner := none, retryForm := false, pledges := [] } }) :
    (f.role = 0 → d.disagreement n = f) ∧ (f.role = 2 → d.disagreement n = (f.put 0x2C08 2 0).put 0x2C08 1 4) ∧
      (f.role ≠ 0 → f.role ≠ 2 → d.disagreement n = f.put 0x2C08 2 0) := by
  have hlater : d.disagreement n = if (if f.role == 0 then f else f.put 0x2C08 2 0).role == 2
      then (if f.role == 0 then f else f.put 0x2C08 2 0).put 0x2C08 1 4 else if f.role == 0 then f else f.put 0x2C08 2 0 := by
    subst hf he
    simp only [Dev.disagreement, hget]
    have h0 : k ≠ 0 := by omega
    have h1 : k ≠ 1 := by omega
    exact (if_neg (by simp [h, h0])).trans (if_neg (by simpa using h1))
  have hrole : (f.put 0x2C08 2 0).role = f.role := Dev.g_put_ne _ _ (by decide)
  rw [hlater]
  exact ⟨fun h0 => by simp [h0], fun h2 => by simp [h2, hrole], fun h0 h2 => by simp [h0, h2, hrole]⟩

/-- A module's condition that is newly set is reported for its slot (R269). -/
def moduleFaults (k n v old : Nat) (d : Dev) (q : Nat) : Dev :=
  if ∃ i < 5, bit v (8 * q + i) = true ∧ bit old (8 * q + i) = false then d.raise 54 (2 ^ n) 0xFF (k * 256 + q) else d

/-- STATUS pages (R269). -/
theorem Dev.gotStatus_cases (d : Dev) {k : Nat} (hn : n = Dev.laneBar k) (data : Bytes) :
    d.gotStatus k 0 data = d.put 0x3421 k (leNat (slice data 0 6)) ∧
    (∀ v, v = leNat ((slice data 0 6).map (fun b => b &&& 0x1F)) →
      d.gotStatus k 1 data = (List.range 6).foldl (moduleFaults k n v (d.g 0x3422 k)) (d.put 0x3422 k v)) ∧
    (∀ v, v = leNat (slice data 0 6) → d.gotStatus k 2 data = d.put 0x3423 k (v % 256 * 256 + v / 256 % 256)) ∧
    (∀ page, 2 < page → d.gotStatus k page data = d) := by
  refine ⟨rfl, fun v hv => ?_, fun v hv => ?_, fun page h => ?_⟩
  · subst hv hn
    simp only [Dev.gotStatus, show ((1 : Nat) == 0) = false from rfl, beq_self_eq_true, Bool.false_eq_true, if_false, if_true]
    refine congrArg (fun f => (List.range 6).foldl f (d.put 0x3422 k (leNat ((slice data 0 6).map (fun b => b &&& 0x1F))))) (funext fun x => funext fun q => ?_)
    simp only [moduleFaults, List.any_eq_true, List.mem_range, Bool.and_eq_true, Bool.not_eq_true']
  · subst hv
    rfl
  · have h0 : page ≠ 0 := by omega
    have h1 : page ≠ 1 := by omega
    have h2 : page ≠ 2 := by omega
    simp [Dev.gotStatus, h0, h1, h2]

/-- A MODULE_EVENT of Table 10.6 is counted with EV_LINK_EVENT (R270): a lost line is a missing line, an excess of dots an event of its own. -/
theorem Dev.gotEvent_cases {k code seq v b : Nat} {e : Dev} (hn : n = Dev.laneBar k) (h1 : 1 ≤ code) (h7 : code ≤ 7) (hv : v = d.g 0x3428 k)
    (hb : b = bits v (8 * (code - 1) + 7) (8 * (code - 1)))
    (he : e = d.put 0x3428 k (v - b * 2 ^ (8 * (code - 1)) + (b + 1) % 256 * 2 ^ (8 * (code - 1)))) :
    (code ≠ 2 → code ≠ 4 → d.gotEvent k code seq = e.raise 55 (2 ^ n)) ∧
    (code = 2 → d.gotEvent k code seq = (e.raise 55 (2 ^ n)).missingLine n (Dev.nearLine (d.bar n).next seq)) ∧
    (code = 4 → d.repAt (Dev.nearLine (d.bar n).next seq) = none → d.gotEvent k code seq = (e.raise 55 (2 ^ n)).raise 59 (2 ^ n)) ∧
    (∀ r, code = 4 → d.repAt (Dev.nearLine (d.bar n).next seq) = some r →
      d.gotEvent k code seq = ((e.raise 55 (2 ^ n)).raise 59 (2 ^ n)).spoil r.num n 8) := by
  have hcode : ¬(code == 0 || decide (7 < code)) = true := by
    simp
    omega
  have hbar : (e.raise 55 (2 ^ n)).bar n = d.bar n := by
    subst he
    simp [Dev.bar]
  have hrep : ∀ j, ((e.raise 55 (2 ^ n)).raise 59 (2 ^ n)).repAt j = d.repAt j := fun j => by
    subst he
    simp [Dev.repAt]
  have hevent : d.gotEvent k code seq = if code == 2 then (e.raise 55 (2 ^ n)).missingLine n (Dev.nearLine ((e.raise 55 (2 ^ n)).bar n).next seq)
      else if code == 4 then match ((e.raise 55 (2 ^ n)).raise 59 (2 ^ n)).repAt (Dev.nearLine ((e.raise 55 (2 ^ n)).bar n).next seq) with
        | some r => ((e.raise 55 (2 ^ n)).raise 59 (2 ^ n)).spoil r.num n 8
        | none => (e.raise 55 (2 ^ n)).raise 59 (2 ^ n)
      else e.raise 55 (2 ^ n) := by
    subst he hb hv hn
    exact if_neg hcode
  rw [hevent, hbar, hrep]
  exact ⟨fun h2 h4 => by simp [h2, h4], fun h2 => by simp [h2], fun h4 hr => by simp [h4, hr], fun r h4 hr => by simp [h4, hr]⟩

end

/-- Settles O45, by the cases of each report and of how often disagreements recur; the position that reads 3 after a CHECK without an answer
is the model's choice (log 48), as is EV_MODULE_FAULT's detail (log 47). -/
theorem moduleReportsAndDisagreements : Obligations.ModuleReportsAndDisagreements := by
  unfold Obligations.ModuleReportsAndDisagreements
  refine ⟨fun s lane n d hn seq kind port => ⟨fun hh => ?_, fun hh hd => ?_⟩, fun d e n k first hget => ⟨fun h he => ?_, fun h1 h he => ?_, fun h2 h f he hf =>
    Dev.disagreement_later hget h2 h he hf⟩, fun s lane k n hk hn => ⟨fun hh a b c data => ?_, fun hh => ?_, fun hc id result pass => ?_, fun id slot pos cnt pass e hc he => ?_⟩⟩
  · exact .done (congrArg s.done (if_neg (by rw [show s.begin_.hears (lane + 1) = false from hh]; exact Bool.false_ne_true)))
  · have hexec : exec (.compare lane seq kind port) s = s.done ((match d.repAt (Dev.nearLine (d.bar n).next seq) with
        | some r => d.spoil r.num n 8
        | none => d).disagreement n) := by
      subst hd hn
      exact congrArg s.done (if_pos hh)
    exact ⟨fun hr => .done (hexec.trans (by simp only [hr])), fun r hr => .done (hexec.trans (by simp only [hr]))⟩
  · rw [Dev.disagreement_first hget h he]
    exact ⟨fun h1 h2 => by simp [h1, h2], fun h2 => by simp [h2], fun h1 => by simp [h1]⟩
  · subst h1
    rw [Dev.disagreement_second hget h he]
    exact ⟨fun h1 => by simp [h1], fun h1 ha => by simp [h1, ha], fun h1 ha => by simp [h1, ha]⟩
  · subst hk
    have hdeaf : ¬s.begin_.hears (lane + 1) = true := by
      rw [show s.begin_.hears (lane + 1) = false from hh]
      exact Bool.false_ne_true
    exact ⟨.done (congrArg s.done (if_neg hdeaf)), .done (congrArg s.done (if_neg hdeaf))⟩
  · have hbar : n = Dev.laneBar k := by
      subst hk hn
      rfl
    have hstatus : ∀ page data, exec (.status lane page data) s = s.done (s.begin_.gotStatus k page data) := fun page data => by
      subst hk
      exact congrArg s.done (if_pos hh)
    have hevent : ∀ code seq slot, exec (.moduleEvent lane code seq slot) s = s.done (s.begin_.gotEvent k code seq) := fun code seq slot => by
      subst hk
      exact congrArg s.done (if_pos hh)
    refine ⟨fun data => .done ((hstatus 0 data).trans (congrArg s.done (Dev.gotStatus_cases s.begin_ hbar data).1)),
      fun data v hv => .done ((hstatus 1 data).trans (congrArg s.done ((Dev.gotStatus_cases s.begin_ hbar data).2.1 v hv))),
      fun data v hv => .done ((hstatus 2 data).trans (congrArg s.done ((Dev.gotStatus_cases s.begin_ hbar data).2.2.1 v hv))),
      fun page data h => .done ((hstatus page data).trans (congrArg s.done ((Dev.gotStatus_cases s.begin_ hbar data).2.2.2 page h))),
      fun code seq slot h => .done ((hevent code seq slot).trans (congrArg s.done (if_pos (by simpa using h)))),
      fun code seq slot v b h1 h7 hv hb d hd => ?_⟩
    obtain ⟨hplain, hline, hgap, hdots⟩ := Dev.gotEvent_cases (d := s.begin_) (seq := seq) hbar h1 h7 hv hb hd
    have htop : s.dev.fl.top ≤ d.fl.top := by
      subst hd
      exact Nat.le_refl _
    refine ⟨fun h2 h4 => .of_raise ((hevent code seq slot).trans (congrArg s.done (hplain h2 h4))) rfl rfl htop rfl (by decide),
      fun h2 => .done ((hevent code seq slot).trans (congrArg s.done (hline h2))),
      fun h4 hr => .of_raise ((hevent code seq slot).trans (congrArg s.done (hgap h4 hr))) rfl rfl ?_ rfl (by decide),
      fun r h4 hr => .done ((hevent code seq slot).trans (congrArg s.done (hdots r h4 hr)))⟩
    exact htop.trans (Nat.le_of_lt (Dev.raise_logged d 55 (2 ^ n) 0xFF 0).1)
  · subst hk
    have hc' : (s.begin_.lane (lane + 1)).check = none := hc
    refine ⟨.done ?_, .done ?_⟩
    · show execCheckRsp lane id result pass s = _
      simp only [execCheckRsp, hc']
    · show execCheckTimeout lane s = _
      simp only [execCheckTimeout, hc']
  · subst hk he
    have hc' : (s.begin_.lane (lane + 1)).check = some (id, slot, pos, cnt) := hc
    have hrsp : ∀ other result, exec (.checkRsp lane other result pass) s = s.done (if id != other then s.begin_
        else s.begin_.endCheck (lane + 1) slot pos (if result == 0 then some (if bit pass 0 then 1 else 2) else none)) := fun other result => by
      show execCheckRsp lane other result pass s = _
      simp only [execCheckRsp, hc']
    refine ⟨.done ((hrsp id 0).trans (congrArg s.done (if_neg (by simp)))), fun result h => .done ((hrsp id result).trans (congrArg s.done ((if_neg (by simp)).trans ?_))),
      fun other result h => .done ((hrsp other result).trans (congrArg s.done (if_pos (by simpa using h.symm)))), .done ?_⟩
    · rw [if_neg (by simpa using h)]
      rfl
    · show execCheckTimeout lane s = _
      simp only [execCheckTimeout, hc']
      subst hn
      rfl

end Sys2Proof.Machine
end

section
/-! PROOFS. Heartbeats and stalled acknowledgements (R267, R268, R392). -/
namespace Sys2Proof.Machine

open Sys2Proof

/-- A lane's next HEARTBEAT (R267), its count and role as the device `d` holds them. -/
def beatOf (d e : Dev) (k : Nat) : Dev :=
  (e.setLane k { d.lane k with hbTx := ((d.lane k).hbTx + 1) % 4294967296 }).block k 0x66
    (leBytes 4 (((d.lane k).hbTx + 1) % 4294967296) ++ [byte (if d.role ≤ 2 then d.role else 0)])

/-- The lane carries control blocks, and is no twin lane of a device whose HB_OUT is stopped. -/
def beats (d : Dev) (k : Nat) : Bool := d.laneLive k && !(decide (73 ≤ k) && d.twin.hbOutStopped)

/-- The device's own lanes may differ from `d`'s, except at the lanes listed. -/
def SameButLanes (ks : List Nat) (d e : Dev) : Prop :=
  e.product = d.product ∧ e.dict = d.dict ∧ e.twin = d.twin ∧ ∀ k ∈ ks, e.lane k = d.lane k

theorem SameButLanes.g {ks : List Nat} {d e : Dev} (h : SameButLanes ks d e) (i j : Nat) : e.g i j = d.g i j := by
  obtain ⟨hp, hd, -, -⟩ := h
  exact Dev.g_congr hp (by rw [hd])

theorem SameButLanes.beats {ks : List Nat} {d e : Dev} (h : SameButLanes ks d e) (k : Nat) : beats e k = beats d k := by
  have hst : e.laneState k = d.laneState k := h.g 0x3410 k
  obtain ⟨-, -, ht, -⟩ := h
  simp only [Machine.beats, Dev.laneLive, hst, ht]

theorem SameButLanes.beatOf {ks : List Nat} {k : Nat} {d e : Dev} (h : SameButLanes (k :: ks) d e) : beatOf e e k = beatOf d e k := by
  have hrole : e.role = d.role := h.g 0x2C08 1
  obtain ⟨-, -, -, hl⟩ := h
  simp only [Machine.beatOf, hrole, hl k (List.mem_cons_self ..)]

/-- A lane's heartbeat changes that lane only. -/
theorem SameButLanes.afterBeat {ks : List Nat} {k : Nat} {d e : Dev} (h : SameButLanes (k :: ks) d e) (hk : k ∉ ks) :
    SameButLanes ks d (Machine.beatOf d e k) := by
  obtain ⟨hp, hd, ht, hl⟩ := h
  refine ⟨hp, hd, ht, fun j hj => ?_⟩
  have hne : k ≠ j := fun h => hk (h ▸ hj)
  exact (Table.get_set_ne _ _ _ hne).trans (hl j (List.mem_cons_of_mem _ hj))

/-- Each lane's heartbeat depends on that lane alone: sent in turn, they are those the device as it stands sends. -/
theorem foldl_beats (d : Dev) (ks : List Nat) (hks : ks.Nodup) : ∀ e : Dev, SameButLanes ks d e →
    ks.foldl (fun x k => if beats x k then beatOf x x k else x) e = (ks.filter (beats d)).foldl (beatOf d) e := by
  induction ks with
  | nil => intro e _; rfl
  | cons k ks ih =>
    intro e h
    obtain ⟨hk, hks'⟩ := List.nodup_cons.mp hks
    rw [List.foldl_cons, h.beats k]
    by_cases hb : beats d k = true
    · rw [if_pos hb, h.beatOf, List.filter_cons_of_pos hb, List.foldl_cons]
      exact ih hks' _ (h.afterBeat hk)
    · obtain ⟨hp, hd, ht, hl⟩ := h
      rw [if_neg hb, List.filter_cons_of_neg hb]
      exact ih hks' _ ⟨hp, hd, ht, fun j hj => hl j (List.mem_cons_of_mem _ hj)⟩

/-- HEARTBEAT_SEND (R267). -/
theorem Dev.sendHeartbeats_eq (d : Dev) : d.sendHeartbeats = (((List.range 80).map (fun i => i + 1)).filter (beats d)).foldl (beatOf d) d := by
  rw [← foldl_beats d _ (by decide) d ⟨rfl, rfl, rfl, fun _ _ => rfl⟩, List.foldl_map]
  refine congrArg (fun f => (List.range 80).foldl f d) (funext fun x => funext fun i => ?_)
  have hcond : (!x.laneLive (i + 1) || (decide (73 ≤ i + 1) && x.twin.hbOutStopped)) = !beats x (i + 1) := by
    rw [beats, Bool.not_and, Bool.not_not]
  by_cases hb : beats x (i + 1) = true
  · rw [if_pos hb]
    refine (if_neg ?_).trans ?_
    · rw [hcond, hb]
      exact Bool.false_ne_true
    · simp [beatOf, Dev.roleCode, Dev.onLane]
  · rw [if_neg hb]
    refine if_pos ?_
    rw [hcond]
    simpa using hb

/-- A lane that retrains at its rate and no longer carries lines (R235). -/
def retrainAtRate (x : Dev) (k : Nat) : Dev := ((x.putLane k 5).bump 0x3416 k).setLane k { x.lane k with retraining := true, since := x.t }

@[simp] theorem Dev.lane_setLane_self (d : Dev) (k : Nat) (l : Lane) : (d.setLane k l).lane k = l := Table.get_set_self _ _ _ _

theorem Dev.setLane_setLane (d : Dev) (k : Nat) (l l' : Lane) : (d.setLane k l).setLane k l' = d.setLane k l' := by
  simp only [Dev.setLane, Table.set_set]

theorem retrainAtRate_setLane (x : Dev) (k : Nat) (l : Lane) : retrainAtRate (x.setLane k l) k =
    ((x.putLane k 5).bump 0x3416 k).setLane k { l with retraining := true, since := x.t } := by
  rw [retrainAtRate, Dev.lane_setLane_self]
  exact Dev.setLane_setLane ((x.putLane k 5).bump 0x3416 k) k l _

/-- A lane down with lines and no spare to take its place retrains at its rate (R235 step 3). -/
theorem Dev.laneDown_retrain {d : Dev} {k n : Nat} (hk : k ≤ 72) (hn : n = Dev.laneBar k) (hc : (d.lane k).carries = true)
    (hb : d.beingSwapped k = false) (hi : d.inSwap k = false) (hs : d.spareReady n = false) :
    d.laneDown k = (((d.raise 49 (2 ^ n) k ((d.logicalOf k).getD 0xFF)).putLane k 5).bump 0x3416 k).setLane k
      { d.lane k with carries := false, credited := false, baseSent := false, retraining := true, since := d.t } := by
  obtain ⟨-, -, hhead⟩ := Dev.laneDown_cases (d := d) (retrain := fun x => retrainAtRate x k) hn rfl (fun x => rfl)
  obtain ⟨-, -, hcarries⟩ := hhead hk hb
  rw [(hcarries hi hc _ rfl).2 (by simp [hs])]
  have hlane : (d.raise 49 (2 ^ n) k ((d.logicalOf k).getD 0xFF)).lane k = d.lane k := by simp [Dev.lane]
  rw [Dev.onLane, retrainAtRate_setLane, hlane, Dev.raise_t]

/-- Settles O46, by the lane's state; each lane's heartbeat depends on that lane alone. -/
theorem heartbeatsSuperviseLanes : Obligations.HeartbeatsSuperviseLanes := by
  unfold Obligations.HeartbeatsSuperviseLanes
  refine ⟨fun s lane count st => ⟨fun h => ?_, fun h => ?_⟩, fun s ls hls => ?_, fun s m k hk => ⟨fun h => ?_, fun h => ?_⟩,
    fun s lane k l hk hl => ⟨fun h4 hc hn => ?_, fun h => ?_⟩, fun s m k n l hk hk72 hn hl h4 hc hb hi hs => ?_⟩
  · exact .done (congrArg s.done (if_pos h))
  · exact .done (congrArg s.done (if_neg (by rw [show s.begin_.hears (lane + 1) = false from h]; exact Bool.false_ne_true)))
  · subst hls
    exact .done (congrArg s.done (Dev.sendHeartbeats_eq s.begin_))
  · subst hk
    exact .done (congrArg s.done (if_pos h))
  · subst hk
    exact .done (congrArg s.done (if_neg (by rw [show (s.begin_.laneLive (m + 1) || s.begin_.inSwap (m + 1)) = false from h]; exact Bool.false_ne_true)))
  · subst hk hl
    refine .done (congrArg s.done (if_pos ?_))
    show (s.dev.laneState (lane + 1) == 4 && ((s.dev.lane (lane + 1)).carries || s.dev.readySpare (lane + 1)) &&
      decide ((s.dev.lane (lane + 1)).acked + 1 < (s.dev.lane (lane + 1)).next)) = true
    simpa [h4, hn] using hc
  · subst hk hl
    refine .done (congrArg s.done (if_neg ?_))
    show ¬(s.dev.laneState (lane + 1) == 4 && ((s.dev.lane (lane + 1)).carries || s.dev.readySpare (lane + 1)) &&
      decide ((s.dev.lane (lane + 1)).acked + 1 < (s.dev.lane (lane + 1)).next)) = true
    rcases h with h | ⟨h, h'⟩ | h
    · simp [h]
    · simp [h, h']
    · simp [Nat.not_lt.mpr h]
  · subst hk hl
    have hlive : (s.begin_.laneLive (m + 1) || s.begin_.inSwap (m + 1)) = true := by
      have h4' : s.begin_.laneState (m + 1) = 4 := h4
      simp [Dev.laneLive, h4']
    exact .done (congrArg s.done ((if_pos hlive).trans (Dev.laneDown_retrain (d := s.begin_) hk72 hn hc hb hi hs)))

end Sys2Proof.Machine
end

section
/-! PROOFS. Camera ports: frames taken packet by packet (R274 to R280, R289, R293). -/
namespace Sys2Proof.Machine

open Sys2Proof

section
variable {s : State} {cam : Fin 6} {x : Cam} {ecc : Bool} {e : Dev} {v : Nat → Nat}

/-- A packet with a header beyond correction is dropped (R274). -/
theorem exec_packet_headerBad (hon : s.dev.camOn cam = true) (vc dt : Nat) (fixed crc full : Bool) (payload : Bytes) :
    exec (.imageLine cam vc dt true fixed crc full payload) s = s.done (s.begin_.bump (0x3820 + cam) 8) ∧
    exec (.embeddedData cam vc true fixed payload) s = s.done (s.begin_.bump (0x3820 + cam) 8) := by
  have hrun : ¬(!s.begin_.camOn cam) = true := by simp [show s.begin_.camOn cam = true from hon]
  exact ⟨congrArg s.done ((if_neg hrun).trans (if_pos rfl)), congrArg s.done ((if_neg hrun).trans (if_pos rfl))⟩

/-- A packet without a frame is dropped (R274). -/
theorem exec_packet_noFrame (hon : s.dev.camOn cam = true) (hx : x = Dev.headerFixed (s.dev.cam cam) ecc) (he : e = s.begin_.setCam cam x)
    (hf : x.frame = none) (vc dt : Nat) (crc full : Bool) (payload : Bytes) :
    exec (.imageLine cam vc dt false ecc crc full payload) s = s.done (e.bump (0x3820 + cam) 8) ∧
    exec (.embeddedData cam vc false ecc payload) s = s.done (e.bump (0x3820 + cam) 8) := by
  have hrun : ¬(!s.begin_.camOn cam) = true := by simp [show s.begin_.camOn cam = true from hon]
  subst hx he
  have hf' : (Dev.headerFixed (s.begin_.cam cam) ecc).frame = none := hf
  refine ⟨congrArg s.done ((if_neg hrun).trans ((if_neg Bool.false_ne_true).trans ?_)), congrArg s.done ((if_neg hrun).trans ((if_neg Bool.false_ne_true).trans ?_))⟩
  · simp only [hf', ite_self]
    rfl
  · simp only [hf', ite_self]
    rfl

/-- An image line during a frame (R274, R276, R278, R293). -/
theorem exec_imageLine_frame (hon : s.dev.camOn cam = true) (hx : x = Dev.headerFixed (s.dev.cam cam) ecc) (he : e = s.begin_.setCam cam x)
    (hv : ∀ sub, v sub = s.dev.genVal x (Dev.packetGen x) (0x3800 + cam) sub) {f : OpenFrame} (hf : x.frame = some f) (vc dt : Nat) (crc full : Bool)
    (payload : Bytes) : exec (.imageLine cam vc dt false ecc crc full payload) s = s.done (
      if vc != v 4 || dt != v 5 then e.bump (0x3820 + cam) 8
      else if payload.length * 8 != v 7 * pixelBits dt then e.bump (0x3820 + cam) 8
      else if f.dropping then e
      else if full then ((e.setCam cam { x with frame := some { f with flags := setBit f.flags 2 true, dropping := true } }).bump (0x3820 + cam) 7).raise 61
      else if decide (v 8 ≤ f.lines.length) then e.setCam cam { x with frame := some { f with flags := setBit f.flags 1 true } }
      else e.setCam cam { x with frame := some { f with flags := if crc then setBit f.flags 3 true else f.flags, lines := f.lines ++ [payload] } }) := by
  have hrun : ¬(!s.begin_.camOn cam) = true := by simp [show s.begin_.camOn cam = true from hon]
  rw [show v = fun sub => s.dev.genVal x (Dev.packetGen x) (0x3800 + cam) sub from funext hv]
  subst hx he
  have hf' : (Dev.headerFixed (s.begin_.cam cam) ecc).frame = some f := hf
  refine congrArg s.done ((if_neg hrun).trans ((if_neg Bool.false_ne_true).trans ?_))
  cases crc
  · simp only [hf']
    rfl
  · simp only [hf']
    rfl

/-- Embedded data during a frame (R274). -/
theorem exec_embeddedData_frame (hon : s.dev.camOn cam = true) (hx : x = Dev.headerFixed (s.dev.cam cam) ecc) (he : e = s.begin_.setCam cam x)
    (hv : ∀ sub, v sub = s.dev.genVal x (Dev.packetGen x) (0x3800 + cam) sub) {f : OpenFrame} (hf : x.frame = some f) (vc : Nat) (payload : Bytes) :
    exec (.embeddedData cam vc false ecc payload) s = s.done (
      if vc != v 6 then e.bump (0x3820 + cam) 8
      else if f.dropping then e
      else e.setCam cam { x with frame := some { f with embedded := (f.embedded ++ payload).take 256 } }) := by
  have hrun : ¬(!s.begin_.camOn cam) = true := by simp [show s.begin_.camOn cam = true from hon]
  rw [show v = fun sub => s.dev.genVal x (Dev.packetGen x) (0x3800 + cam) sub from funext hv]
  subst hx he
  have hf' : (Dev.headerFixed (s.begin_.cam cam) ecc).frame = some f := hf
  refine congrArg s.done ((if_neg hrun).trans ((if_neg Bool.false_ne_true).trans ?_))
  simp only [hf']
  rfl

end

/-- Frame Start opens a frame with the oldest waiting trigger's tag, or with none (R275, R280, R289). -/
theorem Dev.openFrame_eq {d e : Dev} {c : Nat} {x : Cam} {tag : Option Tag} {q : List Tag} (he : e = d.closeFrame c 0) (hx : x = e.cam c)
    (hnone : e.g (0x3800 + c) 0x0A = 0xFF → tag = none ∧ q = x.queue)
    (hsome : e.g (0x3800 + c) 0x0A ≠ 0xFF → tag = x.queue.head? ∧ q = x.queue.tail) :
    d.openFrame c = ((e.setCam c { x with
      frame := some { num := x.frames % 4294967296, tag := tag, gen := (tag.map (fun t => t.gen)).getD x.inForce, fsTime := e.serviceNow, fsAt := e.t }
      frames := x.frames + 1
      queue := q }).put (0x3820 + c) 2 (x.frames % 4294967296)).put (0x3820 + c) 1 (if x.cciFault then 3 else 2) := by
  by_cases hu : e.g (0x3800 + c) 0x0A = 0xFF
  · obtain ⟨rfl, rfl⟩ := hnone hu
    subst he hx
    simp only [Dev.openFrame, hu, beq_self_eq_true, if_true]
  · obtain ⟨rfl, rfl⟩ := hsome hu
    have hu' : (e.g (0x3800 + c) 0x0A == 0xFF) = false := by simpa using hu
    subst he hx
    simp only [Dev.openFrame, hu', Bool.false_eq_true, if_false]

/-- Settles O47, by the state of the port and the packet's checks. -/
theorem camerasTakeFramesPacketByPacket : Obligations.CamerasTakeFramesPacketByPacket := by
  unfold Obligations.CamerasTakeFramesPacketByPacket
  refine ⟨fun s cam hoff i hi => ?_, fun s cam e x tag q hon he hx hnone hsome => ?_, fun s cam x ecc e v hon hx he hv =>
    ⟨fun vc dt fixed crc full payload => ?_, fun vc dt crc full payload h => ?_, fun crc full payload f hf => ⟨fun hl => ?_, fun hl => ⟨fun hd => ?_, fun hd => ?_, fun hd hn => ?_, fun hd hn => ?_⟩⟩,
      fun vc payload h => ?_, fun payload f hf => ⟨fun hd => ?_, fun hd => ?_⟩⟩, fun x => ⟨rfl, rfl, fun hf => ?_, fun f hf => ?_⟩,
    fun s cam x hx => ⟨fun t q hq => ?_, fun hq => ?_⟩⟩
  · have hoff' : s.begin_.camOn cam = false := hoff
    rcases hi with rfl | rfl | rfl | ⟨vc, dt, a, b, c, d, p, rfl⟩ | ⟨vc, a, b, p, rfl⟩
    · exact .done (congrArg s.done (if_neg (by rw [hoff']; exact Bool.false_ne_true)))
    · exact .done (congrArg s.done (if_neg (by rw [hoff']; exact Bool.false_ne_true)))
    · exact .done (congrArg s.done (if_neg (by rw [hoff']; exact Bool.false_ne_true)))
    · exact .done (congrArg s.done (if_pos (by rw [hoff']; rfl)))
    · exact .done (congrArg s.done (if_pos (by rw [hoff']; rfl)))
  · exact .done (congrArg s.done ((if_pos hon).trans (Dev.openFrame_eq he hx hnone hsome)))
  · exact ⟨.done (exec_packet_headerBad hon vc dt fixed crc full payload).1, .done (exec_packet_headerBad hon vc dt fixed crc full payload).2⟩
  · cases hf : x.frame with
    | none => exact .done (exec_packet_noFrame hon hx he hf vc dt crc full payload).1
    | some f =>
      refine .done ((exec_imageLine_frame hon hx he hv hf vc dt crc full payload).trans (congrArg s.done (if_pos ?_)))
      rcases h with h | h | h
      · simp [h]
      · simp [h]
      · exact absurd (hf.symm.trans h) (by simp)
  · refine .done ((exec_imageLine_frame hon hx he hv hf _ _ crc full payload).trans (congrArg s.done ?_))
    simp [hl]
  · refine .done ((exec_imageLine_frame hon hx he hv hf _ _ crc full payload).trans (congrArg s.done ?_))
    simp [hl, hd]
  · refine .of_raise ((exec_imageLine_frame hon hx he hv hf _ _ crc true payload).trans (congrArg s.done (?_ : _ = Dev.raise (Dev.bump (e.setCam cam { x with
          frame := some { f with flags := setBit f.flags 2 true, dropping := true } }) (0x3820 + cam) 7) 61 0 0xFF 0))) rfl (by subst he; rfl) ?_ rfl (by decide)
    · simp [hl, hd]
    · subst he
      exact Nat.le_refl _
  · refine .done ((exec_imageLine_frame hon hx he hv hf _ _ crc false payload).trans (congrArg s.done ?_))
    simp [hl, hd, Nat.not_le.mpr hn]
  · refine .done ((exec_imageLine_frame hon hx he hv hf _ _ crc false payload).trans (congrArg s.done ?_))
    simp [hl, hd, hn]
  · cases hf : x.frame with
    | none => exact .done (exec_packet_noFrame hon hx he hf vc 0 false false payload).2
    | some f =>
      refine .done ((exec_embeddedData_frame hon hx he hv hf vc payload).trans (congrArg s.done (if_pos ?_)))
      rcases h with h | h
      · simp [h]
      · exact absurd (hf.symm.trans h) (by simp)
  · refine .done ((exec_embeddedData_frame hon hx he hv hf _ payload).trans (congrArg s.done ?_))
    simp [hd]
  · refine .done ((exec_embeddedData_frame hon hx he hv hf _ payload).trans (congrArg s.done ?_))
    simp [hd]
  · simp [Dev.packetGen, Dev.headerFixed, hf]
  · simp [Dev.packetGen, Dev.headerFixed, hf]
  · subst hx
    have hq' : (s.begin_.cam cam).queue = t :: q := hq
    refine .of_raise (d := (s.begin_.setCam cam { s.dev.cam cam with queue := q }).bump (0x3820 + cam) 6) (x := 0) ?_ rfl rfl (Nat.le_refl _) rfl (by decide)
    show execTriggerTimeout cam s = _
    simp only [execTriggerTimeout, hq']
    rfl
  · subst hx
    have hq' : (s.begin_.cam cam).queue = [] := hq
    refine .done ?_
    show execTriggerTimeout cam s = _
    simp only [execTriggerTimeout, hq']

end Sys2Proof.Machine
end

section
/-! PROOFS. Cameras: frames close, and CCI sequences run (R275 to R298). -/
namespace Sys2Proof.Machine

open Sys2Proof

/-- What a closing frame leaves (R279, R288, R296): its record, embedded data and cells, the count of an excluded one, and an exported copy where one
is due. -/
def finishFrame (d : Dev) (c : Nat) (x : Cam) (f : OpenFrame) (ctx kgen fl : Nat) (cells : List (CellStat × Nat)) : Dev :=
  let e := ((d.put (0x3828 + c) 1 (leNat (Dev.frameRecord f c ctx kgen fl cells))).put (0x3828 + c) 2
    (leNat (slice f.embedded 0 256))).putDom (0x6430 + c) (cells.flatMap Dev.cellBytes)
  let g := if (fl &&& excludedMask) != 0 then e.bump (0x3820 + c) 5 else e
  let mode := g.g (0x3800 + c) 0x10
  let since := x.sinceExport + 1
  let due := (mode == 1 && decide (g.g (0x3800 + c) 0x11 ≤ since)) || (mode == 2 && (fl &&& excludedMask) != 0) || mode == 3
  let h := g.setCam c { x with frame := none, sinceExport := if mode == 1 && due then 0 else since }
  let p := if due then h.exportFrame c f (h.g (0x3800 + c) 0x12) else h
  (if mode == 3 then p.put (0x3800 + c) 0x10 0 else p).put (0x3820 + c) 1 (if x.cciFault then 3 else 1)

/-- The length of a frame's repeat: to its end, to the next repeat, or of its context's sheet (R287). -/
def frameLen (d : Dev) : Option Rep → Option Nat → Nat
  | some r, some k => match r.fin, d.rep? (r.num + 1) with
    | some e, _ => e - r.d
    | none, some q => q.d - r.d
    | none, none => d.lenOf k
  | some r, none => r.len
  | none, _ => 0

/-- The cells of a frame with a tag of a known repeat (R287). -/
def frameCellsOf (d : Dev) (x : Cam) (c : Nat) (f : OpenFrame) (len : Nat) : Option Tag → Option Rep → List (CellStat × Nat)
  | some t, some _ => Dev.cellStats (d.genVal x f.gen (0x3808 + c) 5) (d.frameCells x c f t len)
  | _, _ => []

/-- The context of a repeat does not include camera `c` (R279). -/
def leavesOut (d : Dev) (c : Nat) : Option Nat → Bool
  | some k => !bit (d.cg k 0x4070 1) c
  | none => false

/-- The flags of a closing frame (R279, R281, R294, Table 11.3). -/
def frameFlags (d : Dev) (c extra : Nat) (x : Cam) (f : OpenFrame) (ctx : Option Nat) : Nat :=
  [(0, decide (f.lines.length < d.genVal x f.gen (0x3800 + c) 8)), (4, f.tag.isNone), (5, f.tag.isSome && ctx.isNone), (6, leavesOut d c ctx),
    (9, (f.tag.map (fun t => t.uncertain)).getD (x.uncertain || x.cciFault) || x.cciFault)].foldl
    (fun m p => if p.2 then setBit m p.1 true else m) (f.flags ||| extra)

/-- The cells of a frame that is not excluded enter the colour keeper of a device that is not standby (R279, R287). -/
def toKeeper (q : Dev) (fl : Nat) (cells : List (CellStat × Nat)) : Option Rep → Option Nat → Dev
  | some r, some k => if (fl &&& excludedMask) != 0 || q.role == 2 then q else q.keeperCells r k (cells.map (fun s => s.1))
  | _, _ => q

section
variable {d : Dev} {c extra fl len : Nat} {x : Cam} {f : OpenFrame} {rep : Option Rep} {ctx : Option Nat} {cells : List (CellStat × Nat)}

/-- A frame closes (R275, R279, R281, R287, R288). -/
theorem Dev.closeFrame_eq (hx : x = d.cam c) (hf : x.frame = some f) (hrep : rep = (f.tag.bind (fun t => t.rep)).bind d.rep?)
    (hctx : ctx = rep.bind (fun r => (d.barList.map (fun n => Dev.ledgerCtx r n)).findSome? id)) (hfl : fl = frameFlags d c extra x f ctx)
    (hcells : cells = frameCellsOf d x c f (frameLen d rep ctx) f.tag rep) :
    d.closeFrame c extra = toKeeper (finishFrame d c x f (ctx.getD 0xFF) ((rep.map (fun r => r.gen)).getD 0) fl cells) fl cells rep ctx := by
  subst hcells hfl hctx hrep hx
  simp only [Dev.closeFrame, hf]
  rfl

theorem leavesOut_eq (d : Dev) (c : Nat) (ctx : Option Nat) : leavesOut d c ctx = ctx.any (fun k => !bit (d.cg k 0x4070 1) c) := by
  cases ctx <;> rfl

/-- The length of a frame's repeat, case by case. -/
theorem frameLen_eq {r : Rep} (hend : ∀ k en, ctx = some k → r.fin = some en → len = en - r.d)
    (hnext : ∀ k q, ctx = some k → r.fin = none → d.rep? (r.num + 1) = some q → len = q.d - r.d)
    (hlast : ∀ k, ctx = some k → r.fin = none → d.rep? (r.num + 1) = none → len = d.lenOf k) (hbare : ctx = none → len = r.len) :
    frameLen d (some r) ctx = len := by
  cases hk : ctx with
  | none => exact (hbare hk).symm
  | some k =>
    cases hfin : r.fin with
    | some en => simp [frameLen, hfin, hend k en hk hfin]
    | none =>
      cases hq : d.rep? (r.num + 1) with
      | some q => simp [frameLen, hfin, hq, hnext k q hk hfin hq]
      | none => simp [frameLen, hfin, hq, hlast k hk hfin hq]

/-- The cells of a frame, case by case. -/
theorem frameCellsOf_eq (hlen : ∀ r, rep = some r → frameLen d (some r) ctx = len)
    (hcells : ∀ t r, f.tag = some t → rep = some r → cells = Dev.cellStats (d.genVal x f.gen (0x3808 + c) 5) (d.frameCells x c f t len))
    (hnone : (f.tag = none ∨ rep = none) → cells = []) : cells = frameCellsOf d x c f (frameLen d rep ctx) f.tag rep := by
  cases ht : f.tag with
  | none => rw [hnone (.inl ht)]; rfl
  | some t =>
    cases hr : rep with
    | none => rw [hnone (.inr hr)]; rfl
    | some r => rw [hcells t r ht hr, hlen r hr]; rfl

/-- Its parts put together, with the exported copy due in the mode of its camera (R296). -/
theorem finishFrame_eq {kgen cb mode since : Nat} {due : Bool} {e g h p q : Dev}
    (he : e = ((d.put (0x3828 + c) 1 (leNat (Dev.frameRecord f c cb kgen fl cells))).put (0x3828 + c) 2
      (leNat (slice f.embedded 0 256))).putDom (0x6430 + c) (cells.flatMap Dev.cellBytes))
    (hg : g = (if fl &&& 0x27F ≠ 0 then e.bump (0x3820 + c) 5 else e)) (hmode : mode = g.g (0x3800 + c) 0x10) (hsince : since = x.sinceExport + 1)
    (hdue : due = decide ((mode = 1 ∧ g.g (0x3800 + c) 0x11 ≤ since) ∨ (mode = 2 ∧ fl &&& 0x27F ≠ 0) ∨ mode = 3))
    (hh : h = g.setCam c { x with frame := none, sinceExport := if mode = 1 ∧ due = true then 0 else since })
    (hp : p = (if due then h.exportFrame c f (h.g (0x3800 + c) 0x12) else h))
    (hq : q = (if mode = 3 then p.put (0x3800 + c) 0x10 0 else p).put (0x3820 + c) 1 (if x.cciFault then 3 else 1)) :
    finishFrame d c x f cb kgen fl cells = q := by
  have hg' : (if (fl &&& excludedMask) != 0 then e.bump (0x3820 + c) 5 else e) = g := by
    rw [hg]
    simp only [excludedMask, bne_iff_ne]
  have hdue' : ((mode == 1 && decide (g.g (0x3800 + c) 0x11 ≤ since)) || (mode == 2 && (fl &&& excludedMask) != 0) || mode == 3) = due := by
    rw [hdue, Bool.eq_iff_iff]
    simp [excludedMask, or_assoc]
  have hh' : g.setCam c { x with frame := none, sinceExport := if mode == 1 && due then 0 else since } = h := by
    rw [hh]
    simp only [Bool.and_eq_true, beq_iff_eq]
  have hq' : (if mode == 3 then p.put (0x3800 + c) 0x10 0 else p).put (0x3820 + c) 1 (if x.cciFault then 3 else 1) = q := by
    rw [hq]
    simp only [beq_iff_eq]
  rw [← hq', hp, ← hh', ← hdue', hmode, hsince, ← hg', he]
  rfl

end

section
variable {d : Dev} {c : Nat} {x : Cam}

/-- What was triggered since the first CCI failure is marked (R294). -/
theorem Dev.markUncertain_eq {a : Nat} {mark : Tag → Tag} (hf : x.failAt = some a)
    (hmark : ∀ t, (a ≤ t.at_ → mark t = { t with uncertain := true }) ∧ (t.at_ < a → mark t = t)) :
    Dev.markUncertain x = { x with
      uncertain := true, failAt := none, queue := x.queue.map mark, frame := x.frame.map (fun f => { f with tag := f.tag.map mark }) } := by
  have hfun : mark = fun t => { t with uncertain := t.uncertain || x.failAt.any (fun a => decide (a ≤ t.at_)) } := funext fun t => by
    obtain ⟨hlate, hearly⟩ := hmark t
    by_cases h : a ≤ t.at_
    · simp [hlate h, hf, h]
    · simp [hearly (Nat.not_le.mp h), hf, h]
  rw [hfun]
  rfl

/-- A camera's CCI sequence begins, waits, and sends its next write (R290, R298). -/
theorem Dev.cci_cases (gen seq : Nat) (hx : x = d.cam c) :
    (x.seq = 1 → d.cciFrameEnd c = d.cciStart c x.pending 2) ∧ (x.seq ≠ 1 → d.cciFrameEnd c = d) ∧
    (d.drives = true → d.cciStart c gen seq =
      (d.setCam c { x with cci := d.cciWrites c gen, seq := seq, retried := false, failAt := none }).cciSend c) ∧
    (d.drives = false → d.cciStart c gen seq = d.setCam c { x with cci := [], seq := 0, retried := false, failAt := none } ∧ d.cciSend c = d) ∧
    (∀ reg b rest, d.drives = true → x.cci = (reg, b) :: rest → d.cciSend c = d.emit (.cci c (d.g (0x3800 + c) 0x0D) reg b)) ∧
    ((x.pending = 0 ∨ x.cci ≠ []) → d.cciWait c = d) ∧
    (x.pending ≠ 0 → x.cci = [] → x.frame = none → x.queue = [] → d.cciWait c = d.cciStart c x.pending 2) ∧
    (x.pending ≠ 0 → x.cci = [] → (x.frame ≠ none ∨ x.queue ≠ []) → d.cciWait c = d.setCam c { x with seq := 1 }) := by
  subst hx
  refine ⟨fun h => by simp [Dev.cciFrameEnd, h], fun h => by simp [Dev.cciFrameEnd, h], fun h => by simp [Dev.cciStart, h],
    fun h => ⟨by simp [Dev.cciStart, h], ?_⟩, fun reg b rest hd h => by simp [Dev.cciSend, h, hd], fun h => ?_, fun hp hc hf hq => ?_, fun hp hc h => ?_⟩
  · cases hc : (d.cam c).cci with
    | nil => simp [Dev.cciSend, hc]
    | cons w rest => simp [Dev.cciSend, hc, h]
  · rcases h with h | h <;> simp [Dev.cciWait, h]
  · simp [Dev.cciWait, hp, hc, hf, hq]
  · refine (if_neg (by simp [hp, hc])).trans (if_neg ?_)
    rcases h with h | h <;> simp [h]

end

section
variable {s : State} {cam : Fin 6} {x : Cam}

/-- An acknowledged CCI write (R290, R291). -/
theorem exec_cciWriteDone (hx : x = s.dev.cam cam) :
    (x.cci = [] → exec (.cciWriteDone cam) s = s.done s.begin_) ∧
    (∀ w b rest, x.cci = w :: b :: rest → exec (.cciWriteDone cam) s =
      s.done ((s.begin_.setCam cam { x with cci := b :: rest, retried := false, failAt := none }).cciSend cam)) ∧
    (∀ w, x.cci = [w] → exec (.cciWriteDone cam) s = s.done (if x.seq == 2
      then (s.begin_.setCam cam { x with cci := [], seq := 3, retried := false, failAt := none }).decideGen cam
      else (s.begin_.setCam cam { x with
        cci := [], seq := 0, retried := false, failAt := none, uncertain := x.uncertain && x.seq != 4 }).cciWait cam)) := by
  subst hx
  refine ⟨fun h => ?_, fun w b rest h => ?_, fun w h => ?_⟩
  all_goals
    have h' : (s.begin_.cam cam).cci = (s.dev.cam cam).cci := rfl
    rw [h] at h'
    show execCciWriteDone cam s = _
    simp only [execCciWriteDone, h']
  · rfl
  · rfl

/-- A CCI write not acknowledged (R294). -/
theorem exec_cciTimeout (hx : x = s.dev.cam cam) {y : Cam} {e : Dev} (hy : y = Dev.markUncertain x) (he : e = (s.begin_.raise 64).bump (0x3820 + cam) 9) :
    exec (.cciTimeout cam) s = s.done (if x.cci.isEmpty then s.begin_
      else if !x.retried then (s.begin_.setCam cam { x with retried := true, failAt := some s.now }).cciSend cam
      else if x.seq == 4 then (e.setCam cam { y with cci := [], seq := 0, cciFault := true, retried := false }).put (0x3820 + cam) 1 3
      else if x.seq == 5 then (e.setCam cam y).cciStart cam x.inForce 4
      else (((e.setCam cam { y with
        pending := 0
        gens := x.gens.filter (fun g => g.num != x.pending || x.pending == 0) }).put (0x3820 + cam) 4 0).cciStart cam x.inForce 4)) := by
  subst hx hy he
  rfl

end

/-- Settles O48, by the frame's record and the state of the CCI sequence. -/
theorem framesCloseAndCciSequencesRun : Obligations.FramesCloseAndCciSequencesRun := by
  unfold Obligations.FramesCloseAndCciSequencesRun
  refine ⟨fun s cam hon => ⟨.done (congrArg s.done (if_pos hon)), .done (congrArg s.done (if_pos hon))⟩, fun d c extra hf => by simp [Dev.closeFrame, hf], ?_,
    fun s cam x hx => ⟨fun h => ⟨.done ((exec_cciWriteDone hx).1 h), .done ((exec_cciTimeout hx rfl rfl).trans (by rw [h]; rfl))⟩,
      fun w b rest h => .done ((exec_cciWriteDone hx).2.1 w b rest h), fun w h => ⟨fun h2 => ?_, fun h2 => ?_⟩, fun hc hr => ?_, fun y e hc hr hy he => ?_⟩,
    fun x a mark hf hmark => Dev.markUncertain_eq hf hmark, fun d c gen seq x hx => Dev.cci_cases gen seq hx, fun s traffic e he => ?_⟩
  · intro d e g h c extra fl len mode since due x f rep ctx cells hx hf hrep hctx hfl hend hnext hlast hbare hcells hnone he hg hmode hsince hdue hh p q hp hq
    have hlen : ∀ r, rep = some r → frameLen d (some r) ctx = len := fun r hr =>
      frameLen_eq (fun k en => hend r k en hr) (fun k q => hnext r k q hr) (fun k => hlast r k hr) (hbare r hr)
    have hclose := Dev.closeFrame_eq (fl := fl) hx hf hrep hctx (by rw [frameFlags, leavesOut_eq]; exact hfl) (frameCellsOf_eq hlen hcells hnone)
    rw [finishFrame_eq he hg hmode hsince hdue hh hp hq] at hclose
    rw [hclose]
    refine ⟨fun hex => ?_, fun r k hr hk hfl0 hrole => ?_⟩
    · cases hr : rep with
      | none => rfl
      | some r =>
        cases hk : ctx with
        | none => rfl
        | some k =>
          refine if_pos ?_
          rcases hex with hex | hex | hex | hex
          · simp [excludedMask, hex]
          · simp [hex]
          · exact absurd (hr.symm.trans hex) (by simp)
          · exact absurd (hk.symm.trans hex) (by simp)
    · rw [hr, hk]
      exact if_neg (by simp [excludedMask, hfl0, hrole])
  · exact .done (((exec_cciWriteDone hx).2.2 w h).trans (congrArg s.done (if_pos (beq_iff_eq.mpr h2))))
  · exact .done (((exec_cciWriteDone hx).2.2 w h).trans (congrArg s.done (if_neg (fun h' => h2 (beq_iff_eq.mp h')))))
  · refine .done ((exec_cciTimeout hx rfl rfl).trans (congrArg s.done ((if_neg ?_).trans (if_pos (by rw [hr]; rfl)))))
    simpa using hc
  · have hexec := exec_cciTimeout hx hy he
    rw [if_neg (by simpa using hc), if_neg (by simp [hr])] at hexec
    refine ⟨fun h4 => .done (hexec.trans (congrArg s.done (if_pos (beq_iff_eq.mpr h4)))), fun h5 => .done (hexec.trans (congrArg s.done ?_)),
      fun h4 h5 => .done (hexec.trans (congrArg s.done ?_))⟩
    · simp [h5]
    · simp [h4, h5]
  · have hmax : e.g 0x3830 1 = s.dev.g 0x3830 1 ∧ e.g 0x3830 2 = s.dev.g 0x3830 2 := by
      subst he
      exact ⟨Dev.g_put_ne _ _ (by decide), Dev.g_put_ne _ _ (by decide)⟩
    have hexec : exec (.camBudgetMeasure traffic) s = s.done (if e.g 0x3830 1 + e.g 0x3830 2 < traffic then e.raise 65 else e) := by
      subst he
      exact congrArg s.done (by simp only [decide_eq_true_eq])
    rw [hmax.1, hmax.2] at hexec
    refine ⟨fun h => .done (hexec.trans (congrArg s.done (if_neg (Nat.not_lt.mpr h)))), fun h =>
      .of_raise (hexec.trans (congrArg s.done (if_pos h))) rfl rfl ?_ rfl (by decide)⟩
    subst he
    exact Nat.le_refl _

end Sys2Proof.Machine
end

section
/-! PROOFS. Generations of the colour keeper, gap tests and maintenance sweeps (R307 to R320). -/
namespace Sys2Proof.Machine

open Sys2Proof

section
variable {d : Dev} {n : Nat}

/-- The held content stays held, or is formed into the next generation (R307, R308, R310). -/
theorem Dev.formGen_cases {c : GenContent} {m num : Nat} {g : Gen} {e : Dev} (hc : c = d.fresh d.keeper.held)
    (hm : m = d.nextMet d.nextNum (if d.paired then 1 else 0)) (hnum : num = (d.keeper.lastNum + 1) % 4294967296)
    (hg : g = { num := num, rep := m, content := c, acked := !d.paired })
    (he : e = { d with keeper := { d.keeper with held := {}, lastNum := num, gen := some g } }) :
    ((Dev.emptyContent c = true ∨ d.keeper.gen.isSome = true ∨ d.phase ≠ .printing ∨ d.print.reps = [] ∨ d.role = 2) →
      d.formGen = { d with keeper := { d.keeper with held := c } }) ∧
    (Dev.emptyContent c = false → d.keeper.gen = none → d.phase = .printing → d.print.reps ≠ [] → d.role ≠ 2 →
      d.formGen = ((((e.put 0x3A08 2 num).put 0x3A08 3 m).bump 0x3A08 4).writeGen g).mirrorGen g) := by
  subst he hg hnum hm hc
  refine ⟨fun h => if_pos ?_, fun hne hgen hp hr hrole => if_neg ?_⟩
  · rcases h with h | h | h | h | h <;> simp [h]
  · simp [hne, hgen, hp, hr, hrole]

/-- An edge to a gate's active level (R313, R316). -/
theorem Dev.gateEdge_active {c : Census} {k at_ : Nat} {high : Bool} {mine : Nat → CensusTest → Bool} {e : Dev} (hc : c = d.census n)
    (hmine : mine = fun p t => t.gate == k && d.edgePlace n t at_ == p) (hhigh : high = true ↔ d.g (0x3A20 + n) 6 ≠ 1)
    (he : e = d.setCensus n { c with heldSince := c.heldSince.set k at_ }) :
    (c.tests.any (mine 0) = true → d.gateEdge n k at_ high = e.setCensus n { c with
        heldSince := c.heldSince.set k at_
        tests := c.tests.map (fun t => if mine 0 t then { t with edges := t.edges ++ [at_] } else t) }) ∧
    (c.tests.any (mine 0) = false → d.gateEdge n k at_ high = (e.setCensus n { c with
        heldSince := c.heldSince.set k at_
        tests := c.tests.map (fun t => if mine 1 t then { t with near := true } else t)
        strays := c.strays.set k (c.strays.get 0 k + 1) }).bump (0x5009 + 0x100 * n) 8) := by
  have hactive : (high != (d.g (0x3A20 + n) 6 == 1)) = true := by
    cases high
    · simpa using hhigh
    · simpa using hhigh
  have hcensus : e.census n = { c with heldSince := c.heldSince.set k at_ } := by
    subst he
    exact Table.get_set_self _ _ _ _
  have hedge : d.gateEdge n k at_ high = e.takeEdge n k at_ := by
    subst he hc
    exact if_pos hactive
  have hplace : ∀ t, e.edgePlace n t at_ = d.edgePlace n t at_ := fun t => by
    subst he
    rfl
  subst hmine
  rw [hedge]
  simp only [Dev.takeEdge, hcensus, hplace]
  exact ⟨fun h => if_pos h, fun h => if_neg (by rw [h]; exact Bool.false_ne_true)⟩

/-- An edge back from a gate's active level (R316). -/
theorem Dev.gateEdge_back {c : Census} {k at_ : Nat} {high : Bool} (hc : c = d.census n) (hhigh : high = true ↔ d.g (0x3A20 + n) 6 = 1) :
    (c.heldSince.find? k = none → d.gateEdge n k at_ high = d) ∧
    (∀ since, c.heldSince.find? k = some since → d.gateEdge n k at_ high = d.setCensus n (if d.heldLong n since at_ && !c.heldGates.contains k
      then { c with heldSince := c.heldSince.erase k, heldGates := c.heldGates ++ [k] } else { c with heldSince := c.heldSince.erase k })) := by
  have hback : ¬(high != (d.g (0x3A20 + n) 6 == 1)) = true := by
    cases high
    · simpa using hhigh
    · simpa using hhigh
  subst hc
  refine ⟨fun h => ?_, fun since h => ?_⟩
  · simp only [Dev.gateEdge, if_neg hback, h]
  · simp only [Dev.gateEdge, if_neg hback, h]

/-- The last window of a gap closes (R316). -/
theorem Dev.closeGap_cases {c : Census} {bad : List Nat} {good : List CensusTest} {e : Dev} (hc : c = d.census n) :
    (c.tests = [] → d.closeGap n = d) ∧
    (c.tests ≠ [] → bad = [0, 1].filter (fun g => c.tests.any (fun t => t.gate == g) &&
        (c.heldGates.contains g || decide (d.g (0x3A20 + n) 7 < c.strays.get 0 g))) →
      good = c.tests.filter (fun t => !bad.contains t.gate && !t.discarded && t.start.isSome) →
      e = bad.foldl (fun d g => if c.heldGates.contains g then (d.bump (0x5009 + 0x100 * n) 9).raise 71 (2 ^ n) 0xFF 0
        else d.bump (0x5009 + 0x100 * n) 9) d →
      d.closeGap n = good.foldl (fun d t => d.applyTest n t) (e.setCensus n { c with tests := [] })) := by
  subst hc
  refine ⟨fun h => if_pos (by simp [h]), fun h hbad hgood he => ?_⟩
  subst hgood he hbad
  exact if_neg (by simpa using h)

/-- A nozzle's record and its declared change take effect (R316, R318). -/
def recordTest (d : Dev) (n noz : Nat) (recs : Bytes) (change : Option Bool) : Dev :=
  let e := d.putDom (0x6230 + n) recs
  let f := if bit (leNat (Dev.nozRec recs noz)) 1 then e.queueTest n noz false else e
  match change with
  | none => f
  | some miss =>
    let g := f.holdContent { maps := [(n, noz, miss)] }
    if miss then ((g.bump (0x5009 + 0x100 * n) 4).raise 72 (2 ^ n)).sendCheck n noz else (g.bump (0x5009 + 0x100 * n) 5).raise 73 (2 ^ n)

theorem testResult_eq (t : CensusTest) : Dev.testResult t = if t.edges ≠ [] then 1 else if t.near then 3 else 2 := by
  cases h : t.edges <;> simp [Dev.testResult, h]

/-- One test is classified (R316, R318, Table 12.2). -/
theorem Dev.applyTest_cases {e : Dev} {st : Nat} {t : CensusTest} {change : Option Bool} {recs new_ : Bytes}
    (he : e = (if t.edges ≠ [] then d.bump (0x5009 + 0x100 * n) 1 else (d.bump (0x5009 + 0x100 * n) 1).bump (0x5009 + 0x100 * n) (if t.near then 3 else 2)))
    (hrecs : recs = e.liveBytes n 0x6230 (4 * e.nozzles n))
    (hst : Dev.hysteresis (leNat ((Dev.nozRec recs t.nozzle).take 1)) (decide (t.edges ≠ [])) = (st, change))
    (hnew : new_ = recs.take (4 * t.nozzle) ++ [byte st, byte (if t.edges ≠ [] then 1 else if t.near then 3 else 2)] ++ leBytes 2 (Dev.timeOfFlight t) ++
      recs.drop (4 * t.nozzle + 4)) :
    (e.role = 2 → d.applyTest n t = e) ∧
    (∀ f : Dev, e.role ≠ 2 → f = (if bit (leNat (Dev.nozRec new_ t.nozzle)) 1 then (e.putDom (0x6230 + n) new_).queueTest n t.nozzle false
        else e.putDom (0x6230 + n) new_) →
      (change = none → d.applyTest n t = f) ∧
      (change = some true → d.applyTest n t =
        (((f.holdContent { maps := [(n, t.nozzle, true)] }).bump (0x5009 + 0x100 * n) 4).raise 72 (2 ^ n)).sendCheck n t.nozzle) ∧
      (change = some false → d.applyTest n t =
        ((f.holdContent { maps := [(n, t.nozzle, false)] }).bump (0x5009 + 0x100 * n) 5).raise 73 (2 ^ n))) := by
  have hpass : (Dev.testResult t == 1) = decide (t.edges ≠ []) := by
    rw [testResult_eq]
    by_cases h : t.edges = []
    · cases t.near <;> simp [h]
    · simp [h]
  have hafter : Dev.recAfter recs t = (new_, change) := by
    simp only [Dev.recAfter, hpass, hst]
    rw [hnew, testResult_eq]
  have hcount : (if Dev.testResult t == 2 then (d.bump (0x5009 + 0x100 * n) 1).bump (0x5009 + 0x100 * n) 2
      else if Dev.testResult t == 3 then (d.bump (0x5009 + 0x100 * n) 1).bump (0x5009 + 0x100 * n) 3 else d.bump (0x5009 + 0x100 * n) 1) = e := by
    rw [he, testResult_eq]
    by_cases h : t.edges = []
    · cases t.near <;> simp [h]
    · simp [h]
  have happly : d.applyTest n t = if e.role == 2 then e else
      recordTest e n t.nozzle (Dev.recAfter (e.liveBytes n 0x6230 (4 * e.nozzles n)) t).1 (Dev.recAfter (e.liveBytes n 0x6230 (4 * e.nozzles n)) t).2 := by
    rw [← hcount]
    rfl
  rw [happly, ← hrecs, hafter]
  refine ⟨fun h => if_pos (by rw [h]; rfl), fun f hrole hf => ?_⟩
  rw [if_neg (by simpa using hrole)]
  subst hf
  exact ⟨fun h => by rw [h]; rfl, fun h => by rw [h]; rfl, fun h => by rw [h]; rfl⟩

/-- The timer's strobe at one swept bar (R320). -/
theorem Dev.sweepBar_cases {up : List Nat} (hup : up = (d.lanesOf n).filter (fun k => d.laneState k == 4)) :
    (d.keeper.sweeps.find? n = none → d.sweepBar n = d) ∧
    ((up = [] ∨ (d.lanesOf n).all d.laneSettled = false ∨ (d.bar n).strobeFault = true) → d.sweepBar n = d) ∧
    (∀ w, d.keeper.sweeps.find? n = some w → up ≠ [] → (d.lanesOf n).all d.laneSettled = true → (d.bar n).strobeFault = false →
      ((∃ k ∈ up, (d.lane k).baseSent = false) → d.sweepBar n = (up.filter (fun k => !(d.lane k).baseSent)).foldl
        (fun d k => (d.onLane k (fun l => { l with carries := true })).sendBase k w.line) d) ∧
      ((∀ k ∈ up, (d.lane k).baseSent = true) → (∃ k ∈ up, (d.lane k).credited = false) → d.sweepBar n = d) ∧
      ((∀ k ∈ up, (d.lane k).baseSent = true ∧ (d.lane k).credited = true) → d.sweepBar n = d.sweepLine n w.line w)) := by
  have hbar : ∀ w, d.keeper.sweeps.find? n = some w → d.sweepBar n =
      if up.isEmpty || !(d.lanesOf n).all d.laneSettled || (d.bar n).strobeFault then d
      else if up.any (fun s => !(d.lane s).baseSent) then
        (up.filter (fun s => !(d.lane s).baseSent)).foldl (fun d s => (d.onLane s (fun l => { l with carries := true })).sendBase s w.line) d
      else if up.any (fun s => !(d.lane s).credited) then d
      else d.sweepLine n w.line w := fun w hw => by
    subst hup
    simp only [Dev.sweepBar, hw]
  refine ⟨fun h => by simp only [Dev.sweepBar, h], fun h => ?_, fun w hw hne hall hf => ?_⟩
  · cases hw : d.keeper.sweeps.find? n with
    | none => simp only [Dev.sweepBar, hw]
    | some w =>
      refine (hbar w hw).trans (if_pos ?_)
      rcases h with h | h | h <;> simp [h]
  · have hgo : ¬(up.isEmpty || !(d.lanesOf n).all d.laneSettled || (d.bar n).strobeFault) = true := by
      rw [hall, hf]
      simpa using hne
    rw [hbar w hw, if_neg hgo]
    refine ⟨fun ⟨k, hk, hb⟩ => if_pos (List.any_eq_true.mpr ⟨k, hk, by rw [hb]; rfl⟩), fun hb ⟨k, hk, hc⟩ => ?_, fun h => ?_⟩
    · rw [if_neg (by simpa using hb), if_pos (List.any_eq_true.mpr ⟨k, hk, by rw [hc]; rfl⟩)]
    · rw [if_neg (by simpa using fun k hk => (h k hk).1), if_neg (by simpa using fun k hk => (h k hk).2)]

end

/-! ### What a sweep's line keeps -/

/-- The clock and an object of the dictionary. -/
def atKey (i j : Nat) (d : Dev) : Nat × Nat := (d.t, d.g i j)

theorem atKey_bump {d : Dev} {i j i' j' : Nat} (h : key i' j' ≠ key i j) : atKey i j (d.bump i' j') = atKey i j d := by
  simp only [atKey, Dev.g_bump_ne d h]
  rfl

/-- Classifying a sweep's tests moves the clock and the FIRE settings of no bar. -/
theorem atKey_sweepClassify (d : Dev) (n : Nat) {i j : Nat} (h : ∀ k ∈ [1, 2, 3], key (0x5009 + 0x100 * n) k ≠ key i j) :
    atKey i j (d.sweepClassify n) = atKey i j d := by
  have h1 := h 1 (by decide)
  have h2 := h 2 (by decide)
  have h3 := h 3 (by decide)
  unfold Dev.sweepClassify
  split
  · rfl
  · refine Eq.trans ?_ (foldl_keeps (f := fun (d : Dev) (t : CensusTest) => if Dev.testResult t == 2 then (d.bump (0x5009 + 0x100 * n) 1).bump (0x5009 + 0x100 * n) 2
      else if Dev.testResult t == 3 then (d.bump (0x5009 + 0x100 * n) 1).bump (0x5009 + 0x100 * n) 3 else d.bump (0x5009 + 0x100 * n) 1) (atKey i j) (fun a t => ?_)
      ((d.census n).tests.filter (fun t => !t.discarded && t.start.isSome)) d)
    · rfl
    · split
      · rw [atKey_bump h2, atKey_bump h1]
      · split
        · rw [atKey_bump h3, atKey_bump h1]
        · rw [atKey_bump h1]

/-- A swept line's strobe leaves (R320), and the sweep moves on to the next line. -/
theorem Dev.sweepLine_strobes (d : Dev) (n : Nat) (w : Sweep) :
    ((d.sweepLine n w.line w).keeper.sweeps.find? n).map (fun x => x.line) = some (w.line + 1) ∧
    .strobe n w.line (d.t * 2 / 5) (d.g (0x5007 + 0x100 * n) 1) (d.g (0x5007 + 0x100 * n) 3) ∈ (d.sweepLine n w.line w).out := by
  have hkey : ∀ j, j = 1 ∨ j = 3 → ∀ k ∈ [1, 2, 3], key (0x5009 + 0x100 * n) k ≠ key (0x5007 + 0x100 * n) j := fun j hj k hk => by
    simp only [List.mem_cons, List.not_mem_nil, or_false] at hk
    simp only [key]
    omega
  refine ⟨by simp only [Dev.sweepLine, Table.find?_set_self, Option.map_some], ?_⟩
  simp only [Dev.sweepLine]
  refine List.mem_append_right _ (List.mem_singleton.mpr ?_)
  have hout : ∀ x y : Dev, (∀ j, j = 1 ∨ j = 3 → atKey (0x5007 + 0x100 * n) j x = atKey (0x5007 + 0x100 * n) j y) →
      Out.strobe n w.line (x.t * 2 / 5) (x.g (0x5007 + 0x100 * n) 1) (x.g (0x5007 + 0x100 * n) 3) =
        Out.strobe n w.line (y.t * 2 / 5) (y.g (0x5007 + 0x100 * n) 1) (y.g (0x5007 + 0x100 * n) 3) := fun x y h => by
    obtain ⟨ht, h1⟩ := Prod.mk.inj (h 1 (.inl rfl))
    obtain ⟨-, h3⟩ := Prod.mk.inj (h 3 (.inr rfl))
    rw [ht, h1, h3]
  refine hout _ _ (fun j hj => ((foldl_keeps (atKey (0x5007 + 0x100 * n) j) (fun a k => ?_) _ _).trans ?_).symm)
  · split
    · split <;> rfl
    · rfl
  · show atKey (0x5007 + 0x100 * n) j (if _ then _ else d) = _
    split
    · exact atKey_sweepClassify d n (hkey j hj)
    · rfl

/-! ### What the end of a sweep keeps: the running operation -/

theorem op_raise (d : Dev) {e : Nat} (he : e < 255) (m u x : Nat) : (d.raise e m u x).com.op = d.com.op := by
  have hbare : (d.raise e m u x).bare.com.op = d.bare.com.op := by rw [Dev.raise_bare d e m u x he]
  exact hbare

theorem op_sweepClassify (d : Dev) (n : Nat) : (d.sweepClassify n).com.op = d.com.op := by
  unfold Dev.sweepClassify
  split
  · rfl
  · refine Eq.trans ?_ (foldl_keeps (f := fun (d : Dev) (t : CensusTest) => if Dev.testResult t == 2 then (d.bump (0x5009 + 0x100 * n) 1).bump (0x5009 + 0x100 * n) 2
      else if Dev.testResult t == 3 then (d.bump (0x5009 + 0x100 * n) 1).bump (0x5009 + 0x100 * n) 3 else d.bump (0x5009 + 0x100 * n) 1)
      (fun d => d.com.op) (fun a t => ?_) ((d.census n).tests.filter (fun t => !t.discarded && t.start.isSome)) d)
    · rfl
    · split
      · rfl
      · split <;> rfl

theorem op_queueTest (d : Dev) (n z : Nat) (b : Bool) : (d.queueTest n z b).com.op = d.com.op := by
  simp only [Dev.queueTest]
  split
  · rfl
  · split
    · rfl
    · split <;> rfl

theorem op_pumpCheck (d : Dev) (k : Nat) : (d.pumpCheck k).com.op = d.com.op := by
  simp only [Dev.pumpCheck]
  split <;> rfl

theorem op_sendCheck (d : Dev) (n z : Nat) : (d.sendCheck n z).com.op = d.com.op := op_pumpCheck _ _

theorem op_holdGates (d : Dev) (n : Nat) : (d.holdGates n).com.op = d.com.op := by
  simp only [Dev.holdGates]
  split <;> rfl

theorem op_sweepDiscards (d : Dev) (n : Nat) : (d.sweepDiscards n).1.com.op = d.com.op := by
  refine (foldl_keeps (fun d : Dev => d.com.op) (fun a g => ?_) _ (d.holdGates n)).trans (op_holdGates d n)
  dsimp only
  split
  · exact op_raise _ (by decide) _ _ _
  · rfl

theorem op_sweepApply (d : Dev) (n : Nat) (w : Sweep) : (d.sweepApply n w).1.com.op = d.com.op := by
  refine (foldl_keeps (fun d : Dev => d.com.op) (fun a z => ?_) _ _).trans
    ((foldl_keeps (fun d : Dev => d.com.op) (fun a z => op_queueTest a n z false) _ _).trans (op_sweepDiscards d n))
  split
  · exact (op_sendCheck _ _ _).trans (op_raise _ (by decide) _ _ _)
  · exact op_raise _ (by decide) _ _ _

theorem op_writeGen (d : Dev) (g : Gen) : (d.writeGen g).com.op = d.com.op := by
  refine foldl_keeps (fun d : Dev => d.com.op) (fun a n => ?_) _ d
  dsimp only
  split <;> split <;> split <;> rfl

theorem op_unwriteGen (d : Dev) (g : Gen) : (d.unwriteGen g).com.op = d.com.op := by
  refine foldl_keeps (fun d : Dev => d.com.op) (fun a n => ?_) _ d
  refine (foldl_keeps (fun d : Dev => d.com.op) (fun a h => ?_) _ a)
  split <;> rfl

theorem op_twinSend (d : Dev) (kind : Nat) (p : Bytes) : (d.twinSend kind p).com.op = d.com.op := by
  simp only [Dev.twinSend]
  split <;> rfl

theorem op_mirror (d : Dev) (m : DecisionMsg) : (d.mirror m).com.op = d.com.op := by
  simp only [Dev.mirror]
  split
  · exact op_twinSend _ _ _
  · rfl

theorem op_sweepGen (d : Dev) (ms : List (Nat × Nat × Bool)) : (d.sweepGen ms).com.op = d.com.op := by
  simp only [Dev.sweepGen]
  split
  · rfl
  · refine (op_mirror _ _).trans ((op_writeGen _ _).trans ?_)
    cases d.keeper.gen with
    | none => rfl
    | some g => exact op_unwriteGen d g

theorem op_stepDown (d : Dev) (k : Nat) : (d.stepDown k).com.op = d.com.op := by
  simp only [Dev.stepDown]
  split <;> rfl

/-- A sweep has ended: no operation runs, no bar is swept, and 0x2002 holds the result 0 of the operation (R59, R320). -/
def SweepEnded (o : Op) (t : Dev) : Prop :=
  t.com.op = none ∧ t.keeper.sweeps = [] ∧ t.g 0x2002 1 = o.id ∧ t.g 0x2002 2 = 5 ∧ t.g 0x2002 3 = 0

theorem sweepEnded_endOp {d : Dev} {o : Op} (ho : d.com.op = some o) (h5 : o.cls = 5) (hs : d.keeper.sweeps = []) : SweepEnded o (d.endOp 0) := by
  have hend : d.endOp 0 = (((({ d with com := { d.com with op := none } } : Dev).put 0x2002 1 o.id).put 0x2002 2 o.cls).put 0x2002 3 0).put 0x2002 4
      ((d.t - o.start) / 1000000 % 4294967296) := by simp only [Dev.endOp, ho]
  rw [hend]
  refine ⟨rfl, hs, ?_, ?_, ?_⟩
  · rw [Dev.g_put_ne _ _ (by decide), Dev.g_put_ne _ _ (by decide), Dev.g_put_ne _ _ (by decide), Dev.g_put_self]
  · rw [Dev.g_put_ne _ _ (by decide), Dev.g_put_ne _ _ (by decide), Dev.g_put_self, h5]
  · rw [Dev.g_put_ne _ _ (by decide), Dev.g_put_self]

/-- The sweep ends with every bar's sweep gone, and its operation with result 0 (R320, R59). -/
theorem sweepEnded_sweepComplete {d : Dev} {o : Op} (ho : d.com.op = some o) (h5 : o.cls = 5) : SweepEnded o d.sweepComplete := by
  simp only [Dev.sweepComplete, ho]
  rw [if_neg (by simp [h5])]
  refine sweepEnded_endOp (Eq.trans ?_ ho) h5 rfl
  refine (foldl_keeps (fun d : Dev => d.com.op) (fun a n => ?_) _ _).trans ((op_sweepGen _ _).trans ?_)
  · exact foldl_keeps (fun d : Dev => d.com.op) (fun a k => op_stepDown a k) _ _
  · have hclassify := foldl_keeps (f := Dev.sweepClassify) (fun d : Dev => d.com.op) op_sweepClassify (d.keeper.sweeps.keysWhere (fun _ _ => true)) d
    split
    · exact hclassify
    · refine (foldl_keeps (fun st : Dev × List (Nat × Nat × Bool) => st.1.com.op) (fun st n => ?_) _ _).trans hclassify
      exact op_sweepApply _ _ _

/-- Settles O49, by the cases of the generation, of the gates, of a test and of a sweep's timer; the end of a sweep leaves the operation alone until
it ends it. -/
theorem generationsGapTestsAndSweeps : Obligations.GenerationsGapTestsAndSweeps := by
  unfold Obligations.GenerationsGapTestsAndSweeps
  refine ⟨fun s c n num g e hc hn hnum hg he => ?_, fun s sess mask m hs hm => ⟨fun h => ?_, fun h0 hr => ?_⟩,
    fun s gate at_ n k high c mine hn hk hc hmine => ⟨fun h => ?_, fun h hh => ?_, fun h hh => ?_⟩, fun s bar => ⟨fun h => ?_, fun hw ht => ?_⟩,
    fun d e n c bad good hc => Dev.closeGap_cases hc, fun d e n st t change recs new_ he hrecs hst hnew => Dev.applyTest_cases he hrecs hst hnew,
    fun s sess value hs => ?_, fun s ho => ?_, fun s o ho h5 => ?_, fun d n up hup => Dev.sweepBar_cases hup, fun d n w _ => Dev.sweepLine_strobes d n w,
    fun s o ho h5 => ?_⟩
  · obtain ⟨hheld, hformed⟩ := Dev.formGen_cases (d := s.begin_) hc hn hnum hg he
    exact ⟨fun h => .done (congrArg s.done (hheld h)), fun h1 h2 h3 h4 h5 => .done (congrArg s.done (hformed h1 h2 h3 h4 h5))⟩
  · subst hm
    refine .of_hostWrite hs rfl (if_pos ?_)
    rcases h with h | h
    · rw [Bool.or_eq_true]
      exact .inl (beq_iff_eq.mpr h)
    · rw [Bool.or_eq_true]
      exact .inr (beq_iff_eq.mpr h)
  · subst hm
    refine .of_hostWrite hs rfl (if_neg ?_)
    rw [Bool.or_eq_true, not_or]
    exact ⟨fun h => h0 (beq_iff_eq.mp h), fun h => hr (beq_iff_eq.mp h)⟩
  · subst hn
    exact .done (congrArg s.done (if_neg (fun h' => absurd (of_decide_eq_true h') (Nat.not_lt.mpr h))))
  · subst hn hk
    have hexec : exec (.gateEdge gate at_ high) s = s.done (s.begin_.gateEdge (gate / 2) (gate % 2) at_ high) := congrArg s.done (if_pos (decide_eq_true h))
    obtain ⟨hin, hout⟩ := Dev.gateEdge_active (d := s.begin_) hc hmine hh rfl
    exact ⟨fun h => .done (hexec.trans (congrArg s.done (hin h))), fun h => .done (hexec.trans (congrArg s.done (hout h)))⟩
  · subst hn hk
    have hexec : exec (.gateEdge gate at_ high) s = s.done (s.begin_.gateEdge (gate / 2) (gate % 2) at_ high) := congrArg s.done (if_pos (decide_eq_true h))
    obtain ⟨hnone, hsome⟩ := Dev.gateEdge_back (d := s.begin_) (at_ := at_) hc hh
    refine ⟨fun h => .done (hexec.trans (congrArg s.done (hnone h))), fun since hf => ⟨fun h => .done (hexec.trans (congrArg s.done ((hsome since hf).trans ?_))),
      fun h h' => .done (hexec.trans (congrArg s.done ((hsome since hf).trans ?_)))⟩⟩
    · have hlong : ¬(s.begin_.heldLong (gate / 2) since at_ && !c.heldGates.contains (gate % 2)) = true := by
        rw [Bool.and_eq_true, Bool.not_eq_true']
        rintro ⟨hl, hg⟩
        rcases h with h | h
        · exact absurd (of_decide_eq_true hl) (Nat.not_lt.mpr h)
        · exact absurd (h.symm.trans hg) (by decide)
      rw [if_neg hlong]
    · have hlong : (s.begin_.heldLong (gate / 2) since at_ && !c.heldGates.contains (gate % 2)) = true := by
        rw [Bool.and_eq_true, h']
        exact ⟨decide_eq_true h, rfl⟩
      rw [if_pos hlong]
  · refine .done (congrArg s.done (if_pos ?_))
    rw [Bool.or_eq_true]
    exact h.imp id (fun h => by rw [show s.begin_.testsOver bar = false from h]; rfl)
  · refine .done (congrArg s.done (if_neg ?_))
    rw [show s.begin_.testsOver bar = true from ht, show s.begin_.keeper.sweeps.find? bar = none from hw]
    decide
  · refine ⟨.of_hostWrite hs rfl rfl, fun h => .of_hostWrite hs rfl ?_, fun h => .of_hostWrite hs rfl ?_, fun h => .of_hostWrite hs rfl ?_⟩
    · have h0 : value ≠ 0 := by omega
      have h1 : value ≠ 1 := by omega
      simp [Dev.writeSweep, h0, h1]
    · have h' : s.begin_.sys.st ≠ .ready := h
      exact (if_neg (by decide)).trans ((if_neg (by decide)).trans (if_pos (bne_iff_ne.mpr h')))
    · have h' : s.begin_.sys.st = .ready := h
      exact (if_neg (by decide)).trans ((if_neg (by decide)).trans (if_neg (by rw [h']; decide)))
  · have hidle : s.begin_.sweepStrobe = s.begin_ ∧ s.begin_.sweepComplete = s.begin_ := by
      cases hop : s.begin_.com.op with
      | none => exact ⟨by simp only [Dev.sweepStrobe, hop], by simp only [Dev.sweepComplete, hop]⟩
      | some o =>
        have h5 := ho o hop
        refine ⟨?_, ?_⟩
        · simp only [Dev.sweepStrobe, hop]
          exact if_neg (by simpa using h5)
        · simp only [Dev.sweepComplete, hop]
          exact if_pos (by simpa using h5)
    exact ⟨.done (congrArg s.done hidle.1), .done (congrArg s.done hidle.2)⟩
  · have ho' : s.begin_.com.op = some o := ho
    refine .done (congrArg s.done ?_)
    simp only [Dev.sweepStrobe, ho', h5]
    rfl
  · obtain ⟨hop, hsw, hid, hcls, hres⟩ := sweepEnded_sweepComplete (d := s.begin_) ho h5
    exact ⟨_, rfl, ⟨rfl, rfl, rfl⟩, hop, hsw, hid, hcls, hres⟩

end Sys2Proof.Machine
end

section
/-! PROOFS. Illumination: levels, the light loop and the UV interlock (R322 to R331). -/
namespace Sys2Proof.Machine

open Sys2Proof

/-- Two functions fold alike where each step keeps what makes them agree on the rest of the list. -/
theorem foldl_eq_of {α β : Type} {f g : α → β → α} {P : List β → α → Prop} (h : ∀ i l a, P (i :: l) a → f a i = g a i ∧ P l (f a i)) :
    ∀ (l : List β) (a : α), P l a → l.foldl f a = l.foldl g a := by
  intro l
  induction l with
  | nil => intro a _; rfl
  | cons i l ih =>
    intro a ha
    obtain ⟨heq, hrest⟩ := h i l a ha
    rw [List.foldl_cons, List.foldl_cons, ← heq]
    exact ih _ hrest

/-- A channel's level for a period: that of its fade, 0 while it is held off (R325, R330). -/
def litLevel (d : Dev) (i : Nat) : Nat := if d.uvOff i then 0 else Dev.fadeLevel (d.led i) d.t

/-- A channel in a period: its settings, its level and its active cycles (R324, R325). -/
def litLed (d : Dev) (p i : Nat) : Led := { d.led i with
  level := litLevel d i
  mode := d.g 0x3C00 (i + 1)
  curve := d.g 0x3C01 (i + 1)
  phase := d.g 0x3C02 (i + 1)
  cycles := if d.g 0x3C00 (i + 1) = 1 then pwmCycles (d.trimmed i (d.duty i (d.g 0x3C01 (i + 1)) (litLevel d i))) p else 0
  first := 4096 * d.g 0x3C02 (i + 1) / 48 }

theorem Dev.ledPeriod_eq (d : Dev) (p i : Nat) : d.ledPeriod p i = (d.setLed i (litLed d p i)).put 0x3C28 (i + 1) (litLevel d i) := by
  simp only [Dev.ledPeriod, litLed, litLevel, beq_iff_eq]

/-- The trimmed duty of a channel of a group, and of one without (R323). -/
theorem Dev.trimmed_cases (d : Dev) (i duty : Nat) :
    (∀ g, d.g 0x3C03 (i + 1) = g → g ≠ 0xFF → d.trimmed i duty = min 65535 (duty * d.g 0x3C2A (g + 1) / 4096)) ∧
    (d.g 0x3C03 (i + 1) = 0xFF → d.trimmed i duty = min 65535 (duty * 4096 / 4096)) := by
  refine ⟨fun g hg hne => ?_, fun hg => ?_⟩
  · subst hg
    have hgroup : d.groupOfLed i = some (d.g 0x3C03 (i + 1)) := if_neg (by simpa using hne)
    simp only [Dev.trimmed, hgroup, Dev.trimK]
  · have hgroup : d.groupOfLed i = none := if_pos (by rw [hg]; rfl)
    simp only [Dev.trimmed, hgroup]

/-- Every object but the levels of 0x3C28 reads as it did. -/
def SameButLevels (d e : Dev) : Prop :=
  e.t = d.t ∧ e.light.uvLatched = d.light.uvLatched ∧ e.dict.doms = d.dict.doms ∧
    ∀ i j, (∀ k < 48, key 0x3C28 (k + 1) ≠ key i j) → e.g i j = d.g i j

theorem SameButLevels.refl {d : Dev} : SameButLevels d d := ⟨Eq.refl _, Eq.refl _, Eq.refl _, fun _ _ _ => Eq.refl _⟩

/-- A level and a channel are all that a channel's period changes. -/
theorem SameButLevels.setLed {d e : Dev} (h : SameButLevels d e) {i : Nat} (hi : i < 48) (l : Led) (lv : Nat) :
    SameButLevels d ((e.setLed i l).put 0x3C28 (i + 1) lv) := by
  obtain ⟨ht, hu, hd, hg⟩ := h
  exact ⟨ht, hu, hd, fun a b hab => (Dev.g_put_ne _ _ (hab i hi)).trans (hg a b hab)⟩

/-- What a channel takes at a period does not depend on the other channels. -/
theorem SameButLevels.lit {d e : Dev} (h : SameButLevels d e) {i : Nat} (hi : i < 48) (hl : e.led i = d.led i) (p : Nat) :
    litLevel e i = litLevel d i ∧ litLed e p i = litLed d p i := by
  obtain ⟨ht, hu, hd, hg⟩ := h
  have hset : ∀ a b, a = 0x3C00 ∨ a = 0x3C01 ∨ a = 0x3C02 ∨ a = 0x3C03 → b = i + 1 → e.g a b = d.g a b := fun a b ha hb =>
    hg a b (fun k hk => by simp only [key]; omega)
  have h04 : e.g 0x3C04 0 = d.g 0x3C04 0 := hg _ _ (fun k hk => by simp only [key]; omega)
  have hK : ∀ g, e.g 0x3C2A (g + 1) = d.g 0x3C2A (g + 1) := fun g => hg _ _ (fun k hk => by simp only [key]; omega)
  have hlevel : litLevel e i = litLevel d i := by
    rw [litLevel, litLevel, Dev.uvOff, Dev.uvOff, hu, h04, hl, ht]
  have hcurve : e.duty i = d.duty i := funext fun c => funext fun x => by unfold Dev.duty; rw [hd]
  have htrim : e.trimmed i = d.trimmed i := funext fun x => by
    simp only [Dev.trimmed, Dev.groupOfLed, Dev.trimK, hK, hset 0x3C03 (i + 1) (by simp) rfl]
  refine ⟨hlevel, ?_⟩
  rw [litLed, litLed, hlevel, hl, hcurve, htrim, hset 0x3C00 (i + 1) (by simp) rfl, hset 0x3C01 (i + 1) (by simp) rfl,
    hset 0x3C02 (i + 1) (by simp) rfl]

/-- The channels below `n` have taken their period, and the others are as they were. -/
def LitBelow (d : Dev) (p n : Nat) (e : Dev) : Prop :=
  SameButLevels d e ∧ (∀ i, i < n → e.g 0x3C28 (i + 1) = litLevel d i ∧ e.led i = litLed d p i) ∧ ∀ i, n ≤ i → e.led i = d.led i

theorem litBelow_range (d : Dev) (p n : Nat) (hn : n ≤ 48) : LitBelow d p n ((List.range n).foldl (fun d i => d.ledPeriod p i) d) := by
  induction n with
  | zero => exact ⟨.refl, fun i hi => absurd hi (Nat.not_lt_zero i), fun i _ => rfl⟩
  | succ n ih =>
    obtain ⟨hsame, hlit, hrest⟩ := ih (by omega)
    rw [List.range_succ, List.foldl_append, List.foldl_cons, List.foldl_nil]
    obtain ⟨hlevel, hled⟩ := hsame.lit (by omega) (hrest n (Nat.le_refl n)) p
    rw [Dev.ledPeriod_eq, hlevel, hled]
    refine ⟨hsame.setLed (by omega) _ _, fun i hi => ?_, fun i hi => ?_⟩
    · by_cases hin : i = n
      · subst hin
        exact ⟨Dev.g_put_self _ _ _ _, Table.get_set_self _ _ _ _⟩
      · have hne : n ≠ i := fun h => hin h.symm
        obtain ⟨hg, hl⟩ := hlit i (by omega)
        exact ⟨(Dev.g_put_ne _ _ (by simp only [key]; omega)).trans hg, (Table.get_set_ne _ _ _ hne).trans hl⟩
    · have hne : n ≠ i := by omega
      exact (Table.get_set_ne _ _ _ hne).trans (hrest i (by omega))

section
variable {d : Dev} {k m sp : Nat}

/-- The loop's update of a group's trim, held within its bounds (R328). -/
theorem Dev.updateTrim_cases {gain : Nat} {q : Int} {f : List Nat → Dev → Dev} (hsp : sp = d.g 0x3C06 (k + 1)) (hgain : gain = d.g 0x3C07 (k + 1))
    (hq : q = d.g 0x3C2A (k + 1) + Int.fdiv (gain * ((sp : Int) - m) * 4096) ((65536 * sp : Nat) : Int))
    (hf : ∀ l x, f l x = { x with light := { x.light with limited := l } }) :
    ((gain = 0 ∨ d.role = 2) → d.updateTrim k m = d) ∧
    (gain ≠ 0 → d.role ≠ 2 → ∀ e : Dev, e = d.putTrim k (if q < 2048 then 2048 else if 8192 < q then 8192 else q.toNat) →
      (2048 ≤ q → q ≤ 8192 → d.updateTrim k m = f (e.light.limited.filter (fun x => x != k)) e) ∧
      ((q < 2048 ∨ 8192 < q) → d.light.limited.contains k = false → d.updateTrim k m = (f (k :: e.light.limited) e).raise 74) ∧
      ((q < 2048 ∨ 8192 < q) → d.light.limited.contains k = true → d.updateTrim k m = f e.light.limited e)) := by
  subst hsp hgain
  refine ⟨fun h => if_pos (by simpa using h), fun h0 hr e he => ?_⟩
  have hclamp : (clampInt q 2048 8192).toNat = if q < 2048 then 2048 else if 8192 < q then 8192 else q.toNat := by
    unfold clampInt
    split
    · rfl
    · split <;> rfl
  have hupdate : d.updateTrim k m = if decide (q < 2048 ∨ 8192 < q) && !d.light.limited.contains k
      then (f (if decide (q < 2048 ∨ 8192 < q) then (if decide (q < 2048 ∨ 8192 < q) && !d.light.limited.contains k then k :: e.light.limited
        else e.light.limited) else e.light.limited.filter (fun x => x != k)) e).raise 74
      else f (if decide (q < 2048 ∨ 8192 < q) then (if decide (q < 2048 ∨ 8192 < q) && !d.light.limited.contains k then k :: e.light.limited
        else e.light.limited) else e.light.limited.filter (fun x => x != k)) e := by
    rw [hf, he, ← hclamp, hq]
    exact if_neg (by simp [h0, hr])
  rw [hupdate]
  refine ⟨fun hlo hhi => ?_, fun hout hl => ?_, fun hout hl => ?_⟩
  · have hin : decide (q < 2048 ∨ 8192 < q) = false := by
      rw [decide_eq_false_iff_not]
      omega
    rw [hin]
    rfl
  · rw [decide_eq_true hout, hl]
    rfl
  · rw [decide_eq_true hout, hl]
    rfl

/-- Sixteen far measurements in a row are an event, at most once a second (R329). -/
theorem Dev.deviation_cases {e : Dev} {n : Nat} (hsp : sp = d.g 0x3C06 (k + 1))
    (hn : n = (if d.g 0x3C08 (k + 1) < max (sp - m) (m - sp) then d.light.deviating.get 0 k + 1 else 0))
    (he : e = { d with light := { d.light with deviating := d.light.deviating.set k n } }) :
    ((n < 16 ∨ (n ≠ 16 ∧ ∃ t, d.light.deviatedAt.find? k = some t ∧ d.t < t + 1000000000)) → d.deviation k m = e) ∧
    (16 ≤ n → (n = 16 ∨ ∀ t, d.light.deviatedAt.find? k = some t → t + 1000000000 ≤ d.t) → d.deviation k m =
      (({ e with light := { e.light with deviatedAt := e.light.deviatedAt.set k d.t } } : Dev).raise 75).bump 0x3C2C (k + 1)) := by
  have hdue : d.deviation k m = if decide (16 ≤ n) && (match d.light.deviatedAt.find? k with
      | some t => n == 16 || decide (t + 1000000000 ≤ d.t)
      | none => true) then (({ e with light := { e.light with deviatedAt := e.light.deviatedAt.set k d.t } } : Dev).raise 75).bump 0x3C2C (k + 1) else e := by
    have hn' : n = (if decide (d.g 0x3C08 (k + 1) < max (sp - m) (m - sp)) then d.light.deviating.get 0 k + 1 else 0) := by
      rw [hn]
      simp only [decide_eq_true_eq]
    subst he hn' hsp
    rfl
  rw [hdue]
  refine ⟨fun h => if_neg ?_, fun h16 h => if_pos ?_⟩
  · rcases h with h | ⟨hne, t, ht, hlt⟩
    · simp [Nat.not_le.mpr h]
    · simp [ht, hne, Nat.not_le.mpr hlt]
  · rw [decide_eq_true h16]
    cases ht : d.light.deviatedAt.find? k with
    | none => rfl
    | some t =>
      rcases h with h | h
      · simp [h]
      · simp [h t ht]

end

/-- The UV channels are forced off one by one (R330): what each takes is its own. -/
theorem forcedOff_eq (d e : Dev) (hg : e.dict = d.dict) (hp : e.product = d.product) (hl : ∀ i, e.led i = d.led i) :
    (List.range 48).foldl (fun d i => if bit (d.g 0x3C04 0) i then (d.setLed i { d.led i with level := 0, cycles := 0, until_ := 0 }).put 0x3C28 (i + 1) 0 else d) e =
    (List.range 48).foldl (fun x i => if bit (d.g 0x3C04 0) i then (x.setLed i { d.led i with level := 0, cycles := 0, until_ := 0 }).put 0x3C28 (i + 1) 0 else x) e := by
  refine foldl_eq_of (P := fun l x => l.Nodup ∧ x.g 0x3C04 0 = d.g 0x3C04 0 ∧ ∀ i ∈ l, x.led i = d.led i) (fun i l x ⟨hnd, h04, hleds⟩ => ?_) _ _
    ⟨List.nodup_range, Dev.g_congr hp (by rw [hg]), fun i _ => hl i⟩
  obtain ⟨hi, hnd'⟩ := List.nodup_cons.mp hnd
  rw [h04, hleds i (List.mem_cons_self ..)]
  refine ⟨rfl, hnd', ?_⟩
  split
  · refine ⟨(Dev.g_put_ne _ _ (by simp only [key]; omega)).trans h04, fun j hj => ?_⟩
    have hne : i ≠ j := fun h => hi (h ▸ hj)
    exact (Table.get_set_ne _ _ _ hne).trans (hleds j (List.mem_cons_of_mem _ hj))
  · exact ⟨h04, fun j hj => hleds j (List.mem_cons_of_mem _ hj)⟩

/-- The UV channels fade to their targets (R331). -/
theorem fadesToTargets_eq (d e : Dev) (hg : e.dict = d.dict) (hp : e.product = d.product) :
    (List.range 48).foldl (fun d i => if bit (d.g 0x3C04 0) i then d.startFade i (d.g 0x3C20 (i + 1)) else d) e =
    (List.range 48).foldl (fun x i => if bit (d.g 0x3C04 0) i then x.startFade i (d.g 0x3C20 (i + 1)) else x) e := by
  refine foldl_eq_of (P := fun _ x => x.dict = d.dict ∧ x.product = d.product) (fun i l x ⟨hd, hprod⟩ => ?_) _ _ ⟨hg, hp⟩
  have hread : ∀ a b, x.g a b = d.g a b := fun a b => Dev.g_congr hprod (by rw [hd])
  rw [hread, hread]
  refine ⟨rfl, ?_⟩
  split <;> exact ⟨hd, hprod⟩

/-- Settles O50, by the channels of a period, the loop's bounds and the interlock. -/
theorem lightFollowsLevelsTrimsAndInterlock : Obligations.LightFollowsLevelsTrimsAndInterlock := by
  unfold Obligations.LightFollowsLevelsTrimsAndInterlock
  refine ⟨fun d i duty => d.trimmed_cases i duty, fun s p e hp => ⟨fun hf => ?_, fun hf he => ⟨?_, ?_⟩⟩, fun d p i lv hlv => ?_, fun s sess level i hs => ?_,
    fun s k samples dark m d hdark hm hd => ?_, fun d k m sp gain q f hsp hgain hq hf => Dev.updateTrim_cases hsp hgain hq hf,
    fun d e k m sp n hsp hn he => Dev.deviation_cases hsp hn he, fun s => ?_, fun s sess hs => ?_⟩
  · exact .done (congrArg s.done (if_pos (by rw [show s.begin_.fast = false from hf]; rfl)))
  · subst he hp
    exact .done (congrArg s.done (if_neg (by rw [show s.begin_.fast = true from hf]; decide)))
  · have hlit := litBelow_range s.begin_ p 48 (Nat.le_refl 48)
    rw [← he] at hlit
    obtain ⟨-, hlit, -⟩ := hlit
    have hexec : exec .pwmPeriod s = s.done { e with light := { e.light with period := (p + 1) % 16 } } := by
      subst he hp
      exact congrArg s.done (if_neg (by rw [show s.begin_.fast = true from hf]; decide))
    refine ⟨_, hexec, ⟨rfl, rfl, rfl⟩, rfl, fun i lv hi hlv => ?_⟩
    obtain ⟨hg, hl⟩ := hlit i hi
    have hlv' : lv = litLevel s.begin_ i := hlv
    rw [hlv']
    exact ⟨hg, hl⟩
  · subst hlv
    exact Dev.ledPeriod_eq d p i
  · have hms : (s.begin_.put 0x3C20 (i + 1) (level % 65536)).g 0x3C21 (i + 1) = s.dev.g 0x3C21 (i + 1) := Dev.g_put_ne _ _ (by simp only [key]; omega)
    refine .of_hostWrite hs rfl ?_
    show (((s.begin_.put 0x3C20 (i + 1) (level % 65536)).startFade i (level % 65536), 0) : Dev × Nat) = _
    rw [Dev.startFade, hms]
    rfl
  · have hexec : exec (.lightMeasurement k samples) s = s.done (if samples.isEmpty || !s.dev.fast then s.begin_ else
        if (s.begin_.put 0x3C29 (k + 1) (min ((samples.map (fun x => x - dark)).sum / max samples.length 1) 65535)).steady k then
          ((s.begin_.put 0x3C29 (k + 1) (min ((samples.map (fun x => x - dark)).sum / max samples.length 1) 65535)).updateTrim k
            ((samples.map (fun x => x - dark)).sum / max samples.length 1)).deviation k ((samples.map (fun x => x - dark)).sum / max samples.length 1)
        else s.begin_.put 0x3C29 (k + 1) (min ((samples.map (fun x => x - dark)).sum / max samples.length 1) 65535)) := by
      have hdark' : dark = (s.dev.cal.values.get 0 ((if s.dev.g 0x3C05 (k + 1) == 1 then 4 else 5) * 256 + k)).toNat := by
        rw [hdark]
        simp only [beq_iff_eq]
      subst hdark'
      rfl
    have hlen : samples ≠ [] → (samples.map (fun x => x - dark)).sum / max samples.length 1 = m := fun h => by
      rw [hm, Nat.max_eq_left (List.length_pos_iff.mpr h)]
    have hrun : samples ≠ [] → s.dev.fast = true → ¬(samples.isEmpty || !s.dev.fast) = true := fun h hf => by
      rw [hf]
      simpa using h
    refine ⟨fun h => .done (hexec.trans (congrArg s.done (if_pos (by simpa using h)))), fun h hf hst => ?_, fun h hf hst => ?_⟩
    · rw [if_neg (hrun h hf), hlen h, ← hd, hst] at hexec
      exact .done hexec
    · rw [if_neg (hrun h hf), hlen h, ← hd, if_pos hst] at hexec
      exact .done hexec
  · refine .of_raise (d := (List.range 48).foldl (fun d i => if bit (s.dev.g 0x3C04 0) i then
      (d.setLed i { s.dev.led i with level := 0, cycles := 0, until_ := 0 }).put 0x3C28 (i + 1) 0 else d)
      { s.begin_ with light := { s.dev.light with uvLatched := true, ledLow := s.now } }) (x := 0) ?_ rfl rfl ?_ rfl (by decide)
    · exact congrArg (fun d : Dev => s.done (d.raise 76)) (forcedOff_eq s.dev _ rfl rfl (fun _ => rfl))
    · refine Nat.le_of_eq (Eq.trans ?_ (foldl_keeps (fun d : Dev => d.fl.top) (fun a i => ?_) _ _).symm)
      · rfl
      · split <;> rfl
  · refine ⟨fun h => ?_, fun h => ?_, .of_hostWrite hs rfl rfl, fun value h => .of_hostWrite hs rfl ?_⟩
    · refine .of_hostWrite hs rfl ?_
      refine (if_neg (by decide)).trans ((if_neg (by decide)).trans ((if_pos (decide_eq_true h)).trans ?_))
      exact congrArg (fun d : Dev => (d, 0)) (fadesToTargets_eq s.dev _ rfl rfl)
    · refine .of_hostWrite hs rfl ?_
      refine (if_neg (by decide)).trans ((if_neg (by decide)).trans (if_neg ?_))
      exact fun h' => absurd (of_decide_eq_true h') (Nat.not_le.mpr h)
    · have h0 : value ≠ 0 := by omega
      have h1 : value ≠ 1 := by omega
      simp [Dev.writeUvClear, h0, h1]

end Sys2Proof.Machine
end

section
/-! PROOFS. DRAM pages: reads, writes and poison (R354 to R365, R371, R373). -/
namespace Sys2Proof.Machine

open Sys2Proof

theorem Gives.of_sent {i : Instr} {s r : State} (h : exec i s = r.sent) : Gives i s r :=
  ⟨_, h, rfl, rfl, rfl, Dev.flush_body r.dev, told_flush r r.dev⟩

/-- A request is of urgency 3 from its port's target on (R373). -/
theorem urgency_eq_three (a t : Nat) : (Dev.urgency a t == 3) = decide (t ≤ a) := by
  unfold Dev.urgency
  by_cases h : t ≤ a
  · have h1 : ¬2 * a < t := by omega
    have h2 : ¬4 * a < 3 * t := by omega
    have h3 : ¬a < t := by omega
    simp [h, h1, h2, h3]
  · have h3 : a < t := by omega
    by_cases h1 : 2 * a < t
    · simp [h, h1]
    · by_cases h2 : 4 * a < 3 * t
      · simp [h, h1, h2]
      · simp [h, h1, h2, h3]

/-- A request is overdue from its port's target on (R373). -/
theorem Dev.overdue_cases {d : Dev} {port : Nat} (age : Nat) {t : Nat} (ht : d.portTarget port = some t) :
    (age < t → d.overdue port age = d) ∧
    (t ≤ age → port < 9 → d.overdue port age = (d.bump 0x2810 (port + 1)).raiseLimited 1000000000 89 0 0xFF 0) ∧
    (t ≤ age → 9 ≤ port → d.overdue port age = d.bump 0x2810 (port + 1)) := by
  have hover : d.overdue port age = if decide (t ≤ age) then
      if decide (port < 9) then (d.bump 0x2810 (port + 1)).raiseLimited 1000000000 89 0 0xFF 0 else d.bump 0x2810 (port + 1) else d := by
    simp only [Dev.overdue, ht, Option.any_some, urgency_eq_three]
  rw [hover]
  exact ⟨fun h => if_neg (by simpa using h), fun h hp => by simp [h, hp], fun h hp => by simp [h, Nat.not_lt.mpr hp]⟩

theorem Dev.overdue_scrubber {d : Dev} {port : Nat} (age : Nat) (ht : d.portTarget port = none) : d.overdue port age = d := by
  simp [Dev.overdue, ht]

section
variable {s o : State} {p ch : Nat} {u : PageUser} {scrub first : Bool} {b : Bytes}

/-- The last error, of a page with no symbols named. -/
theorem Dev.lastError_noSymbols (d : Dev) (kind p : Nat) : d.lastError kind 0 p = d.put 0x2808 0x0B (kind * 2 ^ 56 + p) := by
  simp [Dev.lastError]

/-- A page read whose page is clean, poisoned or beyond correction (R356, R357, R361, R371). -/
theorem access_uncorrected (hch : ch = s.dev.channelOf p) (hfirst : first = (scrub && s.dev.mem.cleared.contains p))
    (ho : o = (if first then s.onDev (fun d => { d with mem := { d.mem with cleared := d.mem.cleared.filter (fun x => x != p) } }) else s)) :
    (o.readPage p = (b, .clean) → s.access p u scrub = (o, some b)) ∧
    (o.readPage p = (b, .poison) → ∀ r, r = o.onDev (fun d => (d.bump 0x2808 (7 + ch)).put 0x2808 0x0B (3 * 2 ^ 56 + p)) →
      s.access p u scrub = ((if first then r.remap p else r).onDev (fun d => d.poisonReaction u), none)) ∧
    (o.readPage p = (b, .uncorrectable) → ∀ r, r = (o.onDev (fun d => ((d.bump 0x2808 (5 + ch)).put 0x2808 0x0B (2 * 2 ^ 56 + p)).raise 85 0 0xFF
        (p / 256 % 4294967296))).storePage p b true →
      s.access p u scrub = ((if first then r.remap p else r).onDev (fun d => d.poisonReaction u), none)) := by
  subst hfirst ho hch
  refine ⟨fun h => ?_, fun h r hr => ?_, fun h r hr => ?_⟩
  · simp only [State.access, h]
  · subst hr
    simp only [State.access, h, Dev.lastError_noSymbols]
  · subst hr
    simp only [State.access, h, Dev.lastError_noSymbols]

/-- A page read whose page is corrected (R356, R364, R445): the correction is written back and counted, and a page that wears is remapped. -/
theorem access_corrected {x : Bytes} {n m : Nat} (hch : ch = s.dev.channelOf p) (hfirst : first = (scrub && s.dev.mem.cleared.contains p))
    (ho : o = (if first then s.onDev (fun d => { d with mem := { d.mem with cleared := d.mem.cleared.filter (fun x => x != p) } }) else s))
    (h : o.readPage p = (b, .corrected x n m)) {q r v : State} {again trend : Bool} {lap : List Nat}
    (hq : q = (o.onDev (fun d => d.countCorrected ch p n)).storePage p x false) (hagain : again = (scrub && (q.dev.mem.prevLap.get [] ch).contains p))
    (hlap : lap = (q.dev.mem.thisLap.get [] ch ++ [p]).drop ((q.dev.mem.thisLap.get [] ch).length + 1 - 256))
    (hr : r = (if scrub then q.onDev (fun d => { d with mem := { d.mem with thisLap := d.mem.thisLap.set ch lap } }) else q))
    (htrend : trend = decide ((r.dev.pageDay ch p).2 = (r.dev.pageDay ch p).1.g 0x2E00 4)) (hv : v = { r with dev := (r.dev.pageDay ch p).1 }) :
    s.access p u scrub = (if (decide (v.dev.checkLen / 4 < n) || again || first || trend) && (v.dev.remapOf p).isNone
      then (if trend then v.onDev (fun d => d.bump 0x2E0B (3 + ch)) else v).remap p else v, some x) := by
  have htrend' : trend = ((r.dev.pageDay ch p).2 == (r.dev.pageDay ch p).1.g 0x2E00 4) := by
    rw [htrend]
    exact Bool.eq_iff_iff.mpr (by simp)
  have hlap' : lap = (q.dev.mem.thisLap.get [] ch ++ [p]).drop ((q.dev.mem.thisLap.get [] ch ++ [p]).length - 256) := by
    rw [hlap, List.length_append]
    rfl
  have hr' : r = (if scrub then q.onDev (fun d =>
      { d with mem := { d.mem with thisLap := d.mem.thisLap.set ch ((d.mem.thisLap.get [] ch ++ [p]).drop ((d.mem.thisLap.get [] ch ++ [p]).length - 256)) } })
      else q) := by
    rw [hr, hlap']
    simp only [State.onDev]
  simp only [State.access, ← hch, ← hfirst, ← ho, h, ← hq, ← hagain, ← hr', ← htrend']
  rw [hv]

/-- A whole page is written (R358, R360, R364). -/
theorem writePage_cases {data : Bytes} {r : State} (hr : r = o.storePage p (slice data 0 256) false) :
    (((o.readPage p).2 ≠ .poison ∨ r.dev.mem.cleared.contains p = true) → o.writePage p data = r) ∧
    ((o.readPage p).2 = .poison → r.dev.mem.cleared.contains p = false →
      o.writePage p data = r.onDev (fun d => { d with mem := { d.mem with cleared := d.mem.cleared ++ [p] } })) := by
  subst hr
  refine ⟨fun h => ?_, fun h hc => ?_⟩
  · rcases h with h | h
    · cases hcls : (o.readPage p).2 with
      | poison => exact absurd hcls h
      | _ => simp only [State.writePage, hcls, Bool.false_and]; rfl
    · exact if_neg (by rw [h]; simp)
  · simp only [State.writePage, h, hc]
    rfl

/-- A partial write merges into its page (R359, R360, Table 15.3). -/
theorem mergePage_cases {off : Nat} {new_ : Bytes} (hch : ch = o.dev.channelOf p) :
    (o.readPage p = (b, .clean) → o.mergePage p off new_ = o.storePage p (State.mergeBytes b off new_) false) ∧
    (∀ x n m, o.readPage p = (b, .corrected x n m) →
      o.mergePage p off new_ = (o.onDev (fun d => d.countCorrected ch p n)).storePage p (State.mergeBytes x off new_) false) ∧
    (o.readPage p = (b, .uncorrectable) → o.mergePage p off new_ =
      (o.onDev (fun d => ((d.bump 0x2808 (5 + ch)).put 0x2808 0x0B (2 * 2 ^ 56 + p)).raise 85 0 0xFF (p / 256 % 4294967296))).storePage p
        (State.mergeBytes b off new_) true) ∧
    (o.readPage p = (b, .poison) → o.mergePage p off new_ = o.storePage p (State.mergeBytes b off new_) true) := by
  subst hch
  exact ⟨fun h => by simp only [State.mergePage, h], fun x n m h => by simp only [State.mergePage, h],
    fun h => by simp only [State.mergePage, h, Dev.lastError_noSymbols], fun h => by simp only [State.mergePage, h]⟩

end

/-- A byte written leaves every other byte of DRAM. -/
theorem ramRead_ramWrite_ne (m : List Host.Cell) {a c : Nat} (b : Byte) (h : a ≠ c) : ramRead (ramWrite m a b) c = ramRead m c := by
  unfold ramRead ramWrite
  split
  · exact Table.get_erase_ne _ _ h
  · exact Table.get_set_ne _ _ _ h

/-- Bytes written leave every byte of DRAM outside of them. -/
theorem ramRead_ramPut_outside (bs : Bytes) : ∀ (m : List Host.Cell) (a c : Nat), (c < a ∨ a + bs.length ≤ c) → ramRead (ramPut m a bs) c = ramRead m c := by
  induction bs with
  | nil => intro m a c _; rfl
  | cons b bs ih =>
    intro m a c h
    rw [List.length_cons] at h
    exact (ih (ramWrite m a b) (a + 1) c (by omega)).trans (ramRead_ramWrite_ne m b (by omega))

/-- A page as it is held, in DRAM or in its remap entry (R354, R356, R365). -/
theorem page_held (s : State) (p : Nat) (data : Bytes) (poison : Bool) :
    (s.dev.remapOf p = none → s.readPage p = ((s.rawPage p).1, classify s.dev.checkLen (s.rawPage p).1 (s.rawPage p).2) ∧
      s.storePage p data poison = s.putRaw p data
        (if poison then (pageCheck s.dev.checkLen data).map (fun y => ~~~y) else pageCheck s.dev.checkLen data)) ∧
    (∀ e, s.dev.remapOf p = some e → s.readPage p = ((s.dev.mem.spare.get ([], false) e).1,
        if (s.dev.mem.spare.get ([], false) e).2 then .poison else .clean) ∧
      (s.storePage p data poison).dram = s.dram ∧ (s.storePage p data poison).dev =
        ({ s.dev with mem := { s.dev.mem with spare := s.dev.mem.spare.set e (data, poison) } } : Dev).put 0x280C e
          (setBit (s.dev.g 0x280C e) 62 poison)) := by
  refine ⟨fun h => ⟨by simp only [State.readPage, h], by simp only [State.storePage, h]⟩,
    fun e h => ⟨by simp only [State.readPage, h], by simp only [State.storePage, h], ?_⟩⟩
  simp only [State.storePage, h]
  rfl

/-- A page put in DRAM leaves every other byte of it (R354). -/
theorem ramRead_putRaw_outside (s : State) (p a k : Nat) {data check : Bytes} (hd : data.length ≤ 256) (hc : check.length ≤ s.dev.checkLen)
    (hk : k = p / s.dev.blockSize * s.dev.blockSize + 256 * s.dev.blockPages + s.dev.checkLen * ((p - p / s.dev.blockSize * s.dev.blockSize) / 256))
    (ha : a < p ∨ p + 256 ≤ a) (hak : a < k ∨ k + s.dev.checkLen ≤ a) : ramRead (s.putRaw p data check).dram a = ramRead s.dram a := by
  subst hk
  exact (ramRead_ramPut_outside check _ _ a (hak.imp id (by omega))).trans (ramRead_ramPut_outside data s.dram p a (ha.imp id (by omega)))

/-- Settles O51, by the class of the page; the model's stop beyond the usable capacity is its own choice (log 10). -/
theorem dramPagesAreReadWrittenAndPoisoned : Obligations.DramPagesAreReadWrittenAndPoisoned := by
  unfold Obligations.DramPagesAreReadWrittenAndPoisoned
  refine ⟨fun s addr h i hi => ?_, fun s o addr p ch port u h ho hp hch => ?_, fun d port age t ht => Dev.overdue_cases age ht,
    fun d port age ht => Dev.overdue_scrubber age ht, fun s o p ch u scrub first b hch hfirst ho => ?_, fun s o addr p data h ho hp r hr => ?_,
    fun s o addr off p ch data b new_ h ho hp hch hnew => ?_, page_held, fun s p a k data check hd hc hk ha hak => ramRead_putRaw_outside s p a k hd hc hk ha hak⟩
  · rcases hi with ⟨port, u, rfl⟩ | ⟨b, rfl⟩ | ⟨o, b, rfl⟩
    · exact if_pos (decide_eq_true h)
    · exact if_pos (decide_eq_true h)
    · exact if_pos (decide_eq_true h)
  · have hexec : exec (.pageRead port addr u) s = ((o.access p u.user false).1.onDev
        (fun d => if decide (port ≤ 16) then d.emit (.pageData addr (o.access p u.user false).2) else d)).sent := by
      subst hp ho
      exact if_neg (fun h' => absurd (of_decide_eq_true h') (Nat.not_le.mpr h))
    refine ⟨fun hp => .of_sent (hexec.trans ?_), fun hp => .of_sent (hexec.trans ?_)⟩
    · simp only [decide_eq_true hp, if_true]
    · have hp' : ¬port ≤ 16 := by omega
      simp only [hp', decide_false, Bool.false_eq_true, if_false]
      rfl
  · obtain ⟨hclean, hpoison, hunc⟩ := access_uncorrected (u := u) (b := b) hch hfirst ho
    refine ⟨hclean, hpoison, hunc, fun x n m hx q r again trend lap hq hagain hlap hr htrend v hv => ?_⟩
    rw [access_corrected hch hfirst ho hx hq hagain hlap hr htrend hv]
    refine ⟨fun hdue hno => by rw [if_pos]; simpa [hno, or_assoc] using hdue, fun hnot => ?_⟩
    rw [if_neg]
    rcases hnot with ⟨hn, ha, hf, ht⟩ | hsome
    · simp [ha, hf, ht, hn]
    · simp [hsome]
  · have hexec : exec (.pageWrite addr data) s = (o.writePage p data).sent := by
      subst hp ho
      exact if_neg (fun h' => absurd (of_decide_eq_true h') (Nat.not_le.mpr h))
    obtain ⟨hkept, hcleared⟩ := writePage_cases hr
    exact ⟨fun h => .of_sent (hexec.trans (by rw [hkept h])), fun h h' => .of_sent (hexec.trans (by rw [hcleared h h']))⟩
  · have hexec : exec (.partialWrite addr off data) s = (o.mergePage p (off % 256) new_).sent := by
      subst hp ho hnew
      exact if_neg (fun h' => absurd (of_decide_eq_true h') (Nat.not_le.mpr h))
    have hch' : ch = o.dev.channelOf p := by
      subst hch ho
      rfl
    obtain ⟨hclean, hcorr, hunc, hpoison⟩ := mergePage_cases (b := b) (off := off % 256) (new_ := new_) hch'
    exact ⟨fun h => .of_sent (hexec.trans (by rw [hclean h])), fun x n m h => .of_sent (hexec.trans (by rw [hcorr x n m h])),
      fun h => .of_sent (hexec.trans (by rw [hunc h])), fun h => .of_sent (hexec.trans (by rw [hpoison h]))⟩

end Sys2Proof.Machine
end

section
/-! PROOFS. DRAM: remap, scrubbing and latency targets (R351, R364 to R372). -/
namespace Sys2Proof.Machine

open Sys2Proof

/-- What serving a host request looks at: the sessions but for their event records, the running operation and the state. -/
def serviceFace (d : Dev) : Table Sess × Option Op × Sys := (d.com.sess.mapVal (fun _ x => x.still), d.com.op, d.sys)

theorem serviceFace_raiseAt (d : Dev) (l : Nat) {e : Nat} (he : e < 255) (m u x : Nat) : serviceFace (d.raiseAt l e m u x) = serviceFace d :=
  congrArg (fun b : Dev => ((b.com.sess, b.com.op, b.sys) : Table Sess × Option Op × Sys)) (Dev.raiseAt_bare d l e m u x he)

theorem serviceFace_consume (d : Dev) (pool : Nat) : serviceFace (d.consume pool) = serviceFace d := by
  simp only [Dev.consume]
  split
  · exact serviceFace_raiseAt _ _ (by decide) _ _ _
  · split
    · exact serviceFace_raiseAt _ _ (by decide) _ _ _
    · rfl

theorem serviceFace_stageNv (d : Dev) (r : NvRec) : serviceFace (d.stageNv r) = serviceFace d := by
  simp only [Dev.stageNv]
  split
  · rfl
  · have hface : ∀ b : Bool, serviceFace (if b then d.bump 0x260C 2 else d) = serviceFace d := fun b => by cases b <;> rfl
    split
    · exact (serviceFace_raiseAt _ _ (by decide) _ _ _).trans (hface _)
    · exact hface _

theorem serviceFace_saveNv (d : Dev) (r : NvRec) : serviceFace (d.saveNv r) = serviceFace d := by
  simp only [Dev.saveNv]
  split
  · rfl
  · exact serviceFace_stageNv d r

/-- An open session is found as it was but for its event records. -/
theorem session?_of_serviceFace {d e : Dev} (h : serviceFace e = serviceFace d) {id : Nat} {x : Sess} (hx : d.session? id = some x) :
    ∃ y, e.session? id = some y ∧ y.port = x.port ∧ y.via = x.via := by
  have hsess : e.com.sess.mapVal (fun _ x => x.still) = d.com.sess.mapVal (fun _ x => x.still) := congrArg Prod.fst h
  have hslot : e.slotOf id = d.slotOf id := by
    have hkeys : ∀ c : Dev, c.com.sess.keysWhere (fun _ s => s.id == id) = (c.com.sess.mapVal (fun _ x => x.still)).keysWhere (fun _ s => s.id == id) :=
      fun c => (Table.keysWhere_mapVal (fun _ x => x.still) (fun _ s => s.id == id) c.com.sess).symm
    simp only [Dev.slotOf, hkeys, hsess]
  cases hk : d.slotOf id with
  | none => simp [Dev.session?, hk] at hx
  | some k =>
    have hfind : (e.com.sess.find? k).map Sess.still = (d.com.sess.find? k).map Sess.still := by
      have hmap := congrArg (fun t => Table.find? t k) hsess
      simpa using hmap
    have hxk : d.com.sess.find? k = some x := by simpa [Dev.session?, hk] using hx
    rw [hxk] at hfind
    cases hy : e.com.sess.find? k with
    | none => rw [hy] at hfind; exact absurd hfind (by simp)
    | some y =>
      rw [hy] at hfind
      have hstill : y.still = x.still := Option.some.inj hfind
      have hport : y.still.port = x.still.port := by rw [hstill]
      have hvia : y.still.via = x.still.via := by rw [hstill]
      exact ⟨y, by simp [Dev.session?, hslot, hk, hy], hport, hvia⟩

/-- A write that was served is served where the service is the same, and answered with its code. -/
theorem request_of_serviceFace {s : State} {e : Dev} {sess idx code : Nat} (hs : s.Serves sess idx) (hverified : s.dev.sys.verified = true)
    (h : serviceFace e = serviceFace s.dev) : e.request sess idx (fun d => (d, code)) = e.emit (.answer sess code) := by
  obtain ⟨x, hx, hp, hv, ho, hg, hserved⟩ := hs
  obtain ⟨y, hy, hyp, hyv⟩ := session?_of_serviceFace h hx
  have hop : e.com.op = s.dev.com.op := congrArg (fun f => f.2.1) h
  have hsys : e.sys = s.dev.sys := congrArg (fun f => f.2.2) h
  have hgate : e.gated idx = false := by
    rw [← hg]
    simp only [Dev.gated, hsys]
  simp [Dev.request, hy, hyp, hp, Dev.serves, Dev.served, hsys, hverified, hop, ho, hgate]

section
variable {s : State} {p : Nat}

/-- A page already remapped stays (R366). -/
theorem remap_remapped (h : (s.dev.remapOf p).isSome = true) : s.remap p = s := if_pos h

/-- A page is copied into the lowest free entry of its channel (R364 to R366). -/
theorem remap_free {i ch e : Nat} {b data : Bytes} {cls : PageClass} {bad : Bool} {mid : Dev} {v : Nat} (hno : s.dev.remapOf p = none) (hread : s.readPage p = (b, cls))
    (hch : ch = s.dev.channelOf p) (he : e = 32 * ch + i + 1)
    (hi : (List.range 32).find? (fun j => !bit (s.dev.g 0x280C (32 * ch + j + 1)) 63) = some i)
    (hdata : (cls = .clean ∧ data = b ∧ bad = false) ∨ (∃ n m, cls = .corrected data n m ∧ bad = false) ∨
        ((cls = .poison ∨ cls = .uncorrectable) ∧ data = b ∧ bad = true))
    (hmid : mid = { s.dev with mem := { s.dev.mem with
        spare := s.dev.mem.spare.set e (data, bad), cleared := s.dev.mem.cleared.filter (fun x => x != p) } })
    (hv : v = 2 ^ 63 + (if bad then 2 ^ 62 else 0) + p) :
    s.remap p = { s with dev := ((((mid.put 0x280C e v).minorL2 86).consume (10 + ch)).substitute (10 + ch)).saveNv { kind := 1, obj := e, val := v } } := by
  subst hch
  have hremap : s.remap p = _ := if_neg (by simp [hno])
  rw [hremap]
  simp only [hi, hread]
  subst hv hmid he
  rcases hdata with ⟨rfl, rfl, rfl⟩ | ⟨n, m, rfl, rfl⟩ | ⟨rfl | rfl, rfl, rfl⟩
  · rfl
  · rfl
  · rfl
  · rfl

/-- A remap neither opens nor closes sessions, nor moves the device's state. -/
theorem serviceFace_remap {i ch e : Nat} {mid : Dev} {v : Nat} (hmid : serviceFace mid = serviceFace s.dev) :
    serviceFace (((((mid.put 0x280C e v).minorL2 86).consume (10 + ch)).substitute (10 + ch)).saveNv { kind := 1, obj := i, val := v }) = serviceFace s.dev := by
  refine (serviceFace_saveNv _ _).trans ((serviceFace_raiseAt _ _ (by decide) _ _ _).trans ((serviceFace_consume _ _).trans ?_))
  exact (serviceFace_raiseAt { mid.put 0x280C e v with fl := { (mid.put 0x280C e v).fl with lastL2 := some mid.t } } 2 (by decide) _ _ _).trans hmid

end

/-- What a table holds after entries are set for a list of keys. -/
theorem Table.find?_foldl_set {α : Type} (f : Nat → α) (l : List Nat) (k : Nat) : ∀ t : Table α,
    (l.foldl (fun t e => t.set e (f e)) t).find? k = if k ∈ l then some (f k) else t.find? k := by
  induction l with
  | nil => intro t; simp
  | cons a l ih =>
    intro t
    rw [List.foldl_cons, ih]
    by_cases hl : k ∈ l
    · simp [hl]
    · by_cases hk : k = a
      · subst hk
        simp [hl]
      · have hne : a ≠ k := fun h => hk h.symm
        simp [hl, hk, Table.find?_set_ne _ _ hne]

/-- The target of an engine port (R372). -/
theorem Dev.engineTarget_eq (d : Dev) (e : Nat) : d.engineTarget e = match d.barOf e with
      | none => 250000
      | some n => if d.lineRate = 0 then 250000
        else min 250000 (max 200 (1000000000 * (if (d.bar n).alternate then 2 else 1) * d.g 0x2802 2 / (256 * d.lineRate))) := by
  cases h : d.barOf e with
  | none => simp only [Dev.engineTarget, h]
  | some n => simp only [Dev.engineTarget, h, beq_iff_eq]

/-- The lap of the scrubber (R367 to R369). -/
theorem lapEnd_cases {s : State} {total : Nat} (ht : total = s.dev.fitted / s.dev.blockSize / 4) :
    ((∃ k, k < 4 ∧ s.dev.mem.next.get 0 k < total) → s.lapEnd = s) ∧
    ((∀ k, k < 4 → total ≤ s.dev.mem.next.get 0 k) → s.lapEnd = { s with dev :=
      { (s.dev.bump 0x280A 1).put 0x280A 2 ((s.dev.t - s.dev.mem.lapStart) / 1000000000) with mem := { s.dev.mem with
        next := [], lapStart := s.dev.t, starved := false, prevLap := s.dev.mem.thisLap, thisLap := [] } } }) := by
  subst ht
  refine ⟨fun ⟨k, hk, hlt⟩ => if_neg ?_, fun h => if_pos ?_⟩
  · rw [List.all_eq_true]
    intro hall
    exact absurd (of_decide_eq_true (hall k (List.mem_range.mpr hk))) (Nat.not_le.mpr hlt)
  · rw [List.all_eq_true]
    exact fun k hk => decide_eq_true (h k (List.mem_range.mp hk))

/-- REMAP_COMMAND of a served session (R364, R366). -/
theorem exec_remapCommand {s : State} {sess p : Nat} (hs : s.Serves sess 0x280E) (hv : s.dev.sys.verified = true) :
    exec (.remapCommand sess p) s = ((if s.dev.remapCheck p = 0 then ({ s with dev := s.begin_ } : State).remap p else { s with dev := s.begin_ }).onDev
      (fun d => d.request sess 0x280E (fun d => (d, s.dev.remapCheck p)))).sent := by
  obtain ⟨x, hx, hp, -, ho, hg, -⟩ := hs
  have hx' : s.begin_.session? sess = some x := hx
  have hact : (x.port == 0 && s.begin_.sys.verified && s.begin_.com.op.isNone && !s.begin_.gated 0x280E && s.begin_.remapCheck p == 0) =
      decide (s.dev.remapCheck p = 0) := by
    rw [hp, show s.begin_.sys.verified = true from hv, show s.begin_.com.op = none from ho, show s.begin_.gated 0x280E = false from hg]
    rfl
  show execRemapCommand sess p s = _
  simp only [execRemapCommand, hx', hact, decide_eq_true_eq]
  rfl

/-- A command that leaves the clock, DRAM and the queue alone, and sends its answer. -/
theorem Answers.of_sent {i : Instr} {s r : State} {sess code : Nat} {d : Dev} (h : exec i s = r.sent) (hr : r = { s with dev := d.emit (.answer sess code) }) :
    Answers i s sess code d := by
  subst hr
  exact .done h

/-- Settles O52, by the checks of a remap, the blocks of a lap and the targets of the engine ports. -/
theorem dramIsRemappedScrubbedAndLeaks : Obligations.DramIsRemappedScrubbedAndLeaks := by
  unfold Obligations.DramIsRemappedScrubbedAndLeaks
  refine ⟨fun s sess p mid hs hv => ⟨fun hc => ?_, fun hc hr => ?_, fun i ch e b cls data bad hc hno hread hch he hi hdata hmid v hval => ?_⟩,
    fun s sub u i total hi ht => ⟨fun h => ?_, fun hf hlt o ho => ?_⟩, fun s total ht => lapEnd_cases ht, fun s => ⟨fun hst hl => ?_, fun h => ?_⟩,
    fun s ch => .done rfl, fun s sub => .done rfl, fun s => ⟨_, rfl, ⟨rfl, rfl, rfl⟩, ?_, fun e he => ?_⟩⟩
  · refine .of_sent (exec_remapCommand hs hv) ?_
    rw [if_neg hc]
    exact congrArg (fun d : Dev => ({ s with dev := d } : State)) (request_of_serviceFace (e := s.begin_) hs hv rfl)
  · have hr' : ({ s with dev := s.begin_ } : State).remap p = { s with dev := s.begin_ } := remap_remapped (s := { s with dev := s.begin_ }) hr
    refine .of_sent (exec_remapCommand hs hv) ?_
    rw [if_pos hc, hr', hc]
    exact congrArg (fun d : Dev => ({ s with dev := d } : State)) (request_of_serviceFace (e := s.begin_) hs hv rfl)
  · have hr : ({ s with dev := s.begin_ } : State).remap p = _ := remap_free (s := { s with dev := s.begin_ }) hno hread hch he hi hdata hmid hval
    refine .of_sent (exec_remapCommand hs hv) ?_
    rw [if_pos hc, hr, hc]
    refine congrArg (fun d : Dev => ({ s with dev := d } : State)) (request_of_serviceFace hs hv (serviceFace_remap ?_))
    rw [hmid]
    rfl
  · refine .done (d := s.begin_) ?_
    subst hi ht
    refine if_pos ?_
    show (decide (s.dev.fitted / s.dev.blockSize / 4 ≤ s.dev.mem.next.get 0 sub) || !s.dev.fast) = true
    rcases h with h | h <;> simp [h]
  · refine .of_sent ?_
    subst hi ht ho
    refine if_neg ?_
    show ¬(decide (s.dev.fitted / s.dev.blockSize / 4 ≤ s.dev.mem.next.get 0 sub) || !s.dev.fast) = true
    simp [hf, Nat.not_le.mpr hlt]
  · refine .of_raise (d := ({ s.begin_ with mem := { s.dev.mem with starved := true } } : Dev).bump 0x280A 4) (x := 0) (congrArg s.done (if_neg ?_)) rfl rfl
      (Nat.le_refl _) rfl (by decide)
    show ¬(s.dev.mem.starved || s.dev.g 0x2804 2 == 0) = true
    simp [hst, hl]
  · refine .done (congrArg s.done (if_pos ?_))
    show (s.dev.mem.starved || s.dev.g 0x2804 2 == 0) = true
    rcases h with h | h <;> simp [h]
  · exact congrArg (fun b : Dev => ({ b with mem := { b.mem with targets := s.dev.mem.targets } } : Dev)) (Dev.flush_body
      { s.begin_ with mem := { s.dev.mem with targets := (List.range 9).foldl (fun t e => t.set e (s.begin_.engineTarget e)) s.dev.mem.targets } })
  · refine (Table.find?_foldl_set s.begin_.engineTarget (List.range 9) e s.dev.mem.targets).trans ?_
    rw [if_pos (List.mem_range.mpr he), Dev.engineTarget_eq]
    rfl

end Sys2Proof.Machine
end

section
/-! PROOFS. The pair forms and follows: the partner's messages in sequence, formation, decisions, checksums and the position (R378 to R390). -/
namespace Sys2Proof.Machine

open Sys2Proof

namespace Dev

/-- The checks of an IDENT in the order of Table 16.4. -/
theorem identMismatch_eq (d : Dev) (i : Ident) : d.identMismatch i =
    if i.product ≠ 0x2208 ∨ d.product ≠ 0x2208 then some 1
    else if i.revision ≠ d.g 0x1018 3 then some 2
    else if i.firmware ≠ d.g 0x100A 0 then some 3
    else if i.mode ≠ d.g 0x2C00 1 then some 5
    else if i.position = d.g 0x2C00 2 then some 6 else none := by
  simp only [identMismatch, Bool.or_eq_true, bne_iff_ne, beq_iff_eq]

theorem gotIdent_alone {d : Dev} (i : Ident) (h : d.g 0x2C00 1 = 0 ∨ d.twin.linked = false) : d.gotIdent i = d := by
  refine if_pos ?_
  rcases h with h | h <;> simp [h]

/-- A configured pair with its link up looks at what the IDENT says (R378, R384). -/
theorem gotIdent_linked {d : Dev} (i : Ident) (h : d.g 0x2C00 1 ≠ 0) (hl : d.twin.linked = true) :
    (∀ k, d.identMismatch i = some k → d.gotIdent i = d.raise 92 0 0xFF k) ∧
    (d.identMismatch i = none → d.gotIdent i =
      if d.paired = true ∧ d.g 0x2C08 4 = i.serial then
        if d.role = 1 ∧ d.synced = false then ({ d with twin := { d.twin with partner := some i } } : Dev).sendState
        else { d with twin := { d.twin with partner := some i } }
      else if d.role = 3 then d
      else if d.phase = .printing ∧ i.state = 6 then d
      else if d.phase = .printing ∨ (i.state ≠ 6 ∧ d.g 0x2C00 2 = 0) then d.formActive i else d.formStandby i) := by
  have hc : ¬(d.g 0x2C00 1 == 0 || !d.twin.linked) = true := by simp [h, hl]
  refine ⟨fun k hk => ?_, fun hk => ?_⟩ <;> simp only [gotIdent, if_neg hc, hk]
  simp only [Bool.and_eq_true, Bool.or_eq_true, beq_iff_eq, Bool.not_eq_true', beq_eq_false_iff_ne, ne_eq]
  rfl

theorem formStandby_cases {d e : Dev} {i : Ident} (he : e = ({ d with twin := { d.twin with partner := some i, aligned := false, adopt := none, sums := [], digests := [], marks := [], dc := none, lastHandover := d.t } } : Dev).put 0x2C08 4 i.serial) :
    (d.com.op ≠ none → d.formStandby i = ({ e with twin := { e.twin with retryForm := true } } : Dev).put 0x2C08 1 4) ∧
    (d.com.op = none → d.formStandby i = ((((e.put 0x2C08 1 3).put 0x2C08 2 0).beginOp 6 0 0).sendSums).camsRelease) := by
  have h : d.formStandby i = if d.com.op.isSome then ({ e with twin := { e.twin with retryForm := true } } : Dev).put 0x2C08 1 4
      else ((((e.put 0x2C08 1 3).put 0x2C08 2 0).beginOp 6 0 0).sendSums).camsRelease := by
    subst he
    rfl
  exact ⟨fun ho => h.trans (if_pos (Option.isSome_iff_ne_none.mpr ho)), fun ho => h.trans (if_neg (by simp [ho]))⟩

theorem formDone_cases {d : Dev} {a : Adopt} (ha : d.twin.adopt = some a) :
    ((d.role ≠ 3 ∨ (adoptPrinting a = true ∧ d.twin.aligned = false)) → d.formDone = d) ∧
    (d.role = 3 → (adoptPrinting a = false ∨ d.twin.aligned = true) →
      d.formDone = ((((d.put 0x2C08 1 2).adoptState a).syncDone a).endOp 0).lanesResume) := by
  have h : d.formDone = if d.role ≠ 3 ∨ (adoptPrinting a = true ∧ d.twin.aligned = false) then d
      else ((((d.put 0x2C08 1 2).adoptState a).syncDone a).endOp 0).lanesResume := by
    simp only [formDone, ha, Bool.or_eq_true, Bool.and_eq_true, bne_iff_ne, Bool.not_eq_true']
  refine ⟨fun hc => h.trans (if_pos hc), fun hr hp => h.trans (if_neg ?_)⟩
  rintro (h3 | ⟨hpr, hal⟩)
  · exact h3 hr
  · rcases hp with hp | hp <;> simp_all

theorem syncDone_eq {d e : Dev} {a : Adopt} (he : e = { d.put 0x2C08 2 15 with twin := { d.twin with
      resync := false, posBad := false, clearSince := none, adopt := none, retryForm := false } }) :
    d.syncDone a = if adoptPrinting a = true ∧ e.sys.st = .armed then e.enter .printing else e := by
  subst he
  simp only [syncDone, Bool.and_eq_true, decide_eq_true_eq]

/-- A checksum that differs in a state where both devices hold one is reported, and costs TABLES at a standby with the context in force. -/
theorem compareSums_eq {d e : Dev} {c st crc : Nat} (hs : d.twin.sums.find? c = some (st, crc)) (he : e = (d.raise 92 0 0xFF c).bump 0x2C08 0x0F) :
    d.compareSums c = if (4 ≤ st ∧ st ≤ 6 ∧ 4 ≤ (d.ctx c).code ∧ (d.ctx c).code ≤ 6) ∧ crc ≠ (d.ctx c).checksum then
      if (d.ctx c).code ≠ 4 ∧ e.role = 2 then e.loseFlag 0 else e else d := by
  subst he
  simp only [compareSums, hs, Bool.and_eq_true, decide_eq_true_eq, bne_iff_ne, beq_iff_eq]

theorem withdraw_gen {d e : Dev} {m : DecisionMsg} (he : e = d.bump 0x2C08 0x0C) (h6 : m.kind = 6) :
    (∀ g, e.keeper.gen = some g → g.num = m.value → g.acked = false → d.withdraw m = e.withdrawGen.raise 69) ∧
    ((∀ g, e.keeper.gen = some g → g.num ≠ m.value ∨ g.acked = true) → d.withdraw m = e) := by
  subst he
  refine ⟨fun g hg hn ha => ?_, fun h => ?_⟩
  · simp only [withdraw, h6, hg, hn, ha, beq_self_eq_true, Bool.not_false, Bool.and_self, if_true]
  · cases hg : (d.bump 0x2C08 0x0C).keeper.gen with
    | none => simp only [withdraw, h6, hg]
    | some g =>
      have hn : (g.num == m.value && !g.acked) = false := by
        rcases h g hg with h | h <;> simp [h]
      simp only [withdraw, h6, hg, hn]
      rfl

theorem withdraw_other {d : Dev} {m : DecisionMsg} (h6 : m.kind ≠ 6) (h12 : m.kind ≠ 12) : d.withdraw m = d.bump 0x2C08 0x0C := by
  unfold withdraw
  split
  · contradiction
  · contradiction
  · rfl

/-- The position is lost by a count that moved or an error beyond half a line, else the error is slewed or let be (R386). -/
theorem trackPosition_cases {d e : Dev} {k : IndexMark} {out : Nat} {dc err : Int} (herr : err = (out : Int) * 281474976710656 - k.out)
    (he : e = { (d.put 0x2C08 0x0D (ofSigned 64 dc)).put 0x2C08 0x0E (ofSigned 32 (Int.fdiv err 281474976710656)) with
      twin := { d.twin with dc := some dc } }) :
    ((∃ x, d.twin.dc = some x ∧ 2 < (dc - x).natAbs) ∨ 9223372036854775808 < err.natAbs → ∀ f, f = (e.raise 94).loseFlag 2 →
      d.trackPosition k out dc = { f with twin := { f.twin with posBad := true } }) ∧
    ((∀ x, d.twin.dc = some x → (dc - x).natAbs ≤ 2) → err.natAbs ≤ 9223372036854775808 → ∀ f : Dev,
      f = (if d.twin.posBad then { e with twin := { e.twin with posBad := false, clearSince := some d.t } } else e) →
      (err.natAbs ≤ 1152921504606846976 → d.trackPosition k out dc = f) ∧
      (1152921504606846976 < err.natAbs → d.trackPosition k out dc =
        { f with twin := { f.twin with slew := Int.fdiv err 4096, slewLeft := 4096 } })) := by
  have h : ∀ f g : Dev, f = (e.raise 94).loseFlag 2 →
      g = (if d.twin.posBad then { e with twin := { e.twin with posBad := false, clearSince := some d.t } } else e) →
      d.trackPosition k out dc =
        if (match d.twin.dc with | some x => decide (2 < (dc - x).natAbs) | none => false) || decide (9223372036854775808 < err.natAbs) then
          { f with twin := { f.twin with posBad := true } }
        else if decide (1152921504606846976 < err.natAbs) then { g with twin := { g.twin with slew := Int.fdiv err 4096, slewLeft := 4096 } } else g := by
    intro f g hf hg
    rw [hf, hg, he, herr]
    rfl
  refine ⟨fun hc f hf => (h f _ hf rfl).trans (if_pos ?_), fun hx hb f hf => ?_⟩
  · rcases hc with ⟨x, hx, h2⟩ | h2
    · simp [hx, h2]
    · simp [h2]
  · have hno : ¬((match d.twin.dc with | some x => decide (2 < (dc - x).natAbs) | none => false) || decide (9223372036854775808 < err.natAbs)) = true := by
      cases hd : d.twin.dc with
      | none => simpa using hb
      | some x => simpa using ⟨hx x hd, hb⟩
    have hf' := (h _ f rfl hf).trans (if_neg hno)
    exact ⟨fun hs => hf'.trans (if_neg (by simpa using hs)), fun hs => hf'.trans (if_pos (decide_eq_true hs))⟩

/-- One entry of LANE_SYNC (R232). -/
theorem syncLane_cases {d f : Dev} {x : LaneSyncEntry} {k : Nat} {l : Lane} (hk : k = d.laneOf (x.lane / 8) (x.lane % 8)) (hl : l = d.lane k)
    (hf : f = d.setLane k { l with marker := (x.marker + 4294967295) % 4294967296, markDue := x.departure }) :
    d.syncLane x = if d.lanePresent k = false ∨ 72 < k ∨ d.nbars ≤ x.lane / 8 then d
      else if x.rate ≠ 0 ∧ x.rate < (f.lane k).upRate ∧ f.laneState k = 4 ∧ (f.lane k).carries = false then
        ((f.stepDown k).onLane k (fun l => { l with ceilingRate := x.rate + 1 })).stepUp k
      else f.onLane k (fun l => if x.rate == 0 then l else { l with ceilingRate := min l.ceilingRate (x.rate + 1) }) := by
  subst hk hl hf
  simp only [syncLane, Bool.or_eq_true, Bool.and_eq_true, Bool.not_eq_true', decide_eq_true_eq, bne_iff_ne, beq_iff_eq, or_assoc, and_assoc]
  rfl

/-- A pledge's COMMIT and REFUSE, where the pledge is still held (R389). -/
theorem gotCommit_cases {d e : Dev} {seq : Nat} (he : d.gotNext = e) :
    (e.twin.pledges.find? (fun p => p.seq == seq) = none → d.gotCommit seq = e ∧ d.gotRefuse seq = e) ∧
    (∀ p f, e.twin.pledges.find? (fun p => p.seq == seq) = some p →
      f = { e with twin := { e.twin with pledges := e.twin.pledges.filter (fun x => x.seq != seq) } } →
      d.gotCommit seq = (if f.role ≠ 2 then f else if f.ahead p.msg = true then f.followDecision p.msg else (f.bump 0x2C08 0x0C).loseFlag 3) ∧
      d.gotRefuse seq = if f.role = 1 then f.withdraw p.msg else f) := by
  refine ⟨fun h => ?_, fun p f h hf => ?_⟩
  · simp only [gotCommit, gotRefuse, he, h, and_self]
  · subst hf
    simp only [gotCommit, gotRefuse, he, h, bne_iff_ne, beq_iff_eq, and_self]

/-- A decision is taken by a standby that can apply it, with the counters it carries (R381, R389). -/
theorem gotDecision_cases {d e : Dev} {seq : Nat} {m : DecisionMsg} (he : d.gotMsg seq = e) :
    (e.role ≠ 2 → d.gotDecision seq m = e) ∧
    (∀ c, e.role = 2 → e.cannot m = some c → d.gotDecision seq m = e.twinSend 5 (leBytes 4 seq ++ [byte c])) ∧
    (∀ f, e.role = 2 → e.cannot m = none → f = e.adoptCounts m →
      d.gotDecision seq m = { f with twin := { f.twin with pledges := f.twin.pledges ++ [{ seq := seq, msg := m }] } }) := by
  refine ⟨fun h => ?_, fun c h hc => ?_, fun f h hc hf => ?_⟩
  · simp only [gotDecision, he, bne_iff_ne, ne_eq, if_pos h]
  · simp only [gotDecision, he, h, hc, bne_self_eq_false, Bool.false_eq_true, if_false]
  · subst hf
    simp only [gotDecision, he, h, hc, bne_self_eq_false, Bool.false_eq_true, if_false]

/-- POSITION is paired with the own index edge (R386). -/
theorem gotPosition_cases {d e : Dev} (time count out : Nat) (he : d.gotNext = e) :
    (((e.role ≠ 2 ∧ e.role ≠ 3) ∨ e.twin.marks.find? (fun k => decide (max k.time time - min k.time time ≤ 100000)) = none) →
      d.gotPosition time count out = e) ∧
    (∀ (k : IndexMark) (dc : Int), e.twin.marks.find? (fun k => decide (max k.time time - min k.time time ≤ 100000)) = some k →
      dc = k.count - toSigned 64 count → (e.role = 2 ∨ e.role = 3) → ∀ f, f = (e.align k out).put 0x2C08 0x0D (ofSigned 64 dc) →
      d.gotPosition time count out = if e.role = 3 ∧ e.twin.aligned = false then ({ f with twin := { f.twin with dc := some dc } } : Dev).formDone
        else e.trackPosition k out dc) := by
  refine ⟨fun h => ?_, fun k dc h hdc hr f hf => ?_⟩
  · rcases h with ⟨h2, h3⟩ | h
    · simp [gotPosition, he, h2, h3]
    · simp only [gotPosition, he, h, ite_self]
  · have hn : (e.role != 2 && e.role != 3) = false := by rcases hr with h | h <;> simp [h]
    subst hf hdc
    simp only [gotPosition, he, h, hn, Bool.false_eq_true, if_false, Bool.and_eq_true, beq_iff_eq, Bool.not_eq_true']

end Dev

/-- The standby takes STATE at once unless it waits for a boundary of its own (R385, R390). -/
theorem Dev.gotState_cases (e : Dev) (a : Adopt) :
    (e.role = 3 → e.gotState a = ({ e with twin := { e.twin with adopt := some a } } : Dev).formDone) ∧
    (e.role = 2 → ∀ d : Dev, d = { e with twin := { e.twin with adopt := some a } } →
      (d.twin.resync = true → d.printingLike = false → d.twin.posBad = false → e.gotState a = (((d.adoptState a).syncDone a).noteResync).lanesResume) ∧
      ((d.twin.resync = false ∨ d.printingLike = true ∨ d.twin.posBad = true) → e.gotState a = d)) ∧
    (e.role ≠ 2 → e.role ≠ 3 → e.gotState a = e) := by
  refine ⟨fun h => if_pos (beq_iff_eq.mpr h), fun h d hd => ?_, fun h2 h3 => by simp [Dev.gotState, h2, h3]⟩
  have hs : e.gotState a = if d.twin.resync && !d.printingLike && !d.twin.posBad then (((d.adoptState a).syncDone a).noteResync).lanesResume else d := by
    subst hd
    simp only [Dev.gotState, h]
    rfl
  refine ⟨fun hr hp hb => hs.trans (if_pos (by simp [hr, hp, hb])), fun hc => hs.trans (if_neg ?_)⟩
  rcases hc with hc | hc | hc <;> simp [hc]

theorem Dev.retryFormation_due {d : Dev} (hr : d.role = 4) (hf : d.twin.retryForm = true) (hl : d.twin.linked = true) :
    (d.twin.partner = none → d.retryFormation = d.twinSend 1 d.identBytes) ∧
    (∀ i, d.twin.partner = some i → d.retryFormation = (d.twinSend 1 d.identBytes).gotIdent i) := by
  have hc : ¬(d.role != 4 || !d.twin.retryForm || !d.twin.linked) = true := by simp [hr, hf, hl]
  have hp : (d.twinSend 1 d.identBytes).twin.partner = d.twin.partner := by
    simp [Dev.twinSend, hl]
  refine ⟨fun h => ?_, fun i h => ?_⟩ <;> simp only [Dev.retryFormation, if_neg hc, hp, h]

theorem unpaired {d : Dev} {n : Nat} (h : d.paired = false ∨ d.g 0x2C08 4 ≠ n) : ¬(d.paired = true ∧ d.g 0x2C08 4 = n) := by
  rintro ⟨h1, h2⟩
  rcases h with h | h
  · exact Bool.false_ne_true (h.symm.trans h1)
  · exact h h2

/-- Settles O53, by one case lemma for each message of the pair: every message in sequence is acknowledged first, then looked at. The first bad
field of an IDENT is named by its place in Table 16.4, and every message is acknowledged (log 58); the difference of the counts is held against the
index before (log 59). -/
theorem pairFormsAndFollowsDecisions : Obligations.PairFormsAndFollowsDecisions := by
  unfold Obligations.PairFormsAndFollowsDecisions
  refine ⟨fun s q e hq he => ?_, fun s seq m e he => ?_, fun s => ⟨fun h => ?_, fun hr hf hl => ⟨fun hp => ?_, fun i hp => ?_⟩⟩,
    fun d p i hp => ⟨fun h => ?_, fun h1 h2 => ⟨fun h => ?_, fun h3 h => ?_, fun h3 h4 h => ?_, fun h3 h4 h5 => ?_⟩, fun h => Dev.gotIdent_alone i h,
      fun hm hl => ⟨(Dev.gotIdent_linked i hm hl).1, fun hk hpr hser => ⟨fun h1 hsy => ?_, fun h => ?_⟩, fun hk hn => ⟨fun h => ?_, fun h3 h => ?_,
        fun h3 hph h => ?_⟩⟩⟩,
    fun d e i => ⟨fun he => ?_, fun he => Dev.formStandby_cases he⟩, fun d a ha => Dev.formDone_cases ha,
    fun d e a he => ⟨fun h1 h2 => (Dev.syncDone_eq he).trans (if_pos ⟨h1, h2⟩), fun h => (Dev.syncDone_eq he).trans (if_neg ?_)⟩,
    fun d e c st crc hs he => ⟨fun h => (Dev.compareSums_eq hs he).trans (if_neg ?_), fun h1 h2 h3 h4 h5 => ?_⟩,
    fun d e m he => ⟨fun h6 h12 => he ▸ Dev.withdraw_other h6 h12, fun g h6 => (Dev.withdraw_gen he h6).1 g, fun h6 => (Dev.withdraw_gen he h6).2⟩,
    fun d e k out dc err herr he => Dev.trackPosition_cases herr he,
    fun d f x k l hk hl => ⟨fun h => (Dev.syncLane_cases hk hl rfl).trans (if_pos h), fun hp h72 hb hf => ?_⟩⟩
  · have hn : s.begin_.gotNext = e := by subst he hq; rfl
    have ht : e.twin = { s.dev.twin with rxSeq := q } := by subst he; rfl
    have hpl : e.twin.pledges = s.dev.twin.pledges := by rw [ht]
    have hmk : e.twin.marks = s.dev.twin.marks := by rw [ht]
    have hcom : ∀ seq, _ := fun seq => Dev.gotCommit_cases (seq := seq) hn
    have hpos := fun time count out => Dev.gotPosition_cases time count out hn
    obtain hst := Dev.gotState_cases e
    rw [hpl] at hcom
    rw [hmk] at hpos
    have hstate : ∀ a d, e.gotState a = d → Makes (.state a) s d := fun a d h => .done (congrArg s.done ((congrArg (Dev.gotState · a) hn).trans h))
    refine ⟨fun i => .done (congrArg (fun d : Dev => s.done (d.gotIdent i)) hn), fun a => ⟨fun h => hstate a _ ((hst a).1 h), fun h d hd =>
        ⟨fun h1 h2 h3 => hstate a _ (((hst a).2.1 h d hd).1 h1 h2 h3), fun h1 => hstate a _ (((hst a).2.1 h d hd).2 h1)⟩,
        fun h2 h3 => hstate a _ ((hst a).2.2 h2 h3)⟩,
      fun seq => ⟨fun hp => ⟨.done (congrArg s.done ((hcom seq).1 hp).1), fun c => .done (congrArg s.done ((hcom seq).1 hp).2)⟩, fun p d hp hd => ?_⟩,
      fun c st crc => ⟨fun h => ?_, fun h => ?_⟩, fun group rep crc => ?_,
      fun index time count out => ⟨fun h => .done (congrArg s.done ((hpos time count out).1 h)), fun k dc hk hdc => ⟨fun h => ?_, fun h3 hal d hd => ?_⟩⟩,
      fun es => ⟨fun h => ?_, fun h2 h3 => ?_⟩⟩
    · obtain ⟨hc, hr⟩ := (hcom seq).2 p d hp hd
      refine ⟨fun h1 h2 => .done (congrArg s.done (hc.trans ?_)), fun h1 h2 => .done (congrArg s.done (hc.trans ?_)),
        fun h1 => .done (congrArg s.done (hc.trans (if_pos h1))),
        fun c => ⟨fun h1 => .done (congrArg s.done (hr.trans (if_pos h1))), fun h1 => .done (congrArg s.done (hr.trans (if_neg h1)))⟩⟩
      · rw [if_neg (fun h => h h1), if_pos h2]
      · rw [if_neg (fun h => h h1), if_neg (by simp [h2])]
    · exact .done (congrArg s.done (by simp [Dev.gotChecksum, hn, h]))
    · refine .done (congrArg s.done ?_)
      simp only [Dev.gotChecksum, hn, beq_iff_eq, if_neg h, ht]
    · refine .done (congrArg s.done ?_)
      simp only [Dev.gotDigest, hn, ht]
    · exact .done (congrArg s.done (((hpos time count out).2 k dc hk hdc (h.imp_right And.left) _ rfl).trans (if_neg (by rcases h with h | ⟨-, h⟩ <;> simp [h]))))
    · exact .done (congrArg s.done (((hpos time count out).2 k dc hk hdc (.inr h3) d hd).trans (if_pos ⟨h3, hal⟩)))
    · refine .done (congrArg s.done ?_)
      simp only [Dev.gotLaneSync, hn, Bool.or_eq_true, beq_iff_eq, if_pos h]
    · refine .done (congrArg s.done ?_)
      simp only [Dev.gotLaneSync, hn, Bool.or_eq_true, beq_iff_eq, h2, h3, or_self, if_false]
  · have hn : s.begin_.gotMsg seq = e := by subst he; rfl
    have ht : e.twin.pledges = s.dev.twin.pledges := by subst he; rfl
    have hc : e.com = s.dev.com := by subst he; rfl
    obtain ⟨hnot, hcannot, hcan⟩ := Dev.gotDecision_cases (m := m) hn
    refine ⟨fun h => .done (congrArg s.done (hnot h)), fun c h h' => .done (congrArg s.done (hcannot c h h')),
      fun h h' hk => .done (congrArg s.done ((hcan e h h' ?_).trans (by rw [ht]))), fun v h h' hk hv => .done (congrArg s.done ((hcan _ h h' rfl).trans ?_))⟩
    · simp only [Dev.adoptCounts, hk, Bool.false_eq_true, if_false]
    · subst hv
      simp only [Dev.adoptCounts, hk, if_true, ht, hc]
  · refine .done (congrArg s.done (if_pos ?_))
    show (s.dev.role != 4 || !s.dev.twin.retryForm || !s.dev.twin.linked) = true
    rcases h with h | h | h <;> simp [h]
  · exact .done (congrArg s.done ((Dev.retryFormation_due (d := s.begin_) hr hf hl).1 hp))
  · exact .done (congrArg s.done ((Dev.retryFormation_due (d := s.begin_) hr hf hl).2 i hp))
  · exact (Dev.identMismatch_eq d i).trans (if_pos h)
  · rw [Dev.identMismatch_eq, if_neg (by simp [h1, h2]), if_pos h]
  · rw [Dev.identMismatch_eq, if_neg (by simp [h1, h2]), if_neg (not_not.mpr h3), if_pos h]
  · rw [Dev.identMismatch_eq, if_neg (by simp [h1, h2]), if_neg (not_not.mpr h3), if_neg (not_not.mpr h4), if_pos h]
  · rw [Dev.identMismatch_eq, if_neg (by simp [h1, h2]), if_neg (not_not.mpr h3), if_neg (not_not.mpr h4), if_neg (not_not.mpr h5)]
  · subst hp
    exact ((Dev.gotIdent_linked i hm hl).2 hk).trans ((if_pos ⟨hpr, hser⟩).trans (if_pos ⟨h1, hsy⟩))
  · subst hp
    refine ((Dev.gotIdent_linked i hm hl).2 hk).trans ((if_pos ⟨hpr, hser⟩).trans (if_neg ?_))
    rintro ⟨h1, h2⟩
    rcases h with h | h
    · exact h h1
    · exact Bool.false_ne_true (h2.symm.trans h)
  · have hi := (Dev.gotIdent_linked i hm hl).2 hk
    rw [if_neg (unpaired hn)] at hi
    rcases h with h | h
    · rw [hi, if_pos h]
    · rw [hi, if_pos h, ite_self]
  · have hi := (Dev.gotIdent_linked i hm hl).2 hk
    rw [if_neg (unpaired hn), if_neg h3] at hi
    rcases h with ⟨hpr, h6⟩ | ⟨hpr, h6, h0⟩
    · rw [hi, if_neg (fun h => h6 h.2), if_pos (.inl hpr)]
    · rw [hi, if_neg (fun h => h6 h.2), if_pos (.inr ⟨h6, h0⟩)]
  · have hi := (Dev.gotIdent_linked i hm hl).2 hk
    rw [if_neg (unpaired hn), if_neg h3, if_neg (fun h => hph h.1), if_neg ?_] at hi
    · exact hi
    · rintro (h' | ⟨h6, h0⟩)
      · exact hph h'
      · exact h.elim h6 (fun h => h h0)
  · subst he
    rfl
  · rintro ⟨h1, h2⟩
    rcases h with h | h
    · exact Bool.false_ne_true (h.symm.trans h1)
    · exact h h2
  · rintro ⟨⟨h1, h2, h3, h4⟩, h5⟩
    rcases h with h | h | h | h | h
    · exact h5 h
    all_goals omega
  · have hc := (Dev.compareSums_eq hs he).trans (if_pos ⟨⟨h2, h3, h4, h5⟩, h1⟩)
    refine ⟨fun h h' => hc.trans (if_pos ⟨h, h'⟩), fun h => hc.trans (if_neg ?_)⟩
    rintro ⟨h6, h7⟩
    exact h.elim h6 (fun h => h h7)
  · have hy := (Dev.syncLane_cases hk hl hf).trans (if_neg (by simp [hp]; omega))
    refine ⟨fun h0 hr h4 hc => hy.trans (if_pos ⟨h0, hr, h4, hc⟩), fun h0 h => (hy.trans (if_neg ?_)).trans ?_, fun h0 => (hy.trans (if_neg (fun h => h.1 h0))).trans ?_⟩
    · rintro ⟨-, h1, h2, h3⟩
      rcases h with h | h | h
      · omega
      · exact h h2
      · exact Bool.false_ne_true (h3.symm.trans h)
    · simp only [beq_iff_eq, if_neg h0]
    · simp only [h0, beq_self_eq_true, if_true]

end Sys2Proof.Machine
end

section
/-! PROOFS. The twin link, the partner's probes and the hand of control (R128, R383, R389 to R401). -/
namespace Sys2Proof.Machine

open Sys2Proof

/-- A command that ends in `d` shows what `d` has, once the waiting event records are sent. -/
theorem Runs.of_done {i : Instr} {s : State} {d : Dev} {p : State → Prop} (h : exec i s = s.done d) (hp : p { s with dev := d.flush }) : Runs i s p :=
  ⟨_, h, ⟨rfl, rfl, rfl⟩, hp⟩

/-- What a takeover settles about the pair: the role, the cause of the last handover, and the twin's own state. -/
def pairFace (d : Dev) : Nat × Nat × Twin := (d.g 0x2C08 1, d.g 0x2C08 6, d.twin)

theorem pairFace_put {d : Dev} {i j v : Nat} (h1 : key i j ≠ key 0x2C08 1) (h6 : key i j ≠ key 0x2C08 6) : pairFace (d.put i j v) = pairFace d := by
  simp only [pairFace, Dev.g_put_ne _ _ h1, Dev.g_put_ne _ _ h6]
  rfl

theorem pairFace_raise (d : Dev) (e m u x : Nat) (he : e < 255) : pairFace (d.raise e m u x) = pairFace d := by
  simp only [pairFace, Dev.g_raise _ _ _ _ _ he (show eventKey (key 0x2C08 1) = false from by decide),
    Dev.g_raise _ _ _ _ _ he (show eventKey (key 0x2C08 6) = false from by decide), Dev.raise_twin]

theorem pairFace_newWindows (d : Dev) : pairFace d.newWindows = pairFace d := by
  refine foldl_keeps pairFace (fun d n => ?_) _ d
  have hk : ∀ j k, j < 4 → k < 7 → key (0x5008 + 0x100 * n) j ≠ key 0x2C08 k := fun j k hj hk => by simp only [key]; omega
  unfold Dev.moveBasis
  rw [pairFace_put (hk 3 1 (by decide) (by decide)) (hk 3 6 (by decide) (by decide)), pairFace_put (hk 2 1 (by decide) (by decide)) (hk 2 6 (by decide) (by decide)),
    pairFace_put (hk 1 1 (by decide) (by decide)) (hk 1 6 (by decide) (by decide))]
  rfl

theorem pairFace_camsDrive (d : Dev) : pairFace d.camsDrive = pairFace d := by
  refine foldl_keeps pairFace (fun d c => ?_) _ d
  have hsend : ∀ d : Dev, pairFace (d.cciSend c) = pairFace d := fun d => by
    simp only [Dev.cciSend]
    split
    · split <;> rfl
    · rfl
  have hstart : ∀ g q, pairFace (d.cciStart c g q) = pairFace d := fun g q => by
    simp only [Dev.cciStart]
    split
    · rfl
    · exact hsend _
  simp only [Dev.cciWait]
  split
  · rfl
  · split
    · exact hstart _ _
    · rfl

theorem pairFace_role (d : Dev) (cause : Nat) : pairFace (((d.put 0x2C08 1 1).put 0x2C08 6 cause).bump 0x2C08 5) = (1, cause, d.twin) := by
  refine (pairFace_put (d := (d.put 0x2C08 1 1).put 0x2C08 6 cause) (i := 0x2C08) (j := 5) (by decide) (by decide)).trans ?_
  simp only [pairFace, Dev.g_put_self, Dev.g_put_ne (i := 0x2C08) (j := 6) (i' := 0x2C08) (j' := 1) _ _ (by decide)]
  rfl

theorem pairFace_moveSets (l : List Nat) (d : Dev) : pairFace (l.foldl (fun (d : Dev) n => d.moveSets n (2 ^ 60) (d.liveRep n)) d) = pairFace d :=
  foldl_keeps (f := fun (d : Dev) n => d.moveSets n (2 ^ 60) (d.liveRep n)) pairFace (fun _ _ => rfl) l d

theorem pairFace_warmBase (l : List Nat) (d : Dev) : pairFace (l.foldl (fun (d : Dev) n =>
    (d.lanesOf n).foldl (fun d s => d.sendBase s (d.bar n).next) (d.onBar n (fun b => { b with warmGap := true }))) d) = pairFace d :=
  foldl_keeps pairFace (fun d n => (foldl_keeps (f := fun (d : Dev) s => d.sendBase s (d.bar n).next) pairFace (fun _ _ => rfl) (d.lanesOf n)
    (d.onBar n (fun b => { b with warmGap := true }))).trans rfl) l d

/-- A takeover makes the device active, for the cause given (R395). -/
theorem takeover_face (d : Dev) (cause : Nat) :
    pairFace (d.takeover cause) = (1, cause, { d.twin with pledges := [], lastHandover := d.t, probing := none }) := by
  unfold Dev.takeover
  extract_lets warm _ begun active named moved driving
  have hnamed : pairFace named = pairFace active := by
    show pairFace (if warm then active.drew.put 0x2C08 7 (active.freeNat % 4294967296) else active.put 0x2C08 7 0) = _
    split
    · exact (pairFace_put (d := active.drew) (i := 0x2C08) (j := 7) (by decide) (by decide)).trans rfl
    · exact pairFace_put (d := active) (i := 0x2C08) (j := 7) (by decide) (by decide)
  have hactive : pairFace active = (1, cause, begun.twin) := pairFace_role begun cause
  clear_value active
  have hdriving : pairFace driving = pairFace named :=
    calc pairFace driving
      _ = pairFace moved := pairFace_camsDrive _
      _ = pairFace (named.raise 99).newWindows := pairFace_moveSets _ _
      _ = pairFace (named.raise 99) := pairFace_newWindows _
      _ = pairFace named := pairFace_raise named 99 0 0xFF 0 (by decide)
  clear_value named
  clear_value driving
  split
  · exact (pairFace_warmBase _ _).trans (hdriving.trans (hnamed.trans hactive))
  · exact hdriving.trans (hnamed.trans hactive)

namespace Dev

/-- A tile asked for is sent as stored, or answered NOT_HELD (R391). -/
theorem sendTile_cases {e : Dev} {kind tile : Nat} {hd : Bytes} {held : Option Bytes} (hhd : hd = [byte kind] ++ leBytes 8 tile)
    (hheld : held = (if kind = 1 then (e.heldTile tile).map (fun t => hdrBytes t.hdr ++ t.stream)
      else (e.frameOk kind tile).map (fun f => hdrBytes f.hdr ++ f.payload))) :
    (held = none → e.sendTile kind tile = e.twinSend 10 (hd ++ leBytes 4 0xFFFFFFFF)) ∧
    (∀ all, held = some all → e.sendTile kind tile = (List.range (ceilDiv all.length 32768)).foldl
      (fun d i => d.twinSend 10 (hd ++ leBytes 4 (32768 * i) ++ (all.drop (32768 * i)).take 32768)) e) := by
  have hk : (if kind == 1 then (e.heldTile tile).map (fun t => hdrBytes t.hdr ++ t.stream)
      else (e.frameOk kind tile).map (fun f => hdrBytes f.hdr ++ f.payload)) = held := by
    simp only [hheld, beq_iff_eq]
  refine ⟨fun h => ?_, fun all h => ?_⟩
  all_goals
    rw [h] at hk
    simp only [sendTile, hk, hhd]

/-- A fetch's answer without the frame, and one with it (R391). -/
theorem tileArrived_cases {e d : Dev} {kind tile : Nat} {mine : Nat × Nat × Nat → Bool} (hm : ∀ f, mine f = (f.1 == kind && f.2.1 == tile))
    (hd : d = { e with twin := { e.twin with fetches := e.twin.fetches.filter (fun f => !mine f) } }) :
    (e.twin.fetches.any mine = false → ∀ frame, e.tileArrived kind tile frame = e) ∧
    (e.twin.fetches.any mine = true →
      (∀ f : Dev, f = { d with twin := { d.twin with denied := ((kind, tile) :: d.twin.denied).take 64 } } →
        e.tileArrived kind tile none = if kind = 1 ∨ (f.frame? kind tile).isSome = true then f.restoreHere kind tile else f) ∧
      (∀ (h : FrameHdr) (p : Bytes) (st : Nat) (data : Bytes), decodePayload (d.historyOf h) (h.flags % 4) h.ulen h.crc (p.take h.clen) = (st, data) →
        e.tileArrived kind tile (some (h, p)) =
          if h.kind ≠ kind ∨ h.tileId ≠ tile ∨ st ≠ 0 then (d.raise 102).restoreHere kind tile
          else if kind = 1 then d.onCtx (tile / 2 ^ 56) (fun x =>
            { x with lost := x.lost.filter (fun y => y != (tile / 2 ^ 48 % 256, tile / 2 ^ 40 % 256, tile % 2 ^ 40)) })
          else d.acceptFrame (d.accepted h (p.take h.clen) data))) := by
  obtain rfl : mine = fun f => f.1 == kind && f.2.1 == tile := funext hm
  refine ⟨fun h frame => if_pos (by rw [h]; rfl), fun h => ⟨fun f hf => ?_, fun hh p st data hp => ?_⟩⟩
  · subst hf hd
    simp only [tileArrived, h, Bool.not_true, Bool.false_eq_true, if_false, Bool.or_eq_true, beq_iff_eq]
  · subst hd
    simp only [tileArrived, h, Bool.not_true, Bool.false_eq_true, if_false, hp, Bool.or_eq_true, bne_iff_ne, beq_iff_eq, or_assoc]

theorem fetchLate_eq {d : Dev} {late : Nat × Nat × Nat → Bool} (hl : ∀ f, late f = (decide (f.2.2 ≠ 0) && decide (f.2.2 + 1000000 ≤ d.t))) :
    d.fetchLate = (d.twin.fetches.filter late).foldl (fun d f => (d.raise 102).restoreHere f.1 f.2.1)
      { d with twin := { d.twin with fetches := d.twin.fetches.map (fun f => if late f then (f.1, f.2.1, 0) else f) } } := by
  obtain rfl : late = fun f => f.2.2 != 0 && decide (f.2.2 + 1000000 ≤ d.t) := funext fun f => (hl f).trans (by
    congr 1
    rw [Bool.eq_iff_iff]
    simp)
  rfl

/-- An acknowledgement settles what it covers, and restores the flags once STATE is among it (R383, R389, R390). -/
theorem gotAck_cases {d e f : Dev} {seq : Nat} (he : e = { d with twin := { d.twin with unacked := d.twin.unacked.filter (fun m => !seqUpTo m.seq seq) } })
    (hf : f = (d.twin.pledges.filter (fun p => seqUpTo p.seq seq)).foldl pledged
      { e with twin := { e.twin with pledges := d.twin.pledges.filter (fun p => !seqUpTo p.seq seq) } }) :
    (e.role ≠ 1 → d.gotAck seq = e) ∧
    (e.role = 1 → ((∀ m ∈ d.twin.unacked, m.kind = 2 → seqUpTo m.seq seq = false) ∨ f.synced = true ∨
      (∃ t, f.twin.clearSince = some t ∧ f.t < t + 1000000000)) → d.gotAck seq = f) ∧
    (e.role = 1 → (∃ m ∈ d.twin.unacked, m.kind = 2 ∧ seqUpTo m.seq seq = true) → f.synced = false →
      (∀ t, f.twin.clearSince = some t → t + 1000000000 ≤ f.t) →
      d.gotAck seq = ({ f.put 0x2C08 2 15 with twin := { f.twin with clearSince := none } } : Dev).noteResync) := by
  have h1 : e.role ≠ 1 → d.gotAck seq = e := fun h => by
    subst he
    exact if_pos (bne_iff_ne.mpr h)
  have h2 : ∀ settled : Bool, e.role = 1 → settled = (match f.twin.clearSince with
        | some t => decide (t + 1000000000 ≤ f.t)
        | none => true) → d.gotAck seq = if (d.twin.unacked.filter (fun m => seqUpTo m.seq seq)).any (fun m => m.kind == 2) && !f.synced && settled then
      ({ f.put 0x2C08 2 15 with twin := { f.twin with clearSince := none } } : Dev).noteResync else f := fun settled h hs => by
    subst hf he hs
    exact if_neg (by simpa using h)
  refine ⟨h1, fun hr hc => (h2 _ hr rfl).trans (if_neg ?_), fun hr hm hs ht => (h2 _ hr rfl).trans (if_pos ?_)⟩
  · rcases hc with hc | hc | ⟨t, ht, hlt⟩
    · have hany : (d.twin.unacked.filter (fun m => seqUpTo m.seq seq)).any (fun m => m.kind == 2) = false := by
        rw [List.any_eq_false]
        intro m hm hk
        obtain ⟨hm, hq⟩ := List.mem_filter.mp hm
        exact Bool.false_ne_true ((hc m hm (beq_iff_eq.mp hk)).symm.trans hq)
      simp [hany]
    · simp [hc]
    · rw [ht]
      simp only [decide_eq_false (Nat.not_le.mpr hlt), Bool.and_false, Bool.false_eq_true, not_false_eq_true]
  · obtain ⟨m, hm, hk, hq⟩ := hm
    have hany : (d.twin.unacked.filter (fun m => seqUpTo m.seq seq)).any (fun m => m.kind == 2) = true :=
      List.any_eq_true.mpr ⟨m, List.mem_filter.mpr ⟨hm, hq⟩, beq_iff_eq.mpr hk⟩
    rw [hany, hs]
    cases hcl : f.twin.clearSince with
    | none => rfl
    | some t => simp [ht t hcl]

/-- A decision that the standby has acknowledged (R389, Table 16.5). -/
theorem pledged_cases {d e : Dev} {p : Pledge} (he : e = d.twinSend 4 (leBytes 4 p.seq)) :
    (d.inTime p.msg = false → d.pledged p = d.withdraw p.msg) ∧
    (d.inTime p.msg = true →
      (p.msg.kind ∈ [8, 9, 12, 15] → d.pledged p = e) ∧ (p.msg.kind = 11 → d.pledged p = e.followDecision p.msg) ∧
      (p.msg.kind = 7 → d.pledged p = e.barList.foldl (fun d n => d.setCensus n { d.census n with agreed := true }) e) ∧
      (∀ g, p.msg.kind = 6 → e.keeper.gen = some g → g.num = p.msg.value →
        d.pledged p = { e with keeper := { e.keeper with gen := some { g with acked := true } } }) ∧
      (p.msg.kind ∉ [6, 7, 8, 9, 11, 12, 15] → d.pledged p = e.applyDecision p.msg)) := by
  subst he
  refine ⟨fun h => by simp [pledged, h], fun h => ⟨fun hk => ?_, fun hk => ?_, fun hk => ?_, fun g hk hg hn => ?_, fun hk => ?_⟩⟩
  · simp only [List.mem_cons, List.not_mem_nil, or_false] at hk
    rcases hk with hk | hk | hk | hk <;> simp [pledged, h, hk]
  · simp [pledged, h, hk]
  · simp [pledged, h, hk]
  · simp only [pledged, h, hk, hg, hn, beq_self_eq_true, if_true, Bool.not_true, Bool.false_eq_true, if_false]
  · simp only [List.mem_cons, List.not_mem_nil, or_false, not_or] at hk
    obtain ⟨h6, h7, h8, h9, h11, h12, h15⟩ := hk
    simp only [pledged, h, Bool.not_true, Bool.false_eq_true, if_false]

/-- Losing the twin link (R383, R390). -/
theorem linkLost_eq {d e f g : Dev} {gone : Nat} (hl : d.twin.linked = true) (hg : gone = d.twin.pledges.length)
    (he : e = (({ d with twin := { d.twin with linked := false, unacked := [], pledges := [], fetches := [] } } : Dev).put 0x2C08 3
      (setBit (d.g 0x2C08 3) 0 false)).raise 96)
    (hf : f = (if e.role = 1 ∧ gone ≠ 0 then e.bumpBy 0x2C08 0x0C gone else e))
    (hgf : g = (if f.role = 2 then f.loseFlag 3 else if f.role = 1 then f.put 0x2C08 2 (setBit (f.g 0x2C08 2) 3 false) else f)) :
    d.linkLost = d.twin.fetches.foldl (fun d x => d.restoreHere x.1 x.2.1) g := by
  have hf' : f = if e.role == 1 && gone != 0 then e.bumpBy 0x2C08 0x0C gone else e := by
    simp only [hf, Bool.and_eq_true, beq_iff_eq, bne_iff_ne]
  have hg' : g = if f.role == 2 then f.loseFlag 3 else if f.role == 1 then f.put 0x2C08 2 (setBit (f.g 0x2C08 2) 3 false) else f := by
    simp only [hgf, beq_iff_eq]
  subst hg'
  subst hf'
  subst he hg
  exact if_neg (by simp [hl])

theorem linkLost_unlinked {d : Dev} (hl : d.twin.linked = false) : d.linkLost = d := if_pos (by simp [hl])

/-- Messages that wait too long leave again, or lose the link (R383). -/
theorem resend_cases (d : Dev) :
    ((∃ m ∈ d.twin.unacked, m.first + 2000000 < d.t) → d.resend = d.linkLost) ∧
    (∀ (due : TwinMsg → Bool) (other : Nat → Nat), (∀ m ∈ d.twin.unacked, d.t ≤ m.first + 2000000) → (∀ m, due m = decide (m.sent + 50000 ≤ d.t)) →
      (∀ l, other l = (match d.twinUp.find? (fun i => decide (l < i)) with
        | some i => i
        | none => d.twinUp.headD l)) →
      d.resend = (d.twin.unacked.filter due).foldl (fun d m => (d.emit (.twin m.kind m.seq m.payload)).bump 0x2C08 0x0B)
        { d with twin := { d.twin with unacked := d.twin.unacked.map (fun m => if due m then { m with sent := d.t, lane := other m.lane } else m) } }) := by
  refine ⟨fun ⟨m, hm, hlt⟩ => if_pos (List.any_eq_true.mpr ⟨m, hm, decide_eq_true hlt⟩), fun due other hold hdue hother => ?_⟩
  obtain rfl : due = fun m => decide (m.sent + 50000 ≤ d.t) := funext hdue
  obtain rfl : other = _ := funext hother
  refine if_neg (fun h => ?_)
  obtain ⟨m, hm, hlt⟩ := List.any_eq_true.mp h
  have := hold m hm
  have := of_decide_eq_true hlt
  omega

/-- A partner of a standby, or of an active device, that gives no answer (R394, R395). -/
theorem partnerFailed_cases (d : Dev) :
    (d.role = 2 → d.synced = true → pairFace d.partnerFailed = (1, 1, { d.twin with
      pledges := [], lastHandover := d.t, probing := none, partner := none, handover := none })) ∧
    (d.role = 2 → d.synced = false → d.partnerFailed =
      { d.raise 98 with twin := { d.twin with probing := none, partner := none, pledges := [], handover := none } }) ∧
    (d.role = 1 → ∀ e : Dev, e = { d.raise 98 with twin := { d.twin with probing := none, partner := none, pledges := [], handover := none } } →
      d.partnerFailed = (if d.twin.pledges = [] then e else e.bumpBy 0x2C08 0x0C d.twin.pledges.length).put 0x2C08 2 0) := by
  have hrole : (d.raise 98).role = d.role := d.g_raise 98 0 0xFF 0 (by decide) (by decide)
  have htwin : (d.raise 98).twin = d.twin := d.raise_twin 98 0 0xFF 0
  refine ⟨fun h hs => ?_, fun h hs => ?_, fun h e he => ?_⟩
  · have hf := takeover_face { d.raise 98 with twin := { (d.raise 98).twin with probing := none } } 1
    obtain ⟨h1, h6, ht⟩ : _ ∧ _ ∧ _ := by simpa only [pairFace, Prod.mk.injEq] using hf
    have hpf : d.partnerFailed = ({ ({ d.raise 98 with twin := { (d.raise 98).twin with probing := none } } : Dev).takeover 1 with
        twin := { (({ d.raise 98 with twin := { (d.raise 98).twin with probing := none } } : Dev).takeover 1).twin with
          partner := none, pledges := [], handover := none } } : Dev).put 0x2C08 2 0 := by
      simp only [partnerFailed, h, hs]
      refine if_pos (beq_iff_eq.mpr ?_)
      exact h1
    rw [hpf, pairFace_put (by decide) (by decide)]
    simp only [pairFace, Prod.mk.injEq]
    refine ⟨h1, h6, ?_⟩
    rw [ht, htwin]
    simp only [Dev.raise_t]
  · have hr2 : (d.raise 98).role = 2 := hrole.trans h
    simp only [partnerFailed, h, hs, htwin]
    refine (if_neg ?_)
    show ¬((d.raise 98).role == 1) = true
    rw [hr2]
    decide
  · subst he
    have hr1 : (d.raise 98).role = 1 := hrole.trans h
    cases hp : d.twin.pledges with
    | nil =>
      simp only [partnerFailed, h, hp, htwin]
      exact if_pos (beq_iff_eq.mpr hr1)
    | cons p ps =>
      simp only [partnerFailed, h, hp, htwin, beq_self_eq_true, if_true, show ((1 : Nat) == 2) = false from rfl, Bool.false_and, Bool.false_eq_true, if_false,
        List.length_cons, beq_iff_eq, Nat.add_one_ne_zero, reduceCtorEq]
      refine if_pos ?_
      exact (Dev.g_put_ne (i := 0x2C08) (j := 0x0C) (i' := 0x2C08) (j' := 1) (d.raise 98) _ (by decide)).trans hr1

/-- The field network's pair messages, where they pass their checks (R401). -/
theorem gotPair_cases {d : Dev} {m : Dgram} :
    (d.pairOk m (if m.typ == 0x40 then 8 else 24) = false → d.gotPair m = d.dropMsg (viaCode m.via)) ∧
    (d.pairOk m (if m.typ == 0x40 then 8 else 24) = true → d.gotPair m = if m.typ == 0x40 then (d.noteSeq m).gotProbe m
      else if m.typ == 0x41 then (d.noteSeq m).gotProbeRsp m else (d.noteSeq m).gotHandover (pairValue m.payload)) := by
  refine ⟨fun h => if_pos ?_, fun h => if_neg ?_⟩ <;> rw [h] <;> decide

/-- A response to the probe that is out (R393, R394). -/
theorem gotProbeRsp_cases {e d : Dev} {m : Dgram} (hd : d = e.path (2 + viaCode m.via) true) :
    ((e.twin.probing = none ∨ pairValue m.payload ≠ e.twin.probe) → e.gotProbeRsp m = e) ∧
    (e.twin.probing.isSome = true → pairValue m.payload = e.twin.probe → e.gotProbeRsp m =
      if (slice m.payload 9 1 = [1] ∧ slice m.payload 8 1 = [1]) ∧ d.role = 2 then
        (({ d with twin := { d.twin with probing := none } } : Dev).raise 97).loseFlag 3 else d) := by
  refine ⟨fun h => if_pos ?_, fun h hp => (if_neg ?_).trans ?_⟩
  · rcases h with h | h <;> simp [h]
  · rw [hp, Option.isNone_eq_false_iff.mpr h]
    simp
  · subst hd
    simp only [Bool.and_eq_true, beq_iff_eq]

theorem mirror_fl (d : Dev) (m : DecisionMsg) : (d.mirror m).fl = d.fl := by
  unfold mirror twinSend
  split
  · split <;> rfl
  · rfl

theorem judgeRehearsal_none {d : Dev} (h : d.twin.rehearsing = none) : d.judgeRehearsal = d := by
  simp only [judgeRehearsal, h]

/-- A rehearsal is judged by whether a substitution happened since it began (R399). -/
theorem judgeRehearsal_cases {d f : Dev} {t : Nat} (ht : d.twin.rehearsing = some t)
    (hf : f = ({ d with twin := { d.twin with rehearsing := none } } : Dev).put 0x2C08 8 (d.serviceAt t)) :
    ((∀ x, d.fl.lastL2 = some x → x < t) → d.judgeRehearsal = f.put 0x2C08 9 1) ∧
    (∀ x, d.fl.lastL2 = some x → t ≤ x → ∀ e, e = f.put 0x2C08 9 2 → d.judgeRehearsal = if e.handoverAllowed then e.askHandover 3 else e) := by
  subst hf
  refine ⟨fun h => ?_, fun x hx hle e he => ?_⟩
  · cases hx : d.fl.lastL2 with
    | none =>
      simp only [judgeRehearsal, ht, hx]
      rfl
    | some x =>
      simp only [judgeRehearsal, ht, hx, decide_eq_false (Nat.not_le.mpr (h x hx))]
      rfl
  · subst he
    simp only [judgeRehearsal, ht, hx, decide_eq_true hle]
    rfl

end Dev

/-- A message of the pair that is admitted (R393, R401). -/
theorem serve_pair {s : State} {m : Dgram} (h : s.dev.admits m) (ht : m.typ = 0x40 ∨ m.typ = 0x41 ∨ m.typ = 0x43) :
    s.serve m = s.done (s.begin_.gotPair m) := by
  refine serve_of_receive ((receive_admitted (s := { s with dev := s.begin_ }) h).trans ?_)
  rcases ht with ht | ht | ht <;> simp [ht]

/-- Settles O54, by the cases of the twin link's messages and timers. A failed rehearsal hands back by a commanded handover, and a refused one
sets 0x2C08:09 to 3 (log 60). -/
theorem twinLinkProbesAndHandovers : Obligations.TwinLinkProbesAndHandovers := by
  unfold Obligations.TwinLinkProbesAndHandovers
  refine ⟨fun s q kind tile hd held mine e d hq hhd he hheld hm hd' => ?_, fun s late hl => ?_, fun s seq e f he hf => ?_,
    fun d e p he => Dev.pledged_cases he, fun s i gone e f g hl hg hi he hf hgf => ?_, fun s hl => ?_, fun s due other hold hdue hother => ?_,
    fun s => ?_, fun s k hk => ?_, fun s m e d ha he hd => ?_, fun s sess ask hs hask => ?_, fun s => ?_⟩
  · have hn : s.begin_.gotNext = e := by subst he hq; rfl
    have hf : e.twin.fetches = s.dev.twin.fetches := by subst he; rfl
    rw [← hf] at hd'
    obtain ⟨hnone, hsome⟩ := Dev.sendTile_cases hhd hheld
    obtain ⟨hother, hmine⟩ := Dev.tileArrived_cases hm hd'
    rw [hf] at hother hmine
    have hreq : exec (.tileReq kind tile) s = s.done (e.sendTile kind tile) := congrArg (fun d : Dev => s.done (d.sendTile kind tile)) hn
    have hdata : ∀ frame, exec (.tileData kind tile frame) s = s.done (e.tileArrived kind tile frame) := fun frame =>
      congrArg (fun d : Dev => s.done (d.tileArrived kind tile frame)) hn
    refine ⟨fun h => .done (hreq.trans (congrArg s.done (hnone h))), fun all h => .done (hreq.trans (congrArg s.done (hsome all h))),
      fun h frame => .done ((hdata frame).trans (congrArg s.done (hother h frame))), fun h f hff => ?_, fun hh p st data h hp => ?_⟩
    · have hn := (hdata none).trans (congrArg s.done ((hmine h).1 f hff))
      exact ⟨fun hc => .done (hn.trans (congrArg s.done (if_pos hc))), fun h1 h2 => .done (hn.trans (congrArg s.done (if_neg (by simp [h1, h2]))))⟩
    · have hn := (hdata (some (hh, p))).trans (congrArg s.done ((hmine h).2 hh p st data hp))
      refine ⟨fun hc => .done (hn.trans (congrArg s.done (if_pos hc))), fun h1 h2 h3 h4 => .done (hn.trans (congrArg s.done ?_)),
        fun h1 h2 h3 h4 => .done (hn.trans (congrArg s.done ?_))⟩
      · rw [if_neg (by simp [h1, h2, h3]), if_neg h4]
      · rw [if_neg (by simp [h1, h2, h3]), if_pos h4]
  · exact .done (congrArg s.done (Dev.fetchLate_eq (d := s.begin_) hl))
  · obtain ⟨h1, h2, h3⟩ := Dev.gotAck_cases (d := s.begin_) he hf
    exact ⟨fun h => .done (congrArg s.done (h1 h)), fun h h' => .done (congrArg s.done (h2 h h')),
      fun h hm hs ht => .done (congrArg s.done (h3 h hm hs ht)), fun reason => .done rfl⟩
  · have hlost := Dev.linkLost_eq (d := s.begin_) hl hg he hf hgf
    rcases hi with rfl | ⟨rfl, hm⟩
    · exact .done (congrArg s.done hlost)
    · exact .done (congrArg s.done (((Dev.resend_cases s.begin_).1 hm).trans hlost))
  · exact .done (congrArg s.done (Dev.linkLost_unlinked (d := s.begin_) hl))
  · exact .done (congrArg s.done ((Dev.resend_cases s.begin_).2 due other hold hdue hother))
  · refine ⟨fun hp => ⟨.done (congrArg s.done (if_pos (bne_iff_ne.mpr hp))), fun ha => ?_, fun hf ho hr => .done (congrArg s.done (if_pos ?_))⟩,
      fun hp => ⟨.done (congrArg s.done (if_neg ?_)), .done (congrArg s.done (if_neg ?_)), .done (congrArg s.done (if_neg ?_))⟩,
      fun ha => .done (congrArg s.done (if_neg ?_)), fun h => .done (congrArg s.done (if_neg ?_))⟩
    · exact .of_raise (congrArg s.done (if_pos (show (s.dev.product != 0x2204 && s.dev.pins.hbInAlive) = true by simp [hp, ha]))) rfl rfl (Nat.le_refl _) rfl
        (by decide)
    · show (s.dev.product != 0x2204 && s.dev.fast && !s.dev.twin.hbOutStopped && s.dev.sys.st != .restarting) = true
      simp [hp, hf, ho, hr]
    · show ¬(s.dev.product != 0x2204) = true
      simp [hp]
    · show ¬(s.dev.product != 0x2204 && s.dev.pins.hbInAlive) = true
      simp [hp]
    · show ¬(s.dev.product != 0x2204 && s.dev.fast && !s.dev.twin.hbOutStopped && s.dev.sys.st != .restarting) = true
      simp [hp]
    · show ¬(s.dev.product != 0x2204 && s.dev.pins.hbInAlive) = true
      simp [ha]
    · show ¬(s.dev.product != 0x2204 && s.dev.fast && !s.dev.twin.hbOutStopped && s.dev.sys.st != .restarting) = true
      rcases h with h | h | h <;> simp [h]
  · subst hk
    obtain ⟨h1, h2, h3⟩ := Dev.partnerFailed_cases s.begin_
    have hover : s.dev.twin.probing.isSome = true → exec .probeTimeout s = s.done s.begin_.partnerFailed := fun hp =>
      congrArg s.done (if_neg (by rw [Option.isNone_eq_false_iff.mpr (show s.begin_.twin.probing.isSome = true from hp)]; decide))
    refine ⟨fun hp hn => .done (congrArg s.done (if_neg ?_)), fun h => .done (congrArg s.done (if_pos ?_)),
      fun hn => .done (congrArg s.done (if_pos (Option.isNone_iff_eq_none.mpr hn))), fun hp => .done (hover hp), fun hp hr hs => ?_, fun hp hr hs => ?_,
      fun hp hr e he => .done ((hover hp).trans (congrArg s.done (h3 hr e he)))⟩
    · show ¬(!s.dev.paired || s.dev.twin.probing.isSome) = true
      simp [hp, hn]
    · show (!s.dev.paired || s.dev.twin.probing.isSome) = true
      rcases h with h | h <;> simp [h]
    · obtain ⟨hr1, hc, ht⟩ : _ ∧ _ ∧ _ := by simpa only [pairFace, Prod.mk.injEq] using h1 hr hs
      refine .of_done (hover hp) ⟨hr1, hc, ?_⟩
      simp only [Dev.flush_twin, ht, and_self]
    · exact .of_raised (d0 := s.begin_) ((hover hp).trans (congrArg s.done (h2 hr hs))) rfl
        (congrArg (fun b : Dev => ({ b with twin := { s.dev.twin with probing := none, partner := none, pledges := [], handover := none } } : Dev))
          (Dev.raise_bare s.begin_ 98 0 0xFF 0 (by decide))) (by simp) (Nat.le_refl _) rfl
  · obtain ⟨hbad, hgood⟩ := Dev.gotPair_cases (d := s.begin_) (m := m)
    have hdrop : ∀ {n}, (if m.typ == 0x40 then 8 else 24) = n → s.dev.pairOk m n = false → s.begin_.gotPair m = s.begin_.dropMsg (viaCode m.via) :=
      fun hn h => hbad (by rw [hn]; exact h)
    have hok : ∀ {n}, (if m.typ == 0x40 then 8 else 24) = n → s.dev.pairOk m n = true → s.begin_.gotPair m =
        if m.typ == 0x40 then e.gotProbe m else if m.typ == 0x41 then e.gotProbeRsp m else e.gotHandover (pairValue m.payload) :=
      fun hn h => by rw [he]; exact hgood (by rw [hn]; exact h)
    have her : e.role = s.dev.role := by rw [he]; rfl
    have hes : e.synced = s.dev.synced := by rw [he]; rfl
    have hep : e.twin.probing = s.dev.twin.probing := by rw [he]; rfl
    have hek : e.twin.probe = s.dev.twin.probe := by rw [he]; rfl
    have heg : e.g 0x1018 4 = s.dev.g 0x1018 4 := by rw [he]; rfl
    have h0 : ∀ i, m.typ = 0x40 ∨ m.typ = 0x41 ∨ m.typ = 0x43 → exec i s = s.serve m → exec i s = s.done (s.begin_.gotPair m) :=
      fun i ht hi => hi.trans (serve_pair ha ht)
    have hrsp : m.typ = 0x41 → s.dev.pairOk m 24 = true → s.begin_.gotPair m = e.gotProbeRsp m := fun ht hp =>
      (hok (by rw [ht]; rfl) hp).trans (by simp [ht])
    have hhand : m.typ = 0x43 → s.dev.pairOk m 24 = true → s.begin_.gotPair m = e.gotHandover (pairValue m.payload) := fun ht hp =>
      (hok (by rw [ht]; rfl) hp).trans (by simp [ht])
    obtain ⟨hold, hnew⟩ := Dev.gotProbeRsp_cases hd
    rw [hep, hek] at hold hnew
    refine ⟨fun ht hp => ?_, fun ht hp => ?_, fun ht hp => ?_, fun ht hp => ?_, fun ht hp hpr hv => ?_, fun ht hp h => ?_, fun ht hp hr hv => ?_, fun ht hp h => ?_⟩
    · refine .done ((h0 _ (.inl ht) rfl).trans (congrArg s.done ((hok (by rw [ht]; rfl) hp).trans ((if_pos (beq_iff_eq.mpr ht)).trans ?_))))
      rw [he]
      rfl
    · exact .done ((h0 _ (.inl ht) rfl).trans (congrArg s.done (hdrop (by rw [ht]; rfl) hp)))
    · exact .done ((h0 _ (.inr (.inl ht)) rfl).trans (congrArg s.done (hdrop (by rw [ht]; rfl) hp)))
    · exact .done ((h0 _ (.inr (.inr ht)) rfl).trans (congrArg s.done (hdrop (by rw [ht]; rfl) hp)))
    · have hx := (h0 (.twinProbeRsp m) (.inr (.inl ht)) rfl).trans (congrArg s.done ((hrsp ht hp).trans (hnew hpr hv)))
      refine ⟨fun h8 h9 hr => .done (hx.trans (congrArg s.done (if_pos ⟨⟨h9, h8⟩, hr⟩))), fun h => .done (hx.trans (congrArg s.done (if_neg ?_)))⟩
      rintro ⟨⟨h9, h8⟩, hr⟩
      exact h.elim (fun h => h h8) (fun h => h.elim (fun h => h h9) (fun h => h hr))
    · exact .done ((h0 (.twinProbeRsp m) (.inr (.inl ht)) rfl).trans (congrArg s.done ((hrsp ht hp).trans (hold h))))
    · have hx := (h0 (.handover m) (.inr (.inr ht)) rfl).trans (congrArg s.done ((hhand ht hp).trans (if_neg (by simp [her, hr, heg, hv]))))
      rw [hes] at hx
      refine ⟨fun hs => ?_, fun hs => ?_⟩
      · have hx := hx.trans (congrArg s.done (if_pos hs))
        obtain ⟨hr1, hc, htw⟩ : _ ∧ _ ∧ _ := by simpa only [pairFace, Prod.mk.injEq] using takeover_face e 2
        refine ⟨.done hx, .of_done hx ⟨hr1, hc, ?_⟩⟩
        simp only [Dev.flush_twin, htw]
        rw [he]
        rfl
      · refine .of_raise (hx.trans (congrArg s.done (if_neg (by simp [hs])))) rfl rfl ?_ rfl (by decide)
        rw [he]
        exact Nat.le_refl _
    · refine .done ((h0 (.handover m) (.inr (.inr ht)) rfl).trans (congrArg s.done ((hhand ht hp).trans (if_pos ?_))))
      rw [her, heg]
      rcases h with h | h <;> simp [h]
  · subst hask
    have hallow : s.begin_.handoverAllowed = s.dev.handoverAllowed := rfl
    have hord : ∀ c, s.begin_.orderHandover c = if s.dev.handoverAllowed then (if c == 4 then (s.begin_.askHandover c).raise 100 else s.begin_.askHandover c, 0)
        else (if c == 4 then s.begin_.put 0x2C08 9 3 else s.begin_, 0x0F00006A) := fun c => rfl
    refine ⟨fun h => ⟨.of_hostWrite hs rfl ((hord 3).trans (if_pos h)), ?_⟩, fun h => ⟨.of_hostWrite hs rfl ((hord 3).trans (if_neg (by simp [h]))),
      .of_hostWrite hs rfl ((hord 4).trans (if_neg (by simp [h])))⟩, fun h => .of_hostWrite hs rfl ?_, fun h hr => .of_hostWrite hs rfl ?_,
      fun h hr => .of_hostWrite hs rfl ?_⟩
    · refine .of_hostWrite hs rfl ((hord 4).trans (if_pos h)) rfl rfl ?_ rfl (by decide)
      exact Nat.le_of_eq (congrArg Faults.top (s.begin_.mirror_fl _)).symm
    · exact if_pos (show (!s.dev.paired) = true by simp [h])
    · exact (if_neg (show ¬(!s.dev.paired) = true by simp [h])).trans (if_pos (beq_iff_eq.mpr hr))
    · exact (if_neg (show ¬(!s.dev.paired) = true by simp [h])).trans (if_neg (fun h => hr (beq_iff_eq.mp h)))
  · have hdue : exec .rehearsalDue s = s.done (if s.dev.role == 1 && s.dev.paired && s.dev.g 0x2C00 1 == 1 && s.dev.sys.st == .printing && s.dev.g 0x2C00 6 != 0 then
        (s.begin_.orderHandover 4).1 else s.begin_) := rfl
    have hord : (s.begin_.orderHandover 4) = if s.dev.handoverAllowed then ((s.begin_.askHandover 4).raise 100, 0) else (s.begin_.put 0x2C08 9 3, 0x0F00006A) := rfl
    refine ⟨fun h h1 h6 => ?_, fun h => .done (hdue.trans (congrArg s.done (if_neg ?_))), fun hr hp h1 hst h6 hn => ?_, fun h => ?_, fun t d ht hd => ?_⟩
    · have hc : s.dev.role = 1 ∧ s.dev.paired = true ∧ s.dev.sys.st = .printing := by
        simp only [Dev.handoverAllowed, Bool.and_eq_true, beq_iff_eq] at h
        obtain ⟨⟨⟨⟨⟨hr, hp⟩, -⟩, hst⟩, -⟩, -⟩ := h
        exact ⟨hr, hp, hst⟩
      obtain ⟨hr, hp, hst⟩ := hc
      refine .of_raise (hdue.trans (congrArg s.done ((if_pos (by simp [hr, hp, h1, hst, h6])).trans (congrArg Prod.fst (hord.trans (if_pos h)))))) rfl rfl
        (Nat.le_of_eq (congrArg Faults.top (s.begin_.mirror_fl _)).symm) rfl (by decide)
    · rcases h with h | h | h | h | h <;> simp [h]
    · exact .done (hdue.trans (congrArg s.done ((if_pos (by simp [hr, hp, h1, hst, h6])).trans (congrArg Prod.fst (hord.trans (if_neg (by simp [hn])))))))
    · exact .done (congrArg s.done (Dev.judgeRehearsal_none (d := s.begin_) h))
    · obtain ⟨hgood, hbad⟩ := Dev.judgeRehearsal_cases (d := s.begin_) ht hd
      exact ⟨fun h => .done (congrArg s.done (hgood h)), fun x hx hle e he => ⟨fun hn => .done (congrArg s.done ((hbad x hx hle e he).trans (if_neg (by simp [hn])))),
        fun hn => .done (congrArg s.done ((hbad x hx hle e he).trans (if_pos hn)))⟩⟩

end Sys2Proof.Machine
end

section
/-! PROOFS. Faults on the ladder, recoveries, the L3 restart, state saves and ALERT_N (R122, R402 to R423, R463). -/
namespace Sys2Proof.Machine

open Sys2Proof

/-- What an L3 restart answers for: its duration, the state, FAULT_N, the queues, HB_OUT and the ladder. -/
def ladderFace (d : Dev) : Nat × Sys × Bool × Bool × Bool × List Recovery × List Recovery :=
  (d.g 0x2208 9, d.sys, d.pins.faultN, d.jobs.paused, d.twin.hbOutStopped, d.fl.running, d.fl.queued)

theorem ladderFace_put {d : Dev} {i j v : Nat} (h : key i j ≠ key 0x2208 9) : ladderFace (d.put i j v) = ladderFace d := by
  simp only [ladderFace, Dev.g_put_ne _ _ h]
  rfl

theorem ladderFace_raise (d : Dev) (e m u x : Nat) (he : e < 255) : ladderFace (d.raise e m u x) = ladderFace d := by
  have hb := d.raise_bare e m u x he
  have hp : (d.raise e m u x).pins.faultN = d.pins.faultN :=
    show (d.raise e m u x).bare.pins.faultN = d.bare.pins.faultN by rw [hb]
  have hr : (d.raise e m u x).fl.running = d.fl.running :=
    show (d.raise e m u x).bare.fl.running = d.bare.fl.running by rw [hb]
  have hq : (d.raise e m u x).fl.queued = d.fl.queued :=
    show (d.raise e m u x).bare.fl.queued = d.bare.fl.queued by rw [hb]
  simp only [ladderFace, Dev.g_raise _ _ _ _ _ he (show eventKey (key 0x2208 9) = false from by decide), hp, hr, hq, Dev.raise_sys, Dev.raise_jobs, Dev.raise_twin]

theorem ladderFace_revoke (d : Dev) (n u : Nat) : ladderFace (d.revoke n u) = ladderFace d := by
  unfold Dev.revoke
  extract_lets e put _ noted pl sent
  have hput : ladderFace noted = ladderFace d :=
    (ladderFace_put (d := d) (i := 0x342A) (j := n + 1) (v := e) (by simp only [key]; omega))
  have hsent : ladderFace sent = ladderFace noted := by
    refine foldl_keeps ladderFace (fun d s => ?_) _ _
    dsimp only
    split <;> rfl
  split
  · exact (ladderFace_raise _ _ _ _ _ (by decide)).trans (hsent.trans hput)
  · exact hsent.trans hput

theorem ladderFace_undo (d : Dev) (n u : Nat) (r : Bool) : ladderFace (d.undo n u r) = ladderFace d := by
  unfold Dev.undo
  extract_lets b keep was cut counted more
  have hcounted : ladderFace counted = ladderFace d :=
    (ladderFace_put (d := cut.rewind n u) (i := 0x5001 + 0x100 * n) (j := 3) (by simp only [key]; omega)).trans rfl
  have hmore : ladderFace more = ladderFace counted := ladderFace_put (d := counted) (i := 0x5001 + 0x100 * n) (j := 4) (by simp only [key]; omega)
  split
  · split
    · exact (ladderFace_revoke _ _ _).trans (hmore.trans hcounted)
    · exact (foldl_keeps (f := fun (d : Dev) s => d.onLane s (fun l => { l with next := min l.next u })) ladderFace (fun d s => rfl) _ _).trans (hmore.trans hcounted)
  · exact hcounted

theorem ladderFace_resumeBar (d : Dev) (n : Nat) : ladderFace (d.resumeBar n) = ladderFace d := by
  unfold Dev.resumeBar
  split
  · rfl
  · split
    · rfl
    · extract_lets isOpen cut ended
      have hcut : ladderFace cut = ladderFace d := by
        show ladderFace (ite _ _ _) = _
        split
        · exact ladderFace_undo _ _ _ _
        · rfl
      have hended : ladderFace ended = ladderFace cut := rfl
      clear_value ended
      split
      · exact Eq.trans rfl (hended.trans hcut)
      · exact hended.trans hcut

theorem ladderFace_moveBasis (d : Dev) (n rep : Nat) : ladderFace (d.moveBasis n rep) = ladderFace d := by
  have hk : ∀ j, j < 4 → key (0x5008 + 0x100 * n) j ≠ key 0x2208 9 := fun j hj => by simp only [key]; omega
  unfold Dev.moveBasis
  rw [ladderFace_put (hk 3 (by decide)), ladderFace_put (hk 2 (by decide)), ladderFace_put (hk 1 (by decide))]
  rfl

theorem ladderFace_carry (d : Dev) (s : Nat) : ladderFace (d.carry s) = ladderFace d := by
  simp only [Dev.carry]
  split <;> rfl

theorem ladderFace_resumeAfter (d : Dev) (n : Nat) : ladderFace (d.resumeAfter n) = ladderFace d := by
  refine (ladderFace_resumeBar _ _).trans ?_
  unfold Dev.blank
  split <;> rfl

theorem ladderFace_resumePrint (d : Dev) : ladderFace d.resumePrint = ladderFace d := by
  simp only [Dev.resumePrint]
  split
  · rfl
  · exact (foldl_keeps ladderFace ladderFace_carry _ _).trans ((foldl_keeps ladderFace ladderFace_resumeAfter _ _).trans
      (foldl_keeps (f := fun (d : Dev) n => d.moveBasis n (d.liveRep n)) ladderFace (fun d n => ladderFace_moveBasis d n _) _ _))

theorem ladderFace_lanesOff (d : Dev) : ladderFace d.lanesOff = ladderFace d := by
  refine foldl_keeps ladderFace (fun d i => ?_) _ _
  exact Eq.trans rfl (ladderFace_put (d := d) (i := 0x3410) (j := i + 1) (v := 0) (by simp only [key]; omega))

theorem ladderFace_lanesTrain (d : Dev) : ladderFace d.lanesTrain = ladderFace d := by
  refine foldl_keeps ladderFace (fun d i => ?_) _ _
  dsimp only
  split
  · have h1 := ladderFace_put (d := d) (i := 0x3410) (j := i + 1) (v := 1) (by simp only [key]; omega)
    have h2 := ladderFace_put (d := d.put 0x3410 (i + 1) 1) (i := 0x3411) (j := i + 1) (v := 0) (by simp only [key]; omega)
    exact (h2.trans h1)
  · rfl

theorem ladderFace_resetCore (d : Dev) : ladderFace d.resetCore = ladderFace d := by
  have h : ladderFace (if d.printingLike then d.barList.foldl (fun d n => d.undo n (d.bar n).next false) d else d) = ladderFace d := by
    split
    · exact foldl_keeps (f := fun (d : Dev) n => d.undo n (d.bar n).next false) ladderFace (fun d n => ladderFace_undo _ _ _ _) _ _
    · rfl
  exact h

theorem ladderFace_dropSwaps (d : Dev) : ladderFace d.dropSwaps = ladderFace d :=
  foldl_keeps (f := fun (d : Dev) n => d.onBar n (fun b => { b with engineSwap := b.engineSwap.filter (fun e => e.ready) })) ladderFace (fun _ _ => rfl) _ _

namespace Dev

theorem closeSess_sys (d : Dev) (k : Nat) : (d.closeSess k).sys = d.sys := by
  unfold closeSess
  split
  · rfl
  · exact foldl_keeps (f := dropStaged) Dev.sys (fun _ _ => rfl) _ d

/-- Closing every session touches neither the state, nor the log, nor what was sent. -/
theorem closeAll_keeps (d : Dev) : (d.closeAll.sys, d.closeAll.fl, d.closeAll.out) = (d.sys, d.fl, d.out) :=
  foldl_keeps (fun d : Dev => (d.sys, d.fl, d.out)) (fun d k => by rw [d.closeSess_sys k, (d.closeSess_fl_out k).1, (d.closeSess_fl_out k).2]) _ _

end Dev

/-- The newest image so far, with its SEQUENCE, as the watchdog looks for it. -/
def newest (b : Option (Nat × Nat)) (x : Nat × Nat × Nat × Bytes) : Option (Nat × Nat) :=
  if x.2.1 != 1 && x.2.1 != 3 then b else match b with
    | some y => if decide (y.2 < x.2.2.1) then some (x.1, x.2.2.1) else b
    | none => some (x.1, x.2.2.1)

theorem newest_none {l : List (Nat × Nat × Nat × Bytes)} (h : ∀ p ∈ l, p.2.1 ≠ 1 ∧ p.2.1 ≠ 3) : l.foldl newest none = none := by
  induction l with
  | nil => rfl
  | cons p l ih =>
    have hp : newest none p = none := if_pos (by simp [h p (by simp)])
    rw [List.foldl_cons, hp]
    exact ih (fun q hq => h q (List.mem_cons_of_mem _ hq))

/-- An image that is newer than every other is found, from any that is not newer. -/
theorem newest_foldl {k : Nat} {x : Nat × Nat × Bytes} (hv : x.1 = 1 ∨ x.1 = 3) {l : List (Nat × Nat × Nat × Bytes)}
    (hl : ∀ p ∈ l, p ≠ (k, x) → (p.2.1 = 1 ∨ p.2.1 = 3) → p.2.2.1 < x.2.1) {b : Option (Nat × Nat)}
    (hb : b = some (k, x.2.1) ∨ ((∀ y, b = some y → y.2 < x.2.1) ∧ (k, x) ∈ l)) : l.foldl newest b = some (k, x.2.1) := by
  induction l generalizing b with
  | nil => simpa using hb
  | cons p l ih =>
    rw [List.foldl_cons]
    refine ih (fun q hq => hl q (List.mem_cons_of_mem _ hq)) ?_
    by_cases hp : p = (k, x)
    · left
      have hne : ¬(x.1 != 1 && x.1 != 3) = true := by rcases hv with h | h <;> simp [h]
      subst hp
      rcases hb with rfl | ⟨hb, -⟩
      · exact (if_neg hne).trans (if_neg (by simp))
      · cases b with
        | none => exact if_neg hne
        | some y => exact (if_neg hne).trans (if_pos (decide_eq_true (hb y rfl)))
    · by_cases hpv : p.2.1 = 1 ∨ p.2.1 = 3
      · have hlt := hl p List.mem_cons_self hp hpv
        have hne : ¬(p.2.1 != 1 && p.2.1 != 3) = true := by rcases hpv with h | h <;> simp [h]
        rcases hb with rfl | ⟨hb, hm⟩
        · left
          exact (if_neg hne).trans (if_neg (by simp; omega))
        · refine .inr ⟨fun y hy => ?_, (List.mem_cons.mp hm).resolve_left (Ne.symm hp)⟩
          cases b with
          | none =>
            have : some (p.1, p.2.2.1) = some y := (if_neg hne).symm.trans hy
            cases this
            exact hlt
          | some z =>
            have hz : newest (some z) p = if decide (z.2 < p.2.2.1) then some (p.1, p.2.2.1) else some z := if_neg hne
            rw [hz] at hy
            split at hy
            · cases hy
              exact hlt
            · cases hy
              exact hb _ rfl
      · have hskip : newest b p = b := if_pos (by simpa [not_or] using hpv)
        rw [hskip]
        exact hb.imp_right (fun h => ⟨h.1, (List.mem_cons.mp h.2).resolve_left (Ne.symm hp)⟩)

theorem Table.mem_of_find? {α : Type} {t : Table α} {k : Nat} {v : α} (h : t.find? k = some v) : (k, v) ∈ t := by
  induction t with
  | nil => cases h
  | cons e t ih =>
    obtain ⟨j, w⟩ := e
    simp only [Table.find?] at h
    split at h
    · next hj =>
      subst hj
      cases h
      exact List.mem_cons_self
    · exact List.mem_cons_of_mem _ (ih h)

namespace Dev

theorem fault_boot {d : Dev} (h : d.sys.st = .boot) (l e u m x : Nat) : d.fault l e u m x = d.raiseAt l e m 0xFF x := by
  simp [fault, h]

/-- The management watchdog in Boot (R463). -/
theorem watchdog_boot {d f : Dev} (h : d.sys.st = .boot) (hf : f = (d.raiseAt 1 10 0 0xFF 0).closeAll) :
    (d.sys.bootTries ≠ 1 → d.watchdog = { f with sys := { d.sys with bootTries := d.sys.bootTries + 1 } }) ∧
    (d.sys.bootTries = 1 → d.sys.slots.foldl newest none = none → d.watchdog = { f with sys := { d.sys with bootTries := 0 } }) ∧
    (∀ k n x, d.sys.bootTries = 1 → d.sys.slots.foldl newest none = some (k, n) → d.sys.slots.get (0, 0, []) k = x →
      d.watchdog = ({ f with sys := { d.sys with bootTries := 0, slots := d.sys.slots.set k (2, x.2) } } : Dev).raise 2) := by
  have hsys : f.sys = d.sys := by
    rw [hf]
    exact (congrArg Prod.fst (d.raiseAt 1 10 0 0xFF 0).closeAll_keeps).trans (d.raiseAt_sys _ _ _ _ _)
  have hw : d.sys.bootTries = 1 → d.watchdog = match d.sys.slots.foldl newest none with
      | some (k, _) => ({ f with sys := { d.sys with bootTries := 0, slots := d.sys.slots.set k (2, (d.sys.slots.get (0, 0, []) k).2) } } : Dev).raise 2
      | none => { f with sys := { d.sys with bootTries := 0 } } := fun hb => by
    simp only [watchdog, if_pos h, fault_boot h, ← hf, hsys, hb]
    rfl
  refine ⟨fun hb => ?_, fun hb hn => ?_, fun k n x hb hn hx => ?_⟩
  · simp only [watchdog, if_pos h, fault_boot h, ← hf, hsys]
    exact if_neg (by simpa using hb)
  · rw [hw hb, hn]
  · rw [hw hb, hn]
    simp only [hx]

/-- A fault that the ladder does not take is only reported (R402). -/
theorem fault_idle {d : Dev} (level e unit mask detail : Nat)
    (h : d.sys.st = .fault ∨ d.sys.st = .boot ∨ d.sys.st = .off ∨ (d.fast = false ∧ e ∉ [10, 106, 117]) ∨ ∃ x ∈ d.fl.running, 4 ≤ x.level) :
    d.fault level e unit mask detail = d.raiseAt level e mask 0xFF detail := by
  refine if_pos ?_
  simp only [Bool.or_eq_true, decide_eq_true_eq, Bool.and_eq_true, Bool.not_eq_true', bne_iff_ne, List.any_eq_true]
  simp only [List.mem_cons, List.not_mem_nil, or_false, not_or] at h
  rcases h with h | h | h | ⟨h, h1, h2, h3⟩ | ⟨x, hx, h⟩
  · exact .inl (.inl (.inl (.inl h)))
  · exact .inl (.inl (.inl (.inr h)))
  · exact .inl (.inl (.inr h))
  · exact .inl (.inr ⟨⟨⟨h, h1⟩, h2⟩, h3⟩)
  · exact .inr ⟨x, hx, h⟩

/-- A fault that the ladder takes, by what it overlaps and how often it came (R412, R413). -/
theorem fault_taken {d : Dev} {level e unit mask detail : Nat} {r : Recovery}
    (hr : r = { id := 0, event := e, unit := unit, mask := mask, detail := detail, level := level, start := d.t })
    (h : ¬(d.sys.st = .fault ∨ d.sys.st = .boot ∨ d.sys.st = .off ∨ (d.fast = false ∧ e ∉ [10, 106, 117]) ∨ ∃ x ∈ d.fl.running, 4 ≤ x.level)) :
    (d.fl.running.filter (fun x => overlap x r) = [] → d.fault level e unit mask detail =
      if level = 1 ∧ d.thirdL1 r = true then
        ((d.escalate r 1 (if d.hasSpare e then 2 else 4)).1.raiseAt (d.escalate r 1 (if d.hasSpare e then 2 else 4)).2 e mask 0xFF detail).startRec
          { r with level := (d.escalate r 1 (if d.hasSpare e then 2 else 4)).2 }
      else (d.raiseAt (d.levelTaken level e unit) e mask 0xFF detail).startRec r) ∧
    (∀ top f lv, d.fl.running.filter (fun x => overlap x r) ≠ [] → top = (d.fl.running.filter (fun x => overlap x r)).foldl (fun m y => max m y.level) level →
      d.escalate r level (min (top + 1) 4) = (f, lv) → ∀ g, g = f.raiseAt lv e mask 0xFF detail →
      d.fault level e unit mask detail = { g with fl := { g.fl with queued := g.fl.queued ++ [{ r with level := lv }] } }) := by
  have hc : ¬((d.sys.st = .fault || d.sys.st = .boot || d.sys.st = .off || (!d.fast && e != 10 && e != 106 && e != 117)) ||
      d.fl.running.any (fun x => decide (4 ≤ x.level))) = true := by
    simp only [Bool.or_eq_true, decide_eq_true_eq, Bool.and_eq_true, Bool.not_eq_true', bne_iff_ne, List.any_eq_true]
    rintro ((((h' | h') | h') | ⟨⟨⟨h', h1⟩, h2⟩, h3⟩) | h')
    · exact h (.inl h')
    · exact h (.inr (.inl h'))
    · exact h (.inr (.inr (.inl h')))
    · exact h (.inr (.inr (.inr (.inl ⟨h', by simp [h1, h2, h3]⟩))))
    · exact h (.inr (.inr (.inr (.inr h'))))
  subst hr
  refine ⟨fun hf => ?_, fun top f lv hf ht he g hg => ?_⟩
  · refine (if_neg hc).trans ?_
    simp only [hf, Bool.and_eq_true, beq_iff_eq]
  · refine (if_neg hc).trans ?_
    subst hg ht
    cases hx : d.fl.running.filter (fun x => overlap x { id := 0, event := e, unit := unit, mask := mask, detail := detail, level := level, start := d.t }) with
    | nil => exact absurd hx hf
    | cons x xs =>
      rw [hx] at he
      simp only [he]

/-- An escalation is reported, and the third in 10 s is taken at L4 (R412, R413). -/
theorem escalate_cases {d f : Dev} {r : Recovery} {a b n : Nat} (hf : f = { d with fl := { d.fl with escalations := (d.t :: d.fl.escalations).take 16 } })
    (hn : n = (f.fl.escalations.filter (fun t => decide (d.t < t + 10000000000))).length) :
    (n < 3 → d.escalate r a b = (f.raiseAt b 8 (if 3 ≤ b then 0xFF else r.mask) r.event (a * 2 ^ 24 + b * 2 ^ 16 + n), b)) ∧
    (3 ≤ n → d.escalate r a b = ((f.raiseAt 4 8 0xFF r.event (a * 2 ^ 24 + 4 * 2 ^ 16 + n)).raise 127, 4)) := by
  have he : f.escRecent = n := by
    rw [hn, hf]
    rfl
  refine ⟨fun h => ?_, fun h => ?_⟩
  · have h3 : decide (3 ≤ n) = false := decide_eq_false (by omega)
    simp only [escalate, ← hf, he, h3, Bool.false_eq_true, if_false, decide_eq_true_eq]
  · simp only [escalate, ← hf, he, decide_eq_true h, if_true, Nat.reduceLeDiff, decide_true]

theorem thirdL1_cases (d : Dev) (r : Recovery) :
    (d.printingLike = false ∨ r.mask = 0 → (d.thirdL1 r = true ↔
      2 ≤ (d.fl.recentL1.filter (fun x => x.1 == r.event * 256 + r.unit && decide (d.t < x.2.1 + 1000000000))).length)) ∧
    (d.printingLike = true → r.mask ≠ 0 → (d.thirdL1 r = true ↔
      2 ≤ (d.fl.recentL1.filter (fun x => x.1 == r.event * 256 + r.unit && x.2.2 == d.g 0x2015 (lowestBar r.mask + 1))).length)) := by
  refine ⟨fun h => ?_, fun hp hm => ?_⟩
  · have hc : (r.mask != 0 && d.printingLike) = false := by rcases h with h | h <;> simp [h]
    simp only [thirdL1, hc, Bool.false_eq_true, if_false, decide_eq_true_eq]
  · have hc : (r.mask != 0 && d.printingLike) = true := by simp [hp, hm]
    simp only [thirdL1, hc, if_true, decide_eq_true_eq]

theorem spareEngine_bump {d : Dev} {i j : Nat} (h : ∀ k, key i j ≠ key 0x2E07 k) : (d.bump i j).spareEngine = d.spareEngine := by
  unfold spareEngine
  simp only [g_bump_ne _ (h _)]
  rfl

/-- What a recovery that has been numbered and counted does at its level (R404 to R410). -/
def beginRec (d : Dev) (r : Recovery) : Dev :=
  match r.level with
  | 1 =>
    let d := { d with fl := { d.fl with running := d.fl.running ++ [r], recentL1 := (r.event * 256 + r.unit, d.t, d.g 0x2015 (lowestBar r.mask + 1)) :: d.fl.recentL1 } }
    if r.event == 10 then d.closeAll
    else if r.event == 66 then
      match d.cams.find? r.unit with
      | some c => { d with cams := d.cams.set r.unit { c with frame := c.frame.map (fun f => { f with flags := setBit f.flags 2 true, dropping := true }) } }
      | none => d
    else if d.printingLike then (d.barList.filter (fun n => bit r.mask n)).foldl (fun d n => d.recoverUndo n (d.uRevoke n)) d
    else d
  | 2 =>
    if blockKind r.event == 25 then
      match d.spareEngine, d.barOf r.unit with
      | some e, some n =>
        let d := { d with fl := { d.fl with running := d.fl.running ++ [r] } }
        let d := d.onBar n (fun b => { b with engineSwap := some { old := r.unit, new_ := e } })
        let hot := d.paired && d.g 0x2C00 1 == 2
        let u := d.uRevoke n
        if !d.printingLike then d
        else if hot then (d.recoverUndo n u).withhold n (2 ^ 60)
        else (d.recoverUndo n u).blank n u (2 ^ 60) 8
      | _, _ => d
    else { d with fl := { d.fl with running := d.fl.running ++ [r] } }
  | 3 => d.beginL3 r
  | _ => d.takeL4 r

/-- A recovery starts at its level, numbered and counted (R402 to R410). -/
theorem startRec_eq {d e : Dev} {r x : Recovery} (hx : x = { r with id := d.fl.nextId, start := d.t, level := d.levelTaken r.level r.event r.unit })
    (he : e = (({ d with fl := { d.fl with nextId := d.fl.nextId + 1, lastL2 := if 2 ≤ x.level then some d.t else d.fl.lastL2 } } : Dev).bump
      0x2208 (3 + x.level))) : d.startRec r = e.beginRec x := by
  have he' : e = (({ d with fl := { d.fl with nextId := d.fl.nextId + 1, lastL2 := if decide (2 ≤ x.level) then some d.t else d.fl.lastL2 } } : Dev).bump
      0x2208 (3 + x.level)) := by
    simp only [he, decide_eq_true_eq]
  rw [he', hx]
  rfl

theorem beginRec_cases (d : Dev) (r : Recovery) :
    (∀ f : Dev, r.level = 1 → f = { d with fl := { d.fl with
        running := d.fl.running ++ [r]
        recentL1 := (r.event * 256 + r.unit, d.t, d.g 0x2015 (lowestBar r.mask + 1)) :: d.fl.recentL1 } } →
      (r.event = 10 → d.beginRec r = f.closeAll) ∧
      (r.event ≠ 10 → r.event ≠ 66 → d.beginRec r =
        if f.printingLike = true then (f.barList.filter (fun n => bit r.mask n)).foldl (fun d n => d.recoverUndo n (d.uRevoke n)) f else f)) ∧
    (r.level = 2 → blockKind r.event ≠ 25 → d.beginRec r = { d with fl := { d.fl with running := d.fl.running ++ [r] } }) ∧
    (∀ new n, r.level = 2 → blockKind r.event = 25 → d.spareEngine = some new → d.barOf r.unit = some n → d.printingLike = false → d.beginRec r =
      ({ d with fl := { d.fl with running := d.fl.running ++ [r] } } : Dev).onBar n (fun b => { b with engineSwap := some { old := r.unit, new_ := new } })) ∧
    (r.level = 3 → d.beginRec r = d.beginL3 r) ∧ (4 ≤ r.level → d.beginRec r = d.takeL4 r) := by
  refine ⟨fun f hl hf => ⟨fun h => ?_, fun h h' => ?_⟩, fun hl hk => ?_, fun new n hl hk hs hb hp => ?_, fun hl => ?_, fun hl => ?_⟩
  · subst hf
    simp only [beginRec, hl, beq_iff_eq, if_pos h]
  · subst hf
    simp only [beginRec, hl, beq_iff_eq, if_neg h, if_neg h']
  · simp only [beginRec, hl, beq_iff_eq, if_neg hk]
  · simp only [beginRec, hl, beq_iff_eq, if_pos hk, hs, hb]
    exact if_pos (show (!d.printingLike) = true by simp [hp])
  · simp only [beginRec, hl]
  · simp only [beginRec]
    split
    · omega
    · omega
    · omega
    · rfl

theorem lowestBar_lt (m : Nat) : lowestBar m < 8 := by
  unfold lowestBar
  cases h : (List.range 8).find? (fun n => bit m n) with
  | none => decide
  | some k => exact List.mem_range.mp (List.mem_of_find?_eq_some h)

theorem levelTaken_cases (d : Dev) (l e u : Nat) :
    (l = 2 → blockKind e = 25 → (d.spareEngine = none ∨ d.barOf u = none) → d.levelTaken l e u = 4) ∧
    (l = 3 → d.role = 1 → d.synced = true → d.levelTaken l e u = 4) ∧
    (l ≠ 2 → (l ≠ 3 ∨ d.role ≠ 1 ∨ d.synced = false) → d.levelTaken l e u = l) := by
  refine ⟨fun hl hk h => ?_, fun hl hr hs => ?_, fun hl h => ?_⟩
  · refine if_pos ?_
    rcases h with h | h <;> simp [hl, hk, h]
  · subst hl
    exact (if_neg (by simp)).trans (if_pos (by simp [hr, hs]))
  · refine (if_neg (by simp [hl])).trans (if_neg ?_)
    rcases h with h | h | h <;> simp [h]

theorem takeL4_cases (d : Dev) (r : Recovery) :
    ((d.role ≠ 1 ∨ d.synced = false) → d.printingLike = false → d.takeL4 r = (d.raise 13 0 r.event r.detail).enterFault) ∧
    (∀ h : Dev, d.role = 1 → d.synced = true → h = (d.sendHandover 1).put 0x2C08 1 4 →
      d.takeL4 r = (({ h with twin := { h.twin with hbOutStopped := true } } : Dev).beginL3 r).relinquish) := by
  refine ⟨fun h hp => ?_, fun h hr hs hh => ?_⟩
  · have hc : ¬(d.role == 1 && d.synced) = true := by rcases h with h | h <;> simp [h]
    simp only [takeL4, if_neg hc, hp, Bool.false_eq_true, if_false]
  · subst hh
    exact if_pos (by simp [hr, hs])

theorem recovery_found {d f : Dev} {r : Recovery} (hr : d.fl.running.find? (fun x => x.id == r.id) = some r)
    (hf : f = { d with fl := { d.fl with running := d.fl.running.filter (fun x => x.id != r.id) } }) :
    d.recoveryComplete r.id = (if 3 ≤ r.level ∨ r.event = 50 then d else
      (if r.level = 2 ∧ blockKind r.event = 25 then f.engineReady r.unit else f).startQueued) ∧
    d.recoveryTimeout r.id = if 4 ≤ r.level then d else
      (f.escalate r r.level (min (r.level + 1) 4)).1.startRec { r with level := (f.escalate r r.level (min (r.level + 1) 4)).2 } := by
  subst hf
  constructor
  · simp only [recoveryComplete, hr, Bool.or_eq_true, Bool.and_eq_true, decide_eq_true_eq, beq_iff_eq]
  · simp only [recoveryTimeout, hr, decide_eq_true_eq, overrun]

theorem recovery_gone {d : Dev} {id : Nat} (h : ∀ r ∈ d.fl.running, r.id ≠ id) : d.recoveryComplete id = d ∧ d.recoveryTimeout id = d := by
  have hn : d.fl.running.find? (fun r => r.id == id) = none := by
    rw [List.find?_eq_none]
    intro r hr hid
    exact h r hr (beq_iff_eq.mp hid)
  simp only [recoveryComplete, recoveryTimeout, hn, and_self]

end Dev

theorem ladderFace_enter (d : Dev) (st : DState) : ladderFace (d.enter st) = ladderFace { d with sys := { d.sys with st := st } } :=
  ladderFace_raise _ _ _ _ _ (by decide)

/-- An L3 restart begins (R407, R504). -/
theorem ladderFace_beginL3 {d : Dev} (r : Recovery) (ho : d.com.op = none) (hst : d.sys.st ≠ .restarting) :
    ladderFace (d.beginL3 r) = (d.g 0x2208 9, { d.sys with st := .restarting, before := d.sys.st, restartStart := d.t }, true, true, d.twin.hbOutStopped,
      [{ r with level := 3, start := d.t }], d.fl.queued) := by
  have hop : d.abandonOp 0x0F000011 = d := by simp only [Dev.abandonOp, ho]
  have hdrop := ladderFace_dropSwaps d
  have hmark : ladderFace (d.dropSwaps.markL3 r) = (d.g 0x2208 9, { d.sys with before := d.sys.st, restartStart := d.t }, true, true, d.twin.hbOutStopped,
      [{ r with level := 3, start := d.t }], d.fl.queued) := by
    have ht : d.dropSwaps.t = d.t := foldl_keeps (f := fun (d : Dev) n => d.onBar n (fun b => { b with engineSwap := b.engineSwap.filter (fun e => e.ready) }))
      Dev.t (fun _ _ => rfl) _ _
    obtain ⟨hg, hsys, -, -, hhb, -, hq⟩ : _ ∧ _ ∧ _ ∧ _ ∧ _ ∧ _ ∧ _ := by simpa only [ladderFace, Prod.mk.injEq] using hdrop
    show ((d.dropSwaps).g 0x2208 9, _, _) = _
    simp only [Dev.markL3, ht, hsys, if_neg hst, hhb, hq, hg]
  have hreset : ladderFace (((d.dropSwaps.markL3 r).raise 14).lanesOff.lanesTrain).resetCore = ladderFace (d.dropSwaps.markL3 r) :=
    (ladderFace_resetCore _).trans ((ladderFace_lanesTrain _).trans ((ladderFace_lanesOff _).trans (ladderFace_raise _ _ _ _ _ (by decide))))
  have hface := hreset.trans hmark
  unfold Dev.beginL3
  rw [hop]
  extract_lets _ x
  have hface : ladderFace x = _ := hface
  clear_value x
  obtain ⟨hg, hsys, hf, hp, hhb, hr, hq⟩ : _ ∧ _ ∧ _ ∧ _ ∧ _ ∧ _ ∧ _ := by simpa only [ladderFace, Prod.mk.injEq] using hface
  rw [if_neg (fun h => hst (by rw [hsys] at h; exact h)), ladderFace_enter]
  simp only [ladderFace, hsys, hf, hp, hhb, hr, hq, Prod.mk.injEq, and_true]
  exact ⟨hg, rfl⟩

/-- An L3 restart without a saved set or a queued fault ends in the state before it (R407, R504). -/
theorem ladderFace_endL3 {d : Dev} (hq : d.fl.queued = []) (hp : d.sys.preparing = false) :
    ladderFace d.endL3 = ((d.t - d.sys.restartStart) / 1000 % 4294967296, { d.sys with laneRef := true, st := d.sys.before }, false,
      !(d.jobs.link && d.sys.pcieRef), false, [], []) := by
  unfold Dev.endL3
  extract_lets us noted before _ _ _ _ _ ended
  have hface : ladderFace noted = ladderFace (d.put 0x2208 9 us) := ladderFace_raise _ _ _ _ _ (by decide)
  have hjobs : noted.jobs = d.jobs := Dev.raise_jobs _ _ _ _ _
  have hsys : noted.sys = d.sys := congrArg (fun f => f.2.1) hface
  have hqueued : noted.fl.queued = [] := (congrArg (fun f => f.2.2.2.2.2.2) hface).trans hq
  have hus : noted.g 0x2208 9 = us := (congrArg Prod.fst hface).trans (Dev.g_put_self _ _ _ _)
  have hbefore : before = d.sys.before := congrArg Sys.before hsys
  have hend : ladderFace ended = (us, { d.sys with laneRef := true }, false, !(d.jobs.link && d.sys.pcieRef), false, [], []) := by
    have hg : ended.g 0x2208 9 = us := hus
    have hs : ended.sys = { noted.sys with laneRef := true } := rfl
    have hj : ended.jobs.paused = !(noted.jobs.link && noted.sys.pcieRef) := rfl
    have hq : ended.fl.queued = noted.fl.queued := rfl
    simp only [ladderFace, hg, hs, hj, hq, hsys, hjobs, hqueued]
    rfl
  clear_value ended
  have hface : ladderFace (ended.enter before).resumePrint = (us, { d.sys with laneRef := true, st := d.sys.before }, false,
      !(d.jobs.link && d.sys.pcieRef), false, [], []) := by
    refine (ladderFace_resumePrint _).trans ((ladderFace_enter _ _).trans ?_)
    obtain ⟨hg, hs, hf, hpa, hhb, hr, hq⟩ : _ ∧ _ ∧ _ ∧ _ ∧ _ ∧ _ ∧ _ := by simpa only [ladderFace, Prod.mk.injEq] using hend
    simp only [ladderFace, hs, hf, hpa, hhb, hr, hq, hbefore, Prod.mk.injEq, and_true]
    exact hg
  generalize (ended.enter before).resumePrint = x at hface
  have hxs : x.sys = { d.sys with laneRef := true, st := d.sys.before } := congrArg (fun f => f.2.1) hface
  have hxq : x.fl.queued = [] := congrArg (fun f => f.2.2.2.2.2.2) hface
  have hprep : x.prepareDone = x := if_neg (by simp [hxs, hp])
  have hstart : x.startQueued = x := by simp only [Dev.startQueued, hxq, List.foldl_nil]
  rw [hprep, hstart]
  exact hface

theorem Dev.saveSlot_none {d : Dev} (h : ∀ k, k < 2 → (d.saves.find? k).isSome = true → bit d.fl.savePoison k = true) : d.saveSlot = none := by
  unfold Dev.saveSlot
  rw [List.find?_eq_none]
  intro k hk hs
  simp only [Bool.and_eq_true, Bool.not_eq_true'] at hs
  have hk2 : k < 2 := by
    simp only [List.mem_cons, List.not_mem_nil, or_false] at hk
    omega
  exact Bool.false_ne_true (hs.2.symm.trans (h k hk2 hs.1))

theorem beginL3_faces {d : Dev} (r : Recovery) (ho : d.com.op = none) (hst : d.sys.st ≠ .restarting) :
    (d.beginL3 r).sys = { d.sys with st := .restarting, before := d.sys.st, restartStart := d.t } ∧ (d.beginL3 r).pins.faultN = true ∧
      (d.beginL3 r).jobs.paused = true := by
  have h := ladderFace_beginL3 r ho hst
  obtain ⟨-, hsys, hf, hp, -⟩ : _ ∧ _ ∧ _ ∧ _ ∧ _ := by simpa only [ladderFace, Prod.mk.injEq] using h
  exact ⟨hsys, hf, hp⟩

/-- The command begins an L3 restart (R407). -/
theorem commandedL3_faces {d : Dev} (ho : d.com.op = none) (hst : d.sys.st ≠ .restarting) (hrole : d.role ≠ 1 ∨ d.synced = false) :
    d.commandedL3.sys = { d.sys with st := .restarting, before := d.sys.st, restartStart := d.t } ∧ d.commandedL3.pins.faultN = true ∧
      d.commandedL3.jobs.paused = true := by
  have hl : ({ d with fl := { d.fl with running := [], queued := [] } } : Dev).levelTaken 3 14 0xFF = 3 :=
    (Dev.levelTaken_cases _ 3 14 0xFF).2.2 (by decide) (.inr hrole)
  have hs : d.commandedL3 = _ := Dev.startRec_eq (d := { d with fl := { d.fl with running := [], queued := [] } })
    (r := { id := 0, event := 14, unit := 0xFF, mask := 0, detail := 0, level := 3, start := d.t, commanded := true }) rfl rfl
  rw [(Dev.beginRec_cases _ _).2.2.2.1 hl] at hs
  rw [hs]
  exact beginL3_faces _ ho hst

theorem Dev.writeWarmRestart_begins {d : Dev} (h : d.sys.st = .ready ∨ d.sys.st = .armed ∨ d.sys.st = .printing ∨ d.sys.st = .stopping)
    (hr : d.fl.running.any (fun r => decide (3 ≤ r.level)) = false) : d.writeWarmRestart = (d.commandedL3, 0) := by
  have hc : (if d.fl.running.any (fun r => decide (3 ≤ r.level)) then (d, 0x08000022) else (d.commandedL3, 0)) = (d.commandedL3, 0) := if_neg (by simp only [hr, Bool.false_eq_true, not_false_eq_true])
  rcases h with h | h | h | h <;> simp only [Dev.writeWarmRestart, h, hc]

theorem Dev.writeWarmRestart_refused {d : Dev} (h : d.sys.st = .standby ∨ d.sys.st = .waking ∨ d.sys.st = .fault ∨ d.sys.st = .restarting ∨
    d.fl.running.any (fun r => decide (3 ≤ r.level)) = true) : d.writeWarmRestart = (d, 0x08000022) := by
  rcases h with h | h | h | h | h
  · simp only [Dev.writeWarmRestart, h]
  · simp only [Dev.writeWarmRestart, h]
  · simp only [Dev.writeWarmRestart, h]
  · simp only [Dev.writeWarmRestart, h]
  · simp only [Dev.writeWarmRestart, h, if_true]
    split <;> rfl

theorem Dev.writeAlertClear_one (d : Dev) :
    d.writeAlertClear 1 = if d.pins.faultN then (d, 0x08000022) else ({ d with pins := { d.pins with alertN := false } }, 0) := rfl

theorem Dev.writeTest_other (d : Dev) {v : Nat} (h : 1 < v) : d.writeAlertClear v = (d, 0x06090030) ∧ d.writeTestEvent v = (d, 0x06090030) := by
  have h0 : ¬(v == 0) = true := by simp; omega
  have h1 : (v != 1) = true := by simp; omega
  simp only [Dev.writeAlertClear, Dev.writeTestEvent, if_neg h0, if_pos h1, and_self]

/-- Settles O55, by the cases of the ladder: where a fault is placed, what a recovery does at its level, and how it ends. L3 becomes L4 only where
printing and every saved set is POISON, the other levels taken are the model's reading (log 61), and events 10, 106 and 117 act with the fast
domains stopped (log 84). -/
theorem faultsClimbTheLadderAndEnd : Obligations.FaultsClimbTheLadderAndEnd := by
  unfold Obligations.FaultsClimbTheLadderAndEnd
  refine ⟨fun s e unit full detail mask hm => ⟨fun h => ?_, fun h => ?_, fun h => ?_, fun h m h1 h2 => ?_, fun h => ?_, ?_⟩, fun s d => ⟨fun h => .done (congrArg s.done (if_neg h)), fun h hd => ?_⟩,
    fun d level e unit mask detail r idle hr hidle => ?_, fun d f r a b n hf hn => ?_, fun d e r x hx he => ?_, fun d h r => ⟨(Dev.takeL4_cases d r).1, (Dev.takeL4_cases d r).2 h⟩,
    fun s r d hr hd => ?_, fun s id h => ?_, fun s us hst => ⟨fun hs hq hp hus => ?_, fun hs hn hp => ?_, Dev.saveSlot_none⟩, fun s h => ?_,
    fun s sess hs => ⟨fun hst hrun hrole => ?_, fun h => ?_⟩, fun s k d hk hd => ⟨fun h => ?_, fun h => ?_, fun b h => ?_⟩, fun s sess hs => ?_⟩
  · exact .done (congrArg s.done (if_pos (by simpa [Dev.blockEvents] using h)))
  · subst hm
    exact .done (congrArg s.done (if_neg (by simpa using h)))
  · subst hm
    exact .done (congrArg s.done (if_pos (by simpa using h)))
  · have hm' : m = match s.begin_.barOf unit with
        | some n => 2 ^ n
        | none => 0 := by
      cases hb : s.begin_.barOf unit with
      | none => exact h2 hb
      | some n => exact h1 n hb
    subst hm'
    rcases h with rfl | rfl <;> exact .done rfl
  · subst hm
    simp only [List.mem_cons, List.not_mem_nil, or_false] at h
    rcases h with rfl | rfl | rfl | rfl | rfl | rfl <;> exact .done rfl
  · subst hm
    exact .done rfl
  · obtain ⟨h1, h2, h3⟩ := Dev.watchdog_boot (d := s.begin_) h hd
    refine ⟨fun hb => .done (congrArg s.done (h1 hb)), fun hb hno => .done (congrArg s.done (h2 hb (newest_none hno))), fun k x hb hx hv hnew => ?_⟩
    · have hget : s.begin_.sys.slots.get (0, 0, []) k = x := by
        rw [Table.get_eq_find?, show s.begin_.sys.slots.find? k = some x from hx]
        rfl
      have h3 := h3 k _ x hb (newest_foldl hv hnew (.inr ⟨by simp, Table.mem_of_find? hx⟩)) hget
      have hfl : d.fl = (s.begin_.raiseAt 1 10 0 0xFF 0).fl := by
        rw [hd]
        exact congrArg (fun f => f.2.1) (s.begin_.raiseAt 1 10 0 0xFF 0).closeAll_keeps
      refine .of_raise (x := 0) (congrArg s.done h3) rfl rfl ?_ rfl (by decide)
      show s.dev.fl.top ≤ d.fl.top
      rw [hfl]
      exact Nat.le_of_lt (s.begin_.raiseAt_logged 1 10 0 0xFF 0).1
  · rw [hidle]
    refine ⟨fun h => Dev.fault_idle _ _ _ _ _ h, fun h hno => ?_, fun top lv f g h hany htop hesc hg => ?_⟩
    · have hf := (Dev.fault_taken hr h).1 (List.filter_eq_nil_iff.mpr (fun x hx => by simp [hno x hx]))
      refine ⟨fun hl => hf.trans (if_neg ?_), fun hl h3 lv f hesc => ?_⟩
      · rintro ⟨h1, h2⟩
        exact hl.elim (fun h => h h1) (fun h => Bool.false_ne_true (h.symm.trans h2))
      · have hsp : (if d.hasSpare e then 2 else 4) = if blockKind e = 25 ∧ d.spareEngine.isSome = true then 2 else 4 := by
          simp only [Dev.hasSpare, Bool.and_eq_true, beq_iff_eq]
        rw [hf, if_pos ⟨hl, h3⟩, hsp, hesc]
    · refine (Dev.fault_taken hr h).2 top f lv (fun hnil => ?_) htop hesc g hg
      obtain ⟨x, hx, ho⟩ := List.any_eq_true.mp hany
      exact List.filter_eq_nil_iff.mp hnil x hx ho
  · obtain ⟨h1, h2⟩ := Dev.escalate_cases (r := r) (a := a) (b := b) hf hn
    exact ⟨h1, h2, d.thirdL1_cases r⟩
  · have hs := Dev.startRec_eq hx he
    obtain ⟨c1, c2, c3, c4, c5⟩ := Dev.beginRec_cases e x
    obtain ⟨l1, l2, l3⟩ := d.levelTaken_cases r.level r.event r.unit
    have hlev : x.level = d.levelTaken r.level r.event r.unit := by rw [hx]
    have hev : x.event = r.event := by rw [hx]
    have hun : x.unit = r.unit := by rw [hx]
    have hma : x.mask = r.mask := by rw [hx]
    have hbar : e.barOf = d.barOf := by rw [he]; rfl
    have hpl : e.printingLike = d.printingLike := by rw [he]; rfl
    have hg : ∀ i k, i ≠ 0x2208 → k < 256 → x.level < 100 → e.g i k = d.g i k := fun i k hi hk hl => by
      rw [he]
      exact Dev.g_bump_ne _ (by simp only [key]; omega)
    have het : e.t = d.t := by rw [he]; rfl
    have hbars : e.barList = d.barList := by rw [he]; rfl
    rw [hs]
    refine ⟨fun f hl hf => ?_, fun hl hk => c2 hl (hev ▸ hk), fun new n hl hk hsp hb hp => ?_, c4, c5, hlev ▸ l1, hlev ▸ l2, hlev ▸ l3⟩
    · have hf' : f = { e with fl := { e.fl with
          running := e.fl.running ++ [x]
          recentL1 := (x.event * 256 + x.unit, e.t, e.g 0x2015 (Dev.lowestBar x.mask + 1)) :: e.fl.recentL1 } } := by
        have := Dev.lowestBar_lt r.mask
        rw [hf, hev, hun, hma, het, hg 0x2015 _ (by decide) (by omega) (by omega)]
      obtain ⟨h10, hother⟩ := c1 f hl hf'
      rw [hev] at h10 hother
      refine ⟨h10, fun h h' => (hother h h').trans ?_⟩
      rw [hma, show f.printingLike = d.printingLike from (by rw [hf]; exact hpl), show f.barList = d.barList from (by rw [hf]; exact hbars)]
    · have hse : e.spareEngine = some new := by
        rw [he, Dev.spareEngine_bump (fun k => by rw [hl]; simp only [key]; omega)]
        exact hsp
      have hc := c3 new n hl (by rw [hev]; exact hk) hse (by rw [hbar, hun]; exact hb) (hpl.trans hp)
      rw [hun] at hc
      exact hc
  · obtain ⟨h1, h2⟩ := Dev.recovery_found (d := s.begin_) hr hd
    refine ⟨fun hl he hk => .done (congrArg s.done (h1.trans ?_)), fun hl hk => .done (congrArg s.done (h1.trans ?_)),
      fun h => .done (congrArg s.done (h1.trans (if_pos h))), fun h => .done (congrArg s.done (h2.trans (if_pos h))),
      fun f lv hl hesc => .done (congrArg s.done (h2.trans ?_))⟩
    · rw [if_neg (by omega), if_neg (fun h => hk.elim (fun h' => h' h.1) (fun h' => h' h.2))]
    · have h50 : r.event ≠ 50 := fun h => by
        rw [h] at hk
        exact absurd hk (by decide)
      rw [if_neg (by omega), if_pos ⟨hl, hk⟩]
    · rw [if_neg (by omega), hesc]
  · exact ⟨.done (congrArg s.done (Dev.recovery_gone (d := s.begin_) h).1), .done (congrArg s.done (Dev.recovery_gone (d := s.begin_) h).2)⟩
  · have hslot : s.begin_.saveSlot = none := Dev.saveSlot_none (fun k _ hk => by
      rw [show s.begin_.saves = [] from hs] at hk
      exact absurd hk (by simp [Table.find?]))
    have hend : s.begin_.warmRestartComplete = s.begin_.endL3 := by
      unfold Dev.warmRestartComplete
      rw [if_neg (by simp [hst]), hslot]
      exact if_pos (by simp [hs])
    have hface := ladderFace_endL3 (d := s.begin_) hq hp
    obtain ⟨hg, hsys, hf, -, hhb, hr, -⟩ : _ ∧ _ ∧ _ ∧ _ ∧ _ ∧ _ ∧ _ := by simpa only [ladderFace, Prod.mk.injEq] using hface
    refine .of_done (congrArg s.done hend) ⟨hg.trans hus.symm, hf, hhb, hr, ?_⟩
    show s.begin_.endL3.sys.st = _
    rw [hsys]
    rfl
  · refine .done (congrArg s.done ?_)
    unfold Dev.warmRestartComplete
    rw [if_neg (by simp [hst]), show s.begin_.saveSlot = none from hn]
    exact if_neg (by
      show ¬(s.dev.saves.isEmpty || !s.dev.printingLike) = true
      simp [hs, hp])
  · exact .done (congrArg s.done (if_pos (bne_iff_ne.mpr h)))
  · have hcode : s.begin_.writeWarmRestart = (s.begin_.commandedL3, 0) := Dev.writeWarmRestart_begins (d := s.begin_) hst hrun
    have hop : s.begin_.com.op = none := by
      obtain ⟨x, -, -, -, ho, -, -⟩ := hs
      exact ho
    have hne : s.begin_.sys.st ≠ .restarting := by
      show s.dev.sys.st ≠ .restarting
      rcases hst with h | h | h | h <;> simp [h]
    obtain ⟨hsys, hf, hp⟩ := commandedL3_faces hop hne hrole
    have hexec : exec (.warmRestart sess) s = s.done (s.begin_.commandedL3.emit (.answer sess 0)) :=
      (hostWrite_granted (fun d => d.writeWarmRestart) hs).trans (by rw [hcode])
    refine .of_done hexec ⟨?_, ?_, hf, hp, ?_⟩
    · show s.begin_.commandedL3.sys.st = _
      rw [hsys]
    · show s.begin_.commandedL3.sys.before = _
      rw [hsys]
      rfl
    · obtain ⟨l, hl, -⟩ := told_flush s (s.begin_.commandedL3.emit (.answer sess 0))
      rw [hl]
      exact List.mem_append_left _ (by simp)
  · exact .of_hostWrite hs rfl (Dev.writeWarmRestart_refused (d := s.begin_) h)
  · have hsave : s.begin_.stateSave false = _ := if_neg (by simp [h])
    subst hk hd
    exact .done (congrArg s.done hsave)
  · exact .of_raise (x := 0) (congrArg s.done ((if_neg (by simp [h])).trans (if_pos rfl))) rfl rfl (Nat.le_refl _) rfl (by decide)
  · exact .done (congrArg s.done (if_pos (bne_iff_ne.mpr h)))
  · refine ⟨fun h => .of_hostWrite hs rfl (s.begin_.writeAlertClear_one.trans (if_neg (by simp [h]))),
      fun h => .of_hostWrite hs rfl (s.begin_.writeAlertClear_one.trans (if_pos h)), .of_hostWrite (x := 0) hs rfl rfl rfl rfl (Nat.le_refl _) rfl (by decide),
      .of_hostWrite hs rfl rfl, .of_hostWrite hs rfl rfl,
      fun v hv => ⟨.of_hostWrite hs rfl (s.begin_.writeTest_other hv).1, .of_hostWrite hs rfl (s.begin_.writeTest_other hv).2⟩⟩

end Sys2Proof.Machine
end

section
/-! PROOFS. The tally: wear, the projection, the days of eye readings and repairs (R440 to R449). -/
namespace Sys2Proof.Machine

open Sys2Proof

namespace Dev

theorem equivalent_eq (d : Dev) : d.equivalent = d.cnt 0x2E01 1 * 58 + d.cnt 0x2E01 2 * 261 + d.cnt 0x2E01 3 * 1000 + d.cnt 0x2E01 4 * 1851 +
    d.cnt 0x2E01 5 * 3319 + (d.cnt 0x2E01 6 + d.cnt 0x2E01 7) * 9762 := by
  simp only [equivalent, show List.range 8 = [0, 1, 2, 3, 4, 5, 6, 7] from rfl, List.map, List.sum_cons, List.sum_nil, bandFactor, List.getD_cons_zero,
    List.getD_cons_succ]
  omega

/-- A lane's day without a reading changes nothing (R444). -/
theorem eyeDay_none {d : Dev} {k sum n : Nat} (hd : d.tally.day.get (0, 0) k = (sum, n)) (h : n = 0) : d.eyeDay k = d := by
  simp only [eyeDay, hd, h, beq_self_eq_true, if_true]

/-- The device after a lane's day has been reckoned (R444). -/
def eyeStored (d : Dev) (k mean : Nat) (ms : List Nat) (sl : Rat) (days : Nat) : Dev :=
  (((({ d with tally := { d.tally with means := d.tally.means.set k ms, day := d.tally.day.erase k } } : Dev).put 0x2E08 k mean).put 0x2E09 k
    (ofSigned 16 (clampInt (roundRat (sl * 30)) (-32768) 32767))).put 0x2E0A k days)

theorem eyeStored_g (d : Dev) (k mean : Nat) (ms : List Nat) (sl : Rat) (days j : Nat) (hj : j < 256) :
    (d.eyeStored k mean ms sl days).g 0x2E00 j = d.g 0x2E00 j := by
  unfold eyeStored
  rw [g_put_ne _ _ (by simp only [key]; omega), g_put_ne _ _ (by simp only [key]; omega), g_put_ne _ _ (by simp only [key]; omega)]
  rfl

theorem eyeDay_eq {d e : Dev} {k sum n mean days : Nat} {ms : List Nat} {sl : Rat} (hd : d.tally.day.get (0, 0) k = (sum, n)) (hn : n ≠ 0)
    (hmean : mean = (2 * sum + n) / (2 * n)) (hms : ms = (mean :: d.tally.means.get [] k).take 30) (hsl : sl = (if 7 ≤ ms.length then slope ms else 0))
    (hdays : days = (if mean < d.g 0x2E00 1 then 0 else if sl < 0 then min 65534 ((((mean - d.g 0x2E00 1 : Nat) : Rat) / (-sl)).floor.toNat) else 65535))
    (he : e = d.eyeStored k mean ms sl days) :
    d.eyeDay k = if mean < d.g 0x2E00 1 ∨ (days ≤ d.g 0x2E00 2 ∧ days ≠ 65535) then
        if d.tally.crossed.contains k = true then e
        else if (k ≤ 72 ∧ (d.lane k).carries = true) ∧ d.g 0x2E00 3 = 1 then (({ e with tally := { e.tally with crossed := k :: e.tally.crossed } } : Dev).raise 57).askSwap k
        else ({ e with tally := { e.tally with crossed := k :: e.tally.crossed } } : Dev).raise 57
      else { e with tally := { e.tally with crossed := e.tally.crossed.filter (fun x => x != k) } } := by
  have hg1 : (({ d with tally := { d.tally with means := d.tally.means.set k ms, day := d.tally.day.erase k } } : Dev).put 0x2E08 k mean).g 0x2E00 1 = d.g 0x2E00 1 :=
    g_put_ne _ _ (by simp only [key]; omega)
  have hg2 := d.eyeStored_g k mean ms sl days 2 (by decide)
  have hg3 : (({ e with tally := { e.tally with crossed := k :: e.tally.crossed } } : Dev).raise 57).g 0x2E00 3 = d.g 0x2E00 3 := by
    rw [g_raise _ _ _ _ _ (by decide) (by decide), he]
    exact d.eyeStored_g k mean ms sl days 3 (by decide)
  have hsl' : (if decide (7 ≤ ms.length) then slope ms else 0) = sl := by simp only [hsl, decide_eq_true_eq]
  have hdays' : (if decide (mean < d.g 0x2E00 1) then 0 else if sl < 0 then min 65534 ((((mean - d.g 0x2E00 1 : Nat) : Rat) / (-sl)).floor.toNat) else 65535) = days := by
    simp only [hdays, decide_eq_true_eq]
  have hn' : ¬(n == 0) = true := by simpa using hn
  have hst : (((({ d with tally := { d.tally with means := d.tally.means.set k ms, day := d.tally.day.erase k } } : Dev).put 0x2E08 k mean).put 0x2E09 k
    (ofSigned 16 (clampInt (roundRat (sl * 30)) (-32768) 32767))).put 0x2E0A k days) = e := he.symm
  rw [← he] at hg2
  simp only [eyeDay, hd, if_neg hn', ← hmean, ← hms, hg1, hsl', hdays', hst, hg2]
  have hcr : e.tally.crossed = d.tally.crossed := by rw [he]; rfl
  have hlane : (({ e with tally := { e.tally with crossed := k :: e.tally.crossed } } : Dev).raise 57).lane k = d.lane k := by
    unfold lane
    rw [raise_lanes, he]
    rfl
  have hdue : (decide (mean < d.g 0x2E00 1) || decide (days ≤ d.g 0x2E00 2) && days != 65535) = true ↔
      mean < d.g 0x2E00 1 ∨ (days ≤ d.g 0x2E00 2 ∧ days ≠ 65535) := by
    simp only [Bool.or_eq_true, Bool.and_eq_true, decide_eq_true_eq, bne_iff_ne]
  by_cases h : mean < d.g 0x2E00 1 ∨ (days ≤ d.g 0x2E00 2 ∧ days ≠ 65535)
  · rw [if_pos h, hdue.mpr h]
    simp only [Bool.not_true, Bool.false_eq_true, if_false]
    rw [hlane, hg3]
    simp only [hcr, Bool.and_eq_true, decide_eq_true_eq, beq_iff_eq]
  · rw [if_neg h, if_pos (by rw [Bool.not_eq_true', ← Bool.not_eq_true, hdue]; exact h)]

/-- What the projection makes of its three terms: the least and which it is, each of them, and EV_LIFE (R449). -/
def reckoned (d : Dev) (hs : List (Nat × Nat × Nat × Nat)) (ts : List Nat) : Dev :=
  let d := { d with tally := { d.tally with hours := hs } }
  let m : Nat := ts.foldl min 65535
  let which := if m == 65535 then 0 else ((List.range 3).find? (fun i => ts.getD i 65535 == m)).getD 0 + 1
  let d := (d.put 0x2E0D 1 m).put 0x2E0D 2 which
  let d := (List.range 3).foldl (fun d i => d.put 0x2E0D (3 + i) (ts.getD i 65535)) d
  let lim := d.g 0x2E00 5
  if decide (m < lim) && !d.tally.lifeRaised then ({ d with tally := { d.tally with lifeRaised := true } } : Dev).raise 114
  else if decide (lim + 10 < m) then { d with tally := { d.tally with lifeRaised := false } } else d

/-- A projection of at most a year's history, in which no NV record was written and no remap spent: the thermal term alone (R449). -/
theorem project_eq {d : Dev} {hs : List (Nat × Nat × Nat × Nat)} {t : Nat} (hhs : hs = (d.equivalent, d.cnt 0x2E0C 2, d.g 0x2E05 10, d.g 0x2E05 11) :: d.tally.hours)
    (hlen : hs.length ≤ 8760)
    (hnv : hs.length < 720 ∨ (d.cnt 0x2E0C 2 = 0 ∧ d.g 0x2E05 10 = 0 ∧ d.g 0x2E05 11 = 0))
    (ht : t = if 720 ≤ hs.length ∧ d.equivalent ≠ 0 then
      tenths ((431658 * 60000 - (d.equivalent : Rat)) / ((d.equivalent : Rat) / (hs.length : Rat)) / 8760) else 65535) :
    d.project = d.reckoned hs [t, 65535, 65535] := by
  have htake : ((d.equivalent, d.cnt 0x2E0C 2, d.g 0x2E05 10, d.g 0x2E05 11) :: d.tally.hours).take 8761 = hs := by
    rw [← hhs]
    exact List.take_of_length_le (by omega)
  have hlt : ¬decide (8760 < hs.length) = true := by simpa using hlen
  have hfalse : ∀ n, (hs.length < 720 ∨ n = 0) → (decide (720 ≤ hs.length) && n != 0) = false := fun n h => by
    rcases h with h | h
    · simp; omega
    · simp [h]
  have hn : (decide (720 ≤ hs.length) && d.cnt 0x2E0C 2 != 0) = false := hfalse _ (hnv.imp_right And.left)
  have h0 : (decide (720 ≤ hs.length) && d.g 0x2E05 10 != 0) = false := hfalse _ (hnv.imp_right (fun h => h.2.1))
  have h1 : (decide (720 ≤ hs.length) && d.g 0x2E05 11 != 0) = false := hfalse _ (hnv.imp_right (fun h => h.2.2))
  have heq : ∀ tl : Tally, ({ d with tally := tl } : Dev).equivalent = d.equivalent := fun tl => rfl
  simp only [project, htake, if_neg hlt, Nat.sub_zero, hn, h0, h1, Bool.false_eq_true, if_false, heq, List.map_cons, List.map_nil]
  by_cases h : 720 ≤ hs.length ∧ d.equivalent ≠ 0
  · have hb : (decide (720 ≤ hs.length) && d.equivalent != 0) = true := by simpa using h
    rw [if_pos h] at ht
    simp only [hb, if_true, ← ht]
    rfl
  · have hb : (decide (720 ≤ hs.length) && d.equivalent != 0) = false := by
      rw [← Bool.not_eq_true]
      simpa using h
    rw [if_neg h] at ht
    simp only [hb, Bool.false_eq_true, if_false, ht]
    rfl

/-- One year-long projection whose only term is the thermal one (R449). -/
theorem reckoned_thermal {d e : Dev} {hs : List (Nat × Nat × Nat × Nat)} {t : Nat} (ht : t ≤ 65535)
    (he : e = ((((({ d with tally := { d.tally with hours := hs } } : Dev).put 0x2E0D 1 t).put 0x2E0D 2 (if t = 65535 then 0 else 1)).put 0x2E0D 3 t).put
      0x2E0D 4 65535).put 0x2E0D 5 65535) :
    d.reckoned hs [t, 65535, 65535] =
      if t < d.g 0x2E00 5 ∧ d.tally.lifeRaised = false then ({ e with tally := { e.tally with lifeRaised := true } } : Dev).raise 114
      else if d.g 0x2E00 5 + 10 < t then { e with tally := { e.tally with lifeRaised := false } } else e := by
  have hm : [t, 65535, 65535].foldl min 65535 = t := by
    simp only [List.foldl_cons, List.foldl_nil]
    omega
  have hwhich : (if t == 65535 then 0 else ((List.range 3).find? (fun i => [t, 65535, 65535].getD i 65535 == t)).getD 0 + 1) = if t = 65535 then 0 else 1 := by
    simp only [beq_iff_eq, show List.range 3 = [0, 1, 2] from rfl, List.find?_cons, List.getD_cons_zero, beq_self_eq_true, Option.getD_some, Nat.zero_add]
  have hg : e.g 0x2E00 5 = d.g 0x2E00 5 := by
    rw [he, g_put_ne (i := 0x2E0D) (j := 5) _ _ (by decide), g_put_ne (i := 0x2E0D) (j := 4) _ _ (by decide), g_put_ne (i := 0x2E0D) (j := 3) _ _ (by decide),
      g_put_ne (i := 0x2E0D) (j := 2) _ _ (by decide), g_put_ne (i := 0x2E0D) (j := 1) _ _ (by decide)]
    rfl
  have hfold : (List.range 3).foldl (fun (d : Dev) i => d.put 0x2E0D (3 + i) ([t, 65535, 65535].getD i 65535))
      (((({ d with tally := { d.tally with hours := hs } } : Dev).put 0x2E0D 1 t).put 0x2E0D 2 (if t = 65535 then 0 else 1))) = e := by
    rw [he]
    rfl
  have hl : e.tally.lifeRaised = d.tally.lifeRaised := by
    rw [he]
    rfl
  simp only [reckoned, hm, hwhich, hfold, hg, hl, Bool.and_eq_true, decide_eq_true_eq, Bool.not_eq_true']

/-- Two devices agree on the projection, the tally and the log. -/
def SameTally (d e : Dev) : Prop := (∀ j, e.g 0x2E0D j = d.g 0x2E0D j) ∧ e.tally = d.tally ∧ e.fl = d.fl

/-- Saving a record changes neither the projection nor the tally, and raises EV_NV_STAGED only where nothing was staged (R432). -/
theorem saveNv_cases (d : Dev) (r : NvRec) : ∃ e : Dev, d.SameTally e ∧
    (d.saveNv r = e ∨ (d.nv.staged = [] ∧ e.nv.staged ≠ [] ∧ d.saveNv r = e.raise 107)) := by
  have hbump : d.SameTally (d.bump 0x260C 2) := ⟨fun j => g_bump_ne _ (by simp only [key]; omega), rfl, rfl⟩
  unfold saveNv
  split
  · refine ⟨_, ?_, .inl rfl⟩
    exact ⟨fun _ => rfl, rfl, rfl⟩
  · unfold stageNv
    extract_lets same st _ full d1 st' _ d2
    have h1 : d.SameTally d1 := by
      show d.SameTally (if full then d.bump 0x260C 2 else d)
      split
      · exact hbump
      · exact ⟨fun _ => rfl, rfl, rfl⟩
    have h2 : d.SameTally d2 := h1
    split
    · refine ⟨_, ?_, .inl rfl⟩
      exact ⟨fun _ => rfl, rfl, rfl⟩
    · refine ⟨d2, h2, ?_⟩
      split
      · next h => exact .inr ⟨by simpa using h, by show st' ++ [r] ≠ []; simp, rfl⟩
      · exact .inl rfl

/-- An event of a given kind is among the newest `n` records, logged at the service time `t`. -/
def Remembers (d : Dev) (n e t : Nat) : Prop := ∃ r ∈ d.fl.log.take n, r.says (evLevel e) e 0 0xFF 0 ∧ r.time = t

theorem Remembers.mono {d : Dev} {n m e t : Nat} (h : d.Remembers n e t) (hm : n ≤ m) : d.Remembers m e t := by
  obtain ⟨r, hr, h⟩ := h
  exact ⟨r, List.take_subset_take_left _ hm hr, h⟩

/-- Logging an event puts its record, at the present service time, before the records there were. -/
theorem logEvent_log (d : Dev) (l e m u x : Nat) : ∃ (r : EventRec) (g : EventRec → EventRec), restamps g ∧ r.says l e m u (x % 4294967296) ∧
    r.time = d.serviceNow ∧ (d.logEvent l e m u x).fl.log = ((r :: d.fl.log).take 1024).map g := by
  refine ⟨EventRec.mk e l m u d.serviceNow (d.cnt 0x2015 (lowestBar m + 1)) (x % 4294967296) (d.cnt 0x1440 2), ?_⟩
  unfold logEvent
  extract_lets full rec
  split
  · exact ⟨id, fun r => ⟨r.overrun, rfl⟩, ⟨rfl, rfl, rfl, rfl, rfl⟩, rfl, (List.map_id _).symm⟩
  · obtain ⟨g, hg, h⟩ := (rec.bumpBy 0x1440 2 full).restamp_shape
    exact ⟨g, hg, ⟨rfl, rfl, rfl, rfl, rfl⟩, rfl, congrArg (fun d : Dev => d.fl.log) h⟩

theorem restamps.time {g : EventRec → EventRec} (hg : restamps g) (r : EventRec) : (g r).time = r.time := by
  obtain ⟨n, hn⟩ := hg r
  rw [hn]

theorem Remembers.logEvent {d : Dev} {n e t : Nat} (h : d.Remembers n e t) (hn : n < 1024) (l e' m u x : Nat) :
    (d.logEvent l e' m u x).Remembers (n + 1) e t := by
  obtain ⟨r, hr, hs, ht⟩ := h
  obtain ⟨r', g, hg, -, -, hlog⟩ := d.logEvent_log l e' m u x
  refine ⟨g r, ?_, hg.says hs, (hg.time r).trans ht⟩
  rw [hlog, ← List.map_take, List.take_take, Nat.min_eq_left (by omega), List.take_succ_cons]
  exact List.mem_map_of_mem (List.mem_cons_of_mem _ hr)

theorem remembers_logEvent (d : Dev) (e : Nat) : (d.logEvent (evLevel e) e 0 0xFF 0).Remembers 1 e d.serviceNow := by
  obtain ⟨r, g, hg, hs, ht, hlog⟩ := d.logEvent_log (evLevel e) e 0 0xFF 0
  refine ⟨g r, ?_, hg.says hs, (hg.time r).trans ht⟩
  rw [hlog]
  simp

/-- An event raised is among the two newest records. -/
theorem remembers_raise (d : Dev) (e : Nat) : (d.raise e).Remembers 2 e d.serviceNow := by
  unfold raise raiseAt
  extract_lets first logged
  split
  · exact (remembers_logEvent d e).logEvent (by decide) _ _ _ _ _
  · exact (remembers_logEvent d e).mono (by decide)

/-- Raising another event moves a record back by at most two places. -/
theorem Remembers.raise {d : Dev} {n e t : Nat} (h : d.Remembers n e t) (hn : n < 1023) (e' m u x : Nat) : (d.raise e' m u x).Remembers (n + 2) e t := by
  unfold Dev.raise raiseAt
  extract_lets first logged
  split
  · exact (h.logEvent (by omega) _ _ _ _ _).logEvent (by omega) _ _ _ _ _
  · exact (h.logEvent (by omega) _ _ _ _ _).mono (by omega)

/-- What saving records leaves of the projection, the tally and the log. -/
def TallyKept (d e : Dev) : Prop := (∀ j, j < 256 → e.g 0x2E0D j = d.g 0x2E0D j) ∧ e.tally = d.tally ∧ d.fl.top ≤ e.fl.top

theorem SameTally.kept {d e : Dev} (h : d.SameTally e) : d.TallyKept e := ⟨fun j _ => h.1 j, h.2.1, by rw [h.2.2]⟩

theorem TallyKept.trans {d e f : Dev} (h : d.TallyKept e) (h' : e.TallyKept f) : d.TallyKept f :=
  ⟨fun j hj => (h'.1 j hj).trans (h.1 j hj), h'.2.1.trans h.2.1, h.2.2.trans h'.2.2⟩

theorem TallyKept.raise (d : Dev) : d.TallyKept (d.raise 107) := by
  refine ⟨fun j hj => d.g_raise 107 0 0xFF 0 (by decide) ?_, d.raise_tally _ _ _ _, Nat.le_of_lt (d.raise_logged 107 0 0xFF 0).1⟩
  have h1 : key 0x2E0D j / 256 = 0x2E0D := by simp only [key]; omega
  have h2 : key 0x2E0D j ≠ key 0x1440 2 := by simp only [key]; omega
  simp [eventKey, h1, h2]

theorem SameTally.remembers {d e : Dev} (h : d.SameTally e) {n k t : Nat} (hr : d.Remembers n k t) : e.Remembers n k t := by
  unfold Remembers
  rw [h.2.2]
  exact hr

/-- Saving two records: at most one event, and neither the projection nor the tally changes. -/
theorem saveNvs_two (d : Dev) (r r' : NvRec) : d.TallyKept (d.saveNvs [r, r']) ∧
    ∀ {n k t : Nat}, n < 1000 → d.Remembers n k t → (d.saveNvs [r, r']).Remembers (n + 2) k t := by
  obtain ⟨e, he, h1⟩ := d.saveNv_cases r
  obtain ⟨f, hf, h2⟩ := (d.saveNv r).saveNv_cases r'
  have hsave : d.saveNvs [r, r'] = (d.saveNv r).saveNv r' := rfl
  rw [hsave]
  rcases h1 with h1 | ⟨-, hne, h1⟩
  · rw [h1] at h2 hf ⊢
    rcases h2 with h2 | ⟨-, -, h2⟩ <;> rw [h2]
    · exact ⟨he.kept.trans hf.kept, fun _ hr => (hf.remembers (he.remembers hr)).mono (by omega)⟩
    · exact ⟨(he.kept.trans hf.kept).trans (.raise f), fun hn hr => (hf.remembers (he.remembers hr)).raise (by omega) _ _ _ _⟩
  · rw [h1] at h2 hf ⊢
    rcases h2 with h2 | ⟨hnil, -, -⟩
    · rw [h2]
      exact ⟨(he.kept.trans (.raise e)).trans hf.kept, fun hn hr => hf.remembers ((he.remembers hr).raise (by omega) _ _ _ _)⟩
    · rw [raise_nv] at hnil
      exact absurd hnil hne

/-! A lane's day leaves the other lanes' readings alone. -/

/-- What a lane's day of eye readings is stored as. -/
def wearFace (k : Nat) (d : Dev) : Nat × Option (List Nat) × (Nat × Nat) × List Nat :=
  (d.g 0x2E08 k, d.tally.means.find? k, d.tally.day.get (0, 0) k, d.tally.means.get [] k)

theorem wearFace_put {k i j v : Nat} {d : Dev} (h : key i j ≠ key 0x2E08 k) : wearFace k (d.put i j v) = wearFace k d := by
  simp only [wearFace, g_put_ne _ _ h]
  rfl

theorem wearFace_askSwap {k : Nat} (hk : k < 256) (d : Dev) (s : Nat) : wearFace k (d.askSwap s) = wearFace k d := by
  have hput : ∀ (i j v : Nat) (d : Dev), 0x3410 ≤ i → wearFace k (d.put i j v) = wearFace k d := fun i j v d hi =>
    wearFace_put (by simp only [key]; omega)
  simp only [askSwap]
  split
  · split
    · unfold beginSwap
      extract_lets sp old r code d1 d2
      have h1 : wearFace k d1 = wearFace k d := by
        show wearFace k (((d.putLane sp 3).put 0x3411 sp r).put 0x3412 sp code) = _
        rw [hput _ _ _ _ (by decide), hput _ _ _ _ (by decide)]
        exact hput _ _ _ _ (by decide)
      exact h1
    · rfl
  · rfl

theorem wearFace_raise {k : Nat} (hk : k < 256) (d : Dev) : wearFace k (d.raise 57) = wearFace k d := by
  have h1 : key 0x2E08 k / 256 = 0x2E08 := by simp only [key]; omega
  have h2 : key 0x2E08 k ≠ key 0x1440 2 := by simp only [key]; omega
  simp only [wearFace, d.g_raise 57 0 0xFF 0 (by decide) (show eventKey (key 0x2E08 k) = false by simp [eventKey, h1, h2]), raise_tally]

/-- A lane's day stores its mean with its history; nothing that may follow changes what any lane stored (R444). -/
theorem wearFace_eyeDay {d : Dev} {i k sum n : Nat} (hk : k < 256) (hd : d.tally.day.get (0, 0) i = (sum, n)) (hn : n ≠ 0) :
    ∃ sl days, wearFace k (d.eyeDay i) = wearFace k (d.eyeStored i ((2 * sum + n) / (2 * n)) (((2 * sum + n) / (2 * n) :: d.tally.means.get [] i).take 30) sl days) := by
  obtain ⟨mean, hmean⟩ : ∃ mean, mean = (2 * sum + n) / (2 * n) := ⟨_, rfl⟩
  obtain ⟨ms, hms⟩ : ∃ ms, ms = (mean :: d.tally.means.get [] i).take 30 := ⟨_, rfl⟩
  obtain ⟨sl, hsl⟩ : ∃ sl : Rat, sl = if 7 ≤ ms.length then slope ms else 0 := ⟨_, rfl⟩
  obtain ⟨days, hdays⟩ : ∃ days, days = if mean < d.g 0x2E00 1 then 0 else
      if sl < 0 then min 65534 ((((mean - d.g 0x2E00 1 : Nat) : Rat) / (-sl)).floor.toNat) else 65535 := ⟨_, rfl⟩
  refine ⟨sl, days, (congrArg (wearFace k) (eyeDay_eq hd hn hmean hms hsl hdays rfl)).trans ?_⟩
  rw [← hmean, ← hms]
  split
  · split
    · rfl
    · split
      · exact (wearFace_askSwap hk _ _).trans ((wearFace_raise hk _).trans rfl)
      · exact (wearFace_raise hk _).trans rfl
  · rfl

theorem wearFace_eyeStored_ne {k i : Nat} (d : Dev) (h : i ≠ k) (hi : i ≤ 80) (hk : k ≤ 80) (mean : Nat) (ms : List Nat) (sl : Rat) (days : Nat) :
    wearFace k (d.eyeStored i mean ms sl days) = wearFace k d := by
  unfold eyeStored
  rw [wearFace_put (by simp only [key]; omega), wearFace_put (by simp only [key]; omega), wearFace_put (by simp only [key]; omega)]
  simp only [wearFace, Table.find?_set_ne _ _ h, Table.get_set_ne _ _ _ h, Table.get_erase_ne _ _ h]
  rfl

theorem wearFace_eyeStored_self {k : Nat} (d : Dev) (mean : Nat) (ms : List Nat) (sl : Rat) (days : Nat) :
    (wearFace k (d.eyeStored k mean ms sl days)).1 = mean ∧ (wearFace k (d.eyeStored k mean ms sl days)).2.1 = some ms := by
  unfold eyeStored
  rw [wearFace_put (by simp only [key]; omega), wearFace_put (by simp only [key]; omega)]
  simp only [wearFace, g_put_self]
  exact ⟨trivial, Table.find?_set_self _ _ _⟩

theorem wearFace_eyeDay_ne {k i : Nat} (d : Dev) (h : i ≠ k) (hi : i ≤ 80) (hk : k ≤ 80) : wearFace k (d.eyeDay i) = wearFace k d := by
  rcases hd : d.tally.day.get (0, 0) i with ⟨sum, n⟩
  by_cases hn : n = 0
  · rw [eyeDay_none hd hn]
  · obtain ⟨sl, days, hf⟩ := wearFace_eyeDay (k := k) (by omega) hd hn
    rw [hf, wearFace_eyeStored_ne d h hi hk]

theorem wearFace_eyeDays_ne {k : Nat} (hk : k ≤ 80) (l : List Nat) (hl : ∀ i ∈ l, i ≠ k ∧ i ≤ 80) (d : Dev) :
    wearFace k (l.foldl (fun d i => d.eyeDay i) d) = wearFace k d := by
  induction l generalizing d with
  | nil => rfl
  | cons i l ih =>
    rw [List.foldl_cons, ih (fun j hj => hl j (List.mem_cons_of_mem _ hj))]
    exact wearFace_eyeDay_ne d (hl i List.mem_cons_self).1 (hl i List.mem_cons_self).2 hk

/-- Over every lane's day, each lane's reading is its own day's (R444). -/
theorem eyeDays_stored {d : Dev} {k sum n : Nat} (h1 : 1 ≤ k) (hk : k ≤ 80) (hd : d.tally.day.get (0, 0) k = (sum, n)) (hn : n ≠ 0) :
    (wearFace k (((List.range 80).map (fun i => i + 1)).foldl (fun d i => d.eyeDay i) d)).1 = (2 * sum + n) / (2 * n) ∧
    (wearFace k (((List.range 80).map (fun i => i + 1)).foldl (fun d i => d.eyeDay i) d)).2.1 =
      some (((2 * sum + n) / (2 * n) :: d.tally.means.get [] k).take 30) := by
  have hmem : k ∈ (List.range 80).map (fun i => i + 1) := List.mem_map.mpr ⟨k - 1, List.mem_range.mpr (by omega), by omega⟩
  have hle : ∀ i ∈ (List.range 80).map (fun i => i + 1), i ≤ 80 := fun i hi => by
    obtain ⟨j, hj, rfl⟩ := List.mem_map.mp hi
    exact List.mem_range.mp hj
  have hnodup : ((List.range 80).map (fun i => i + 1)).Nodup := List.Nodup.map (fun _ _ h => Nat.succ.inj h) List.nodup_range
  obtain ⟨l, m, hlm⟩ := List.append_of_mem hmem
  rw [hlm] at hle hnodup ⊢
  have hl : ∀ i ∈ l, i ≠ k ∧ i ≤ 80 := fun i hi => ⟨fun h => by
    subst h
    exact (List.nodup_append.mp hnodup).2.2 i hi i List.mem_cons_self rfl, hle i (List.mem_append_left _ hi)⟩
  have hm : ∀ i ∈ m, i ≠ k ∧ i ≤ 80 := fun i hi => ⟨fun h => by
    subst h
    exact (List.nodup_cons.mp (List.nodup_append.mp hnodup).2.1).1 hi, hle i (List.mem_append_right _ (List.mem_cons_of_mem _ hi))⟩
  rw [List.foldl_append, List.foldl_cons, wearFace_eyeDays_ne hk m hm]
  have hbefore := wearFace_eyeDays_ne hk l hl d
  generalize l.foldl (fun d i => d.eyeDay i) d = e at hbefore
  have hday : e.tally.day.get (0, 0) k = (sum, n) := (congrArg (fun f => f.2.2.1) hbefore).trans hd
  have hmeans : e.tally.means.get [] k = d.tally.means.get [] k := congrArg (fun f => f.2.2.2) hbefore
  obtain ⟨sl, days, hf⟩ := wearFace_eyeDay (k := k) (by omega) hday hn
  rw [hf, hmeans]
  exact wearFace_eyeStored_self e _ _ sl days

/-- The device with another tally. -/
def retally (d : Dev) (tl : Tally) : Dev := { d with tally := tl }

theorem put_retally (d : Dev) (tl : Tally) (i j v : Nat) : (d.retally tl).put i j v = (d.put i j v).retally tl := rfl

/-- Before 720 hours of history no term is projected (R449). -/
theorem project_early {d : Dev} {hs : List (Nat × Nat × Nat × Nat)} (hhs : hs = (d.equivalent, d.cnt 0x2E0C 2, d.g 0x2E05 10, d.g 0x2E05 11) :: d.tally.hours)
    (hlen : d.tally.hours.length < 719) (hlim : d.g 0x2E00 5 < 65525) :
    d.project = { ((((d.put 0x2E0D 1 65535).put 0x2E0D 2 0).put 0x2E0D 3 65535).put 0x2E0D 4 65535).put 0x2E0D 5 65535 with
      tally := { d.tally with hours := hs, lifeRaised := false } } := by
  have hn : hs.length = d.tally.hours.length + 1 := by rw [hhs]; rfl
  have hall : ((((((d.retally { d.tally with hours := hs }).put 0x2E0D 1 65535).put 0x2E0D 2 0).put 0x2E0D 3 65535).put 0x2E0D 4 65535).put 0x2E0D 5 65535) =
      (((((d.put 0x2E0D 1 65535).put 0x2E0D 2 0).put 0x2E0D 3 65535).put 0x2E0D 4 65535).put 0x2E0D 5 65535).retally { d.tally with hours := hs } := by
    simp only [put_retally]
  rw [project_eq (t := 65535) hhs (by omega) (.inl (by omega)) (by rw [if_neg (by omega)]), reckoned_thermal (Nat.le_refl _) hall.symm, if_neg (by omega),
    if_pos (by omega)]
  rfl

/-- The five readings of a projection whose only term is the thermal one. -/
def Projects (d : Dev) (t : Nat) : Prop :=
  d.g 0x2E0D 1 = t ∧ d.g 0x2E0D 2 = 1 ∧ d.g 0x2E0D 3 = t ∧ d.g 0x2E0D 4 = 65535 ∧ d.g 0x2E0D 5 = 65535

theorem projects_of_puts (d : Dev) (t : Nat) :
    (((((d.put 0x2E0D 1 t).put 0x2E0D 2 1).put 0x2E0D 3 t).put 0x2E0D 4 65535).put 0x2E0D 5 65535).Projects t := by
  have hne : ∀ {a b : Nat} (v : Nat) (d : Dev), a < 256 → b < 256 → a ≠ b → (d.put 0x2E0D a v).g 0x2E0D b = d.g 0x2E0D b := fun v d ha hb h =>
    g_put_ne _ _ (by simp only [key]; omega)
  unfold Projects
  rw [hne _ _ (by decide) (by decide) (by decide), hne _ _ (by decide) (by decide) (by decide), hne _ _ (by decide) (by decide) (by decide),
    hne _ _ (by decide) (by decide) (by decide), g_put_self, hne _ _ (by decide) (by decide) (by decide), hne _ _ (by decide) (by decide) (by decide),
    hne _ _ (by decide) (by decide) (by decide), g_put_self, hne _ _ (by decide) (by decide) (by decide), hne _ _ (by decide) (by decide) (by decide),
    g_put_self, hne _ _ (by decide) (by decide) (by decide), g_put_self, g_put_self]
  exact ⟨rfl, rfl, rfl, rfl, rfl⟩

theorem Projects.raise {d : Dev} {t : Nat} (h : d.Projects t) : (d.raise 114).Projects t := by
  have hg : ∀ j, j < 6 → (d.raise 114).g 0x2E0D j = d.g 0x2E0D j := fun j hj => d.g_raise 114 0 0xFF 0 (by decide) (by
    have h1 : key 0x2E0D j / 256 = 0x2E0D := by simp only [key]; omega
    have h2 : key 0x2E0D j ≠ key 0x1440 2 := by simp only [key]; omega
    simp [eventKey, h1, h2])
  unfold Projects
  rw [hg 1 (by decide), hg 2 (by decide), hg 3 (by decide), hg 4 (by decide), hg 5 (by decide)]
  exact h

theorem Projects.kept {d e : Dev} {t : Nat} (h : d.Projects t) (hk : d.TallyKept e) : e.Projects t := by
  obtain ⟨hg, -, -⟩ := hk
  unfold Projects
  rw [hg 1 (by decide), hg 2 (by decide), hg 3 (by decide), hg 4 (by decide), hg 5 (by decide)]
  exact h

theorem serviceNow_put (d : Dev) {i j : Nat} (v : Nat) (h : key i j ≠ key 0x2402 2) : (d.put i j v).serviceNow = d.serviceNow := by
  simp only [serviceNow, serviceAt, ptpReading, carriedAt, g_put_ne _ _ h]
  rfl

/-- EV_LIFE comes once, until the term has passed its limit by a year (R449). -/
theorem reckoned_life {d : Dev} {hs : List (Nat × Nat × Nat × Nat)} {t : Nat} (ht : t < 65535) :
    (d.reckoned hs [t, 65535, 65535]).Projects t ∧ d.fl.top ≤ (d.reckoned hs [t, 65535, 65535]).fl.top ∧
    (t < d.g 0x2E00 5 → (d.reckoned hs [t, 65535, 65535]).tally.lifeRaised = true ∧ (d.tally.lifeRaised = false →
      d.fl.top < (d.reckoned hs [t, 65535, 65535]).fl.top ∧ (d.reckoned hs [t, 65535, 65535]).Remembers 2 114 d.serviceNow)) ∧
    (d.g 0x2E00 5 + 10 < t → (d.reckoned hs [t, 65535, 65535]).tally.lifeRaised = false) ∧
    (d.g 0x2E00 5 ≤ t → t ≤ d.g 0x2E00 5 + 10 → (d.reckoned hs [t, 65535, 65535]).tally.lifeRaised = d.tally.lifeRaised) := by
  obtain ⟨e, he⟩ : ∃ e, e = ((((({ d with tally := { d.tally with hours := hs } } : Dev).put 0x2E0D 1 t).put 0x2E0D 2 1).put 0x2E0D 3 t).put
      0x2E0D 4 65535).put 0x2E0D 5 65535 := ⟨_, rfl⟩
  have hr := reckoned_thermal (d := d) (hs := hs) (e := e) (t := t) (by omega) (by rw [if_neg (by omega)]; exact he)
  have hp : e.Projects t := by
    rw [he]
    exact projects_of_puts _ _
  have hl : e.tally.lifeRaised = d.tally.lifeRaised := by rw [he]; rfl
  have htop : e.fl.top = d.fl.top := by rw [he]; rfl
  have hnow : e.serviceNow = d.serviceNow := by
    rw [he, serviceNow_put _ _ (by decide), serviceNow_put _ _ (by decide), serviceNow_put _ _ (by decide), serviceNow_put _ _ (by decide),
      serviceNow_put _ _ (by decide)]
    rfl
  rw [hr]
  by_cases hlt : t < d.g 0x2E00 5
  · by_cases hraised : d.tally.lifeRaised = false
    · rw [if_pos ⟨hlt, hraised⟩]
      have hlog := ({ e with tally := { e.tally with lifeRaised := true } } : Dev).raise_logged 114 0 0xFF 0
      have hlt' : d.fl.top < (({ e with tally := { e.tally with lifeRaised := true } } : Dev).raise 114).fl.top := htop ▸ hlog.1
      refine ⟨Projects.raise hp, Nat.le_of_lt hlt', fun _ => ⟨by rw [raise_tally], fun _ => ⟨hlt', ?_⟩⟩, fun h => by omega, fun h => by omega⟩
      rw [← hnow]
      exact remembers_raise _ 114
    · rw [if_neg (fun h => hraised h.2), if_neg (by omega)]
      exact ⟨hp, by rw [htop], fun _ => ⟨hl.trans (by simpa using hraised), fun h => absurd h hraised⟩, fun h => by omega, fun h => by omega⟩
  · rw [if_neg (fun h => hlt h.1)]
    by_cases hfar : d.g 0x2E00 5 + 10 < t
    · rw [if_pos hfar]
      exact ⟨hp, by rw [← htop], fun h => absurd h hlt, fun _ => rfl, fun _ h => by omega⟩
    · rw [if_neg hfar]
      exact ⟨hp, by rw [htop], fun h => absurd h hlt, fun h => absurd h hfar, fun _ _ => hl⟩

end Dev

/-- Settles O56, by the projection's one term, the day of each lane and the rows of an array. The level 4 fault of an array that serves no bar is
presumed (log 73), and the day's mean is rounded and the projection starts at zero (log 75). -/
theorem tallyCountsWearAndRepairs : Obligations.TallyCountsWearAndRepairs := by
  unfold Obligations.TallyCountsWearAndRepairs
  refine ⟨fun s temp d hd => ⟨fun h => ?_, fun h e he => ?_⟩, fun temp d => ⟨rfl, d.equivalent_eq⟩, fun s => .done rfl,
    fun s hours d hlen hlim hhs hd e he => ?_, fun s n used term y hn h720 h8760 hu hu0 hy hterm hnv h10 h11 => ?_, fun s k sum n mean h1 h80 hday hn hmean => ?_,
    fun s => .done rfl, fun d e k sum n mean floor_ days ms sl hday => ⟨Dev.eyeDay_none hday, fun hn hmean hms hfl hsl hdays he => ?_⟩,
    fun s array bar k ha hk => ⟨fun h => ?_, fun h => ?_, fun n h => ?_⟩, fun s sess engine hs => ⟨fun h8 h2 => .of_hostWrite hs rfl (if_neg ?_),
      fun h => .of_hostWrite hs rfl (if_pos ?_)⟩⟩
  · subst hd
    exact .done (congrArg (fun d : Dev => s.done (d.put 0x2E01 0x0A (d.equivalent / 600 % 4294967296))) (if_neg (fun hp => h (beq_iff_eq.mp hp))))
  · subst he hd
    exact .done (congrArg (fun d : Dev => s.done (d.put 0x2E01 0x0A (d.equivalent / 600 % 4294967296))) (if_pos (beq_iff_eq.mpr h)))
  · have hn : hours.length = s.dev.tally.hours.length + 1 := by rw [hhs]; rfl
    have hproj : s.begin_.project = e := by
      rw [he, hd]
      exact Dev.project_early (d := s.begin_) hhs hlen hlim
    refine .done (congrArg s.done ?_)
    show s.begin_.project.saveNvs s.begin_.project.tallyRecords = _
    rw [hproj]
  · have hlt : term < 65535 := by omega
    have hproj : s.begin_.project = s.begin_.reckoned ((s.dev.equivalent, s.dev.cnt 0x2E0C 2, s.dev.g 0x2E05 10, s.dev.g 0x2E05 11) :: s.dev.tally.hours)
        [term, 65535, 65535] := by
      refine Dev.project_eq (d := s.begin_) rfl (by simp only [List.length_cons]; omega) (.inr ⟨hnv, h10, h11⟩) ?_
      subst hn hu hy hterm
      rw [if_pos ⟨h720, hu0⟩, show (25899480000 : Rat) = 431658 * 60000 by norm_num]
      rfl
    obtain ⟨hp, htop, hlife, hfar, hnear⟩ := Dev.reckoned_life (d := s.begin_)
      (hs := (s.dev.equivalent, s.dev.cnt 0x2E0C 2, s.dev.g 0x2E05 10, s.dev.g 0x2E05 11) :: s.dev.tally.hours) hlt
    rw [← hproj] at hp htop hlife hfar hnear
    obtain ⟨hkept, hrem⟩ := s.begin_.project.saveNvs_two s.begin_.project.tallyRec { kind := 8, obj := s.begin_.project.tally.hours.length }
    obtain ⟨hg1, hg2, hg3, hg4, hg5⟩ := hp.kept hkept
    obtain ⟨-, htally, htop'⟩ := hkept
    refine .of_done rfl ⟨hg1, hg2, hg3, hg4, hg5, fun h => ?_, fun h => ?_, fun h h' => ?_⟩
    · obtain ⟨hraised, hnew⟩ := hlife h
      refine ⟨(congrArg Tally.lifeRaised htally).trans hraised, fun h0 => ?_⟩
      obtain ⟨htop1, hrec⟩ := hnew h0
      exact ⟨Nat.lt_of_lt_of_le htop1 htop', hrem (by decide) hrec⟩
    · exact (congrArg Tally.lifeRaised htally).trans (hfar h)
    · exact (congrArg Tally.lifeRaised htally).trans (hnear h h')
  · obtain ⟨hg, hm⟩ := Dev.eyeDays_stored (d := s.begin_) h1 h80 hday hn
    subst hmean
    generalize he : ((List.range 80).map (fun i => i + 1)).foldl (fun d i => d.eyeDay i) s.begin_ = e at hg hm
    exact .of_done (d := e) (congrArg s.done he) ⟨hg, hm⟩
  · have hfl' : floor_ = d.g 0x2E00 1 := hfl
    subst hfl'
    have heq := Dev.eyeDay_eq hday hn hmean hms hsl hdays he
    have hg2 : e.g 0x2E00 2 = d.g 0x2E00 2 := he ▸ d.eyeStored_g k mean ms sl days 2 (by decide)
    rw [hg2]
    refine ⟨fun h1 h2 => heq.trans (if_neg (by omega)), fun h => ?_⟩
    have heq := heq.trans (if_pos h)
    refine ⟨fun hc => heq.trans (if_pos hc), fun f hc hf => ?_⟩
    have heq := heq.trans (if_neg (fun h => Bool.false_ne_true (hc.symm.trans h)))
    subst hf
    refine ⟨fun h1 h2 h3 => heq.trans (if_pos ⟨⟨h1, h2⟩, h3⟩), fun h => heq.trans (if_neg ?_)⟩
    rintro ⟨⟨h1, h2⟩, h3⟩
    rcases h with h | h | h
    · omega
    · exact Bool.false_ne_true (h.symm.trans h2)
    · exact h h3
  · have ha' : array % 64 = array := Nat.mod_eq_of_lt ha
    subst hk
    refine .done (congrArg s.done ?_)
    rw [ha']
    exact if_neg (fun h' => absurd (of_decide_eq_true h') (Nat.not_le.mpr h))
  · have ha' : array % 64 = array := Nat.mod_eq_of_lt ha
    subst hk
    refine .done (congrArg s.done ?_)
    rw [ha']
    exact if_pos (decide_eq_true h)
  · have ha' : array % 64 = array := Nat.mod_eq_of_lt ha
    subst hk
    refine .done (congrArg s.done ?_)
    rw [ha']
    exact if_pos (decide_eq_true h)
  · show ¬(decide (8 < engine) || s.dev.g 0x2E07 (engine + 1) != 2) = true
    simp [h2]
    omega
  · show (decide (8 < engine) || s.dev.g 0x2E07 (engine + 1) != 2) = true
    rcases h with h | h <;> simp [h]

end Sys2Proof.Machine
end

section
/-! PROOFS. What the operations below temperature supervision leave alone (R402 to R416, R425 to R432). -/
namespace Sys2Proof.Machine

open Sys2Proof

namespace Dev

/-- What the ladder and its helpers leave of temperature supervision: the sensors' record, readings and service, the calibration values, and
no way into Boot or Off. The log only grows. -/
structure SupKept (d e : Dev) : Prop where
  therm : e.therm = d.therm
  values : e.cal.values = d.cal.values
  left : d.cal.left = [] → e.cal.left = []
  regs : ∀ i j, i = 0x2608 ∨ i = 0x260A → j < 256 → e.g i j = d.g i j
  st : e.sys.st = d.sys.st ∨ (e.sys.st ≠ .boot ∧ e.sys.st ≠ .off)
  top : d.fl.top ≤ e.fl.top

/-- The parts of the device that `SupKept` speaks of. -/
def supFace (d : Dev) : Therm × Cal × Nat × Table Nat × DState × Nat := (d.therm, d.cal, d.product, d.dict.regs, d.sys.st, d.fl.top)

theorem SupKept.of_face {d e : Dev} (h : supFace e = supFace d) : d.SupKept e := by
  obtain ⟨ht, hc, hp, hr, hs, hf⟩ : _ ∧ _ ∧ _ ∧ _ ∧ _ ∧ _ := by simpa only [supFace, Prod.mk.injEq] using h
  exact ⟨ht, by rw [hc], fun h => by rw [hc, h], fun _ _ _ _ => g_congr hp (by rw [hr]), .inl hs, hf.ge⟩

theorem SupKept.refl (d : Dev) : d.SupKept d := .of_face rfl

theorem SupKept.trans {d e f : Dev} (h : d.SupKept e) (h' : e.SupKept f) : d.SupKept f where
  therm := h'.therm.trans h.therm
  values := h'.values.trans h.values
  left := fun hl => h'.left (h.left hl)
  regs := fun i j hi hj => (h'.regs i j hi hj).trans (h.regs i j hi hj)
  st := by
    rcases h'.st with h1 | h1
    · rw [h1]
      exact h.st
    · exact .inr h1
  top := h.top.trans h'.top

theorem SupKept.foldl {α : Type} {f : Dev → α → Dev} {l : List α} (h : ∀ d, ∀ a ∈ l, SupKept d (f d a)) (d : Dev) : d.SupKept (l.foldl f d) := by
  induction l generalizing d with
  | nil => exact .refl d
  | cons a l ih => exact (h d a (List.mem_cons_self ..)).trans (ih (fun d b hb => h d b (List.mem_cons_of_mem _ hb)) _)

theorem SupKept.put {d : Dev} {i j : Nat} (v : Nat) (h : key i j / 256 ≠ 0x2608 ∧ key i j / 256 ≠ 0x260A) : d.SupKept (d.put i j v) where
  therm := rfl
  values := rfl
  left := id
  regs := fun i' j' hi' hj' => g_put_ne _ _ (by
    intro hk
    rw [hk] at h
    simp only [key] at h
    omega)
  st := .inl rfl
  top := Nat.le_refl _

theorem SupKept.bumpBy {d : Dev} {i j : Nat} (n w : Nat) (h : key i j / 256 ≠ 0x2608 ∧ key i j / 256 ≠ 0x260A) : d.SupKept (d.bumpBy i j n w) :=
  .put _ h

theorem SupKept.bump {d : Dev} {i j : Nat} (h : key i j / 256 ≠ 0x2608 ∧ key i j / 256 ≠ 0x260A) : d.SupKept (d.bump i j) := .put _ h

theorem raiseAt_top_le (d : Dev) (l e m u x : Nat) : d.fl.top ≤ (d.raiseAt l e m u x).fl.top := by
  simp only [raiseAt]
  split <;> simp only [logEvent_top] <;> omega

theorem SupKept.raiseAt (d : Dev) (l : Nat) {e : Nat} (m u x : Nat) (he : e < 255) : d.SupKept (d.raiseAt l e m u x) := by
  refine ⟨d.raiseAt_therm .., by rw [raiseAt_cal], fun h => by rw [raiseAt_cal, h], fun i j hi hj => d.g_raiseAt _ _ _ _ _ he ?_, .inl ?_, d.raiseAt_top_le ..⟩
  · simp only [eventKey, key, Bool.or_eq_false_iff, beq_eq_false_iff_ne]
    omega
  · rw [raiseAt_sys]

theorem SupKept.thenPut {d e : Dev} {i j : Nat} {v : Nat} (hd : d.SupKept e) (h : key i j / 256 ≠ 0x2608 ∧ key i j / 256 ≠ 0x260A) :
    d.SupKept (e.put i j v) := hd.trans (.put v h)

theorem SupKept.thenBump {d e : Dev} {i j : Nat} (hd : d.SupKept e) (h : key i j / 256 ≠ 0x2608 ∧ key i j / 256 ≠ 0x260A) :
    d.SupKept (e.bump i j) := hd.trans (.bump h)

theorem SupKept.thenBumpBy {d e : Dev} {i j n w : Nat} (hd : d.SupKept e) (h : key i j / 256 ≠ 0x2608 ∧ key i j / 256 ≠ 0x260A) :
    d.SupKept (e.bumpBy i j n w) := hd.trans (.bumpBy n w h)

theorem SupKept.thenRaise {d f : Dev} {e m u x : Nat} (hd : d.SupKept f) (he : e < 255) : d.SupKept (f.raise e m u x) :=
  hd.trans (.raiseAt _ _ _ _ _ he)

theorem SupKept.thenRaiseAt {d f : Dev} {l e m u x : Nat} (hd : d.SupKept f) (he : e < 255) : d.SupKept (f.raiseAt l e m u x) :=
  hd.trans (.raiseAt _ _ _ _ _ he)

theorem SupKept.raise (d : Dev) {e : Nat} (m u x : Nat) (he : e < 255) : d.SupKept (d.raise e m u x) := .raiseAt _ _ _ _ _ he

/-! ### Records, pools and messages -/

theorem SupKept.stageNv (d : Dev) (r : NvRec) : d.SupKept (d.stageNv r) := by
  unfold Dev.stageNv
  extract_lets same st _ full d1 st' _ d2
  have h1 : d.SupKept d1 := by
    show d.SupKept (if full then d.bump 0x260C 2 else d)
    split
    · exact .bump (by simp only [key]; omega)
    · exact .refl d
  have h2 : d.SupKept d2 := h1.trans (.of_face rfl)
  split
  · exact .of_face rfl
  · split
    · exact h2.trans (.raise _ _ _ _ (by decide))
    · exact h2

theorem SupKept.saveNv (d : Dev) (r : NvRec) : d.SupKept (d.saveNv r) := by
  unfold Dev.saveNv
  split
  · exact .of_face rfl
  · exact .stageNv d r

theorem SupKept.consume (d : Dev) {pool : Nat} (h : pool < 256) : d.SupKept (d.consume pool) := by
  unfold Dev.consume
  extract_lets rem e
  have he : d.SupKept e := .thenPut (.put _ (by simp only [key]; omega)) (by simp only [key]; omega)
  clear_value e
  split
  · exact he.trans (.raise _ _ _ _ (by decide))
  · split
    · exact he.trans (.raise _ _ _ _ (by decide))
    · exact he

theorem SupKept.substitute (d : Dev) {pool : Nat} (h : pool < 256) : d.SupKept (d.substitute pool) :=
  .thenRaise (.bump (by simp only [key]; omega)) (by decide)

theorem SupKept.minorL2 (d : Dev) {e : Nat} (m x : Nat) (he : e < 255) : d.SupKept (d.minorL2 e m x) :=
  .thenBump (.thenRaiseAt (.of_face rfl) he) (by simp only [key]; omega)

theorem SupKept.twinSend (d : Dev) (kind : Nat) (p : Bytes) : d.SupKept (d.twinSend kind p) := by
  unfold Dev.twinSend
  split
  · exact .refl d
  · exact .of_face rfl

theorem SupKept.sendHandover (d : Dev) (cause : Nat) : d.SupKept (d.sendHandover cause) := by
  unfold Dev.sendHandover
  extract_lets pl sent
  exact (SupKept.of_face rfl : d.SupKept sent).trans (.twinSend _ _ _)

theorem SupKept.enter (d : Dev) {st : DState} (h : st ≠ .boot ∧ st ≠ .off) : d.SupKept (d.enter st) := by
  have h1 : d.SupKept { d with sys := { d.sys with st := st } } := ⟨rfl, rfl, id, fun _ _ _ _ => rfl, .inr h, Nat.le_refl _⟩
  exact h1.trans (.raise _ _ _ _ (by decide))

/-! ### Lanes and lines -/

theorem SupKept.onLane (d : Dev) (s : Nat) (f : Lane → Lane) : d.SupKept (d.onLane s f) := .of_face rfl

theorem SupKept.lanesOff (d : Dev) : d.SupKept d.lanesOff := by
  refine SupKept.foldl (fun d i hi => ?_) d
  have hi : i < 80 := List.mem_range.mp hi
  exact (SupKept.put (i := 0x3410) (j := i + 1) 0 (by simp only [key]; omega)).trans (.of_face rfl)

theorem SupKept.lanesTrain (d : Dev) : d.SupKept d.lanesTrain := by
  refine SupKept.foldl (fun d i hi => ?_) d
  have hi : i < 80 := List.mem_range.mp hi
  dsimp only
  split
  · exact (SupKept.put (i := 0x3410) (j := i + 1) 1 (by simp only [key]; omega)).trans
      ((SupKept.put (i := 0x3411) (j := i + 1) 0 (by simp only [key]; omega)).trans (.of_face rfl))
  · exact .refl d

theorem barList_lt {d : Dev} {n : Nat} (h : n ∈ d.barList) : n < 8 := by
  have : n < d.nbars := List.mem_range.mp h
  unfold nbars at this
  split at this <;> omega

theorem SupKept.revoke (d : Dev) {n : Nat} (hn : n < 8) (u : Nat) : d.SupKept (d.revoke n u) := by
  unfold Dev.revoke
  extract_lets e put _ noted pl sent
  have hput : d.SupKept noted := (SupKept.put (i := 0x342A) (j := n + 1) e (by simp only [key]; omega)).trans (.of_face rfl)
  have hsent : noted.SupKept sent := by
    refine SupKept.foldl (fun d s _ => ?_) _
    dsimp only
    split <;> exact .of_face rfl
  split
  · exact (hput.trans hsent).trans (.raise _ _ _ _ (by decide))
  · exact hput.trans hsent

theorem SupKept.undo (d : Dev) {n : Nat} (hn : n < 8) (u : Nat) (r : Bool) : d.SupKept (d.undo n u r) := by
  unfold Dev.undo
  extract_lets b keep was cut counted more
  have hcounted : d.SupKept counted := .thenBump (i := 0x5001 + 0x100 * n) (j := 3) (.of_face rfl) (by simp only [key]; omega)
  have hmore : counted.SupKept more := .bumpBy (i := 0x5001 + 0x100 * n) (j := 4) _ 32 (by simp only [key]; omega)
  split
  · split
    · exact (hcounted.trans hmore).trans (.revoke _ hn _)
    · exact (hcounted.trans hmore).trans (.foldl (fun d s _ => .onLane d s _) _)
  · exact hcounted

theorem SupKept.spoil (d : Dev) (num n cause : Nat) : d.SupKept (d.spoil num n cause) := by
  unfold Dev.spoil
  split
  · exact .refl d
  · split
    · exact .refl d
    · exact .thenRaise (.of_face rfl) (by decide)

theorem SupKept.stopBar (d : Dev) {n : Nat} (hn : n < 8) : d.SupKept (d.stopBar n) := by
  unfold Dev.stopBar
  extract_lets u loses lines undone past
  have hundone : d.SupKept undone := (SupKept.foldl (f := fun (d : Dev) (r : Rep) => d.spoil r.num n 8) (fun d r _ => .spoil d r.num n 8) d).trans (.undo _ hn _ _)
  have hpast : ∀ e j rest, SupKept e (past e j rest) := fun e j rest => .of_face rfl
  clear_value undone past
  split
  · exact hundone.trans ((hpast _ _ _).trans (.of_face rfl))
  · exact hundone.trans (hpast _ _ _)
  · exact hundone.trans (.of_face rfl)

theorem SupKept.stepDown (d : Dev) {s : Nat} (hs : s < 512) : d.SupKept (d.stepDown s) := by
  unfold Dev.stepDown
  split
  · exact (SupKept.put (i := 0x3410) (j := s) 2 (by simp only [key]; omega)).trans
      ((SupKept.put (i := 0x3411) (j := s) 1 (by simp only [key]; omega)).trans (.of_face rfl))
  · exact .refl d

/-! ### Tables and contexts -/

theorem SupKept.unwriteGen (d : Dev) (g : Gen) : d.SupKept (d.unwriteGen g) := by
  refine SupKept.foldl (fun d n _ => ?_) d
  extract_lets mine hs back put
  have hput : d.SupKept put := by
    refine SupKept.foldl (fun e h _ => ?_) d
    show SupKept e (back e h)
    simp only [back]
    split <;> exact .of_face rfl
  exact hput.trans (.of_face rfl)

theorem SupKept.withdrawGen (d : Dev) : d.SupKept d.withdrawGen := by
  unfold Dev.withdrawGen
  split
  · exact .refl d
  · next g _ =>
    extract_lets back _ none_
    have hnone : d.SupKept none_ := (SupKept.unwriteGen d g).trans (.of_face rfl)
    have hcounted : d.SupKept (((none_.put 0x3A08 2 0).put 0x3A08 3 0).bump 0x3A08 7) :=
      .thenBump (.thenPut (.thenPut hnone (by simp only [key]; omega)) (by simp only [key]; omega)) (by simp only [key]; omega)
    exact hcounted.trans (.of_face rfl)

theorem SupKept.moveBasis (d : Dev) {n : Nat} (hn : n < 8) (rep : Nat) : d.SupKept (d.moveBasis n rep) := by
  unfold Dev.moveBasis
  exact .thenPut (.thenPut (.thenPut (.of_face rfl) (by simp only [key]; omega)) (by simp only [key]; omega)) (by simp only [key]; omega)

theorem SupKept.tablesMoved (d : Dev) {n : Nat} (hn : n < 8) (at_ rep : Nat) (hs : List Held) : d.SupKept (d.tablesMoved n at_ rep hs) := by
  unfold Dev.tablesMoved
  extract_lets old tab geo
  split
  · exact .moveBasis d hn rep
  · refine SupKept.foldl (fun d i _ => ?_) d
    split
    · exact .refl d
    · exact SupKept.foldl (f := fun (d : Dev) z => d.clearColumns n z) (fun _ _ _ => .of_face rfl) d

theorem SupKept.contextsArmed (d : Dev) : d.SupKept d.contextsArmed := .of_face rfl

theorem SupKept.printOver (d : Dev) : d.SupKept d.printOver := by
  unfold Dev.printOver
  extract_lets gone back _ ended
  have hback : d.SupKept back := by
    refine SupKept.foldl (fun d r _ => ?_) d
    split
    · exact .of_face rfl
    · exact .refl d
  have hended : d.SupKept ended := hback.trans (.of_face rfl)
  clear_value ended
  refine hended.trans (SupKept.foldl (fun d n hn => ?_) ended)
  have hn := barList_lt hn
  exact (SupKept.put (i := 0x2016) (j := n + 1) 0xFF (by simp only [key]; omega)).trans ((SupKept.tablesMoved _ hn _ _ _).trans (.of_face rfl))

/-! ### Operations and the ladder -/

theorem SupKept.armFailed (d : Dev) (o : Op) (obj code result : Nat) : d.SupKept (d.armFailed o obj code result) := by
  unfold Dev.armFailed
  extract_lets e
  have he : d.SupKept e := by
    show d.SupKept (ite _ _ _)
    split <;> exact .of_face rfl
  clear_value e
  exact .thenRaise (.thenPut (.thenPut (.thenPut he (by simp only [key]; omega)) (by simp only [key]; omega)) (by simp only [key]; omega)) (by decide)

theorem bits_lt (v hi lo : Nat) : bits v hi lo < 2 ^ (hi + 1 - lo) := by
  unfold bits
  exact Nat.mod_lt _ (by positivity)

theorem laneOf_lt (d : Dev) (n l : Nat) : d.laneOf n l < 512 := by
  have h := bits_lt (d.g 0x3417 (n + 1)) (8 * l + 7) (8 * l)
  have h8 : 8 * l + 7 + 1 - 8 * l = 8 := by omega
  rw [h8] at h
  unfold laneOf
  omega

theorem SupKept.rollback (d : Dev) (result : Nat) : d.SupKept (d.rollback result) := by
  unfold Dev.rollback
  split
  · exact .refl d
  · split
    · exact .armFailed d _ _ _ _
    · exact ⟨rfl, rfl, fun _ => rfl, fun _ _ _ _ => rfl, .inl rfl, Nat.le_refl _⟩
    · exact .of_face rfl
    · exact .thenRaise (.of_face rfl) (by decide)
    · extract_lets bs down
      have hdown : d.SupKept down := by
        refine SupKept.foldl (fun d n _ => SupKept.foldl (fun e s hs => ?_) d) d
        obtain ⟨l, -, rfl⟩ := List.mem_map.mp hs
        exact .stepDown e (laneOf_lt _ _ _)
      exact hdown.trans (.of_face rfl)
    · exact .thenRaise (.thenPut (.thenPut (.of_face rfl) (by simp only [key]; omega)) (by simp only [key]; omega)) (by decide)
    · exact .refl d

theorem SupKept.endOp (d : Dev) (result : Nat) : d.SupKept (d.endOp result) := by
  unfold Dev.endOp
  split
  · exact .refl d
  · exact .thenPut (.thenPut (.thenPut (.thenPut (.of_face rfl) (by simp only [key]; omega)) (by simp only [key]; omega)) (by simp only [key]; omega))
      (by simp only [key]; omega)

theorem SupKept.abandonOp (d : Dev) (result : Nat) : d.SupKept (d.abandonOp result) := by
  unfold Dev.abandonOp
  split
  · exact .refl d
  · have h : d.SupKept ((d.rollback result).endOp result) := (SupKept.rollback d result).trans (.endOp _ _)
    dsimp only
    split
    · exact h
    · exact h.trans (.raise _ _ _ _ (by decide))

theorem SupKept.dropSwaps (d : Dev) : d.SupKept d.dropSwaps :=
  SupKept.foldl (f := fun (d : Dev) n => d.onBar n (fun b => { b with engineSwap := b.engineSwap.filter (fun e => e.ready) })) (fun _ _ _ => .of_face rfl) d

theorem SupKept.resetCore (d : Dev) : d.SupKept d.resetCore := by
  have h : d.SupKept (if d.printingLike then d.barList.foldl (fun d n => d.undo n (d.bar n).next false) d else d) := by
    split
    · exact SupKept.foldl (fun e n hn => .undo e (barList_lt hn) _ _) d
    · exact .refl d
  exact h.trans (.of_face rfl)

theorem SupKept.beginL3 (d : Dev) (r : Recovery) : d.SupKept (d.beginL3 r) := by
  have hmark : d.SupKept ((d.abandonOp 0x0F000011).dropSwaps.markL3 r) := (SupKept.abandonOp d _).trans ((SupKept.dropSwaps _).trans (.of_face rfl))
  unfold Dev.beginL3
  extract_lets marked x
  have hx : d.SupKept x := hmark.trans ((SupKept.raise marked _ _ _ (by decide)).trans ((SupKept.lanesOff _).trans ((SupKept.lanesTrain _).trans (.resetCore _))))
  clear_value x
  split
  · exact hx
  · exact hx.trans (.enter x (by decide))

theorem SupKept.relinquish (d : Dev) : d.SupKept d.relinquish := by
  unfold Dev.relinquish
  split
  · exact (SupKept.printOver d).trans (.of_face rfl)
  · exact .refl d

theorem SupKept.stopped (d : Dev) {st : DState} (h : st ≠ .boot ∧ st ≠ .off) : d.SupKept (d.printOver.contextsArmed.enter st) :=
  (SupKept.printOver d).trans ((SupKept.contextsArmed _).trans (.enter _ h))

theorem SupKept.enterFault (d : Dev) : d.SupKept d.enterFault := by
  unfold Dev.enterFault
  extract_lets idle noTail stopped ended _ _ _ _ _ x
  have hidle : d.SupKept idle := (SupKept.abandonOp d _).trans (.dropSwaps _)
  have htail : idle.SupKept noTail := SupKept.foldl (f := fun (d : Dev) n => d.onBar n (fun b => { b with tail := [] })) (fun _ _ _ => .of_face rfl) _
  have hstopped : noTail.SupKept stopped := by
    show noTail.SupKept (ite _ _ _)
    split
    · exact SupKept.foldl (fun e n hn => .stopBar e (barList_lt hn)) _
    · exact .refl _
  have hended : stopped.SupKept ended := by
    show stopped.SupKept (ite _ _ _)
    split
    · split
      · exact .withdrawGen _
      · exact .refl _
    · exact .refl _
  clear_value idle noTail stopped ended
  have hx : ended.SupKept x := .of_face rfl
  clear_value x
  exact hidle.trans (htail.trans (hstopped.trans (hended.trans (hx.trans (.stopped x (by decide))))))

theorem SupKept.takeL4 (d : Dev) (r : Recovery) : d.SupKept (d.takeL4 r) := by
  unfold Dev.takeL4
  split
  · extract_lets told _ quiet
    have htold : d.SupKept told := .thenPut (.sendHandover d 1) (by simp only [key]; omega)
    have hquiet : told.SupKept quiet := .of_face rfl
    clear_value told quiet
    exact htold.trans (hquiet.trans ((SupKept.beginL3 quiet r).trans (.relinquish _)))
  · exact (SupKept.raise d _ _ _ (by decide)).trans (.enterFault _)

end Dev

end Sys2Proof.Machine
end

section
/-! PROOFS. One sensor while others are sampled and fail (R425 to R429). -/
namespace Sys2Proof.Machine

open Sys2Proof

theorem Table.find?_erase_ne {α : Type} (t : Table α) {k j : Nat} (h : k ≠ j) : (t.erase k).find? j = t.find? j := by
  induction t with
  | nil => rfl
  | cons e r ih =>
    obtain ⟨i, w⟩ := e
    by_cases hk : i = k
    · subst hk
      simp [Table.erase, Table.find?, h]
    · by_cases hj : i = j
      · subst hj
        simp [Table.erase, Table.find?, hk]
      · simp [Table.erase, Table.find?, hk, hj, ih]

/-- A fold that meets `k` once: `P` holds until then and `Q` after it. -/
theorem foldl_touch {α : Type} {f : α → Nat → α} (P Q : α → Prop) {l : List Nat} {k : Nat} (hl : l.Nodup) (hk : k ∈ l)
    (hP : ∀ a, ∀ j ∈ l, j ≠ k → P a → P (f a j)) (hPQ : ∀ a, P a → Q (f a k)) (hQ : ∀ a, ∀ j ∈ l, j ≠ k → Q a → Q (f a j)) {a : α} (h : P a) :
    Q (l.foldl f a) := by
  have hsteps : ∀ R : α → Prop, ∀ m : List Nat, (∀ a, ∀ j ∈ m, R a → R (f a j)) → ∀ a, R a → R (m.foldl f a) := fun R m => by
    induction m with
    | nil => exact fun _ _ h => h
    | cons j m ih => exact fun hR a h => ih (fun a i hi => hR a i (List.mem_cons_of_mem _ hi)) _ (hR a j (List.mem_cons_self ..) h)
  obtain ⟨l1, l2, rfl⟩ := List.append_of_mem hk
  have h1 : ∀ j ∈ l1, j ≠ k := fun j hj => (List.nodup_append.mp hl).2.2 j hj k (List.mem_cons_self ..)
  have h2 : ∀ j ∈ l2, j ≠ k := fun j hj hjk => (List.nodup_cons.mp (List.nodup_append.mp hl).2.1).1 (hjk ▸ hj)
  rw [List.foldl_append, List.foldl_cons]
  exact hsteps Q l2 (fun a j hj => hQ a j (by simp [hj]) (h2 j hj)) _
    (hPQ _ (hsteps P l1 (fun a j hj => hP a j (by simp [hj]) (h1 j hj)) _ h))

namespace Dev

theorem SupKept.escalate (d : Dev) (r : Recovery) (a b : Nat) : d.SupKept (d.escalate r a b).1 := by
  unfold Dev.escalate
  extract_lets _ x three lv mask told
  have ht : d.SupKept told := .thenRaiseAt (.of_face rfl) (by decide)
  dsimp only
  split
  · exact .thenRaise ht (by decide)
  · exact ht

/-- A recovery of level 4 starts (R409). -/
theorem SupKept.startRec4 (d : Dev) {r : Recovery} (hr : r.level = 4) : d.SupKept (d.startRec r) := by
  obtain ⟨x, hx⟩ : ∃ x, x = { r with id := d.fl.nextId, start := d.t, level := d.levelTaken r.level r.event r.unit } := ⟨_, rfl⟩
  have h4 : x.level = 4 := by
    rw [hx, hr]
    exact (d.levelTaken_cases 4 r.event r.unit).2.2 (by decide) (.inl (by decide))
  obtain ⟨n, hn⟩ : ∃ n : Dev, n = { d with fl := { d.fl with nextId := d.fl.nextId + 1, lastL2 := if 2 ≤ x.level then some d.t else d.fl.lastL2 } } := ⟨_, rfl⟩
  have hnum : d.SupKept n := .of_face (by rw [hn]; rfl)
  have hcount : n.SupKept (n.bump 0x2208 (3 + x.level)) := .bump (by rw [h4]; decide)
  rw [startRec_eq hx (congrArg (fun n : Dev => n.bump 0x2208 (3 + x.level)) hn), (beginRec_cases _ x).2.2.2.2 h4.ge]
  exact hnum.trans (hcount.trans (.takeL4 _ x))

/-- A fault of level 4 that no engine's spare can take (R402, R409, R412). -/
theorem SupKept.fault4 (d : Dev) {e : Nat} (u m x : Nat) (he : e < 255) : d.SupKept (d.fault 4 e u m x) := by
  by_cases h : d.sys.st = .fault ∨ d.sys.st = .boot ∨ d.sys.st = .off ∨ (d.fast = false ∧ e ∉ [10, 106, 117]) ∨ ∃ x ∈ d.fl.running, 4 ≤ x.level
  · rw [fault_idle _ _ _ _ _ h]
    exact .raiseAt _ _ _ _ _ he
  · obtain ⟨hstart, hqueue⟩ := fault_taken (level := 4) (unit := u) (mask := m) (detail := x) rfl h
    by_cases hf : d.fl.running.filter (fun y => overlap y { id := 0, event := e, unit := u, mask := m, detail := x, level := 4, start := d.t }) = []
    · rw [hstart hf, if_neg (fun hc => absurd hc.1 (by decide))]
      exact (SupKept.raiseAt d _ _ _ _ he).trans (.startRec4 _ rfl)
    · rw [hqueue _ _ _ hf rfl rfl _ rfl]
      exact (SupKept.thenRaiseAt (.escalate d _ _ _) he).trans (.of_face rfl)

theorem SupKept.fastStop (d : Dev) : d.SupKept d.fastStop := by
  unfold Dev.fastStop
  extract_lets off dark alone
  have hdark : off.SupKept dark := by
    refine SupKept.foldl (fun d i hi => ?_) off
    have hi : i < 48 := List.mem_range.mp hi
    exact .thenPut (.of_face rfl) (by simp only [key]; omega)
  have halone : dark.SupKept alone := by
    show dark.SupKept (ite _ _ _)
    split
    · exact .refl _
    · exact .thenPut (.put _ (by simp only [key]; omega)) (by simp only [key]; omega)
  have hoff : d.SupKept off := .lanesOff d
  clear_value off dark alone
  exact hoff.trans (hdark.trans (halone.trans (.of_face rfl)))

/-- A sensor as the sampling and the trim see it: its reading and service, its samples and window, its trim. -/
def sensorFace (d : Dev) (k : Nat) : Nat × Nat × Option Int × Option Nat × Option (Int × Nat) × Option Int × Option Int :=
  (d.g 0x2608 (k + 1), d.g 0x260A (k + 1), d.therm.prev.find? k, d.therm.bad.find? k, d.therm.sums.find? k, d.therm.trims.find? k,
    d.cal.values.find? (6 * 256 + k))

/-- The sensors of `K` are as they were, no commanded calibration has begun, the device has not gone into Boot or Off, and the log only grew. -/
structure SensorsKept (K : Nat → Prop) (d e : Dev) : Prop where
  face : ∀ k, K k → e.sensorFace k = d.sensorFace k
  left : d.cal.left = [] → e.cal.left = []
  st : e.sys.st = d.sys.st ∨ (e.sys.st ≠ .boot ∧ e.sys.st ≠ .off)
  top : d.fl.top ≤ e.fl.top

theorem SensorsKept.refl (K : Nat → Prop) (d : Dev) : d.SensorsKept K d := ⟨fun _ _ => rfl, id, .inl rfl, Nat.le_refl _⟩

theorem SensorsKept.trans {K : Nat → Prop} {d e f : Dev} (h : d.SensorsKept K e) (h' : e.SensorsKept K f) : d.SensorsKept K f where
  face := fun k hk => (h'.face k hk).trans (h.face k hk)
  left := fun hl => h'.left (h.left hl)
  st := by
    rcases h'.st with h1 | h1
    · rw [h1]
      exact h.st
    · exact .inr h1
  top := h.top.trans h'.top

theorem SupKept.sensors {K : Nat → Prop} (hK : ∀ k, K k → k < 32) {d e : Dev} (h : d.SupKept e) : d.SensorsKept K e where
  face := fun k hk => by
    have := hK k hk
    simp only [sensorFace, h.therm, h.values, h.regs 0x2608 (k + 1) (.inl rfl) (by omega), h.regs 0x260A (k + 1) (.inr rfl) (by omega)]
  left := h.left
  st := h.st
  top := h.top

/-- A change that shows in no sensor of `K`. -/
theorem SensorsKept.of_face {K : Nat → Prop} {d e : Dev} (h : ∀ k, K k → e.sensorFace k = d.sensorFace k) (hc : e.cal.left = d.cal.left)
    (hs : e.sys = d.sys) (hf : e.fl.top = d.fl.top) : d.SensorsKept K e :=
  ⟨h, fun hl => hc.trans hl, .inl (by rw [hs]), hf.ge⟩

/-- The sensor whose role a spare takes fails (R427): every other sensor but a free spare stays as it was. -/
theorem SensorsKept.sensorFailed {K : Nat → Prop} (d : Dev) (j : Nat) (hK : ∀ k, K k → k < 32 ∧ k ≠ j ∧ bits (d.g 0x260A (k + 1)) 7 6 ≠ 1) :
    d.SensorsKept K (d.sensorFailed j) := by
  have hK' : ∀ k, K k → k < 32 := fun k hk => (hK k hk).1
  unfold Dev.sensorFailed
  extract_lets role out free own pick
  have hout : d.SensorsKept K out := by
    refine .of_face (fun k hk => ?_) rfl rfl rfl
    obtain ⟨hk, hj, -⟩ := hK k hk
    have h1 : out.g 0x2608 (k + 1) = d.g 0x2608 (k + 1) := g_put_ne _ _ (by simp only [key]; omega)
    have h2 : out.g 0x260A (k + 1) = d.g 0x260A (k + 1) := g_put_ne _ _ (by simp only [key]; omega)
    simp only [sensorFace, h1, h2]
    rfl
  have hfree : ∀ s, pick = some s → free s = true := fun s hs => by
    simp only [pick] at hs
    split at hs
    · next h => exact Option.some.inj hs ▸ h
    · exact List.find?_some hs
  clear_value pick
  split
  · exact hout.trans ((SupKept.fault4 out _ _ _ (by decide)).sensors hK')
  · split
    · exact hout.trans ((SupKept.fault4 out _ _ _ (by decide)).sensors hK')
    · next _ s =>
      have hs := hfree s rfl
      have hne : ∀ k, K k → s ≠ k := fun k hk h => (hK k hk).2.2 (by simpa only [free, h, beq_iff_eq] using hs)
      extract_lets taken g _ guarded sub
      have htaken : out.SensorsKept K guarded := by
        refine .of_face (fun k hk => ?_) rfl rfl rfl
        have hlt := hK' k hk
        have hne := hne k hk
        have h1 : taken.g 0x2608 (k + 1) = out.g 0x2608 (k + 1) := g_put_ne _ _ (by simp only [key]; omega)
        have h2 : taken.g 0x260A (k + 1) = out.g 0x260A (k + 1) := g_put_ne _ _ (by simp only [key]; omega)
        show (taken.g 0x2608 (k + 1), taken.g 0x260A (k + 1), (out.therm.prev.erase s).find? k, (out.therm.bad.erase s).find? k, _, _, _) = _
        rw [h1, h2, Table.find?_erase_ne _ hne, Table.find?_erase_ne _ hne]
        rfl
      have hsub : guarded.SupKept sub := (SupKept.minorL2 _ _ _ (by decide)).trans ((SupKept.consume _ (by decide)).trans (.substitute _ (by decide)))
      clear_value guarded sub
      exact hout.trans (htaken.trans ((hsub.trans (.saveNv sub _)).sensors hK'))

end Dev

end Sys2Proof.Machine
end

section
/-! PROOFS. Samples, rates and the thermal shutdown (R425 to R429, R437). -/
namespace Sys2Proof.Machine

open Sys2Proof

namespace Dev

/-- The thermal shutdown stops the device (R428, R429). -/
theorem thermalShutdown_cases (d : Dev) (n : Nat) : ∃ x : Dev, (∀ K, (∀ k, K k → k < 32) → d.SensorsKept K x) ∧
    x.pins.thermN = true ∧ x.pins.faultN = true ∧ x.therm.shutdown = true ∧ x.fl.running = [] ∧
    d.thermalShutdown n = if x.sys.st = .fault ∨ x.sys.st = .boot ∨ x.sys.st = .off then x else x.enter .fault := by
  unfold thermalShutdown
  extract_lets st spoils told hot raised counted rec_ staged idle spoiled stopped _ _ _ _ x
  have htold : d.SupKept told := by
    show d.SupKept (ite _ _ _)
    split
    · exact .sendHandover d 2
    · exact .refl d
  have hstaged : told.SupKept staged :=
    (SupKept.thenPut (.thenBump (.raise told _ _ _ (by decide)) (by simp only [key]; omega)) (by simp only [key]; omega)).trans (.stageNv _ _)
  have hidle : staged.SupKept idle := .abandonOp staged _
  have hspoiled : idle.SupKept spoiled := by
    show idle.SupKept (ite _ _ _)
    split
    · refine SupKept.foldl (fun e m _ => ?_) _
      split
      · split
        · exact .spoil _ _ _ _
        · exact .refl _
      · exact .refl _
    · exact .refl _
  have hstopped : spoiled.SupKept stopped := (SupKept.printOver spoiled).trans ((SupKept.contextsArmed _).trans (.fastStop _))
  clear_value told staged idle spoiled stopped
  have hsup : d.SupKept stopped := htold.trans (hstaged.trans (hidle.trans (hspoiled.trans hstopped)))
  refine ⟨x, fun K hK => (hsup.sensors hK).trans (.of_face (fun _ _ => rfl) rfl rfl rfl), rfl, rfl, rfl, rfl, ?_⟩
  simp only [Bool.or_eq_true, decide_eq_true_eq, or_assoc]

theorem SensorsKept.thermalShutdown {K : Nat → Prop} (d : Dev) (n : Nat) (hK : ∀ k, K k → k < 32) : d.SensorsKept K (d.thermalShutdown n) := by
  obtain ⟨x, hx, -, -, -, -, h⟩ := d.thermalShutdown_cases n
  rw [h]
  split
  · exact hx K hK
  · exact (hx K hK).trans ((SupKept.enter x (by decide)).sensors hK)

/-- Raising an event moves neither THERM_N nor FAULT_N, and no recovery. -/
theorem raise_outputs (d : Dev) (e m u x : Nat) (he : e < 255) :
    ((d.raise e m u x).pins.thermN, (d.raise e m u x).pins.faultN, (d.raise e m u x).fl.running) = (d.pins.thermN, d.pins.faultN, d.fl.running) := by
  have hb := d.raise_bare e m u x he
  show ((d.raise e m u x).bare.pins.thermN, (d.raise e m u x).bare.pins.faultN, (d.raise e m u x).bare.fl.running) = _
  rw [hb]
  rfl

theorem thermalShutdown_stops (d : Dev) (n : Nat) (hst : d.sys.st ≠ .boot ∧ d.sys.st ≠ .off) :
    (d.thermalShutdown n).pins.thermN = true ∧ (d.thermalShutdown n).pins.faultN = true ∧ (d.thermalShutdown n).therm.shutdown = true ∧
      (d.thermalShutdown n).sys.st = .fault ∧ (d.thermalShutdown n).fl.running = [] := by
  obtain ⟨x, hx, hthermN, hfaultN, hshut, hrun, h⟩ := d.thermalShutdown_cases n
  have hx : x.sys.st ≠ .boot ∧ x.sys.st ≠ .off := by
    rcases (hx (fun _ => False) (fun _ h => h.elim)).st with hs | hs
    · rw [hs]
      exact hst
    · exact hs
  rw [h]
  by_cases hf : x.sys.st = .fault
  · rw [if_pos (.inl hf)]
    exact ⟨hthermN, hfaultN, hshut, hf, hrun⟩
  · rw [if_neg (by simp [hf, hx])]
    obtain ⟨y, hy⟩ : ∃ y : Dev, y = { x with sys := { x.sys with st := .fault } } := ⟨_, rfl⟩
    have henter : x.enter .fault = y.raise 4 0 0xFF (x.sys.st.code * 256 + DState.fault.code) := by rw [hy]; rfl
    obtain ⟨h1, h2, h3⟩ : _ ∧ _ ∧ _ := by simpa only [Prod.mk.injEq] using y.raise_outputs 4 0 0xFF (x.sys.st.code * 256 + DState.fault.code) (by decide)
    rw [henter, h1, h2, h3, raise_therm, raise_sys, hy]
    exact ⟨hthermN, hfaultN, hshut, rfl, hrun⟩

/-! ### One sample -/

/-- A supervisory sensor's high warning (R426). -/
def warnHot (d : Dev) (k : Nat) (r hi : Int) : Dev :=
  if decide (hi ≤ r) && !d.therm.warnHigh.contains k then ({ d with therm := { d.therm with warnHigh := k :: d.therm.warnHigh } } : Dev).raise 103 0 0xFF k
  else if decide (r ≤ hi - 20) then { d with therm := { d.therm with warnHigh := d.therm.warnHigh.filter (fun y => y != k) } } else d

/-- A supervisory sensor's low warning (R426). -/
def warnCold (d : Dev) (k : Nat) (r lo : Int) : Dev :=
  if decide (r ≤ lo) && !d.therm.warnLow.contains k then ({ d with therm := { d.therm with warnLow := k :: d.therm.warnLow } } : Dev).raise 103 0 0xFF k
  else if decide (lo + 20 ≤ r) then { d with therm := { d.therm with warnLow := d.therm.warnLow.filter (fun y => y != k) } } else d

/-- Sensor `k` with its count of failing samples. -/
def setBad (d : Dev) (k n : Nat) : Dev := { d with therm := { d.therm with bad := d.therm.bad.set k n } }

/-- Sensor `k` with a reading taken into its window (R425, R426). -/
def takeReading (d : Dev) (k : Nat) (r : Int) : Dev :=
  ({ d with therm := { d.therm with
    prev := d.therm.prev.set k r
    sums := d.therm.sums.set k ((d.therm.sums.get (0, 0) k).1 + r, (d.therm.sums.get (0, 0) k).2 + 1) } } : Dev).put 0x2608 (k + 1) (ofSigned 16 r)

/-- The warnings of a supervisory sensor's reading (R426). -/
def warn (d : Dev) (k : Nat) (r : Int) : Dev := (d.warnHot k r (d.highLimit k)).warnCold k r (d.lowLimit k)

/-- The sample fails: it is missing, out of range, or too far from the one before (R427). -/
def sampleFails (d : Dev) (k : Nat) : Option Int → Bool
  | none => true
  | some r => decide (r < -550 ∨ 1500 < r) || (match d.therm.prev.find? k with
    | some p => decide (50 < (r - p).natAbs)
    | none => false)

/-- Failing samples in a row after this one (R427). -/
def failures (d : Dev) (k : Nat) (x : Option Int) : Nat := if d.sampleFails k x then d.therm.bad.get 0 k + 1 else 0

/-- The device after one sample, before the sensor fails for good (R425, R426). -/
def sampled (d : Dev) (k : Nat) (x : Option Int) : Dev :=
  match x with
  | none => d.setBad k (d.failures k x)
  | some r => if decide (k < 2) then (d.setBad k (d.failures k x)).takeReading k r else ((d.setBad k (d.failures k x)).takeReading k r).warn k r

theorem oneSample_eq (d : Dev) (k : Nat) (raw : Option Int) : d.oneSample k raw =
    if !d.sensorOn k then d
    else if d.failures k (raw.map (fun r => r + d.therm.trims.get 0 k)) == 3 then (d.sampled k (raw.map (fun r => r + d.therm.trims.get 0 k))).sensorFailed k
    else d.sampled k (raw.map (fun r => r + d.therm.trims.get 0 k)) := by
  cases raw <;> rfl

/-- A sample that is missing (R427). -/
theorem oneSample_none {d e : Dev} {k : Nat} (h : d.sensorOn k = true) (he : e = d.setBad k (d.therm.bad.get 0 k + 1)) :
    d.oneSample k none = if d.therm.bad.get 0 k = 2 then e.sensorFailed k else e := by
  subst he
  have hf : d.failures k none = d.therm.bad.get 0 k + 1 := rfl
  simp only [oneSample_eq, h, Bool.not_true, Bool.false_eq_true, if_false, Option.map_none, hf, beq_iff_eq, Nat.reduceEqDiff, sampled]

/-- A plausible sample (R425 to R427). -/
theorem oneSample_some {d : Dev} {k : Nat} {raw r : Int} (h : d.sensorOn k = true) (hr : r = raw + d.therm.trims.get 0 k) (hlo : -550 ≤ r) (hhi : r ≤ 1500)
    (hp : ∀ p, d.therm.prev.find? k = some p → (r - p).natAbs ≤ 50) :
    d.oneSample k (some raw) = if k < 2 then (d.setBad k 0).takeReading k r else ((d.setBad k 0).takeReading k r).warn k r := by
  have hfail : d.sampleFails k (some r) = false := by
    show (decide (r < -550 ∨ 1500 < r) || _) = false
    rw [decide_eq_false (by omega), Bool.false_or]
    cases hpk : d.therm.prev.find? k with
    | none => rfl
    | some p => exact decide_eq_false (by have := hp p hpk; omega)
  have hf : d.failures k (some r) = 0 := by rw [failures, hfail]; rfl
  simp only [oneSample_eq, h, Bool.not_true, Bool.false_eq_true, if_false, Option.map_some, ← hr, hf, Nat.reduceBEq, sampled, decide_eq_true_eq]

/-- Warnings change no sensor's record, and no object but event counters. -/
theorem SensorsKept.warn {K : Nat → Prop} (hK : ∀ k, K k → k < 32) (d : Dev) (j : Nat) (r : Int) : d.SensorsKept K (d.warn j r) := by
  have hraise : ∀ e : Dev, e.SensorsKept K (e.raise 103 0 0xFF j) := fun e => (SupKept.raise e (e := 103) 0 0xFF j (by decide)).sensors hK
  have hhot : ∀ e : Dev, ∀ hi, e.SensorsKept K (e.warnHot j r hi) := fun e hi => by
    unfold warnHot
    split
    · refine SensorsKept.trans ?_ (hraise _)
      exact .of_face (fun _ _ => rfl) rfl rfl rfl
    · split
      · exact .of_face (fun _ _ => rfl) rfl rfl rfl
      · exact .refl K e
  have hcold : ∀ e : Dev, ∀ lo, e.SensorsKept K (e.warnCold j r lo) := fun e lo => by
    unfold warnCold
    split
    · refine SensorsKept.trans ?_ (hraise _)
      exact .of_face (fun _ _ => rfl) rfl rfl rfl
    · split
      · exact .of_face (fun _ _ => rfl) rfl rfl rfl
      · exact .refl K e
  unfold Dev.warn
  exact (hhot d _).trans (hcold _ _)

theorem sensorFace_setBad (d : Dev) {j k : Nat} (n : Nat) (h : j ≠ k) : (d.setBad j n).sensorFace k = d.sensorFace k := by
  show (_, _, _, (d.therm.bad.set j n).find? k, _, _, _) = _
  rw [Table.find?_set_ne _ _ h]
  rfl

theorem sensorFace_takeReading (d : Dev) {j k : Nat} (r : Int) (h : j ≠ k) (hj : j < 32) (hk : k < 32) : (d.takeReading j r).sensorFace k = d.sensorFace k := by
  unfold takeReading
  simp only [sensorFace, g_put_ne (i := 0x2608) (j := j + 1) (i' := 0x2608) (j' := k + 1) _ _ (by simp only [key]; omega),
    g_put_ne (i := 0x2608) (j := j + 1) (i' := 0x260A) (j' := k + 1) _ _ (by simp only [key]; omega)]
  show (_, _, (d.therm.prev.set j r).find? k, _, (d.therm.sums.set j _).find? k, _, _) = _
  rw [Table.find?_set_ne _ _ h, Table.find?_set_ne _ _ h]
  rfl

/-- Another sensor's sample leaves the sensors of `K`, which are in service, as they were. -/
theorem SensorsKept.oneSample {K : Nat → Prop} (d : Dev) {j : Nat} (hj : j < 32) (x : Option Int) (hK : ∀ k, K k → k < 32 ∧ k ≠ j ∧ d.sensorOn k = true) :
    d.SensorsKept K (d.oneSample j x) := by
  have hK' : ∀ k, K k → k < 32 := fun k hk => (hK k hk).1
  have hsampled : ∀ x, d.SensorsKept K (d.sampled j x) := fun x => by
    have hbad : d.SensorsKept K (d.setBad j (d.failures j x)) := .of_face (fun k hk => sensorFace_setBad d _ (hK k hk).2.1.symm) rfl rfl rfl
    cases x with
    | none => exact hbad
    | some r =>
      have htaken : d.SensorsKept K ((d.setBad j (d.failures j (some r))).takeReading j r) :=
        hbad.trans (.of_face (fun k hk => sensorFace_takeReading _ r (hK k hk).2.1.symm hj (hK' k hk)) rfl rfl rfl)
      unfold sampled
      dsimp only
      split
      · exact htaken
      · exact htaken.trans (.warn hK' _ _ _)
  rw [oneSample_eq]
  split
  · exact .refl K d
  · split
    · have hs := hsampled (x.map (fun r => r + d.therm.trims.get 0 j))
      refine hs.trans (.sensorFailed _ j (fun k hk => ⟨hK' k hk, (hK k hk).2.1, ?_⟩))
      obtain ⟨-, hg, -⟩ : _ ∧ _ ∧ _ := by simpa only [sensorFace, Prod.mk.injEq] using hs.face k hk
      have hon : bits (d.g 0x260A (k + 1)) 7 6 = 0 := by simpa only [sensorOn, beq_iff_eq] using (hK k hk).2.2
      rw [hg, hon]
      decide
    · exact hsampled _

end Dev

end Sys2Proof.Machine
end

section
/-! PROOFS. The sampling rate, a window's rates, and records written to NV (R425, R426, R431, R432, R446, R447). -/
namespace Sys2Proof.Machine

open Sys2Proof

namespace Dev

theorem SensorsKept.sampleRate {K : Nat → Prop} (hK : ∀ k, K k → k < 32) (d : Dev) : d.SensorsKept K d.sampleRate := by
  have hput : ∀ e : Dev, ∀ v, e.SensorsKept K (e.put 0x260B 0 v) := fun e v => (SupKept.put v (by decide)).sensors hK
  unfold Dev.sampleRate
  extract_lets on within near calm
  split
  · refine SensorsKept.trans ?_ (hput _ _)
    exact .of_face (fun _ _ => rfl) rfl rfl rfl
  · split
    · exact .of_face (fun _ _ => rfl) rfl rfl rfl
    · split
      · exact .of_face (fun _ _ => rfl) rfl rfl rfl
      · split
        · exact hput d _
        · exact .refl K d

/-- The sampling rate follows the readings (R425). -/
theorem sampleRate_cases {d : Dev} {near calm : Prop}
    (hnear : near ↔ ∃ k, k < 32 ∧ d.sensorOn k = true ∧ (d.highLimit k - 101 < d.reading k ∨ (2 ≤ k ∧ d.reading k < d.lowLimit k + 101)))
    (hcalm : calm ↔ ∀ k, k < 32 → d.sensorOn k = true → d.reading k ≤ d.highLimit k - 121 ∧ (2 ≤ k → d.lowLimit k + 121 ≤ d.reading k)) :
    (near → d.sampleRate = ({ d with therm := { d.therm with calmSince := none } } : Dev).put 0x260B 0 16000) ∧
    (¬ near → ¬ calm → d.sampleRate = { d with therm := { d.therm with calmSince := none } }) ∧
    (calm → d.therm.calmSince = none → d.sampleRate = { d with therm := { d.therm with calmSince := some d.t } }) ∧
    (∀ t, calm → d.therm.calmSince = some t → d.sampleRate = if t + 1000000000 ≤ d.t then d.put 0x260B 0 1000 else d) := by
  have hapart : calm → ¬near := fun hc hn => by
    obtain ⟨k, hk, hon, h⟩ := hnear.mp hn
    obtain ⟨h1, h2⟩ := hcalm.mp hc k hk hon
    rcases h with h | ⟨hk2, h⟩
    · omega
    · have := h2 hk2
      omega
  unfold Dev.sampleRate
  extract_lets on within near' calm'
  have hn : near' = true ↔ near := by
    rw [hnear]
    simp only [near', on, within, List.any_eq_true, List.mem_filter, List.mem_range, Bool.or_eq_true, Bool.and_eq_true, decide_eq_true_eq, and_assoc]
  have hc : calm' = true ↔ calm := by
    rw [hcalm]
    simp only [calm', on, within, List.all_eq_true, List.mem_filter, List.mem_range, Bool.not_eq_true', Bool.or_eq_false_iff, Bool.and_eq_false_imp,
      decide_eq_true_eq, decide_eq_false_iff_not, and_imp, not_lt]
  refine ⟨fun h => if_pos (hn.mpr h), fun h h' => ?_, fun h h' => ?_, fun t h h' => ?_⟩
  · rw [if_neg (hn.not.mpr h), if_pos (by simpa using hc.not.mpr h')]
  · rw [if_neg (hn.not.mpr (hapart h)), if_neg (by simpa using hc.mpr h), h']
  · rw [if_neg (hn.not.mpr (hapart h)), if_neg (by simpa using hc.mpr h), h']
    simp only [decide_eq_true_eq]

/-! ### The end of a window -/

/-- Sensor `k`'s window ends with the mean `m` (R426). -/
def meanTaken (d : Dev) (k : Nat) (m : Rat) : Dev :=
  { d with therm := { d.therm with means := d.therm.means.set k m, sums := d.therm.sums.set k (0, 0) } }

/-- The warning of a sensor's rate (R426). -/
def warnRate (d : Dev) (k : Nat) (rate : Rat) : Dev :=
  if decide (k < 2) then d
  else if (d.g 0x2602 (d.roleOf k + 1) : Rat) ≤ rate then
    if d.therm.warnRise.contains k then d
    else ({ d with therm := { d.therm with warnRise := k :: d.therm.warnRise } } : Dev).raise 104
  else { d with therm := { d.therm with warnRise := d.therm.warnRise.filter (fun y => y != k) } }

/-- Sensor `k`'s rate, with its warning (R426). -/
def reportRate (d : Dev) (k : Nat) (rate : Rat) : Dev :=
  (d.put 0x2609 (k + 1) (ofSigned 16 (clampInt (roundRat rate) (-32768) 32767))).warnRate k rate

theorem windowRate_idle {d : Dev} {k n : Nat} {s : Int} (hs : d.therm.sums.get (0, 0) k = (s, n)) (h : d.sensorOn k = false ∨ n = 0) : d.windowRate k = d := by
  simp only [windowRate, hs]
  exact if_pos (by rcases h with h | h <;> simp [h])

theorem windowRate_first {d : Dev} {k n : Nat} {s : Int} (hs : d.therm.sums.get (0, 0) k = (s, n)) (hon : d.sensorOn k = true) (hn : n ≠ 0)
    (hm : d.therm.means.find? k = none) : d.windowRate k = d.meanTaken k ((s : Rat) / (n : Rat)) := by
  have hc : ¬(!d.sensorOn k || n == 0) = true := by simp [hon, hn]
  simp only [windowRate, hs, if_neg hc, hm]
  rfl

theorem windowRate_next {d : Dev} {k n : Nat} {s : Int} {p : Rat} (hs : d.therm.sums.get (0, 0) k = (s, n)) (hon : d.sensorOn k = true) (hn : n ≠ 0)
    (hm : d.therm.means.find? k = some p) :
    d.windowRate k = (d.meanTaken k ((s : Rat) / (n : Rat))).reportRate k (((s : Rat) / (n : Rat) - p) * 10) := by
  have hc : ¬(!d.sensorOn k || n == 0) = true := by simp [hon, hn]
  simp only [windowRate, hs, if_neg hc, hm]
  rfl

/-- What a rate's report changes: the sensor's rate and its warning. -/
theorem reportRate_keeps (d : Dev) (k : Nat) (rate : Rat) :
    (d.reportRate k rate).therm.means = d.therm.means ∧ (d.reportRate k rate).therm.sums = d.therm.sums ∧
    (∀ j, j ≠ k → (j ∈ (d.reportRate k rate).therm.warnRise ↔ j ∈ d.therm.warnRise)) ∧
    (∀ i j, key i j ≠ key 0x2609 (k + 1) → eventKey (key i j) = false → (d.reportRate k rate).g i j = d.g i j) ∧
    (k < 32 → (d.reportRate k rate).g 0x2609 (k + 1) = ofSigned 16 (clampInt (roundRat rate) (-32768) 32767)) ∧
    (2 ≤ k → k < 32 → (k ∈ (d.reportRate k rate).therm.warnRise ↔ (d.g 0x2602 (d.roleOf k + 1) : Rat) ≤ rate)) := by
  unfold reportRate
  generalize he : d.put 0x2609 (k + 1) (ofSigned 16 (clampInt (roundRat rate) (-32768) 32767)) = e
  have hself : e.g 0x2609 (k + 1) = ofSigned 16 (clampInt (roundRat rate) (-32768) 32767) := he ▸ g_put_self ..
  have hother : ∀ i j, key i j ≠ key 0x2609 (k + 1) → e.g i j = d.g i j := fun i j h => he ▸ g_put_ne _ _ h.symm
  have htherm : e.therm = d.therm := he ▸ rfl
  have hlim : k < 32 → e.g 0x2602 (e.roleOf k + 1) = d.g 0x2602 (d.roleOf k + 1) := fun hk => by
    have hr : e.roleOf k = d.roleOf k := by
      simp only [roleOf]
      rw [hother _ _ (by simp only [key]; omega)]
    have hlt : d.roleOf k < 64 := by
      have := bits_lt (d.g 0x260A (k + 1)) 5 0
      simp only [roleOf]
      split <;> omega
    rw [hr, hother _ _ (by simp only [key]; omega)]
  have hev : k < 32 → eventKey (key 0x2609 (k + 1)) = false := fun hk => by
    simp only [eventKey, key, Bool.or_eq_false_iff, beq_eq_false_iff_ne]
    omega
  unfold warnRate
  split
  · next h =>
    refine ⟨by rw [htherm], by rw [htherm], fun j _ => by rw [htherm], fun i j h _ => hother i j h, fun _ => hself, fun h2 _ => ?_⟩
    simp only [decide_eq_true_eq] at h
    omega
  · split
    · next hle =>
      split
      · next hc =>
        refine ⟨by rw [htherm], by rw [htherm], fun j _ => by rw [htherm], fun i j h _ => hother i j h, fun _ => hself, fun _ hk => ?_⟩
        rw [← hlim hk]
        exact iff_of_true (by simpa using hc) hle
      · refine ⟨?_, ?_, fun j hj => ?_, fun i j h he => ?_, fun hk => ?_, fun _ hk => ?_⟩
        · simp only [raise_therm, htherm]
        · simp only [raise_therm, htherm]
        · simp only [raise_therm, htherm, List.mem_cons, hj, false_or]
        · exact (g_raise _ _ _ _ _ (by decide) he).trans (hother i j h)
        · exact (g_raise _ _ _ _ _ (by decide) (hev hk)).trans hself
        · rw [← hlim hk]
          exact iff_of_true (by simp only [raise_therm, List.mem_cons, true_or]) hle
    · next hle =>
      refine ⟨by rw [htherm], by rw [htherm], fun j hj => ?_, fun i j h _ => hother i j h, fun _ => hself, fun _ hk => ?_⟩
      · simp [htherm, hj]
      · rw [← hlim hk]
        exact iff_of_false (by simp) hle

/-- Another sensor's window leaves sensor `k`'s rate, mean, window, warning and service as they were. -/
theorem windowRate_keeps (d : Dev) {j k : Nat} (hj : j < 32) (hk : k < 32) (hjk : j ≠ k) :
    (d.windowRate j).g 0x2609 (k + 1) = d.g 0x2609 (k + 1) ∧ (d.windowRate j).therm.means.find? k = d.therm.means.find? k ∧
    (d.windowRate j).therm.sums.find? k = d.therm.sums.find? k ∧ (k ∈ (d.windowRate j).therm.warnRise ↔ k ∈ d.therm.warnRise) ∧
    (d.windowRate j).g 0x260A (k + 1) = d.g 0x260A (k + 1) ∧ (∀ r, r < 64 → (d.windowRate j).g 0x2602 (r + 1) = d.g 0x2602 (r + 1)) := by
  obtain ⟨⟨s, n⟩, hs⟩ : ∃ x, d.therm.sums.get (0, 0) j = x := ⟨_, rfl⟩
  by_cases hidle : d.sensorOn j = false ∨ n = 0
  · rw [windowRate_idle hs hidle]
    exact ⟨rfl, rfl, rfl, Iff.rfl, rfl, fun _ _ => rfl⟩
  · rw [not_or] at hidle
    have hclosed : ∀ m, (d.meanTaken j m).therm.means.find? k = d.therm.means.find? k ∧ (d.meanTaken j m).therm.sums.find? k = d.therm.sums.find? k :=
      fun m => ⟨Table.find?_set_ne _ _ hjk, Table.find?_set_ne _ _ hjk⟩
    cases hm : d.therm.means.find? j with
    | none =>
      rw [windowRate_first hs (by simpa using hidle.1) hidle.2 hm]
      exact ⟨rfl, (hclosed _).1, (hclosed _).2, Iff.rfl, rfl, fun _ _ => rfl⟩
    | some p =>
      rw [windowRate_next hs (by simpa using hidle.1) hidle.2 hm]
      obtain ⟨h1, h2, h3, h4, -, -⟩ := (d.meanTaken j ((s : Rat) / (n : Rat))).reportRate_keeps j (((s : Rat) / (n : Rat) - p) * 10)
      have hev : ∀ i v, i = 0x2602 ∨ i = 0x2609 ∨ i = 0x260A → v < 65 → eventKey (key i v) = false := fun i v hi hv => by
        simp only [eventKey, key, Bool.or_eq_false_iff, beq_eq_false_iff_ne]
        omega
      refine ⟨h4 _ _ (by simp only [key]; omega) (hev _ _ (by decide) (by omega)), ?_, ?_, h3 k hjk.symm,
        h4 _ _ (by simp only [key]; omega) (hev _ _ (by decide) (by omega)),
        fun r hr => h4 _ _ (by simp only [key]; omega) (hev _ _ (by decide) (by omega))⟩
      · rw [h1]
        exact (hclosed _).1
      · rw [h2]
        exact (hclosed _).2

end Dev

/-- A window's end gives each sensor in service its rate (R426). -/
theorem rateWindow_runs {s : State} {k n : Nat} {sum : Int} {mean p : Rat} (hk : k < 32) (hon : s.dev.sensorOn k = true)
    (hsum : s.dev.therm.sums.get (0, 0) k = (sum, n)) (hn : n ≠ 0) (hmean : mean = (sum : Rat) / (n : Rat)) (hp : s.dev.therm.means.find? k = some p) :
    Runs .rateWindow s (fun t => t.dev.g 0x2609 (k + 1) = ofSigned 16 (clampInt (roundRat ((mean - p) * 10)) (-32768) 32767) ∧
      t.dev.therm.means.find? k = some mean ∧ t.dev.therm.sums.find? k = some (0, 0) ∧
      (2 ≤ k → (k ∈ t.dev.therm.warnRise ↔ (s.dev.g 0x2602 (s.dev.roleOf k + 1) : Rat) ≤ (mean - p) * 10))) := by
  have hlt : s.dev.roleOf k < 64 := by
    have := Dev.bits_lt (s.dev.g 0x260A (k + 1)) 5 0
    simp only [Dev.roleOf]
    split <;> omega
  obtain ⟨d, hd⟩ : ∃ d : Dev, d = (List.range 32).foldl (fun d j => d.windowRate j) s.begin_ := ⟨_, rfl⟩
  refine Runs.of_done (d := d) (hd ▸ rfl) ?_
  suffices h : d.g 0x2609 (k + 1) = ofSigned 16 (clampInt (roundRat ((mean - p) * 10)) (-32768) 32767) ∧ d.therm.means.find? k = some mean ∧
      d.therm.sums.find? k = some (0, 0) ∧ (2 ≤ k → (k ∈ d.therm.warnRise ↔ (s.dev.g 0x2602 (s.dev.roleOf k + 1) : Rat) ≤ (mean - p) * 10)) from h
  rw [hd]
  refine foldl_touch (f := fun (d : Dev) j => d.windowRate j) (l := List.range 32) (k := k)
    (fun d => d.therm.sums.find? k = s.dev.therm.sums.find? k ∧ d.therm.means.find? k = some p ∧ d.g 0x260A (k + 1) = s.dev.g 0x260A (k + 1) ∧
      ∀ r, r < 64 → d.g 0x2602 (r + 1) = s.dev.g 0x2602 (r + 1))
    (fun d => d.g 0x2609 (k + 1) = ofSigned 16 (clampInt (roundRat ((mean - p) * 10)) (-32768) 32767) ∧ d.therm.means.find? k = some mean ∧
      d.therm.sums.find? k = some (0, 0) ∧ (2 ≤ k → (k ∈ d.therm.warnRise ↔ (s.dev.g 0x2602 (s.dev.roleOf k + 1) : Rat) ≤ (mean - p) * 10)))
    List.nodup_range (List.mem_range.mpr hk) (fun d j hj hjk h => ?_) (fun d h => ?_) (fun d j hj hjk h => ?_) ⟨rfl, hp, rfl, fun _ _ => rfl⟩
  · obtain ⟨h1, h2, h3, h4⟩ := h
    obtain ⟨-, hm, hs, -, hr, hl⟩ := d.windowRate_keeps (List.mem_range.mp hj) hk hjk
    exact ⟨hs.trans h1, hm.trans h2, hr.trans h3, fun r hr => (hl r hr).trans (h4 r hr)⟩
  · obtain ⟨h1, h2, h3, h4⟩ := h
    have hs : d.therm.sums.get (0, 0) k = (sum, n) := by
      rw [Table.get_eq_find?, h1, ← Table.get_eq_find?, hsum]
    have hon' : d.sensorOn k = true := by
      rw [Dev.sensorOn, h3]
      exact hon
    have hrole : d.roleOf k = s.dev.roleOf k := by
      rw [Dev.roleOf, h3]
      rfl
    rw [Dev.windowRate_next hs hon' hn h2, ← hmean]
    obtain ⟨hm, hz, -, -, hrate, hwarn⟩ := (d.meanTaken k mean).reportRate_keeps k ((mean - p) * 10)
    refine ⟨hrate hk, ?_, ?_, fun h2 => (hwarn h2 hk).trans ?_⟩
    · rw [hm]
      exact Table.find?_set_self ..
    · rw [hz]
      exact Table.find?_set_self ..
    · show (d.g 0x2602 (d.roleOf k + 1) : Rat) ≤ _ ↔ _
      rw [hrole, h4 _ hlt]
  · obtain ⟨h1, h2, h3, h4⟩ := h
    obtain ⟨hg, hm, hs, hw, -, -⟩ := d.windowRate_keeps (List.mem_range.mp hj) hk hjk
    exact ⟨hg.trans h1, hm.trans h2, hs.trans h3, fun h => hw.trans (h4 h)⟩

end Sys2Proof.Machine
end

section
/-! PROOFS. NV writes, a sensor's sample among the others, and the obligation on temperatures and records (R425 to R432, R446, R447). -/
namespace Sys2Proof.Machine

open Sys2Proof

namespace Dev

/-! ### NV writes -/

theorem nv_consume (d : Dev) (pool : Nat) : (d.consume pool).nv = d.nv := by
  simp only [consume]
  split
  · rw [raise_nv]
    rfl
  · split
    · rw [raise_nv]
      rfl
    · rfl

theorem nv_minorL2 (d : Dev) (e m x : Nat) : (d.minorL2 e m x).nv = d.nv := by
  show (raiseAt _ 2 e m 0xFF x).nv = _
  rw [raiseAt_nv]

theorem nv_substitute (d : Dev) (pool : Nat) : (d.substitute pool).nv = d.nv := by
  show (raise _ 111 0 0xFF pool).nv = _
  rw [raise_nv]
  rfl

/-- Saving a record cuts no write short. -/
theorem writing_saveNv (d : Dev) (r : NvRec) : ∃ l, (d.saveNv r).nv.writing = d.nv.writing ++ l := by
  unfold saveNv
  split
  · exact ⟨[r], rfl⟩
  · refine ⟨[], ?_⟩
    rw [List.append_nil]
    unfold stageNv
    extract_lets same st _ full d1 st' _ d2
    have h1 : d1.nv = d.nv := by
      show (if full then d.bump 0x260C 2 else d).nv = _
      split <;> rfl
    have h2 : d2.nv.writing = d.nv.writing := by
      show d1.nv.writing = _
      rw [h1]
    clear_value d2
    split
    · rfl
    · split
      · rw [raise_nv, h2]
      · exact h2

theorem SupKept.retireSector (d : Dev) (k : Nat) : d.SupKept (d.retireSector k) := by
  unfold Dev.retireSector
  extract_lets _ out _ spared counted
  have hout : d.SupKept out := .of_face rfl
  split
  · exact .thenPut hout (by decide)
  · have hspared : d.SupKept spared := .of_face rfl
    have hcounted : spared.SupKept counted := (SupKept.minorL2 _ _ _ (by decide)).trans (.consume _ (by decide))
    clear_value spared counted
    exact hspared.trans (hcounted.trans ((SupKept.substitute _ (by decide)).trans (.saveNv _ _)))

theorem SupKept.eraseSector (d : Dev) : d.SupKept d.eraseSector := by
  unfold Dev.eraseSector
  extract_lets k n _ erased counted
  have hcounted : d.SupKept counted := .thenBumpBy (.thenPut (.of_face rfl) (by decide)) (by decide)
  clear_value counted
  split
  · exact hcounted.trans (.retireSector _ _)
  · exact hcounted

theorem serviceFace_retireSector (d : Dev) (k : Nat) : serviceFace (d.retireSector k) = serviceFace d := by
  unfold retireSector
  extract_lets _ out _ spared counted
  split
  · rfl
  · refine (serviceFace_saveNv _ _).trans ((serviceFace_raiseAt _ _ (by decide) _ _ _).trans ?_)
    show serviceFace (consume _ 14) = _
    refine (serviceFace_consume _ _).trans ?_
    exact serviceFace_raiseAt _ 2 (by decide) _ _ _

theorem serviceFace_eraseSector (d : Dev) : serviceFace d.eraseSector = serviceFace d := by
  unfold eraseSector
  extract_lets k n _ erased counted
  have hcounted : serviceFace counted = serviceFace d := rfl
  clear_value counted
  split
  · exact (serviceFace_retireSector _ _).trans hcounted
  · exact hcounted

theorem serviceFace_nvFailed (d : Dev) (r : NvRec) (rest : List NvRec) : serviceFace (d.nvFailed r rest) = serviceFace d := by
  unfold nvFailed
  split
  · extract_lets _ cut old _ lost
    clear_value old
    have hlost : serviceFace lost = serviceFace d := by
      cases old <;> rfl
    clear_value lost
    split
    · exact hlost
    · exact (serviceFace_raiseAt _ _ (by decide) _ _ _).trans hlost
  · exact serviceFace_retireSector _ _

theorem op_of_serviceFace {d e : Dev} (h : serviceFace e = serviceFace d) : e.com.op = d.com.op := congrArg (fun f => f.2.1) h

/-- Retiring a sector cuts no write short. -/
theorem writing_retireSector (d : Dev) (k : Nat) : ∃ l, (d.retireSector k).nv.writing = d.nv.writing ++ l := by
  unfold retireSector
  extract_lets _ out _ spared counted
  split
  · exact ⟨[], (List.append_nil _).symm⟩
  · obtain ⟨l, hl⟩ := (counted.substitute 14).writing_saveNv { kind := 14, obj := k, val := counted.nv.spares }
    refine ⟨l, hl.trans ?_⟩
    rw [nv_substitute]
    simp only [counted, nv_consume, nv_minorL2]
    rfl

theorem nvFailed_spared {d : Dev} {r : NvRec} {rest : List NvRec} (h : d.nv.spares ≠ 0) :
    d.nvFailed r rest = ({ d with nv := { d.nv with writing := r :: rest } } : Dev).retireSector d.nextSector :=
  if_neg (by simpa using h)

theorem nvFailed_lost {d : Dev} {r : NvRec} {rest : List NvRec} (h : d.nv.spares = 0) (hr : r.kind ≠ 8) (hs : ∀ x ∈ d.nv.stored, x.kind ≠ 8) :
    d.nvFailed r rest = ({ d with nv := { d.nv with writing := rest } } : Dev).raise 15 := by
  have hnone : d.nv.stored.find? (fun x => x.kind == 8) = none := by
    rw [List.find?_eq_none]
    intro x hx
    simpa using hs x hx
  unfold nvFailed
  rw [if_pos (by simpa using h)]
  simp only [hnone, if_neg (show ¬(r.kind == 8) = true by simpa using hr)]

/-- The end of an NV write: of a class 3 operation, or of a record saved on its own (R432, R465). -/
def nvEnded (d : Dev) (ok lost : Bool) (kind : Nat) : Dev :=
  let saved (d : Dev) : Dev := if ok && (kind == 10 || kind == 11) then d.raise 124 else d
  match d.com.op with
  | some o =>
    if o.cls != 3 then saved d
    else if lost then (({ d with nv := { d.nv with writing := [] } } : Dev).drew.endOp (d.freeNat % 4294967296))
    else if d.nv.writing.isEmpty then (d.raise 124).endOp 0
    else d
  | none => saved d

theorem nvEnded_single {d : Dev} (h : ∀ o, d.com.op = some o → o.cls ≠ 3) (ok lost : Bool) (kind : Nat) :
    d.nvEnded ok lost kind = if ok = true ∧ (kind = 10 ∨ kind = 11) then d.raise 124 else d := by
  unfold nvEnded
  cases ho : d.com.op with
  | none => simp only [Bool.and_eq_true, Bool.or_eq_true, beq_iff_eq]
  | some o => simp only [if_pos (show (o.cls != 3) = true by simpa using h o ho), Bool.and_eq_true, Bool.or_eq_true, beq_iff_eq]

theorem nvEnded_class3 {d : Dev} {o : Op} (ho : d.com.op = some o) (h3 : o.cls = 3) (ok lost : Bool) (kind : Nat) :
    d.nvEnded ok lost kind = if lost then (({ d with nv := { d.nv with writing := [] } } : Dev).drew.endOp (d.freeNat % 4294967296))
      else if d.nv.writing = [] then (d.raise 124).endOp 0 else d := by
  simp only [nvEnded, ho, h3, bne_self_eq_false, Bool.false_eq_true, if_false, List.isEmpty_iff]

/-- A record's place in the NV store (R446). -/
theorem recordWritten_eq (d : Dev) (r : NvRec) : d.recordWritten r =
    if r.kind = 5 then { d with pins := { d.pins with thermN := false }, therm := { d.therm with recordUnwritten := false } } else d := by
  simp only [recordWritten, beq_iff_eq]

end Dev

theorem nvWriteComplete_eq {s : State} {r : NvRec} {tail : List NvRec} {e : Dev} (hw : s.dev.nv.writing = r :: tail)
    (he : e = (if Config.freeValue s.dev.free % 2 = 1 then ({ s.begin_ with free := s.dev.free + 1 } : Dev).eraseSector
      else { s.begin_ with free := s.dev.free + 1 })) (ok : Bool) :
    exec (.nvWriteComplete ok) s = s.done ((if ok then (({ e with nv := { e.nv with writing := e.nv.writing.drop 1 } } : Dev).storeNv r).recordWritten r
      else e.nvFailed r (e.nv.writing.drop 1)).nvEnded ok (!ok && e.nv.spares == 0) r.kind) := by
  have he' : (if (s.begin_.freeNat % 2 == 1) = true then s.begin_.drew.eraseSector else s.begin_.drew) = e := by
    rw [he]
    simp only [beq_iff_eq]
    rfl
  have hw' : s.begin_.nv.writing = r :: tail := hw
  simp only [exec, execNvWriteComplete, hw', he']
  rfl

end Sys2Proof.Machine
end

section
/-! PROOFS. The obligation on temperatures and records (R425 to R432, R446, R447). -/
namespace Sys2Proof.Machine

open Sys2Proof

/-! ### The samples of a round -/

/-- A sampling round: one sample of each sensor that has one (R425). -/
def samples (readings : List (Option Int)) (d : Dev) : Dev := (List.range 32).foldl (fun d k => match readings[k]? with
  | some r => d.oneSample k r
  | none => d) d

theorem sensorSample_eq {s : State} {readings : List (Option Int)} {d : Dev} (hd : d = (samples readings s.begin_).sampleRate) :
    exec (.sensorSample readings) s = s.done
      (if (d.sensorOn 0 && decide (1250 ≤ d.reading 0) && !decide (1250 ≤ s.begin_.reading 0)) || (d.sensorOn 1 && decide (1250 ≤ d.reading 1) && !decide (1250 ≤ s.begin_.reading 1))
        then d.thermalShutdown (if (d.sensorOn 0 && decide (1250 ≤ d.reading 0) && !decide (1250 ≤ s.begin_.reading 0)) &&
          (d.sensorOn 1 && decide (1250 ≤ d.reading 1) && !decide (1250 ≤ s.begin_.reading 1)) then 2
          else if d.sensorOn 0 && decide (1250 ≤ d.reading 0) && !decide (1250 ≤ s.begin_.reading 0) then 0 else 1) else d) := by
  rw [hd]
  rfl

namespace Dev

/-- A sensor's own plausible sample. -/
theorem sensorFace_oneSample {d : Dev} {k : Nat} {raw r : Int} (hk : k < 32) (h : d.sensorOn k = true) (hr : r = raw + d.therm.trims.get 0 k) (hlo : -550 ≤ r)
    (hhi : r ≤ 1500) (hp : ∀ p, d.therm.prev.find? k = some p → (r - p).natAbs ≤ 50) :
    (d.oneSample k (some raw)).sensorFace k = (ofSigned 16 r, d.g 0x260A (k + 1), some r, some 0,
      some ((d.therm.sums.get (0, 0) k).1 + r, (d.therm.sums.get (0, 0) k).2 + 1), d.therm.trims.find? k, d.cal.values.find? (6 * 256 + k)) ∧
    (d.oneSample k (some raw)).sys = d.sys := by
  obtain ⟨e, he⟩ : ∃ e, e = (d.setBad k 0).takeReading k r := ⟨_, rfl⟩
  have hface : e.sensorFace k = (ofSigned 16 r, d.g 0x260A (k + 1), some r, some 0,
      some ((d.therm.sums.get (0, 0) k).1 + r, (d.therm.sums.get (0, 0) k).2 + 1), d.therm.trims.find? k, d.cal.values.find? (6 * 256 + k)) := by
    have h1 : e.g 0x2608 (k + 1) = ofSigned 16 r := by
      rw [he]
      exact g_put_self ..
    have h2 : e.g 0x260A (k + 1) = d.g 0x260A (k + 1) := by
      rw [he]
      exact g_put_ne _ _ (by simp only [key]; omega)
    have h3 : (e.therm.prev.find? k, e.therm.bad.find? k, e.therm.sums.find? k) =
        (some r, some 0, some ((d.therm.sums.get (0, 0) k).1 + r, (d.therm.sums.get (0, 0) k).2 + 1)) := by
      rw [he]
      show ((d.therm.prev.set k r).find? k, (d.therm.bad.set k 0).find? k, (d.therm.sums.set k _).find? k) = _
      rw [Table.find?_set_self, Table.find?_set_self, Table.find?_set_self]
      rfl
    simp only [Prod.mk.injEq] at h3
    obtain ⟨h3, h4, h5⟩ := h3
    have h6 : (e.therm.trims, e.cal) = (d.therm.trims, d.cal) := by rw [he]; rfl
    obtain ⟨h6, h7⟩ := Prod.mk.inj h6
    simp only [sensorFace, h1, h2, h3, h4, h5, h6, h7]
  have hsys : e.sys = d.sys := by rw [he]; rfl
  rw [oneSample_some h hr hlo hhi hp, ← he]
  split
  · exact ⟨hface, hsys⟩
  · have hw : SensorsKept (fun j => j = k) e (e.warn k r) := .warn (fun j (hj : j = k) => hj ▸ hk) e k r
    refine ⟨(hw.face k rfl).trans hface, ?_⟩
    have hraise : ∀ f : Dev, (f.raise 103 0 0xFF k).sys = f.sys := fun f => f.raise_sys _ _ _ _
    have hhot : ∀ f : Dev, ∀ hi, (f.warnHot k r hi).sys = f.sys := fun f hi => by
      unfold warnHot
      split
      · exact hraise _
      · split <;> rfl
    have hcold : ∀ f : Dev, ∀ lo, (f.warnCold k r lo).sys = f.sys := fun f lo => by
      unfold warnCold
      split
      · exact hraise _
      · split <;> rfl
    exact ((hcold _ _).trans (hhot _ _)).trans hsys

end Dev

/-- What a round leaves of a sensor in service whose sample is plausible. -/
theorem samples_face {s : State} {readings : List (Option Int)} {k : Nat} {raw r : Int} (hk : k < 32) (hx : readings[k]? = some (some raw))
    (hon : s.dev.sensorOn k = true) (hr : r = raw + s.dev.therm.trims.get 0 k) (hlo : -550 ≤ r) (hhi : r ≤ 1500)
    (hp : ∀ p, s.dev.therm.prev.find? k = some p → (r - p).natAbs ≤ 50) :
    ((samples readings s.begin_).sampleRate.sensorFace k = (ofSigned 16 r, s.dev.g 0x260A (k + 1), some r, some 0,
      some ((s.dev.therm.sums.get (0, 0) k).1 + r, (s.dev.therm.sums.get (0, 0) k).2 + 1), s.dev.therm.trims.find? k, s.dev.cal.values.find? (6 * 256 + k))) ∧
    (s.dev.sys.st ≠ .boot → s.dev.sys.st ≠ .off →
      (samples readings s.begin_).sampleRate.sys.st ≠ .boot ∧ (samples readings s.begin_).sampleRate.sys.st ≠ .off) := by
  have hK : ∀ j, j = k → j < 32 := fun j hj => hj ▸ hk
  have hst : ∀ {d e : Dev}, Dev.SensorsKept (fun j => j = k) d e → (d.sys.st ≠ .boot ∧ d.sys.st ≠ .off) → e.sys.st ≠ .boot ∧ e.sys.st ≠ .off :=
    fun h hd => h.st.elim (fun h => by rw [h]; exact hd) id
  have honOf : ∀ d : Dev, d.g 0x260A (k + 1) = s.dev.g 0x260A (k + 1) → d.sensorOn k = true := fun d h => by
    rw [Dev.sensorOn, h]
    exact hon
  suffices h : (samples readings s.begin_).sensorFace k = (ofSigned 16 r, s.dev.g 0x260A (k + 1), some r, some 0,
      some ((s.dev.therm.sums.get (0, 0) k).1 + r, (s.dev.therm.sums.get (0, 0) k).2 + 1), s.dev.therm.trims.find? k, s.dev.cal.values.find? (6 * 256 + k)) ∧
      (s.dev.sys.st ≠ .boot → s.dev.sys.st ≠ .off → (samples readings s.begin_).sys.st ≠ .boot ∧ (samples readings s.begin_).sys.st ≠ .off) by
    have hrate := Dev.SensorsKept.sampleRate hK (samples readings s.begin_)
    exact ⟨(hrate.face k rfl).trans h.1, fun h1 h2 => hst hrate (h.2 h1 h2)⟩
  refine foldl_touch (l := List.range 32) (k := k)
    (fun d => Dev.SensorsKept (fun j => j = k) s.begin_ d)
    (fun d => d.sensorFace k = (ofSigned 16 r, s.dev.g 0x260A (k + 1), some r, some 0,
      some ((s.dev.therm.sums.get (0, 0) k).1 + r, (s.dev.therm.sums.get (0, 0) k).2 + 1), s.dev.therm.trims.find? k, s.dev.cal.values.find? (6 * 256 + k)) ∧
      (s.dev.sys.st ≠ .boot → s.dev.sys.st ≠ .off → d.sys.st ≠ .boot ∧ d.sys.st ≠ .off))
    List.nodup_range (List.mem_range.mpr hk) (fun d j hj hjk h => ?_) (fun d h => ?_) (fun d j hj hjk h => ?_) (.refl _ _)
  · split
    · obtain ⟨-, hg, -⟩ : _ ∧ _ ∧ _ := by simpa only [Dev.sensorFace, Prod.mk.injEq] using h.face k rfl
      exact h.trans (.oneSample d (List.mem_range.mp hj) _ (fun i hi => hi ▸ ⟨hk, Ne.symm hjk, honOf d hg⟩))
    · exact h
  · obtain ⟨-, hg, hprev, -, hsums, htrim, hval⟩ : _ ∧ _ ∧ _ ∧ _ ∧ _ ∧ _ ∧ _ := by simpa only [Dev.sensorFace, Prod.mk.injEq] using h.face k rfl
    have hg : d.g 0x260A (k + 1) = s.dev.g 0x260A (k + 1) := hg
    have hsum : d.therm.sums.get (0, 0) k = s.dev.therm.sums.get (0, 0) k := by
      rw [Table.get_eq_find?, Table.get_eq_find?, hsums]
      rfl
    have htg : d.therm.trims.get 0 k = s.dev.therm.trims.get 0 k := by
      rw [Table.get_eq_find?, Table.get_eq_find?, htrim]
      rfl
    obtain ⟨hface, hsys⟩ := Dev.sensorFace_oneSample (raw := raw) hk (honOf d hg) (by rw [htg]; exact hr) hlo hhi (fun p h => hp p (hprev ▸ h))
    rw [hg, hsum, htrim, hval] at hface
    simp only [hx]
    exact ⟨hface, fun h1 h2 => by rw [hsys]; exact hst h ⟨h1, h2⟩⟩
  · split
    · obtain ⟨-, hg, -⟩ : _ ∧ _ ∧ _ := by simpa only [Dev.sensorFace, Prod.mk.injEq] using h.1
      have hkept := Dev.SensorsKept.oneSample d (List.mem_range.mp hj) ‹_› (K := fun j => j = k) (fun i hi => hi ▸ ⟨hk, Ne.symm hjk, honOf d hg⟩)
      exact ⟨(hkept.face k rfl).trans h.1, fun h1 h2 => hst hkept (h.2 h1 h2)⟩
    · exact h

end Sys2Proof.Machine
end

section
/-! PROOFS. The obligation on temperatures and records (R425 to R432, R446, R447). -/
namespace Sys2Proof.Machine

open Sys2Proof

/-- A signed value of 16 bits is read as it was written. -/
theorem toSigned_ofSigned16 {r : Int} (hlo : -32768 ≤ r) (hhi : r < 32768) : toSigned 16 (ofSigned 16 r) = r := by
  simp only [toSigned, ofSigned]
  norm_num
  split <;> omega

namespace Dev

theorem limits_takeReading (d : Dev) (k n : Nat) (r : Int) :
    ((d.setBad k n).takeReading k r).highLimit k = d.highLimit k ∧ ((d.setBad k n).takeReading k r).lowLimit k = d.lowLimit k := by
  obtain ⟨e, he⟩ : ∃ e, e = (d.setBad k n).takeReading k r := ⟨_, rfl⟩
  have hg : ∀ i j, key 0x2608 (k + 1) ≠ key i j → e.g i j = d.g i j := fun i j h => by
    rw [he]
    exact g_put_ne _ _ h
  have hrole : e.roleOf k = d.roleOf k := by
    simp only [roleOf]
    rw [hg _ _ (by simp only [key]; omega)]
  have hrange : d.roleOf k = k ∨ d.roleOf k < 64 := by
    have := bits_lt (d.g 0x260A (k + 1)) 5 0
    simp only [roleOf]
    split
    · exact .inl rfl
    · exact .inr (by omega)
  have hguard : e.therm.guarded = d.therm.guarded := by rw [he]; rfl
  rw [← he]
  simp only [highLimit, lowLimit, gi, hrole, hguard, hg 0x2600 (d.roleOf k + 1) (by simp only [key]; omega),
    hg 0x2601 (d.roleOf k + 1) (by simp only [key]; omega), and_self]

/-- The warnings of a supervisory sensor's plausible sample (R426). -/
theorem oneSample_warns {d e : Dev} {k : Nat} {raw r hi lo : Int} (h : d.sensorOn k = true) (h2 : 2 ≤ k) (hr : r = raw + d.therm.trims.get 0 k) (hmin : -550 ≤ r)
    (hmax : r ≤ 1500) (hp : ∀ p, d.therm.prev.find? k = some p → (r - p).natAbs ≤ 50) (hhi : hi = d.highLimit k) (hlo : lo = d.lowLimit k)
    (he : e = (d.setBad k 0).takeReading k r) :
    (lo + 20 ≤ r → r ≤ hi - 20 → d.oneSample k (some raw) = { e with therm := { e.therm with
      warnHigh := d.therm.warnHigh.filter (fun y => y != k), warnLow := d.therm.warnLow.filter (fun y => y != k) } }) ∧
    (∀ f : Dev, hi ≤ r → lo + 20 ≤ r → d.therm.warnHigh.contains k = false →
      f = ({ e with therm := { e.therm with warnHigh := k :: d.therm.warnHigh } } : Dev).raise 103 0 0xFF k →
      d.oneSample k (some raw) = { f with therm := { f.therm with warnLow := d.therm.warnLow.filter (fun y => y != k) } }) ∧
    (hi ≤ r → lo + 20 ≤ r → d.therm.warnHigh.contains k = true →
      d.oneSample k (some raw) = { e with therm := { e.therm with warnLow := d.therm.warnLow.filter (fun y => y != k) } }) ∧
    (r ≤ lo → r ≤ hi - 20 → d.therm.warnLow.contains k = false → d.oneSample k (some raw) = ({ e with therm := { e.therm with
      warnHigh := d.therm.warnHigh.filter (fun y => y != k), warnLow := k :: d.therm.warnLow } } : Dev).raise 103 0 0xFF k) := by
  obtain ⟨hl1, hl2⟩ := d.limits_takeReading k 0 r
  have hone : d.oneSample k (some raw) = (e.warnHot k r hi).warnCold k r lo := by
    rw [oneSample_some h hr hmin hmax hp, if_neg (by omega), hhi, hlo, ← hl1, ← hl2, he]
    rfl
  have hhigh : e.therm.warnHigh = d.therm.warnHigh := by rw [he]; rfl
  have hlow : e.therm.warnLow = d.therm.warnLow := by rw [he]; rfl
  rw [hone]
  clear he hone
  have hcool : r ≤ hi - 20 → e.warnHot k r hi = { e with therm := { e.therm with warnHigh := d.therm.warnHigh.filter (fun y => y != k) } } := fun h => by
    unfold warnHot
    rw [if_neg (by simp; omega), if_pos (by simpa using h), hhigh]
  have hwarm : ∀ f : Dev, lo + 20 ≤ r → f.warnCold k r lo = { f with therm := { f.therm with warnLow := f.therm.warnLow.filter (fun y => y != k) } } := fun f h => by
    unfold warnCold
    rw [if_neg (by simp; omega), if_pos (by simpa using h)]
  refine ⟨fun h1 h2 => ?_, fun f h1 h2 h3 hf => ?_, fun h1 h2 h3 => ?_, fun h1 h2 h3 => ?_⟩
  · rw [hcool h2, hwarm _ h1, ← hlow]
  · have hhot : e.warnHot k r hi = f := by
      unfold warnHot
      rw [if_pos (by rw [hhigh, h3]; simpa using h1), hhigh, hf]
    have hfl : f.therm.warnLow = d.therm.warnLow := by rw [hf, raise_therm]; exact hlow
    rw [hhot, hwarm _ h2, hfl]
  · have hhot : e.warnHot k r hi = e := by
      unfold warnHot
      rw [if_neg (by rw [hhigh, h3]; simp), if_neg (by simp; omega)]
    rw [hhot, hwarm _ h2, hlow]
  · rw [hcool h2]
    unfold warnCold
    rw [if_pos (by
      show (decide (r ≤ lo) && !e.therm.warnLow.contains k) = true
      rw [hlow, h3]
      simpa using h1)]
    show raise _ 103 0 0xFF k = _
    rw [← hlow]

/-- The free spare for a role: that of its group, else the first (R427). -/
def freeSpare (d : Dev) (role : Nat) : Option Nat :=
  if bits (d.g 0x260A (spareOfSite role + 1)) 7 6 == 1 then some (spareOfSite role)
  else [28, 29, 30, 31].find? (fun s => bits (d.g 0x260A (s + 1)) 7 6 == 1)

theorem sensorFailed_none {d : Dev} {k : Nat} (h : k < 2 ∨ d.freeSpare (d.roleOf k) = none) :
    d.sensorFailed k = (d.put 0x260A (k + 1) (0x80 + bits (d.g 0x260A (k + 1)) 5 0)).fault 4 106 k 0 0 := by
  unfold sensorFailed
  extract_lets role e free own pick
  split
  · rfl
  · next hk =>
    have hp : pick = none := h.resolve_left (by simpa using hk)
    rw [hp]

theorem sensorFailed_some {d f g : Dev} {k s : Nat} {guard : Int} (h2 : 2 ≤ k) (hs : d.freeSpare (d.roleOf k) = some s)
    (hg : guard = if s = spareOfSite (d.roleOf k) then 20 else 50)
    (hf : f = (d.put 0x260A (k + 1) (0x80 + bits (d.g 0x260A (k + 1)) 5 0)).put 0x260A (s + 1) (d.roleOf k))
    (hgg : g = ((({ f with therm := { f.therm with
        guarded := f.therm.guarded.set s (f.therm.guarded.get 0 k + guard)
        bad := f.therm.bad.erase s
        prev := f.therm.prev.erase s } } : Dev).minorL2 106).consume 13).substitute 13) : d.sensorFailed k = g.saveNv g.sensorRec := by
  unfold sensorFailed
  extract_lets role e free own pick
  have hp : pick = some s := hs
  rw [if_neg (by simp; omega), hp]
  dsimp only
  have hguard : (if (s == own) = true then (20 : Int) else 50) = guard := by
    rw [hg]
    simp only [beq_iff_eq]
    rfl
  rw [hguard, hgg, hf]

/-- The spare a failed sensor's role goes to (R427). -/
theorem sensorFailed_cases {d e : Dev} {k role own : Nat} (hrole : role = d.roleOf k) (he : e = d.put 0x260A (k + 1) (0x80 + bits (d.g 0x260A (k + 1)) 5 0))
    (hown : own = (if role ≤ 10 then 28 else if role ≤ 19 then 29 else if role ≤ 23 then 30 else 31)) :
    ((k < 2 ∨ ∀ x ∈ [28, 29, 30, 31], bits (d.g 0x260A (x + 1)) 7 6 ≠ 1) → d.sensorFailed k = e.fault 4 106 k 0 0) ∧
    (∀ sp guard : Nat, 2 ≤ k → sp ∈ [28, 29, 30, 31] → bits (d.g 0x260A (sp + 1)) 7 6 = 1 →
      (sp = own ∨ (bits (d.g 0x260A (own + 1)) 7 6 ≠ 1 ∧ ∀ x ∈ [28, 29, 30, 31], x < sp → bits (d.g 0x260A (x + 1)) 7 6 ≠ 1)) →
      guard = (if sp = own then 20 else 50) → ∀ f g : Dev, f = e.put 0x260A (sp + 1) role →
      g = ((({ f with therm := { f.therm with
        guarded := f.therm.guarded.set sp (f.therm.guarded.get 0 k + guard)
        bad := f.therm.bad.erase sp
        prev := f.therm.prev.erase sp } } : Dev).minorL2 106).consume 13).substitute 13 →
      d.sensorFailed k = g.saveNv g.sensorRec) := by
  have hown' : spareOfSite (d.roleOf k) = own := by
    rw [← hrole, hown]
    simp only [spareOfSite, decide_eq_true_eq]
  have hmem : own ∈ [28, 29, 30, 31] := by
    rw [hown]
    split
    · decide
    · split
      · decide
      · split <;> decide
  have hfree : d.freeSpare (d.roleOf k) = if bits (d.g 0x260A (own + 1)) 7 6 = 1 then some own
      else [28, 29, 30, 31].find? (fun s => bits (d.g 0x260A (s + 1)) 7 6 == 1) := by
    rw [freeSpare, hown']
    simp only [beq_iff_eq]
  refine ⟨fun h => ?_, fun sp guard h2 hsp hsfree hpick hg f g hf hgg => ?_⟩
  · rw [he]
    refine sensorFailed_none (h.imp_right fun hall => ?_)
    rw [hfree, if_neg (hall own hmem), List.find?_eq_none]
    exact fun x hx => by simpa using hall x hx
  · refine sensorFailed_some (s := sp) h2 ?_ ?_ (by rw [hf, he, hrole]) hgg
    · rw [hfree]
      rcases hpick with rfl | ⟨hno, hfirst⟩
      · exact if_pos hsfree
      · rw [if_neg hno]
        have hno' : ∀ x ∈ [28, 29, 30, 31], x < sp → (bits (d.g 0x260A (x + 1)) 7 6 == 1) = false := fun x hx hlt => by simpa using hfirst x hx hlt
        have hyes : (bits (d.g 0x260A (sp + 1)) 7 6 == 1) = true := by simpa using hsfree
        simp only [List.mem_cons, List.not_mem_nil, or_false] at hsp
        rcases hsp with rfl | rfl | rfl | rfl
        · simp [List.find?, hyes]
        · simp [List.find?, hyes, hno' 28 (by decide) (by decide)]
        · simp [List.find?, hyes, hno' 28 (by decide) (by decide), hno' 29 (by decide) (by decide)]
        · simp [List.find?, hyes, hno' 28 (by decide) (by decide), hno' 29 (by decide) (by decide), hno' 30 (by decide) (by decide)]
    · rw [hg, hown']
      split <;> rfl

end Dev

/-! ### The obligation -/

/-- A round ends in a shutdown where a die sensor has become hot, and only there. -/
theorem sensorSample_done {s : State} {readings : List (Option Int)} {d : Dev} (hd : d = (samples readings s.begin_).sampleRate) :
    (∃ n, exec (.sensorSample readings) s = s.done (d.thermalShutdown n)) ∨ exec (.sensorSample readings) s = s.done d := by
  rw [sensorSample_eq hd]
  split
  · exact .inl ⟨_, rfl⟩
  · exact .inr rfl

theorem sensorSample_hot {s : State} {readings : List (Option Int)} {d : Dev} (hd : d = (samples readings s.begin_).sampleRate) {k : Nat} (hk : k < 2)
    (h : (d.sensorOn k && decide (1250 ≤ d.reading k) && !decide (1250 ≤ s.begin_.reading k)) = true) :
    ∃ n, exec (.sensorSample readings) s = s.done (d.thermalShutdown n) := by
  rw [sensorSample_eq hd, if_pos]
  · exact ⟨_, rfl⟩
  · have hk : k = 0 ∨ k = 1 := by omega
    rcases hk with rfl | rfl
    · rw [h, Bool.true_or]
    · rw [h, Bool.or_true]

/-- A round's record of a plausible sample (R425 to R427). -/
theorem sensorSample_takes {s : State} {readings : List (Option Int)} {k : Nat} {raw r : Int} (hk : k < 32) (hx : readings[k]? = some (some raw))
    (hon : s.dev.sensorOn k = true) (hr : r = raw + s.dev.therm.trims.get 0 k) (hlo : -550 ≤ r) (hhi : r ≤ 1500)
    (hp : ∀ p, s.dev.therm.prev.find? k = some p → (r - p).natAbs ≤ 50) :
    Runs (.sensorSample readings) s (fun t => t.dev.g 0x2608 (k + 1) = ofSigned 16 r ∧ t.dev.therm.prev.find? k = some r ∧
      t.dev.therm.bad.find? k = some 0 ∧ t.dev.therm.sums.find? k = some ((s.dev.therm.sums.get (0, 0) k).1 + r, (s.dev.therm.sums.get (0, 0) k).2 + 1)) := by
  obtain ⟨d, hd⟩ : ∃ d, d = (samples readings s.begin_).sampleRate := ⟨_, rfl⟩
  obtain ⟨hface, -⟩ := samples_face hk hx hon hr hlo hhi hp
  rw [← hd] at hface
  have hgoal : ∀ e : Dev, e.sensorFace k = d.sensorFace k → e.g 0x2608 (k + 1) = ofSigned 16 r ∧ e.therm.prev.find? k = some r ∧
      e.therm.bad.find? k = some 0 ∧ e.therm.sums.find? k = some ((s.dev.therm.sums.get (0, 0) k).1 + r, (s.dev.therm.sums.get (0, 0) k).2 + 1) := fun e he => by
    obtain ⟨h1, -, h2, h3, h4, -⟩ : _ ∧ _ ∧ _ ∧ _ ∧ _ ∧ _ := by simpa only [Dev.sensorFace, Prod.mk.injEq] using he.trans hface
    exact ⟨h1, h2, h3, h4⟩
  rcases sensorSample_done hd with ⟨n, h⟩ | h
  · have hx := hgoal _ ((Dev.SensorsKept.thermalShutdown (K := fun j => j = k) d n (fun j (hj : j = k) => hj ▸ hk)).face k rfl)
    generalize d.thermalShutdown n = x at h hx
    exact .of_done h hx
  · exact .of_done h (hgoal d rfl)

/-- A first reading of 125 °C stops the device (R428, R429). -/
theorem sensorSample_stops {s : State} {readings : List (Option Int)} {k : Nat} {raw r : Int} (hk : k < 2) (hx : readings[k]? = some (some raw))
    (hon : s.dev.sensorOn k = true) (hr : r = raw + s.dev.therm.trims.get 0 k) (hlo : 1250 ≤ r) (hhi : r ≤ 1500) (hbefore : s.dev.reading k < 1250)
    (hp : ∀ p, s.dev.therm.prev.find? k = some p → (r - p).natAbs ≤ 50) (hb : s.dev.sys.st ≠ .boot) (ho : s.dev.sys.st ≠ .off) :
    Runs (.sensorSample readings) s (fun t => t.dev.pins.thermN = true ∧ t.dev.pins.faultN = true ∧ t.dev.therm.shutdown = true ∧
      t.dev.sys.st = .fault ∧ t.dev.fl.running = []) := by
  obtain ⟨d, hd⟩ : ∃ d, d = (samples readings s.begin_).sampleRate := ⟨_, rfl⟩
  obtain ⟨hface, hst⟩ := samples_face (by omega) hx hon hr (by omega) hhi hp
  rw [← hd] at hface hst
  obtain ⟨h1, h2, -⟩ : _ ∧ _ ∧ _ := by simpa only [Dev.sensorFace, Prod.mk.injEq] using hface
  have hread : d.reading k = r := by
    rw [Dev.reading, Dev.gi, h1]
    exact toSigned_ofSigned16 (by omega) (by omega)
  have hhot : (d.sensorOn k && decide (1250 ≤ d.reading k) && !decide (1250 ≤ s.begin_.reading k)) = true := by
    have hon' : d.sensorOn k = true := by
      rw [Dev.sensorOn, h2]
      exact hon
    have hb' : ¬(1250 ≤ s.begin_.reading k) := not_le.mpr hbefore
    rw [hon', hread, decide_eq_true hlo, decide_eq_false hb']
    rfl
  obtain ⟨n, h⟩ := sensorSample_hot hd hk hhot
  have hx := d.thermalShutdown_stops n (hst hb ho)
  generalize d.thermalShutdown n = x at h hx
  exact .of_done h hx

/-- A round without a first reading of 125 °C at a die sensor (R425). -/
theorem sensorSample_goes {s : State} {readings : List (Option Int)} {d : Dev} (hd : d = (samples readings s.begin_).sampleRate)
    (h : ∀ k, k < 2 → d.sensorOn k = true → 1250 ≤ d.reading k → 1250 ≤ s.dev.reading k) : Makes (.sensorSample readings) s d := by
  have hcold : ∀ k, k < 2 → (d.sensorOn k && decide (1250 ≤ d.reading k) && !decide (1250 ≤ s.begin_.reading k)) = false := fun k hk => by
    rw [Bool.eq_false_iff]
    intro hhot
    simp only [Bool.and_eq_true, decide_eq_true_eq, Bool.not_eq_true', decide_eq_false_iff_not] at hhot
    exact hhot.2 (h k hk hhot.1.1 hhot.1.2)
  refine .done ((sensorSample_eq hd).trans (congrArg s.done (if_neg ?_)))
  rw [hcold 0 (by decide), hcold 1 (by decide)]
  decide

/-- One NV write's end (R431, R432, R446, R447, R465). -/
theorem nvWriteComplete_ends {s : State} {r : NvRec} {tail rest : List NvRec} {e d w : Dev} (hwr : s.dev.nv.writing = r :: tail)
    (he : e = (if Config.freeValue s.dev.free % 2 = 1 then ({ s.begin_ with free := s.dev.free + 1 } : Dev).eraseSector
      else { s.begin_ with free := s.dev.free + 1 })) (hrest : rest = e.nv.writing.drop 1)
    (hd : d = { e with nv := { e.nv with
      writing := rest
      stored := e.nv.stored.filter (fun x => !(x.kind == r.kind && x.obj == r.obj)) ++ [r] } })
    (hw : w = (if r.kind = 5 then { d with pins := { d.pins with thermN := false }, therm := { d.therm with recordUnwritten := false } } else d)) :
    ((∀ o, s.dev.com.op = some o → o.cls ≠ 3) →
      (r.kind ≠ 10 → r.kind ≠ 11 → Makes (.nvWriteComplete true) s w) ∧
      ((r.kind = 10 ∨ r.kind = 11) → Reports (.nvWriteComplete true) s w (evLevel 124) 124 0 0xFF 0) ∧
      Makes (.nvWriteComplete false) s (e.nvFailed r rest)) ∧
    (∀ o, s.dev.com.op = some o → o.cls = 3 →
      (rest = [] → Makes (.nvWriteComplete true) s ((w.raise 124).endOp 0)) ∧ (rest ≠ [] → Makes (.nvWriteComplete true) s w) ∧
      (e.nv.spares ≠ 0 → Makes (.nvWriteComplete false) s (e.nvFailed r rest)) ∧
      (e.nv.spares = 0 → ∀ f : Dev, f = e.nvFailed r rest → Makes (.nvWriteComplete false) s
        (({ f with nv := { f.nv with writing := [] }, free := f.free + 1 } : Dev).endOp (Config.freeValue f.free % 4294967296)))) := by
  have hkept : s.dev.fl.top ≤ e.fl.top ∧ serviceFace e = serviceFace s.dev := by
    rw [he]
    split
    · exact ⟨(Dev.SupKept.eraseSector { s.begin_ with free := s.dev.free + 1 }).top, Dev.serviceFace_eraseSector _⟩
    · exact ⟨Nat.le_refl _, rfl⟩
  obtain ⟨htop, hface⟩ := hkept
  have hstored : (({ e with nv := { e.nv with writing := e.nv.writing.drop 1 } } : Dev).storeNv r).recordWritten r = w := by
    rw [Dev.recordWritten_eq, hw, hd, hrest]
    rfl
  have hwtop : s.dev.fl.top ≤ w.fl.top := by
    rw [hw, hd]
    split <;> exact htop
  have hwop : w.com.op = s.dev.com.op := by
    rw [← Dev.op_of_serviceFace hface, hw, hd]
    split <;> rfl
  have hwwrite : w.nv.writing = rest := by
    rw [hw, hd]
    split <;> rfl
  have hfop : (e.nvFailed r rest).com.op = s.dev.com.op := by
    rw [Dev.op_of_serviceFace (e.serviceFace_nvFailed r rest), Dev.op_of_serviceFace hface]
  have htrue : exec (.nvWriteComplete true) s = s.done (w.nvEnded true false r.kind) := by
    rw [nvWriteComplete_eq hwr he true, if_pos rfl, hstored]
    rfl
  have hfalse : exec (.nvWriteComplete false) s = s.done ((e.nvFailed r rest).nvEnded false (e.nv.spares == 0) r.kind) := by
    rw [nvWriteComplete_eq hwr he false, if_neg (by decide), ← hrest]
    rfl
  refine ⟨fun hop => ⟨fun h10 h11 => ?_, fun hk => ?_, ?_⟩, fun o ho h3 => ⟨fun hr => ?_, fun hr => ?_, fun hs => ?_, fun hs f hf => ?_⟩⟩
  · exact .done (htrue.trans (congrArg s.done ((Dev.nvEnded_single (by rw [hwop]; exact hop) ..).trans (if_neg (by simp [h10, h11])))))
  · exact .of_raise (x := 0) (htrue.trans (congrArg s.done ((Dev.nvEnded_single (by rw [hwop]; exact hop) ..).trans (if_pos ⟨rfl, hk⟩)))) rfl rfl hwtop rfl (by decide)
  · exact .done (hfalse.trans (congrArg s.done ((Dev.nvEnded_single (by rw [hfop]; exact hop) ..).trans (if_neg (by simp)))))
  · exact .done (htrue.trans (congrArg s.done ((Dev.nvEnded_class3 (hwop.trans ho) h3 ..).trans ((if_neg (by decide)).trans (if_pos (hwwrite.trans hr))))))
  · exact .done (htrue.trans (congrArg s.done ((Dev.nvEnded_class3 (hwop.trans ho) h3 ..).trans ((if_neg (by decide)).trans (if_neg (by rwa [hwwrite]))))))
  · have hne : (e.nvFailed r rest).nv.writing ≠ [] := by
      rw [Dev.nvFailed_spared hs]
      obtain ⟨l, hl⟩ := Dev.writing_retireSector { e with nv := { e.nv with writing := r :: rest } } e.nextSector
      rw [hl]
      simp
    exact .done (hfalse.trans (congrArg s.done ((Dev.nvEnded_class3 (hfop.trans ho) h3 ..).trans ((if_neg (by simpa using hs)).trans (if_neg hne)))))
  · rw [hf]
    exact .done (hfalse.trans (congrArg s.done ((Dev.nvEnded_class3 (hfop.trans ho) h3 ..).trans (if_pos (by simpa using hs)))))

/-- The oldest staged record begins its write (R431, R432). -/
theorem nvStagedWrite_cases (s : State) :
    (∀ r rest, s.dev.nv.staged = r :: rest → s.dev.nvOpen = true → s.dev.nv.writing = [] →
      Makes .nvStagedWrite s { s.begin_ with nv := { s.dev.nv with staged := rest, writing := [r] } }) ∧
    ((s.dev.nv.staged = [] ∨ s.dev.nvOpen = false ∨ s.dev.nv.writing ≠ []) → Makes .nvStagedWrite s s.begin_) := by
  refine ⟨fun r rest hs ho hw => .done ?_, fun h => .done ?_⟩
  · have hs' : s.begin_.nv.staged = r :: rest := hs
    have ho' : (s.begin_.nvOpen && s.begin_.nv.writing.isEmpty) = true := by
      rw [show s.begin_.nvOpen = true from ho, show s.begin_.nv.writing = [] from hw]
      rfl
    simp only [exec, execNvStagedWrite, hs', ho', if_true]
    rfl
  · cases hs : s.dev.nv.staged with
    | nil =>
      have hs' : s.begin_.nv.staged = [] := hs
      simp only [exec, execNvStagedWrite, hs']
    | cons r rest =>
      have hs' : s.begin_.nv.staged = r :: rest := hs
      have ho' : (s.begin_.nvOpen && s.begin_.nv.writing.isEmpty) = false := by
        rcases h with h | h | h
        · rw [hs] at h
          exact absurd h (by simp)
        · rw [show s.begin_.nvOpen = false from h, Bool.false_and]
        · have : s.begin_.nv.writing.isEmpty = false := by simpa using h
          rw [this, Bool.and_false]
      simp only [exec, execNvStagedWrite, hs', ho', Bool.false_eq_true, if_false]

/-- Settles O57: a sensor's record is followed through the round's fold past every other sensor's sample and failure (`SensorsKept`), which the ladder
below leaves alone (`SupKept`). The trim precedes every check, as log 72 has it, and whether a write needs an erase is free (log 68). -/
theorem temperaturesAreSampledAndRecordsStored : Obligations.TemperaturesAreSampledAndRecordsStored := by
  unfold Obligations.TemperaturesAreSampledAndRecordsStored
  refine ⟨fun s readings k raw r hk hx hon hr hlo hhi hp => sensorSample_takes hk hx hon hr hlo hhi hp,
    fun s readings d hd h => sensorSample_goes hd h,
    fun s readings k raw r hk hx hon hr hlo hhi hbefore hp hb ho => sensorSample_stops hk hx hon hr hlo hhi hbefore hp hb ho,
    fun d e k => ⟨fun hoff raw => ?_, fun hon he => ⟨fun hbad => ?_, fun hbad => ?_⟩,
      fun raw r hi lo hon h2 hr hmin hmax hp hhi hlo he => ?_⟩,
    fun d e k role own sp guard hrole he hown => ⟨(Dev.sensorFailed_cases hrole he hown).1, (Dev.sensorFailed_cases hrole he hown).2 sp guard⟩,
    fun d near calm hn hc => Dev.sampleRate_cases hn hc,
    fun s k n sum mean p hk hon hsum hn hm hp => rateWindow_runs hk hon hsum hn hm hp,
    nvStagedWrite_cases,
    fun s r tail rest e d w hwr he hrest hd hw => ?_,
    fun s ok hw => ?_⟩
  · rw [Dev.oneSample_eq, hoff]
    rfl
  · exact (Dev.oneSample_none hon he).trans (if_neg hbad)
  · exact (Dev.oneSample_none hon he).trans (if_pos hbad)
  · have he' : e = (d.setBad k 0).takeReading k r := he
    exact Dev.oneSample_warns hon h2 hr hmin hmax hp hhi hlo he'
  · obtain ⟨h1, h2⟩ := nvWriteComplete_ends hwr he hrest hd hw
    exact ⟨h1, h2, fun hs hr hst => Dev.nvFailed_lost hs hr hst, fun hs => Dev.nvFailed_spared hs⟩
  · have hw' : s.begin_.nv.writing = [] := hw
    refine .done ?_
    simp only [exec, execNvWriteComplete, hw']

end Sys2Proof.Machine
end

section
/-! PROOFS. Self-calibration (R225, R351, R433 to R437). -/
namespace Sys2Proof.Machine

open Sys2Proof

namespace Dev

/-! ### Runs and results -/

/-- A run begins, runs again after the present one, or is deferred (R434, R435). -/
theorem calStart_cases {d e : Dev} {item unit k : Nat} {due : List Nat} (hk : k = item * 256 + unit)
    (hdue : due = (if d.cal.due.contains k then d.cal.due else d.cal.due ++ [k])) (he : e = { d with cal := { d.cal with due := due } }) :
    (d.cal.running.contains k = true → d.calStart item unit = e) ∧
    (d.cal.running.contains k = false → d.calWaits item unit = false → d.calStart item unit = { d with cal := { d.cal with
      running := d.cal.running ++ [k], due := d.cal.due.filter (fun x => x != k) } }) ∧
    (d.cal.running.contains k = false → d.calWaits item unit = true →
      (item = 1 → unit < 72 → d.calStart item unit = e) ∧
      (item ≠ 1 ∨ 72 ≤ unit → d.calStart item unit = ((e.bump 0x270C item).put 0x270A item 3).raise 110)) := by
  subst hdue he hk
  have hkey : calKey item unit = item * 256 + unit := rfl
  refine ⟨fun hr => ?_, fun hr hw => ?_, fun hr hw => ⟨fun h1 h2 => ?_, fun h => ?_⟩⟩
  · simp only [calStart, hkey, hr, if_true]
  · simp only [calStart, hkey, hr, hw, Bool.false_eq_true, if_false]
  · have hc : (item == 1 && decide (unit < 72)) = true := by simp [h1, h2]
    simp only [calStart, hkey, hr, hw, Bool.false_eq_true, if_false, if_true, hc]
  · have hc : (item == 1 && decide (unit < 72)) = false := by
      rcases h with h | h
      · simp [h]
      · simp [Nat.not_lt.mpr h]
    simp only [calStart, hkey, hr, hw, Bool.false_eq_true, if_false, if_true, hc]

theorem calDone_cases {d : Dev} {item unit k : Nat} (value : Int) (p : Bool) (hk : k = item * 256 + unit) :
    (d.cal.left.contains k = true → d.calDone item unit p value =
      ({ d.calCount item unit with cal := { (d.calCount item unit).cal with
        left := (d.calCount item unit).cal.left.filter (fun x => x != k), results := (d.calCount item unit).cal.results ++ [(k, p, value)] } } : Dev).calFinish) ∧
    (d.cal.left.contains k = false → d.cal.running.contains k = true →
      (d.cal.due.contains k = false → d.calDone item unit p value = (d.calCount item unit).calApply item unit p value) ∧
      (d.cal.due.contains k = true → d.calDone item unit p value = ((d.calCount item unit).calApply item unit p value).calStart item unit)) ∧
    (d.cal.left.contains k = false → d.cal.running.contains k = false → d.calDone item unit p value = d) := by
  subst hk
  have hkey : calKey item unit = item * 256 + unit := rfl
  refine ⟨fun hl => ?_, fun hl hr => ⟨fun hd => ?_, fun hd => ?_⟩, fun hl hr => ?_⟩
  · simp only [calDone, hkey, hl, if_true]
  · simp only [calDone, hkey, hl, hr, hd, Bool.false_eq_true, if_false, if_true]
  · simp only [calDone, hkey, hl, hr, hd, Bool.false_eq_true, if_false, if_true]
  · simp only [calDone, hkey, hl, hr, Bool.false_eq_true, if_false]

/-- A plausible result's end: its record saved, its item's status and EV_CAL_DONE (R433). -/
def calStored (d : Dev) (item k : Nat) (value : Int) : Dev := ((d.saveNv { kind := 2, obj := k, val := ofSigned 32 value }).put 0x270A item 1).raise 108

/-- A plausible result (R225, R433, R436). -/
theorem calApply_cases {d e : Dev} {item unit k code : Nat} {value : Int} {commanded : Bool} (hk : k = item * 256 + unit) (hcode : code = (value % 16).toNat)
    (he : e = { d with cal := { d.cal with values := d.cal.values.set k value } }) :
    (item ≠ 1 → d.calApply item unit true value commanded = e.calStored item k value) ∧
    (item = 1 → (commanded = false ∨ d.calWaits 1 unit = false) →
      (d.g 0x3403 (unit + 1) < 16 → d.calApply item unit true value commanded = e.calStored item k value) ∧
      (16 ≤ d.g 0x3403 (unit + 1) → d.calApply item unit true value commanded = ((e.put 0x3412 (unit + 1) code).onLane (unit + 1)
        (fun l => { l with eqHeld := l.eqHeld.set (d.g 0x3411 (unit + 1)) code })).calStored item k value)) ∧
    (item = 1 → commanded = true → d.calWaits 1 unit = true → d.calApply item unit true value commanded =
      ({ e with cal := { e.cal with codes := e.cal.codes ++ [(unit + 1, code)] } } : Dev).calStored item k value) := by
  have hwaits : e.calWaits 1 unit = d.calWaits 1 unit := by rw [he]; rfl
  have hg : ∀ i, e.g i (unit + 1) = d.g i (unit + 1) := fun i => by rw [he]; rfl
  have h16 : code % 16 = code := by omega
  have heq : ∀ c, d.calApply item unit true value c = (if item != 1 then e
      else if c && e.calWaits 1 unit then { e with cal := { e.cal with codes := e.cal.codes ++ [(unit + 1, code)] } }
      else e.setLaneCode (unit + 1) code).calStored item k value := fun c => by
    rw [he, hcode, hk]
    rfl
  rw [heq]
  refine ⟨fun h => ?_, fun h hc => ?_, fun h hc hw => ?_⟩
  · rw [if_pos (by simpa using h)]
  · have hc' : (commanded && e.calWaits 1 unit) = false := by
      rw [hwaits]
      rcases hc with hc | hc <;> simp [hc]
    rw [if_neg (by simp [h]), if_neg (by simp [hc'])]
    refine ⟨fun hl => ?_, fun hl => ?_⟩
    · rw [setLaneCode, if_pos (by simpa [hg] using hl)]
    · rw [setLaneCode, if_neg (by simpa [hg] using hl), h16, hg]
  · rw [if_neg (by simp [h]), if_pos (by simp [hc, hwaits, hw])]

/-- One result of a commanded calibration is applied (R436, R437). -/
def calResult (d : Dev) (r : Nat × Bool × Int) : Dev :=
  if r.1 / 256 == 6 then
    if r.2.1 then ({ d with therm := { d.therm with trims := d.therm.trims.set (r.1 % 256) r.2.2 } } : Dev).calApply 6 (r.1 % 256) true r.2.2
    else (d.calApply 6 (r.1 % 256) false 0).sensorFailed (r.1 % 256)
  else d.calApply (r.1 / 256) (r.1 % 256) r.2.1 r.2.2 true

theorem calFinish_eq {d e : Dev} (he : e = { d with cal := { d.cal with mask := 0, results := [] } }) :
    (d.cal.left ≠ [] → d.calFinish = d) ∧ (d.cal.left = [] → d.calFinish = (d.cal.results.foldl calResult e).endOp 0) := by
  subst he
  refine ⟨fun h => if_pos (by simpa using h), fun h => (if_neg (by simp [h])).trans rfl⟩

/-- A commanded calibration ends (R436). -/
theorem calFinish_cases {d e : Dev} (u : Nat) (v : Int) (he : e = { d with cal := { d.cal with mask := 0, results := [] } }) :
    (d.cal.left ≠ [] → d.calFinish = d) ∧
    (d.cal.left = [] → (∀ r ∈ d.cal.results, r.1 / 256 ≠ 6) → d.calFinish =
      (d.cal.results.foldl (fun d r => d.calApply (r.1 / 256) (r.1 % 256) r.2.1 r.2.2 true) e).endOp 0) ∧
    (d.cal.left = [] → u < 32 → d.cal.results = [(6 * 256 + u, true, v)] → d.calFinish =
      (({ e with therm := { e.therm with trims := e.therm.trims.set u v } } : Dev).calApply 6 u true v).endOp 0) ∧
    (d.cal.left = [] → u < 32 → d.cal.results = [(6 * 256 + u, false, v)] → d.calFinish = ((e.calApply 6 u false 0).sensorFailed u).endOp 0) := by
  obtain ⟨hl, hr⟩ := calFinish_eq he
  have hitem : u < 32 → (6 * 256 + u) / 256 = 6 ∧ (6 * 256 + u) % 256 = u := fun h => by omega
  refine ⟨hl, fun h h6 => ?_, fun h hu hres => ?_, fun h hu hres => ?_⟩
  · rw [hr h]
    congr 1
    refine List.foldl_ext _ _ _ (fun d r hr => ?_)
    rw [calResult, if_neg (by simpa using h6 r hr)]
  · obtain ⟨h1, h2⟩ := hitem hu
    rw [hr h, hres, List.foldl_cons, List.foldl_nil, calResult]
    simp only [h1, h2, beq_self_eq_true, if_true]
  · obtain ⟨h1, h2⟩ := hitem hu
    rw [hr h, hres, List.foldl_cons, List.foldl_nil, calResult]
    simp only [h1, h2, beq_self_eq_true, if_true, Bool.false_eq_true, if_false]

/-! ### The log only grows -/

theorem top_calStored (d : Dev) (item k : Nat) (value : Int) : d.fl.top ≤ (d.calStored item k value).fl.top :=
  (SupKept.saveNv d _).top.trans (raiseAt_top_le ((d.saveNv { kind := 2, obj := k, val := ofSigned 32 value }).put 0x270A item 1) _ _ _ _ _)

theorem top_calApply (d : Dev) (item unit : Nat) (p : Bool) (value : Int) (commanded : Bool) : d.fl.top ≤ (d.calApply item unit p value commanded).fl.top := by
  cases p with
  | false => exact raiseAt_top_le ((d.put 0x270A item 2).bump 0x270B item) _ _ _ _ _
  | true =>
    unfold calApply
    rw [if_pos rfl]
    extract_lets _ valued code _ coded
    have hcoded : coded.fl.top = d.fl.top := by
      show (ite _ _ _ : Dev).fl.top = _
      split
      · rfl
      · split
        · rfl
        · unfold setLaneCode
          split <;> rfl
    exact hcoded.ge.trans (top_calStored coded item _ value)

theorem top_sensorFailed (d : Dev) (k : Nat) : d.fl.top ≤ (d.sensorFailed k).fl.top := (SensorsKept.sensorFailed (K := fun _ => False) d k (fun _ h => h.elim)).top

theorem top_foldl {α : Type} {f : Dev → α → Dev} (h : ∀ d a, d.fl.top ≤ (f d a).fl.top) (l : List α) (d : Dev) : d.fl.top ≤ (l.foldl f d).fl.top := by
  induction l generalizing d with
  | nil => exact Nat.le_refl _
  | cons a l ih => exact (h d a).trans (ih _)

theorem top_calResult (d : Dev) (r : Nat × Bool × Int) : d.fl.top ≤ (d.calResult r).fl.top := by
  unfold calResult
  split
  · split
    · exact top_calApply { d with therm := { d.therm with trims := d.therm.trims.set (r.1 % 256) r.2.2 } } ..
    · exact (top_calApply d ..).trans (top_sensorFailed _ _)
  · exact top_calApply d ..

theorem top_calFinish (d : Dev) : d.fl.top ≤ d.calFinish.fl.top := by
  obtain ⟨hl, hr⟩ := calFinish_eq (d := d) rfl
  by_cases h : d.cal.left = []
  · rw [hr h]
    exact (top_foldl top_calResult d.cal.results { d with cal := { d.cal with mask := 0, results := [] } }).trans (SupKept.endOp _ 0).top
  · rw [hl h]

theorem top_calStart (d : Dev) (item unit : Nat) : d.fl.top ≤ (d.calStart item unit).fl.top := by
  unfold calStart
  extract_lets k _ due
  split
  · exact Nat.le_refl _
  · split
    · split
      · exact Nat.le_refl _
      · exact raiseAt_top_le ((due.bump 0x270C item).put 0x270A item 3) _ _ _ _ _
    · exact Nat.le_refl _

theorem top_calDone (d : Dev) (item unit : Nat) (p : Bool) (value : Int) : d.fl.top ≤ (d.calDone item unit p value).fl.top := by
  obtain ⟨h1, h2, h3⟩ := d.calDone_cases (item := item) (unit := unit) value p rfl
  have hcount : (d.calCount item unit).fl.top = d.fl.top := rfl
  cases hl : d.cal.left.contains (item * 256 + unit) with
  | true =>
    rw [h1 hl]
    exact hcount.ge.trans (top_calFinish { d.calCount item unit with cal := { (d.calCount item unit).cal with
        left := (d.calCount item unit).cal.left.filter (fun x => x != item * 256 + unit),
        results := (d.calCount item unit).cal.results ++ [(item * 256 + unit, p, value)] } })
  | false =>
    cases hr : d.cal.running.contains (item * 256 + unit) with
    | false => rw [h3 hl hr]
    | true =>
      have happ := hcount.ge.trans (top_calApply (d.calCount item unit) item unit p value false)
      cases hd : d.cal.due.contains (item * 256 + unit) with
      | false =>
        rw [(h2 hl hr).1 hd]
        exact happ
      | true =>
        rw [(h2 hl hr).2 hd]
        exact happ.trans (top_calStart _ _ _)

end Dev

end Sys2Proof.Machine
end

section
/-! PROOFS. The trim of the sensors and the obligation on self-calibration (R225, R351, R433 to R437). -/
namespace Sys2Proof.Machine

open Sys2Proof

namespace Dev

/-! ### Trims -/

/-- One sensor of a trim (R437). -/
def trimOne (d : Dev) (means : List Int) (base : Rat) (k : Nat) : Dev :=
  let t := roundRat (base - (means.getD k 0 : Int))
  let ok := decide (t.natAbs ≤ 30)
  if d.cal.left.contains (calKey 6 k) then d.calDone 6 k ok t
  else
    let d := d.calCount 6 k
    if ok then ({ d with therm := { d.therm with trims := d.therm.trims.set k t } } : Dev).calApply 6 k true t
    else (d.calApply 6 k false 0).sensorFailed k

/-- A sensor within 3.0 °C is trimmed, and one beyond has failed (R437). -/
theorem trimOne_eq {d : Dev} (means : List Int) (base : Rat) {k : Nat} {t : Int} (hl : d.cal.left = []) (ht : t = roundRat (base - (means.getD k 0 : Int))) :
    (t.natAbs ≤ 30 → d.trimOne means base k =
      ({ d.calCount 6 k with therm := { d.therm with trims := d.therm.trims.set k t } } : Dev).calApply 6 k true t) ∧
    (30 < t.natAbs → d.trimOne means base k = ((d.calCount 6 k).calApply 6 k false 0).sensorFailed k) := by
  subst ht
  have hc : ¬d.cal.left.contains (calKey 6 k) = true := by simp [hl]
  refine ⟨fun h => ?_, fun h => ?_⟩
  · simp only [trimOne, if_neg hc, decide_eq_true h, if_true]
    rfl
  · simp only [trimOne, if_neg hc, decide_eq_false (not_le.mpr h), Bool.false_eq_true, if_false]

theorem SupKept.calCount (d : Dev) {item : Nat} (unit : Nat) (h : item < 256) : d.SupKept (d.calCount item unit) := by
  unfold Dev.calCount
  extract_lets k _ out
  have hout : d.SupKept out := ⟨rfl, rfl, id, fun _ _ _ _ => rfl, .inl rfl, Nat.le_refl _⟩
  clear_value out
  exact .thenPut (.thenBump hout (by simp only [key]; omega)) (by simp only [key]; omega)

theorem SupKept.calRefused (d : Dev) {item : Nat} (unit : Nat) (value : Int) (c : Bool) (h : item < 256) : d.SupKept (d.calApply item unit false value c) :=
  .thenRaise (.thenBump (.put 2 (by simp only [key]; omega)) (by simp only [key]; omega)) (by decide)

theorem SupKept.calStored (d : Dev) {item : Nat} (k : Nat) (value : Int) (h : item < 256) : d.SupKept (d.calStored item k value) :=
  .thenRaise (.thenPut (.saveNv d _) (by simp only [key]; omega)) (by decide)

/-- Another sensor's trim leaves sensor `k` as it was, unless it is a free spare. -/
theorem SensorsKept.trimOne {k : Nat} (d : Dev) (means : List Int) (base : Rat) {j : Nat} (hk : k < 32) (hjk : j ≠ k) (hl : d.cal.left = [])
    (hb : bits (d.g 0x260A (k + 1)) 7 6 ≠ 1) : d.SensorsKept (fun i => i = k) (d.trimOne means base j) := by
  have hK : ∀ i, i = k → i < 32 := fun i hi => hi ▸ hk
  have hcount : d.SensorsKept (fun i => i = k) (d.calCount 6 j) := (SupKept.calCount d j (by decide)).sensors hK
  obtain ⟨t, ht⟩ : ∃ t, t = roundRat (base - (means.getD j 0 : Int)) := ⟨_, rfl⟩
  obtain ⟨hok, hfar⟩ := trimOne_eq means base hl ht
  by_cases h : t.natAbs ≤ 30
  · obtain ⟨x, hx⟩ : ∃ x : Dev, x = { d.calCount 6 j with therm := { d.therm with trims := d.therm.trims.set j t } } := ⟨_, rfl⟩
    obtain ⟨y, hy⟩ : ∃ y : Dev, y = { x with cal := { x.cal with values := x.cal.values.set (6 * 256 + j) t } } := ⟨_, rfl⟩
    have hxy : (d.calCount 6 j).SensorsKept (fun i => i = k) y := by
      refine .of_face (fun i hi => ?_) (by rw [hy, hx]) (by rw [hy, hx]) (by rw [hy, hx])
      have hi : i = k := hi
      have h1 : y.therm.trims.find? i = d.therm.trims.find? i := by
        rw [hy, hx]
        exact Table.find?_set_ne _ _ (hi ▸ hjk)
      have h2 : y.cal.values.find? (6 * 256 + i) = d.cal.values.find? (6 * 256 + i) := by
        rw [hy, hx]
        exact Table.find?_set_ne _ _ (by omega)
      simp only [sensorFace, h1, h2]
      rw [hy, hx]
      rfl
    rw [hok h, ← hx, (calApply_cases rfl rfl hy).1 (by decide)]
    exact hcount.trans (hxy.trans ((SupKept.calStored y _ _ (by decide)).sensors hK))
  · have hsup : d.SupKept ((d.calCount 6 j).calApply 6 j false 0) := (SupKept.calCount d j (by decide)).trans (.calRefused _ _ _ _ (by decide))
    rw [hfar (by omega)]
    refine (hsup.sensors hK).trans (.sensorFailed _ j (fun i (hi : i = k) => hi ▸ ⟨hk, hjk.symm, ?_⟩))
    rw [hsup.regs 0x260A (k + 1) (.inr rfl) (by omega)]
    exact hb

theorem bits_failed (x : Nat) : bits (0x80 + bits x 5 0) 7 6 = 2 := by
  have h := bits_lt x 5 0
  generalize bits x 5 0 = y at h
  unfold bits
  norm_num at h ⊢
  omega

/-- A sensor that fails is out of service (R427); its trim stays. -/
theorem sensorFailed_self {d : Dev} {k : Nat} (hk : k < 32) (hon : d.sensorOn k = true) :
    bits ((d.sensorFailed k).g 0x260A (k + 1)) 7 6 = 2 ∧ (d.sensorFailed k).therm.trims = d.therm.trims ∧
    (d.cal.left = [] → (d.sensorFailed k).cal.left = []) := by
  have hbits : bits (d.g 0x260A (k + 1)) 7 6 = 0 := by simpa only [sensorOn, beq_iff_eq] using hon
  obtain ⟨e, he⟩ : ∃ e, e = d.put 0x260A (k + 1) (0x80 + bits (d.g 0x260A (k + 1)) 5 0) := ⟨_, rfl⟩
  have hg : bits (e.g 0x260A (k + 1)) 7 6 = 2 := by
    rw [he, g_put_self]
    exact bits_failed _
  have hkept : ∀ {x y : Dev}, x.SupKept y → bits (x.g 0x260A (k + 1)) 7 6 = 2 → x.therm.trims = d.therm.trims → (d.cal.left = [] → x.cal.left = []) →
      bits (y.g 0x260A (k + 1)) 7 6 = 2 ∧ y.therm.trims = d.therm.trims ∧ (d.cal.left = [] → y.cal.left = []) := fun h h1 h2 h3 =>
    ⟨by rw [h.regs 0x260A (k + 1) (.inr rfl) (by omega)]; exact h1, by rw [h.therm]; exact h2, fun hl => h.left (h3 hl)⟩
  by_cases h : k < 2 ∨ d.freeSpare (d.roleOf k) = none
  · rw [sensorFailed_none h, ← he]
    exact hkept (SupKept.fault4 e k 0 0 (by decide)) hg (by rw [he]; rfl) (fun hl => by rw [he]; exact hl)
  · rw [not_or] at h
    obtain ⟨s, hs⟩ := Option.ne_none_iff_exists'.mp h.2
    have hfree : bits (d.g 0x260A (s + 1)) 7 6 = 1 := by
      unfold freeSpare at hs
      split at hs
      · next hc => exact Option.some.inj hs ▸ beq_iff_eq.mp hc
      · simpa using List.find?_some hs
    have hne : s ≠ k := fun hsk => by
      rw [hsk, hbits] at hfree
      exact absurd hfree (by decide)
    rw [sensorFailed_some (by omega) hs rfl rfl rfl, ← he]
    obtain ⟨f, hf⟩ : ∃ f, f = e.put 0x260A (s + 1) (d.roleOf k) := ⟨_, rfl⟩
    rw [← hf]
    have hgf : bits (f.g 0x260A (k + 1)) 7 6 = 2 := by
      rw [hf, g_put_ne _ _ (by simp only [key]; omega)]
      exact hg
    have hsub : ∀ x : Dev, x.SupKept (((x.minorL2 106).consume 13).substitute 13) := fun x =>
      (SupKept.minorL2 x _ _ (by decide)).trans ((SupKept.consume _ (by decide)).trans (.substitute _ (by decide)))
    refine hkept ((hsub _).trans (.saveNv _ _)) hgf ?_ ?_
    · rw [hf, he]
      rfl
    · rw [hf, he]
      exact id

/-- A sensor in service within 3.0 °C of the die takes its trim (R437). -/
theorem trimOne_taken {d : Dev} {means : List Int} {base : Rat} {k : Nat} {t : Int} (hk : k < 32) (hl : d.cal.left = [])
    (ht : t = roundRat (base - (means.getD k 0 : Int))) (h : t.natAbs ≤ 30) :
    (d.trimOne means base k).therm.trims.find? k = some t ∧ (d.trimOne means base k).cal.values.find? (6 * 256 + k) = some t ∧
    (d.trimOne means base k).g 0x260A (k + 1) = d.g 0x260A (k + 1) ∧ (d.trimOne means base k).cal.left = [] := by
  obtain ⟨x, hx⟩ : ∃ x : Dev, x = { d.calCount 6 k with therm := { d.therm with trims := d.therm.trims.set k t } } := ⟨_, rfl⟩
  obtain ⟨y, hy⟩ : ∃ y : Dev, y = { x with cal := { x.cal with values := x.cal.values.set (6 * 256 + k) t } } := ⟨_, rfl⟩
  rw [(trimOne_eq means base hl ht).1 h, ← hx, (calApply_cases rfl rfl hy).1 (by decide)]
  have hs : y.SupKept (y.calStored 6 (6 * 256 + k) t) := .calStored y _ _ (by decide)
  have hc : d.SupKept (d.calCount 6 k) := .calCount d k (by decide)
  refine ⟨?_, ?_, ?_, hs.left ?_⟩
  · rw [hs.therm, hy, hx]
    exact Table.find?_set_self ..
  · rw [hs.values, hy]
    exact Table.find?_set_self ..
  · rw [hs.regs 0x260A (k + 1) (.inr rfl) (by omega), ← hc.regs 0x260A (k + 1) (.inr rfl) (by omega), hy, hx]
    rfl
  · rw [hy, hx]
    exact hc.left hl

/-- A sensor in service that lies further off has failed, its trim as it was (R437). -/
theorem trimOne_failed {d : Dev} {means : List Int} {base : Rat} {k : Nat} {t : Int} (hk : k < 32) (hon : d.sensorOn k = true) (hl : d.cal.left = [])
    (ht : t = roundRat (base - (means.getD k 0 : Int))) (h : 30 < t.natAbs) :
    bits ((d.trimOne means base k).g 0x260A (k + 1)) 7 6 = 2 ∧ (d.trimOne means base k).therm.trims = d.therm.trims ∧
    (d.trimOne means base k).cal.left = [] := by
  have hsup : d.SupKept ((d.calCount 6 k).calApply 6 k false 0) := (SupKept.calCount d k (by decide)).trans (.calRefused _ _ _ _ (by decide))
  have hon' : ((d.calCount 6 k).calApply 6 k false 0).sensorOn k = true := by
    rw [sensorOn, hsup.regs 0x260A (k + 1) (.inr rfl) (by omega)]
    exact hon
  obtain ⟨h1, h2, h3⟩ := sensorFailed_self hk hon'
  rw [(trimOne_eq means base hl ht).2 h]
  exact ⟨h1, h2.trans (by rw [hsup.therm]), h3 (hsup.left hl)⟩

end Dev

theorem trimSensors_eq {d : Dev} {means : List Int} {die : List Int} {base : Rat} (hdie : die = ([0, 1].filter d.sensorOn).map (fun i => means.getD i 0))
    (hbase : base = ((die.sum : Int) : Rat) / (max die.length 1 : Nat)) :
    d.trimSensors means = ((List.range 32).filter (fun k => decide (2 ≤ k) && d.sensorOn k && decide (k < means.length))).foldl
      (fun d k => d.trimOne means base k) d := by
  rw [hbase, hdie, List.length_map]
  rfl

/-- A sensor's trim, in Standby for 10 s (R437). -/
theorem sensorTrim_runs {s : State} {means : List Int} {k : Nat} {die : List Int} {base : Rat} {trim : Int} (hst : s.dev.sys.st = .standby)
    (hsince : s.dev.sys.standbySince + 10000000000 ≤ s.now) (hbit : bit (s.dev.g 0x2700 2) 5 = true) (hl : s.dev.cal.left = []) (h2 : 2 ≤ k) (hk : k < 32)
    (hm : k < means.length) (hon : s.dev.sensorOn k = true) (hdie : die = ([0, 1].filter s.dev.sensorOn).map (fun i => means.getD i 0))
    (hbase : base = ((die.sum : Int) : Rat) / (max die.length 1 : Nat)) (htrim : trim = roundRat (base - (means.getD k 0 : Int))) :
    (trim.natAbs ≤ 30 → Runs (.sensorTrim means) s (fun t => t.dev.therm.trims.find? k = some trim ∧ t.dev.cal.values.find? (6 * 256 + k) = some trim)) ∧
    (30 < trim.natAbs → Runs (.sensorTrim means) s (fun t => bits (t.dev.g 0x260A (k + 1)) 7 6 = 2 ∧
      t.dev.therm.trims.find? k = s.dev.therm.trims.find? k)) := by
  obtain ⟨l, hlist⟩ : ∃ l, l = (List.range 32).filter (fun k => decide (2 ≤ k) && s.begin_.sensorOn k && decide (k < means.length)) := ⟨_, rfl⟩
  obtain ⟨d, hd⟩ : ∃ d : Dev, d = l.foldl (fun d k => d.trimOne means base k) s.begin_ := ⟨_, rfl⟩
  have hexec : exec (.sensorTrim means) s = s.done d := by
    have hstandby : ((s.begin_.sys.st == .standby && decide (s.begin_.sys.standbySince + 10000000000 ≤ s.begin_.t) && bit (s.begin_.g 0x2700 2) 5) ||
        s.begin_.cal.left.any (fun k => k / 256 == 6)) = true := by
      have hb : bit (s.begin_.g 0x2700 2) 5 = true := hbit
      have hn : s.begin_.sys.standbySince + 10000000000 ≤ s.begin_.t := hsince
      have hs : (s.begin_.sys.st == DState.standby) = true := by
        rw [show s.begin_.sys.st = .standby from hst]
        rfl
      rw [hb, hs, decide_eq_true hn]
      rfl
    refine (congrArg s.done (if_pos hstandby)).trans (congrArg s.done ?_)
    rw [hd, hlist]
    exact trimSensors_eq (d := s.begin_) hdie hbase
  have hnodup : l.Nodup := hlist ▸ List.nodup_range.filter _
  have hlt : ∀ j ∈ l, j < 32 := fun j hj => List.mem_range.mp (List.mem_filter.mp (hlist ▸ hj)).1
  have hmem : k ∈ l := by
    rw [hlist, List.mem_filter, show s.begin_.sensorOn k = true from hon]
    exact ⟨List.mem_range.mpr hk, by simp [h2, hm]⟩
  have hon0 : bits (s.begin_.g 0x260A (k + 1)) 7 6 = 0 := by
    have : s.begin_.sensorOn k = true := hon
    simpa only [Dev.sensorOn, beq_iff_eq] using this
  have hP : ∀ d : Dev, ∀ j ∈ l, j ≠ k → (Dev.SensorsKept (fun i => i = k) s.begin_ d ∧ d.cal.left = []) →
      Dev.SensorsKept (fun i => i = k) s.begin_ (d.trimOne means base j) ∧ (d.trimOne means base j).cal.left = [] := fun d j hj hjk h => by
    obtain ⟨-, hg, -⟩ : _ ∧ _ ∧ _ := by simpa only [Dev.sensorFace, Prod.mk.injEq] using h.1.face k rfl
    have hone := Dev.SensorsKept.trimOne d means base hk hjk h.2 (by rw [hg, hon0]; decide)
    exact ⟨h.1.trans hone, hone.left h.2⟩
  refine ⟨fun h => ?_, fun h => ?_⟩
  · have hx : d.therm.trims.find? k = some trim ∧ d.cal.values.find? (6 * 256 + k) = some trim ∧ bits (d.g 0x260A (k + 1)) 7 6 = 0 ∧ d.cal.left = [] := by
      rw [hd]
      refine foldl_touch (k := k) (fun d : Dev => Dev.SensorsKept (fun i => i = k) s.begin_ d ∧ d.cal.left = [])
        (fun d : Dev => d.therm.trims.find? k = some trim ∧ d.cal.values.find? (6 * 256 + k) = some trim ∧ bits (d.g 0x260A (k + 1)) 7 6 = 0 ∧ d.cal.left = [])
        hnodup hmem hP (fun d hd => ?_) (fun d j hj hjk hd => ?_) ⟨.refl _ _, hl⟩
      · obtain ⟨-, hg, -⟩ : _ ∧ _ ∧ _ := by simpa only [Dev.sensorFace, Prod.mk.injEq] using hd.1.face k rfl
        obtain ⟨h1, h2, h3, h4⟩ := Dev.trimOne_taken hk hd.2 htrim h
        exact ⟨h1, h2, by rw [h3, hg, hon0], h4⟩
      · obtain ⟨h1, h2, h3, h4⟩ := hd
        have hone := Dev.SensorsKept.trimOne d means base hk hjk h4 (by rw [h3]; decide)
        obtain ⟨-, hg, -, -, -, ht, hv⟩ : _ ∧ _ ∧ _ ∧ _ ∧ _ ∧ _ ∧ _ := by simpa only [Dev.sensorFace, Prod.mk.injEq] using hone.face k rfl
        exact ⟨ht.trans h1, hv.trans h2, by rw [hg, h3], hone.left h4⟩
    exact .of_done hexec ⟨hx.1, hx.2.1⟩
  · have hx : bits (d.g 0x260A (k + 1)) 7 6 = 2 ∧ d.therm.trims.find? k = s.dev.therm.trims.find? k ∧ d.cal.left = [] := by
      rw [hd]
      refine foldl_touch (k := k) (fun d : Dev => Dev.SensorsKept (fun i => i = k) s.begin_ d ∧ d.cal.left = [])
        (fun d : Dev => bits (d.g 0x260A (k + 1)) 7 6 = 2 ∧ d.therm.trims.find? k = s.dev.therm.trims.find? k ∧ d.cal.left = [])
        hnodup hmem hP (fun d hd => ?_) (fun d j hj hjk hd => ?_) ⟨.refl _ _, hl⟩
      · obtain ⟨-, hg, -, -, -, ht, -⟩ : _ ∧ _ ∧ _ ∧ _ ∧ _ ∧ _ ∧ _ := by simpa only [Dev.sensorFace, Prod.mk.injEq] using hd.1.face k rfl
        obtain ⟨h1, h2, h3⟩ := Dev.trimOne_failed hk (by rw [Dev.sensorOn, hg, hon0]; rfl) hd.2 htrim h
        exact ⟨h1, by rw [h2]; exact ht, h3⟩
      · obtain ⟨h1, h2, h3⟩ := hd
        have hone := Dev.SensorsKept.trimOne d means base hk hjk h3 (by rw [h1]; decide)
        obtain ⟨-, hg, -, -, -, ht, -⟩ : _ ∧ _ ∧ _ ∧ _ ∧ _ ∧ _ ∧ _ := by simpa only [Dev.sensorFace, Prod.mk.injEq] using hone.face k rfl
        exact ⟨by rw [hg, h1], ht.trans h2, hone.left h3⟩
    exact .of_done hexec ⟨hx.1, hx.2.1⟩

/-- The trim on command, and outside its conditions (R437). -/
theorem sensorTrim_else (s : State) (means : List Int) :
    (s.dev.cal.left.any (fun k => k / 256 == 6) = true → Makes (.sensorTrim means) s (s.begin_.trimSensors means)) ∧
    (s.dev.cal.left.any (fun k => k / 256 == 6) = false →
      (s.dev.sys.st ≠ .standby ∨ s.now < s.dev.sys.standbySince + 10000000000 ∨ bit (s.dev.g 0x2700 2) 5 = false) → Makes (.sensorTrim means) s s.begin_) := by
  refine ⟨fun h => .done (congrArg s.done (if_pos ?_)), fun h hs => .done (congrArg s.done (if_neg ?_))⟩
  · rw [show s.begin_.cal.left.any (fun k => k / 256 == 6) = true from h, Bool.or_true]
  · rw [show s.begin_.cal.left.any (fun k => k / 256 == 6) = false from h, Bool.or_false, Bool.not_eq_true]
    rcases hs with hs | hs | hs
    · have : (s.begin_.sys.st == DState.standby) = false := by simpa using hs
      rw [this]
      rfl
    · have : ¬s.begin_.sys.standbySince + 10000000000 ≤ s.begin_.t := not_le.mpr hs
      rw [decide_eq_false this, Bool.and_false]
      rfl
    · rw [show bit (s.begin_.g 0x2700 2) 5 = false from hs, Bool.and_false]

/-- One subchannel's retraining (R351). -/
theorem dramRetrain_cases (s : State) (sub : Fin 4) (p : Bool) {k : Nat} (hk : k = 512 + (sub : Nat)) (d : Dev) :
    (s.dev.fast = false → Makes (.dramRetrain sub p) s s.begin_) ∧
    (s.dev.fast = true → s.dev.renderedAhead = false → Reports (.dramRetrain sub p) s ((s.begin_.bump 0x270C 2).put 0x270A 2 3)
      (evLevel 90) 90 0 0xFF 0) ∧
    (s.dev.fast = true → s.dev.renderedAhead = true → d = (if s.dev.cal.left.contains k = true ∨ s.dev.cal.running.contains k = true
        then s.begin_.calDone 2 sub p 0 else (s.begin_.calCount 2 sub).calApply 2 sub p 0) →
      Reports (.dramRetrain sub p) s d (evLevel 90) 90 0 0xFF 0) := by
  refine ⟨fun h => .done (congrArg s.done (if_pos ?_)), fun h hr => ?_, fun h hr hd => ?_⟩
  · rw [show s.begin_.fast = false from h]
    rfl
  · have hf : ¬(!s.begin_.fast) = true := by rw [show s.begin_.fast = true from h]; decide
    have ha : (!s.begin_.renderedAhead) = true := by rw [show s.begin_.renderedAhead = false from hr]; rfl
    exact .of_raise (x := 0) (congrArg s.done ((if_neg hf).trans (if_pos ha))) rfl rfl (Nat.le_refl _) rfl (by decide)
  · have hf : ¬(!s.begin_.fast) = true := by rw [show s.begin_.fast = true from h]; decide
    have ha : ¬(!s.begin_.renderedAhead) = true := by rw [show s.begin_.renderedAhead = true from hr]; decide
    have hd' : (if s.begin_.cal.left.contains (Dev.calKey 2 sub) || s.begin_.cal.running.contains (Dev.calKey 2 sub) then s.begin_.calDone 2 sub p 0
        else (s.begin_.calCount 2 sub).calApply 2 sub p 0) = d := by
      rw [hd, hk]
      simp only [Bool.or_eq_true]
      rfl
    have htop : s.dev.fl.top ≤ d.fl.top := by
      rw [hd]
      split
      · exact Dev.top_calDone s.begin_ _ _ _ _
      · exact (Dev.SupKept.calCount s.begin_ (item := 2) sub (by decide)).top.trans (Dev.top_calApply _ _ _ _ _ _)
    refine .of_raise (x := 0) (d := d) ?_ rfl rfl htop rfl (by decide)
    rw [← hd']
    exact congrArg s.done ((if_neg hf).trans (if_neg ha))

/-- Every printing bar is rendered ahead (R351). -/
theorem renderedAhead_iff (d : Dev) : d.renderedAhead = true ↔
    (d.printingLike = false ∨ ∀ n, n < d.nbars → (d.bar n).ctx = none ∨ (d.bar n).next + 16 ≤ (d.bar n).rend) := by
  simp only [Dev.renderedAhead, Dev.barList, Bool.or_eq_true, Bool.not_eq_true', List.all_eq_true, List.mem_range, Option.isNone_iff_eq_none,
    decide_eq_true_eq]

/-- A unit that is due runs (R434, R435). -/
theorem calibrationRun_cases (s : State) {item unit k : Nat} {due : List Nat} {d : Dev} (hk : k = item * 256 + unit)
    (hdue : due = (if s.dev.cal.due.contains k then s.dev.cal.due else s.dev.cal.due ++ [k])) (hd : d = { s.begin_ with cal := { s.dev.cal with due := due } }) :
    (1 ≤ item → item ≤ 5 → bit (s.dev.g 0x2700 2) (item - 1) = true →
      s.dev.calUnit item unit = true → bit s.dev.cal.mask (item - 1) = false →
      (s.dev.cal.due.contains k = true ∨ ∃ r, s.dev.cal.refs.find? k = some r ∧ s.dev.g 0x2700 1 ≠ 0 ∧
        (s.dev.g 0x2700 1 : Int) < (s.dev.calReading item unit - r).natAbs) →
      (s.dev.cal.running.contains k = true → Makes (.calibrationRun item unit) s d) ∧
      (s.dev.cal.running.contains k = false → s.dev.calWaits item unit = false → Makes (.calibrationRun item unit) s { s.begin_ with cal := { s.dev.cal with
        running := s.dev.cal.running ++ [k], due := s.dev.cal.due.filter (fun x => x != k) } }) ∧
      (s.dev.cal.running.contains k = false → s.dev.calWaits item unit = true →
        (item = 1 → unit < 72 → Makes (.calibrationRun item unit) s d) ∧
        (item ≠ 1 ∨ 72 ≤ unit → Reports (.calibrationRun item unit) s ((d.bump 0x270C item).put 0x270A item 3) (evLevel 110) 110 0 0xFF 0))) ∧
    ((item < 1 ∨ 5 < item ∨ bit (s.dev.g 0x2700 2) (item - 1) = false ∨ s.dev.calUnit item unit = false ∨ bit s.dev.cal.mask (item - 1) = true ∨
        (s.dev.cal.due.contains k = false ∧ (s.dev.g 0x2700 1 = 0 ∨ ∀ r, s.dev.cal.refs.find? k = some r →
          ((s.dev.calReading item unit - r).natAbs : Int) ≤ s.dev.g 0x2700 1))) → Makes (.calibrationRun item unit) s s.begin_) := by
  obtain ⟨moved, hmoved⟩ : ∃ b : Bool, b = (s.begin_.g 0x2700 1 != 0 && (match s.begin_.cal.refs.find? k with
    | some r => decide ((s.begin_.g 0x2700 1 : Int) < (s.begin_.calReading item unit - r).natAbs)
    | none => false)) := ⟨_, rfl⟩
  have hexec : exec (.calibrationRun item unit) s = s.done
      (if (decide (item < 1 ∨ 5 < item) || !bit (s.begin_.g 0x2700 2) (item - 1) || !s.begin_.calUnit item unit || bit s.begin_.cal.mask (item - 1)) = true then s.begin_
      else if (moved || s.begin_.cal.due.contains k) = true then s.begin_.calStart item unit else s.begin_) := by
    rw [hmoved, hk]
    rfl
  have hmoved' : moved = true ↔ ∃ r, s.dev.cal.refs.find? k = some r ∧ s.dev.g 0x2700 1 ≠ 0 ∧
      (s.dev.g 0x2700 1 : Int) < (s.dev.calReading item unit - r).natAbs := by
    rw [hmoved]
    show (s.dev.g 0x2700 1 != 0 && _) = true ↔ _
    cases hr : s.dev.cal.refs.find? k with
    | none =>
      rw [show s.begin_.cal.refs.find? k = none from hr]
      simp
    | some r =>
      rw [show s.begin_.cal.refs.find? k = some r from hr]
      show (s.dev.g 0x2700 1 != 0 && decide ((s.dev.g 0x2700 1 : Int) < (s.dev.calReading item unit - r).natAbs)) = true ↔ _
      simp
  obtain ⟨hrun, hstart, hwait⟩ := Dev.calStart_cases (d := s.begin_) hk hdue hd
  refine ⟨fun h1 h5 hb hu hm hwhy => ?_, fun h => .done (hexec.trans (congrArg s.done ?_))⟩
  · have hgo : exec (.calibrationRun item unit) s = s.done (s.begin_.calStart item unit) := by
      refine hexec.trans (congrArg s.done ((if_neg ?_).trans (if_pos ?_)))
      · rw [show bit (s.begin_.g 0x2700 2) (item - 1) = true from hb, show s.begin_.calUnit item unit = true from hu,
          show bit s.begin_.cal.mask (item - 1) = false from hm, decide_eq_false (by omega)]
        decide
      · rw [Bool.or_eq_true, hmoved']
        exact hwhy.symm
    refine ⟨fun hr => .done (hgo.trans (congrArg s.done (hrun hr))), fun hr hw => .done (hgo.trans (congrArg s.done (hstart hr hw))),
      fun hr hw => ⟨fun h1 h2 => .done (hgo.trans (congrArg s.done ((hwait hr hw).1 h1 h2))), fun h => ?_⟩⟩
    exact .of_raise (x := 0) (hgo.trans (congrArg s.done ((hwait hr hw).2 h))) rfl rfl (by rw [hd]; exact Nat.le_refl _) rfl (by decide)
  · by_cases hc : (decide (item < 1 ∨ 5 < item) || !bit (s.begin_.g 0x2700 2) (item - 1) || !s.begin_.calUnit item unit || bit s.begin_.cal.mask (item - 1)) = true
    · exact if_pos hc
    · rw [if_neg hc, if_neg]
      simp only [Bool.or_eq_true, decide_eq_true_eq, Bool.not_eq_true', not_or, Bool.not_eq_false, Bool.not_eq_true] at hc
      obtain ⟨⟨⟨hc1, hc2⟩, hc3⟩, hc4⟩ := hc
      have hc2 : bit (s.dev.g 0x2700 2) (item - 1) = true := hc2
      have hc3 : s.dev.calUnit item unit = true := hc3
      have hc4 : bit s.dev.cal.mask (item - 1) = false := hc4
      rcases h with h | h | h | h | h | ⟨hdue, h⟩
      · omega
      · omega
      · rw [hc2] at h
        exact absurd h (by decide)
      · rw [hc3] at h
        exact absurd h (by decide)
      · rw [hc4] at h
        exact absurd h (by decide)
      · rw [Bool.or_eq_true, hmoved', not_or]
        refine ⟨fun ⟨r, hr, h0, hlt⟩ => ?_, by rw [show s.begin_.cal.due.contains k = false from hdue]; decide⟩
        rcases h with h | h
        · exact h0 h
        · have := h r hr
          omega

/-- A commanded calibration (R436). -/
theorem calibrationCommand_cases {s : State} {sess mask : Nat} {left : List Nat} {d : Dev} (hs : s.Serves sess 0x2702) :
    ((mask = 0 ∨ 64 ≤ mask) → Answers (.calibrationCommand sess mask) s sess 0x06090030 s.begin_) ∧
    (1 ≤ mask → mask < 64 → left = ((List.range 6).filter (fun i => bit mask i)).flatMap (fun i =>
        ((List.range 80).filter (s.dev.calUnit (i + 1))).map (fun u => (i + 1) * 256 + u)) →
      d = { s.begin_.beginOp 2 sess mask with cal := { s.dev.cal with mask := mask, left := left, results := [] } } →
      (left ≠ [] → Answers (.calibrationCommand sess mask) s sess 0x0F000010 d) ∧
      (left = [] → Answers (.calibrationCommand sess mask) s sess 0x0F000010
        (({ d with cal := { d.cal with mask := 0, results := [] } } : Dev).endOp 0))) := by
  refine ⟨fun h => .of_hostWrite hs rfl (if_pos ?_), fun h1 h64 hleft hd => ?_⟩
  · simp only [Bool.or_eq_true, beq_iff_eq, decide_eq_true_eq]
    exact h
  · have hw : s.begin_.writeCalibration sess mask = (d.calFinish, 0x0F000010) := by
      have hc : ¬(mask == 0 || decide (64 ≤ mask)) = true := by
        simp only [Bool.or_eq_true, beq_iff_eq, decide_eq_true_eq]
        omega
      refine (if_neg hc).trans ?_
      rw [hd, hleft]
      rfl
    have hdl : d.cal.left = left := by rw [hd]
    obtain ⟨hl, hr⟩ := Dev.calFinish_eq (d := d) rfl
    refine ⟨fun h => .of_hostWrite hs rfl ?_, fun h => .of_hostWrite hs rfl ?_⟩
    · rw [hw, hl (by rw [hdl]; exact h)]
    · have hres : d.cal.results = [] := by rw [hd]
      rw [hw, hr (by rw [hdl]; exact h), hres, List.foldl_nil]

/-- Settles O58, one lemma per row: a unit's run, its end, a commanded calibration over its units, the trims sensor by sensor, and the retraining step.
Trims come from untrimmed means (log 72), and a trigger during a run starts the unit again (log 74). -/
theorem calibrationRunsAreAppliedOrRefused : Obligations.CalibrationRunsAreAppliedOrRefused := by
  unfold Obligations.CalibrationRunsAreAppliedOrRefused
  refine ⟨fun s item unit k due d hk hdue hd => calibrationRun_cases s hk hdue hd,
    fun s item unit k value p d hk hd => ?_,
    fun d e item unit k code value commanded hk hcode he fin hfin => ?_,
    fun d e u v he => Dev.calFinish_cases u v he,
    fun s sess mask left d hs => calibrationCommand_cases hs,
    fun s means k die base trim hst hsince hbit hl h2 hk hm hon hdie hbase htrim =>
      sensorTrim_runs hst hsince hbit hl h2 hk hm hon hdie hbase htrim,
    sensorTrim_else,
    fun s sub p k d hk => dramRetrain_cases s sub p hk d,
    fun s => renderedAhead_iff s.dev⟩
  · obtain ⟨h1, h2, h3⟩ := Dev.calDone_cases (d := s.begin_) (item := item) (unit := unit) value p hk
    subst hd
    exact ⟨fun hl => .done (congrArg s.done (h1 hl)),
      fun hl hr => ⟨fun h => .done (congrArg s.done ((h2 hl hr).1 h)), fun h => .done (congrArg s.done ((h2 hl hr).2 h))⟩,
      fun hl hr => .done (congrArg s.done (h3 hl hr))⟩
  · have hf : ∀ x : Dev, fin x = x.calStored item k value := hfin
    simp only [hf]
    obtain ⟨h1, h2, h3⟩ := Dev.calApply_cases (commanded := commanded) hk hcode he
    subst hk
    exact ⟨rfl, rfl, h1, h2, h3⟩

end Sys2Proof.Machine
end

section
/-! PROOFS. Resets: what they keep (R97, R421, R429, R432, R454, R467, R484). -/
namespace Sys2Proof.Machine

open Sys2Proof

namespace Dev

/-- A device without sessions logs an event, and drops none of its records. -/
theorem raise_alone {d : Dev} (h : d.com.sess = []) (e m u x : Nat) : d.raise e m u x = d.recordEvent (evLevel e) e m u x := by
  have hfull : (if bit (d.g 0x2200 (e + 1)) 0 then (d.com.sess.keysWhere (fun _ x => x.full)).length else 0) = 0 := by
    rw [h]
    split <;> rfl
  have hfirst : (e != 125 && bit (d.g 0x2200 (e + 1)) 0 && d.com.sess.any (fun x => x.2.full && x.2.overrun == 0)) = false := by
    rw [h]
    simp
  simp only [raise, raiseAt, hfirst, Bool.false_eq_true, if_false, logEvent, hfull, beq_self_eq_true, if_true]

/-- A restarted device before its change to Boot (R467). -/
def restarted (d : Dev) (cause : Nat) : Dev :=
  (({ d.aonKept d.lasting with sys := { (d.aonKept d.lasting).sys with st := d.sys.st } } : Dev).put 0x2101 3 cause).put 0x2101 4
    ((d.g 0x2101 4 + 1) % 4294967296)

theorem restart_eq (d : Dev) (cause : Nat) : d.restart cause = if d.sys.st = .boot then d.restarted cause else (d.restarted cause).enter .boot := rfl

/-- ALERT_N, the sessions and the operation as a restart leaves them, and the log it keeps (R421, R422, R467). -/
theorem restart_log (d : Dev) (cause : Nat) :
    (d.restart cause).pins.alertN = d.pins.alertN ∧ (d.restart cause).com.sess = [] ∧ (d.restart cause).com.op = none ∧
    (∀ r ∈ d.fl.log.take 1022, r ∈ (d.restart cause).fl.log) := by
  rw [restart_eq]
  split
  · exact ⟨rfl, rfl, rfl, fun r hr => List.mem_of_mem_take hr⟩
  · obtain ⟨r, hr⟩ : ∃ r : Dev, r = { d.restarted cause with sys := { (d.restarted cause).sys with st := .boot } } := ⟨_, rfl⟩
    have henter : (d.restarted cause).enter .boot = r.recordEvent (evLevel 4) 4 0 0xFF (d.sys.st.code * 256 + DState.boot.code) := by
      rw [hr]
      exact raise_alone rfl _ _ _ _
    have halert : bit (r.g 0x2200 (4 + 1)) 1 = false := by
      have hg : r.g 0x2200 (4 + 1) = dflt d.product 0x2200 5 := by
        rw [hr]
        rfl
      have hdflt : dflt d.product 0x2200 5 = 1 := by simp [dflt, formulaDefault]
      rw [hg, hdflt]
      rfl
    have hlog : r.fl.log = d.fl.log := by rw [hr]; rfl
    rw [henter]
    refine ⟨?_, ?_, ?_, fun x hx => ?_⟩
    · show (r.pins.alertN || bit (r.g 0x2200 (4 + 1)) 1) = _
      rw [halert, Bool.or_false, hr]
      rfl
    · show (if bit (r.g 0x2200 (4 + 1)) 0 then r.com.sess.mapVal _ else r.com.sess) = _
      rw [show r.com.sess = [] by rw [hr]; rfl]
      split <;> rfl
    · rw [hr]
      rfl
    · show x ∈ ((_ :: r.fl.log).take 1024)
      rw [hlog, List.take_succ_cons]
      exact List.mem_cons_of_mem _ (List.take_subset_take_left _ (by decide) hx)

/-- What a restart keeps, and what it sets (R97, R429, R432, R467). -/
theorem restart_keeps (d : Dev) {cause : Nat} :
    (d.restart cause).sys.st = .boot ∧ (d.restart cause).sys.verified = false ∧ (d.restart cause).sys.slots = d.sys.slots ∧
    (d.restart cause).g 0x2101 3 = cause ∧ (d.restart cause).g 0x2101 4 = (d.g 0x2101 4 + 1) % 4294967296 ∧ (d.restart cause).ctxs = [] ∧
    (d.restart cause).pins.faultN = true ∧ (d.restart cause).pins.thermN = d.pins.thermN ∧ (d.restart cause).nv.staged = d.nv.staged ∧
    (d.restart cause).nv.stored = d.nv.stored ∧ (d.restart cause).tally = d.tally ∧
    (∀ x ∈ d.print.reps, x.opened = true → { x with open_ := 0 } ∈ (d.restart cause).print.reps) ∧ (d.restart cause).out = d.out := by
  have h3 : (d.restarted cause).g 0x2101 3 = cause := by
    unfold restarted
    rw [g_put_ne _ _ (by decide), g_put_self]
  have h4 : (d.restarted cause).g 0x2101 4 = (d.g 0x2101 4 + 1) % 4294967296 := g_put_self ..
  have hreps : ∀ x ∈ d.print.reps, x.opened = true → { x with open_ := 0 } ∈ (d.restarted cause).print.reps := fun x hx ho =>
    List.mem_map.mpr ⟨x, List.mem_filter.mpr ⟨hx, ho⟩, rfl⟩
  rw [restart_eq]
  split
  · next hb => exact ⟨hb, rfl, rfl, h3, h4, rfl, rfl, rfl, rfl, rfl, rfl, hreps, rfl⟩
  · obtain ⟨r, hr⟩ : ∃ r : Dev, r = { d.restarted cause with sys := { (d.restarted cause).sys with st := .boot } } := ⟨_, rfl⟩
    obtain ⟨x, hx⟩ : ∃ x, x = (d.restarted cause).sys.st.code * 256 + DState.boot.code := ⟨_, rfl⟩
    have henter : (d.restarted cause).enter .boot = r.raise 4 0 0xFF x := by rw [hr, hx]; rfl
    obtain ⟨h1, h2, -⟩ : _ ∧ _ ∧ _ := by simpa only [Prod.mk.injEq] using r.raise_outputs 4 0 0xFF x (by decide)
    rw [henter, h1, h2, g_raise _ _ _ _ _ (by decide) (by decide), g_raise _ _ _ _ _ (by decide) (by decide)]
    simp only [raise_sys, raise_ctxs, raise_nv, raise_tally, raise_print, raise_out]
    rw [hr]
    exact ⟨rfl, rfl, rfl, h3, h4, rfl, rfl, rfl, rfl, rfl, rfl, hreps, rfl⟩

end Dev

/-- A system reset, and a REBOOT that is answered 0 (R97, R421, R429, R432, R467). -/
theorem restart_runs {s : State} {i : Instr} {cause : Nat} (h : (i = .systemReset ∧ s.dev.sys.st ≠ .off ∧ cause = 2) ∨
      (∃ sess, i = .reboot sess ∧ s.dev.rebootCode sess = some 0 ∧ cause = 3)) :
    ∃ t, exec i s = .next t ∧ t.now = s.now ∧ t.dram = [] ∧ t.pending = s.pending ∧ t.dev.sys.st = .boot ∧ t.dev.sys.verified = false ∧
      t.dev.g 0x2101 3 = cause ∧ t.dev.g 0x2101 4 = (s.dev.g 0x2101 4 + 1) % 4294967296 ∧ t.dev.com.sess = [] ∧ t.dev.com.op = none ∧
      t.dev.ctxs = [] ∧ t.dev.pins.faultN = true ∧ t.dev.pins.alertN = s.dev.pins.alertN ∧ t.dev.pins.thermN = s.dev.pins.thermN ∧
      (∀ r ∈ s.dev.fl.log.take 1022, r ∈ t.dev.fl.log) ∧ t.dev.nv.staged = s.dev.nv.staged ∧
      (∀ x ∈ s.dev.print.reps, x.opened = true → { x with open_ := 0 } ∈ t.dev.print.reps) ∧
      t.dev.nv.stored = s.dev.nv.stored ∧ t.dev.sys.slots = s.dev.sys.slots ∧ t.dev.tally = s.dev.tally ∧
      (∀ sess, i = .reboot sess → .answer sess 0 ∈ t.dev.out) := by
  obtain ⟨d, hexec, hsys, halert, htherm, hfl, hnv, hprint, htally, hg, hout⟩ : ∃ d : Dev, exec i s = .next (s.restart d cause) ∧ d.sys = s.dev.sys ∧
      d.pins.alertN = s.dev.pins.alertN ∧ d.pins.thermN = s.dev.pins.thermN ∧ d.fl = s.dev.fl ∧ d.nv = s.dev.nv ∧ d.print = s.dev.print ∧
      d.tally = s.dev.tally ∧ d.g 0x2101 4 = s.dev.g 0x2101 4 ∧ (∀ sess, i = .reboot sess → .answer sess 0 ∈ d.out) := by
    rcases h with ⟨rfl, hoff, rfl⟩ | ⟨sess, rfl, hcode, rfl⟩
    · exact ⟨{ s.begin_ with pins := { s.begin_.pins with sysrst := true } }, congrArg Host.Outcome.next (if_neg hoff), rfl, rfl, rfl, rfl, rfl, rfl, rfl, rfl,
        fun _ h => by cases h⟩
    · have hcode' : s.begin_.rebootCode sess = some 0 := hcode
      refine ⟨s.begin_.emit (.answer sess 0), ?_, rfl, rfl, rfl, rfl, rfl, rfl, rfl, rfl, fun i hi => ?_⟩
      · simp only [exec, execReboot, hcode', beq_self_eq_true, if_true]
      · cases hi
        exact List.mem_append_right _ (List.mem_cons_self ..)
  obtain ⟨h1, h2, h3, h4⟩ := d.restart_log cause
  obtain ⟨k1, k2, k3, k4, k5, k6, k7, k8, k9, k10, k11, k12, k13⟩ := d.restart_keeps (cause := cause)
  rw [hsys] at k3
  rw [halert] at h1
  rw [htherm] at k8
  rw [hfl] at h4
  rw [hnv] at k9 k10
  rw [hprint] at k12
  rw [htally] at k11
  rw [hg] at k5
  exact ⟨_, hexec, rfl, rfl, rfl, k1, k2, k4, k5, h2, h3, k6, k7, h1, k8, h4, k9, k12, k10, k3, k11, fun sess hi => k13 ▸ hout sess hi⟩

/-- PORST_N low, or the loss of the AON supply (R467, R484). -/
theorem powerOff_runs {s : State} {i : Instr} (h : i = .porstAssert ∨ i = .aonSupplyLoss) :
    ∃ t, exec i s = .next t ∧ t.now = 0 ∧ t.dram = [] ∧ t.pending = s.pending ∧
    t.dev.sys.st = .off ∧ t.dev.pins.porst = true ∧ t.dev.dict = {} ∧ t.dev.com = {} ∧ t.dev.fl = {} ∧ t.dev.ctxs = [] ∧ t.dev.bars = [] ∧
    t.dev.nv.staged = [] ∧ t.dev.nv.stored = s.dev.nv.stored ∧ t.dev.sys.slots = s.dev.sys.slots ∧ t.dev.tally = s.dev.tally ∧ t.dev.out = [] := by
  refine ⟨s.powerOff, ?_, rfl, rfl, rfl, rfl, rfl, rfl, rfl, rfl, rfl, rfl, rfl, rfl, rfl, rfl, rfl⟩
  rcases h with rfl | rfl <;> rfl

/-- PORST_N's release enters Boot (R454). -/
theorem porstRelease_boots {s : State} (h : s.dev.sys.st = .off) : ∃ t, exec .porstRelease s = .next t ∧ t.now = 0 ∧ t.dram = s.dram ∧ t.pending = s.pending ∧
    t.dev.bare = (({ s.begin_ with pins := { s.dev.pins with porst := false }, sys := { s.dev.sys with st := .boot } } : Dev).put 0x2101 3 1).bare ∧
    Logged s t (evLevel 4) 4 0 0xFF 1 := by
  obtain ⟨d, hd⟩ : ∃ d : Dev, d = ({ s.begin_ with t := 0, pins := { s.dev.pins with porst := false }, sys := { s.dev.sys with st := .boot } } : Dev).put 0x2101 3 1 :=
    ⟨_, rfl⟩
  have hexec : exec .porstRelease s = .next { s with now := 0, dev := d.raise 4 0 0xFF 1 } := by
    refine (congrArg Host.Outcome.next (if_pos h)).trans ?_
    have hcode : s.dev.sys.st.code * 256 + DState.boot.code = 1 := by rw [h]; rfl
    rw [hd, ← hcode]
    rfl
  obtain ⟨h1, h2⟩ := d.raise_logged 4 0 0xFF 1
  have htop : d.fl.top = s.dev.fl.top := by rw [hd]; rfl
  refine ⟨_, hexec, rfl, rfl, rfl, ?_, htop ▸ h1, h2⟩
  show (d.raise 4 0 0xFF 1).bare = _
  rw [Dev.raise_bare _ _ _ _ _ (by decide), hd]
  rfl

/-- A reset or a release that changes nothing. -/
theorem porst_idle (s : State) : (s.dev.sys.st ≠ .off → ∃ t, exec .porstRelease s = .next t ∧ Still s t ∧ t.dev.body = s.dev.body) ∧
    (s.dev.sys.st = .off → ∃ t, exec .systemReset s = .next t ∧ Still s t ∧ t.dev.body = s.dev.body) :=
  ⟨fun h => ⟨_, congrArg Host.Outcome.next (if_neg h), ⟨rfl, rfl, rfl⟩, rfl⟩, fun h => ⟨_, congrArg Host.Outcome.next (if_pos h), ⟨rfl, rfl, rfl⟩, rfl⟩⟩

/-- REBOOT outside its conditions (R55, R430). -/
theorem reboot_cases {s : State} {sess : Nat} {x : Sess} (hx : s.dev.session? sess = some x) (hp : x.port = 0) (hs : s.dev.served x 0x2000 = true) :
    (s.dev.com.op = none → (s.dev.sys.st = .restarting ∨ s.dev.tooHot = true) → Answers (.reboot sess) s sess 0x08000022 s.begin_) ∧
    (s.dev.com.op ≠ none → Answers (.reboot sess) s sess 0x0F000010 s.begin_) ∧
    (s.dev.com.op = none → s.dev.sys.st ≠ .restarting → s.dev.tooHot = false → s.dev.rebootCode sess = some 0) := by
  have hcode : ∀ d : Dev, d.session? sess = some x → d.served x 0x2000 = true → d.rebootCode sess =
      if d.com.op.isSome then some 0x0F000010 else if d.sys.st = .restarting || d.tooHot then some 0x08000022 else some 0 := fun d hx hs => by
    simp only [Dev.rebootCode, hx]
    exact if_neg (by simp [hp, hs])
  have hb := hcode s.begin_ hx hs
  have hanswer : ∀ c, c ≠ 0 → s.begin_.rebootCode sess = some c → exec (.reboot sess) s = s.done (s.begin_.emit (.answer sess c)) := fun c h0 h => by
    have h0' : (c == 0) = false := by simpa using h0
    simp only [exec, execReboot, h, h0', Bool.false_eq_true, if_false]
  refine ⟨fun ho h => .done (hanswer _ (by decide) (hb.trans ((if_neg ?_).trans (if_pos ?_)))), fun ho => .done (hanswer _ (by decide) (hb.trans (if_pos ?_))),
    fun ho hst hot => (hcode s.dev hx hs).trans ((if_neg ?_).trans (if_neg ?_))⟩
  · rw [show s.begin_.com.op = none from ho]
    decide
  · rw [Bool.or_eq_true, decide_eq_true_eq]
    exact h
  · exact Option.isSome_iff_ne_none.mpr ho
  · rw [ho]
    decide
  · rw [hot, decide_eq_false hst]
    decide

theorem tooHot_iff (d : Dev) : d.tooHot = true ↔ d.therm.shutdown = true ∧ (1000 < d.reading 0 ∨ 1000 < d.reading 1) := by
  simp [Dev.tooHot]

/-- The block right after PORST_N is released (R454, R467). -/
theorem reset_state : State.reset.now = 0 ∧ State.reset.dev.sys.st = .boot ∧ State.reset.dev.sys.verified = false ∧ State.reset.dev.pins.faultN = true ∧
    State.reset.dev.com.sess = [] ∧ State.reset.dev.com.op = none ∧ State.reset.dev.ctxs = [] ∧ State.reset.dev.light.uvLatched = true ∧
    State.reset.dev.g 0x2101 3 = 1 ∧ State.reset.dev.role = 0 ∧ (∀ k, k < 80 → State.reset.dev.laneState (k + 1) = 0) ∧
    State.reset.dev.fl.log = [{ num := 4, level := 0x20, mask := 0, unit := 0xFF, time := 0, rep := 0, detail := 1 }] :=
  ⟨rfl, rfl, rfl, rfl, rfl, rfl, rfl, rfl, rfl, by decide +kernel, by decide +kernel, rfl⟩

end Sys2Proof.Machine
end

section
/-! PROOFS. The restore at boot, and the start of the fast domains (R183, R189, R311, R433, R443, R463 to R468). -/
namespace Sys2Proof.Machine

open Sys2Proof

namespace Dev

/-! ### The log -/

/-- An event is among the newest `n` records. -/
def Lists (d : Dev) (n level e mask unit detail : Nat) : Prop := ∃ r ∈ d.fl.log.take n, r.says level e mask unit detail

theorem Lists.mono {d : Dev} {n m l e mk u x : Nat} (h : d.Lists n l e mk u x) (hm : n ≤ m) : d.Lists m l e mk u x := by
  obtain ⟨r, hr, h⟩ := h
  exact ⟨r, List.take_subset_take_left _ hm hr, h⟩

theorem Lists.of_fl {d f : Dev} {n l e mk u x : Nat} (h : d.Lists n l e mk u x) (hf : f.fl = d.fl) : f.Lists n l e mk u x := by
  unfold Lists
  rw [hf]
  exact h

theorem Lists.logEvent {d : Dev} {n l e mk u x : Nat} (h : d.Lists n l e mk u x) (hn : n < 1024) (l' e' m' u' x' : Nat) :
    (d.logEvent l' e' m' u' x').Lists (n + 1) l e mk u x := by
  obtain ⟨r, hr, hs⟩ := h
  obtain ⟨r', g, hg, -, -, hlog⟩ := d.logEvent_log l' e' m' u' x'
  refine ⟨g r, ?_, hg.says hs⟩
  rw [hlog, ← List.map_take, List.take_take, Nat.min_eq_left (by omega), List.take_succ_cons]
  exact List.mem_map_of_mem (List.mem_cons_of_mem _ hr)

/-- One more event puts at most two records before it. -/
theorem Lists.raise {d : Dev} {n l e mk u x : Nat} (h : d.Lists n l e mk u x) (hn : n < 1023) (e' m' u' x' : Nat) :
    (d.raise e' m' u' x').Lists (n + 2) l e mk u x := by
  have h1 := h.logEvent (by omega) (evLevel e') e' m' u' x'
  simp only [Dev.raise, Dev.raiseAt]
  split
  · exact h1.logEvent (by omega) _ _ _ _ _
  · exact h1.mono (by omega)

theorem lists_raise (d : Dev) (e m u x : Nat) : (d.raise e m u x).Lists 2 (evLevel e) e m u (x % 4294967296) := (d.raise_logged e m u x).2

theorem Lists.enter {d : Dev} {n l e mk u x : Nat} (h : d.Lists n l e mk u x) (hn : n < 1023) (st : DState) : (d.enter st).Lists (n + 2) l e mk u x :=
  (h.of_fl rfl : Dev.Lists { d with sys := { d.sys with st := st } } n l e mk u x).raise hn _ _ _ _

/-! ### The start of the fast domains -/

/-- The device as it wakes, but for its objects (R183, R219, R468). -/
def wakeReset (d : Dev) : Dev :=
  let engines : Table Nat := d.barList.map (fun n => (n, d.engineOf n))
  { d with
    encs := [], cmps := [], reck := {}
    bars := engines.map (fun (x : Nat × Nat) => (x.1, ({ engine := x.2, strobeFault := (d.bar x.1).strobeFault } : Bar)))
    sys := { d.sys with wakeStart := d.t } }

/-- Encoder counts, trims and the Reckoner's objects at 0 (R183, R189, R205). -/
def wakeRegs (d : Dev) : Dev :=
  [1, 2, 3, 4, 5].foldl (fun d i => d.put 0x3208 i 0) ((List.range 4).foldl (fun d c => (d.put (0x3008 + c) 1 0).put (0x3008 + c) 9 0) d)

/-- The device as it wakes, before its lanes train (R183, R189, R219, R468). -/
def wakeBase (d : Dev) : Dev := d.wakeReset.wakeRegs

theorem beginWake_eq (d : Dev) : d.beginWake = d.wakeBase.lanesTrain.enter .waking := rfl

theorem foldl_keeps_of_mem {α β γ : Type} {f : α → β → α} (g : α → γ) {l : List β} (h : ∀ a, ∀ b ∈ l, g (f a b) = g a) (a : α) : g (l.foldl f a) = g a := by
  induction l generalizing a with
  | nil => rfl
  | cons b l ih => exact (ih (fun a c hc => h a c (List.mem_cons_of_mem _ hc)) _).trans (h a b (List.mem_cons_self ..))

/-- What training the lanes leaves alone, apart from the lanes' objects. -/
def trainFace (d : Dev) : Sys × Faults × Pins := (d.sys, d.fl, d.pins)

theorem trainFace_lanesTrain (d : Dev) : trainFace d.lanesTrain = trainFace d := by
  refine foldl_keeps trainFace (fun d i => ?_) _ _
  dsimp only
  split <;> rfl

theorem g_lanesTrain (d : Dev) {i j : Nat} (h : key i j / 256 ≠ 0x3410 ∧ key i j / 256 ≠ 0x3411) : d.lanesTrain.g i j = d.g i j := by
  refine foldl_keeps_of_mem (fun d : Dev => d.g i j) (fun d k hk => ?_) d
  have hk := List.mem_range.mp hk
  dsimp only
  split
  · have hne : ∀ a, a = 0x3410 ∨ a = 0x3411 → key a (k + 1) ≠ key i j := fun a ha hkey => by
      rw [← hkey] at h
      simp only [key] at h
      omega
    exact (g_put_ne (d.put 0x3410 (k + 1) 1) 0 (hne 0x3411 (.inr rfl))).trans (g_put_ne d 1 (hne 0x3410 (.inl rfl)))
  · rfl

theorem trainFace_wakeRegs (d : Dev) : trainFace d.wakeRegs = trainFace d :=
  (foldl_keeps (f := fun (d : Dev) i => d.put 0x3208 i 0) trainFace (fun _ _ => rfl) _ _).trans
    (foldl_keeps (f := fun (d : Dev) c => (d.put (0x3008 + c) 1 0).put (0x3008 + c) 9 0) trainFace (fun _ _ => rfl) _ _)

theorem g_wakeRegs (d : Dev) {i j : Nat} (h : key i j < 0x3008 * 256) : d.wakeRegs.g i j = d.g i j := by
  have hne : ∀ e : Dev, ∀ a b, 0x3008 ≤ a → (e.put a b 0).g i j = e.g i j := fun e a b hab => g_put_ne _ _ (by simp only [key] at h ⊢; omega)
  exact (foldl_keeps (f := fun (d : Dev) i => d.put 0x3208 i 0) (fun d : Dev => d.g i j) (fun d c => hne _ _ _ (by omega)) _ _).trans
    (foldl_keeps (f := fun (d : Dev) c => (d.put (0x3008 + c) 1 0).put (0x3008 + c) 9 0) (fun d : Dev => d.g i j)
      (fun d c => (hne _ _ _ (by omega)).trans (hne _ _ _ (by omega))) _ d)

/-- What a wake keeps: the state but for its start, FAULT_N, the log's newest records, and the objects below those of lanes and encoders (R468). -/
theorem beginWake_keeps (d : Dev) : d.beginWake.sys = { d.sys with wakeStart := d.t, st := .waking } ∧ d.beginWake.pins.faultN = d.pins.faultN ∧
    (∀ i j, key i j < 0x2200 * 256 → key i j ≠ key 0x1440 2 → d.beginWake.g i j = d.g i j) ∧
    (∀ n l e mk u x, n < 1023 → d.Lists n l e mk u x → d.beginWake.Lists (n + 2) l e mk u x) := by
  obtain ⟨x, hx⟩ : ∃ x, x = d.wakeBase.lanesTrain := ⟨_, rfl⟩
  have hface : trainFace x = trainFace d.wakeReset := hx ▸ (trainFace_lanesTrain _).trans (trainFace_wakeRegs _)
  obtain ⟨hsys, hfl, hpins⟩ : _ ∧ _ ∧ _ := by simpa only [trainFace, Prod.mk.injEq] using hface
  obtain ⟨y, hy⟩ : ∃ y : Dev, y = { x with sys := { x.sys with st := .waking } } := ⟨_, rfl⟩
  obtain ⟨v, hv⟩ : ∃ v, v = x.sys.st.code * 256 + DState.waking.code := ⟨_, rfl⟩
  have hwake : d.beginWake = y.raise 4 0 0xFF v := by rw [beginWake_eq, ← hx, hy, hv]; rfl
  obtain ⟨-, hfault, -⟩ : _ ∧ _ ∧ _ := by simpa only [Prod.mk.injEq] using y.raise_outputs 4 0 0xFF v (by decide)
  rw [hwake, hfault, raise_sys]
  refine ⟨?_, ?_, fun i j h hne => ?_, fun n l e mk u z hn h => ?_⟩
  · rw [hy, hsys]
    rfl
  · rw [hy]
    exact congrArg Pins.faultN hpins
  · have hev : eventKey (key i j) = false := by simp [eventKey, hne]; omega
    have hg : x.g i j = d.wakeReset.g i j := hx ▸ (g_lanesTrain _ (by omega)).trans (g_wakeRegs _ (by omega))
    rw [g_raise _ _ _ _ _ (by decide) hev, hy]
    exact hg
  · exact Lists.raise (h.of_fl (by rw [hy]; exact hfl)) hn _ _ _ _

end Dev

end Sys2Proof.Machine
end

section
/-! PROOFS. Boot, the restore of the NV records, and the obligation on resets and boot (R83, R114, R433, R463 to R467). -/
namespace Sys2Proof.Machine

open Sys2Proof

namespace Dev

/-! ### The restore -/

/-- The state and the counter, which the restore leaves alone. -/
def bootFace (d : Dev) : Sys × Nat := (d.sys, d.t)

theorem bootFace_puts (vs : List (Nat × Nat)) (d : Dev) : bootFace (vs.foldl (fun d x => d.put (x.1 / 256) (x.1 % 256) x.2) d) = bootFace d :=
  foldl_keeps (f := fun (d : Dev) (x : Nat × Nat) => d.put (x.1 / 256) (x.1 % 256) x.2) bootFace (fun _ _ => rfl) vs d

theorem bootFace_restoreRec (d : Dev) (r : NvRec) : bootFace (d.restoreRec r) = bootFace d := by
  unfold restoreRec
  extract_lets puts
  have hputs : ∀ e vs, bootFace (puts e vs) = bootFace e := fun e vs => bootFace_puts vs e
  clear_value puts
  split
  · rfl
  · split <;> rfl
  · exact hputs _ _
  · refine (foldl_keeps (f := fun (d : Dev) (x : Nat × Nat) => d.onBar x.1 (fun b => { b with engine := x.2 })) bootFace (fun _ _ => rfl) _ _).trans ?_
    exact foldl_keeps (f := fun (d : Dev) e => d.put 0x2E07 (e + 1) (r.val / 4 ^ e % 4)) bootFace (fun _ _ => rfl) _ _
  · rfl
  · exact hputs _ _
  · rfl
  · rfl
  · exact hputs _ _
  · exact hputs _ _
  · rfl
  · rfl

theorem bootFace_restoreKeeper (d : Dev) (rs : List NvRec) : bootFace (d.restoreKeeper rs) = bootFace d := by
  unfold restoreKeeper
  extract_lets get table filled
  have htable : ∀ e i, bootFace (table e i) = bootFace e := fun e i => by
    show bootFace (match get i with
      | some r => if r.data.isEmpty then e else e.putDom i r.data
      | none => e) = _
    cases get i with
    | none => rfl
    | some r =>
      dsimp only
      split <;> rfl
  have hfilled : bootFace filled = bootFace d := by
    refine foldl_keeps bootFace (fun d n => ?_) _ _
    refine (htable _ _).trans ((htable _ _).trans ?_)
    split
    · exact htable _ _
    · rfl
  clear_value table filled
  split
  · exact Eq.trans rfl hfilled
  · exact hfilled

theorem bootFace_restoreNv (d : Dev) : bootFace d.restoreNv = bootFace d := by
  unfold restoreNv
  extract_lets newer rs configured restored _ numbered _
  have h1 : bootFace configured = bootFace d := foldl_keeps bootFace bootFace_restoreRec _ _
  have h2 : bootFace restored = bootFace configured := foldl_keeps bootFace bootFace_restoreRec _ _
  have h3 : bootFace numbered = bootFace restored := by
    show bootFace (ite _ _ _) = _
    split <;> rfl
  clear_value configured restored numbered
  exact (bootFace_restoreKeeper _ _).trans (Eq.trans rfl (h3.trans (h2.trans h1)))

theorem bootFace_stageNv (d : Dev) (r : NvRec) : bootFace (d.stageNv r) = bootFace d := by
  unfold stageNv
  extract_lets same st _ full d1 st' _ d2
  have h2 : bootFace d2 = bootFace d := by
    show bootFace d1 = _
    show bootFace (if full then d.bump 0x260C 2 else d) = _
    split <;> rfl
  clear_value d2
  split
  · rfl
  · split
    · rw [← h2, bootFace, raise_sys, raise_t]
      rfl
    · exact h2

theorem bootFace_testEngines (d : Dev) (pass : List Nat) : bootFace (d.testEngines pass) = bootFace d := by
  unfold testEngines
  extract_lets ms _ unmarked tested
  have htested : bootFace tested = bootFace d :=
    foldl_keeps (f := fun (d : Dev) e => (d.put 0x2E07 (e + 1) 1).restorePool 1) bootFace (fun _ _ => rfl) _ unmarked
  clear_value tested
  split
  · rfl
  · refine Eq.trans ?_ htested
    unfold saveNv
    split
    · rfl
    · exact bootFace_stageNv _ _

/-- Nothing recorded leaves the dictionary and the tally as they were. -/
theorem restoreNv_empty {d : Dev} (hs : d.nv.stored = []) (ht : d.nv.staged = []) :
    d.restoreNv.dict = d.dict ∧ d.restoreNv.product = d.product ∧ d.restoreNv.tally = d.tally := by
  have hrs : d.nv.stored.filter (fun r => !d.nv.staged.any (fun x => x.kind == r.kind && x.obj == r.obj)) ++ d.nv.staged = [] := by rw [hs, ht]; rfl
  have hkeeper : ∀ e : Dev, e.restoreKeeper [] = e := fun e => by
    have hnone : e.barList.filter (e.keeperMatches []) = [] := by
      rw [List.filter_eq_nil_iff]
      intro n _
      exact Bool.false_ne_true
    unfold restoreKeeper
    rw [hnone]
    rfl
  unfold restoreNv
  extract_lets newer rs configured restored _ numbered _
  have hrs : rs = [] := hrs
  have hc : configured = d := by
    show (rs.filter (fun r => r.kind == 11)).foldl restoreRec d = d
    rw [hrs]
    rfl
  have hr : restored = d := by
    show (rs.filter (fun r => r.kind != 11 && r.kind != 7)).foldl restoreRec configured = d
    rw [hrs, hc]
    rfl
  have hn : numbered.dict = restored.dict ∧ numbered.product = restored.product ∧ numbered.tally = restored.tally := by
    show (ite _ _ _ : Dev).dict = _ ∧ (ite _ _ _ : Dev).product = _ ∧ (ite _ _ _ : Dev).tally = _
    split <;> exact ⟨rfl, rfl, rfl⟩
  rw [hr] at hn
  rw [hrs, hkeeper]
  exact hn

/-! ### The end of a boot -/

theorem slotInvalid_eq {d : Dev} {k : Nat} {x : Nat × Nat × Bytes} (hx : x = d.sys.slots.get (0, 0, []) k) :
    d.slotInvalid k = ({ d with sys := { d.sys with slots := d.sys.slots.set k (2, x.2) } } : Dev).raise 2 := by rw [hx]; rfl

theorem t_slotInvalid (l : List Nat) (d : Dev) : (l.foldl slotInvalid d).t = d.t :=
  foldl_keeps (f := slotInvalid) Dev.t (fun d k => raise_t ({ d with sys := { d.sys with slots := d.sys.slots.set k (2, (d.sys.slots.get (0, 0, []) k).2) } }) 2 0 0xFF 0) l d

/-- The slot that boots runs, in a device verified from now (R463). -/
theorem slotRuns_sys (d : Dev) (k : Nat) : (d.slotRuns k).t = d.t ∧ (d.slotRuns k).sys.verified = true ∧ (d.slotRuns k).sys.bootFailed = false ∧
    (d.slotRuns k).sys.slot = k ∧ (d.slotRuns k).sys.standbySince = d.t ∧ (∃ x, (d.slotRuns k).sys.slots.find? k = some x ∧ x.1 = 3) := by
  unfold slotRuns
  extract_lets _ _ _ known slots _ ran image named
  have hknown : known.t = d.t ∧ (known.sys.slots.find? k).isSome = true := by
    show (ite _ _ _ : Dev).t = _ ∧ ((ite _ _ _ : Dev).sys.slots.find? k).isSome = true
    split
    · next h => exact ⟨rfl, h⟩
    · refine ⟨rfl, ?_⟩
      show ((d.sys.slots.set k _).find? k).isSome = true
      rw [Table.find?_set_self]
      rfl
  have hslots : ∃ x, ran.sys.slots.find? k = some x ∧ x.1 = 3 := by
    show ∃ x, (known.sys.slots.mapVal _).find? k = some x ∧ x.1 = 3
    obtain ⟨x, hx⟩ := Option.isSome_iff_exists.mp hknown.2
    rw [Table.find?_mapVal, hx, Option.map_some]
    exact ⟨_, rfl, by simp⟩
  have hnamed : named.sys = ran.sys ∧ named.t = ran.t := by
    show (ite _ _ _ : Dev).sys = _ ∧ (ite _ _ _ : Dev).t = _
    split <;> exact ⟨rfl, rfl⟩
  obtain ⟨hsys, ht⟩ := hnamed
  have hfacts : ran.t = d.t ∧ ran.sys.verified = true ∧ ran.sys.bootFailed = false ∧ ran.sys.slot = k ∧ ran.sys.standbySince = d.t :=
    ⟨hknown.1, rfl, rfl, rfl, hknown.1⟩
  clear_value named ran
  show named.t = d.t ∧ named.sys.verified = true ∧ named.sys.bootFailed = false ∧ named.sys.slot = k ∧ named.sys.standbySince = d.t ∧
    (∃ x, named.sys.slots.find? k = some x ∧ x.1 = 3)
  rw [ht, hsys]
  exact ⟨hfacts.1, hfacts.2.1, hfacts.2.2.1, hfacts.2.2.2.1, hfacts.2.2.2.2, hslots⟩

/-- A boot's slot, restore and tests, before its last steps. -/
def bootBase (d : Dev) (invalid pass : List Nat) (k : Nat) : Dev :=
  ((((invalid.filter (fun k => decide (k < 2))).foldl slotInvalid d).slotRuns (k % 2)).restoreNv).testEngines pass

/-- The DRAM's configuration taken, the store divided, the switches written and PTP listening (R114, R238, R339, R350). -/
def bootSet (d : Dev) : Dev :=
  ({ d with mem := { d.mem with config := [1, 2, 3, 4, 5].map (d.g 0x2800), formed := false } } : Dev).divideStore.writeSwitches.ptpListen

/-- The boot is reported, and FAULT_N released (R463). -/
def bootTold (d : Dev) (fallback : Bool) (k : Nat) : Dev :=
  let d := (if fallback then d.raise 1 else d).raise 0 0 0xFF (k % 2)
  { d with pins := { d.pins with faultN := false } }

theorem bootComplete_some {d : Dev} (hst : d.sys.st = .boot) (hp : d.pins.porst = false) (hs : d.pins.sysrst = false) (hv : d.sys.verified = false)
    (k : Nat) (fallback : Bool) (invalid pass : List Nat) : d.bootComplete (some k) fallback invalid pass =
      if (((d.bootBase invalid pass k).bootSet.bootTold fallback k).enter .standby).g 0x2100 2 = 1 then
        (((d.bootBase invalid pass k).bootSet.bootTold fallback k).enter .standby).beginWake
      else ((d.bootBase invalid pass k).bootSet.bootTold fallback k).enter .standby := by
  have hc : ¬(d.sys.st != .boot || d.pins.porst || d.pins.sysrst || d.sys.verified) = true := by simp [hst, hp, hs, hv]
  unfold bootComplete
  rw [if_neg hc]
  simp only [beq_iff_eq]
  rfl

theorem bootComplete_none {d e : Dev} (hst : d.sys.st = .boot) (hp : d.pins.porst = false) (hs : d.pins.sysrst = false) (hv : d.sys.verified = false)
    (fallback : Bool) {invalid pass : List Nat} (he : e = (invalid.filter (fun k => decide (k < 2))).foldl slotInvalid d) :
    d.bootComplete none fallback invalid pass = { e with sys := { e.sys with bootFailed := true } } := by
  have hc : ¬(d.sys.st != .boot || d.pins.porst || d.pins.sysrst || d.sys.verified) = true := by simp [hst, hp, hs, hv]
  rw [he]
  exact if_neg hc

theorem bootComplete_idle {d : Dev} (h : d.sys.st ≠ .boot ∨ d.pins.porst = true ∨ d.pins.sysrst = true ∨ d.sys.verified = true) (slot : Option Nat)
    (fallback : Bool) (invalid pass : List Nat) : d.bootComplete slot fallback invalid pass = d := by
  refine if_pos ?_
  rcases h with h | h | h | h
  · have : (d.sys.st != DState.boot) = true := by simpa using h
    rw [this]
    rfl
  · rw [h, Bool.or_true]
    rfl
  · rw [h, Bool.or_true]
    rfl
  · rw [h, Bool.or_true]

theorem divideStore_keeps (d : Dev) : bootFace d.divideStore = bootFace d ∧ ∀ i j, key i j < 0x2A00 * 256 → d.divideStore.g i j = d.g i j := by
  unfold divideStore
  extract_lets c e
  clear_value c
  have he : bootFace e = bootFace d := rfl
  have hput : ∀ (f : Dev) (s v i j : Nat), key i j < 0x2A00 * 256 → (f.put 0x2A00 s v).g i j = f.g i j := fun f s v i j h =>
    g_put_ne _ _ (by simp only [key] at h ⊢; omega)
  have hg : ∀ i j, key i j < 0x2A00 * 256 → e.g i j = d.g i j := fun i j h => hput _ _ _ _ _ h
  clear_value e
  exact ⟨(foldl_keeps (f := fun (d : Dev) (x : Nat × Nat) => d.put 0x2A00 x.1 (c * x.2 / 100 / 1048576)) bootFace (fun _ _ => rfl) _ _).trans he,
    fun i j h => (foldl_keeps (f := fun (d : Dev) (x : Nat × Nat) => d.put 0x2A00 x.1 (c * x.2 / 100 / 1048576)) (fun e : Dev => e.g i j)
      (fun _ _ => hput _ _ _ _ _ h) _ _).trans (hg i j h)⟩

theorem writeSwitches_keeps (d : Dev) : bootFace d.writeSwitches = bootFace d ∧ ∀ i j, d.writeSwitches.g i j = d.g i j := by
  unfold writeSwitches
  exact ⟨foldl_keeps bootFace (fun _ _ => by dsimp only; rfl) _ _, fun i j => foldl_keeps (fun e : Dev => e.g i j) (fun _ _ => by dsimp only; rfl) _ _⟩

theorem ptpListen_keeps (d : Dev) : bootFace d.ptpListen = bootFace d ∧ ∀ i j, key i j < 0x2404 * 256 → d.ptpListen.g i j = d.g i j := by
  unfold ptpListen
  refine ⟨foldl_keeps bootFace (fun e k => ?_) _ _, fun i j h => foldl_keeps (fun e : Dev => e.g i j) (fun e k => ?_) _ _⟩
  · split <;> rfl
  · split
    · exact g_put_ne _ _ (by simp only [key] at h ⊢; omega)
    · rfl

theorem bootSet_keeps (d : Dev) : bootFace d.bootSet = bootFace d ∧ ∀ i j, key i j < 0x2404 * 256 → d.bootSet.g i j = d.g i j := by
  obtain ⟨e, he⟩ : ∃ e : Dev, e = { d with mem := { d.mem with config := [1, 2, 3, 4, 5].map (d.g 0x2800), formed := false } } := ⟨_, rfl⟩
  have hface : bootFace e = bootFace d := by rw [he]; rfl
  have hg : ∀ i j, e.g i j = d.g i j := fun i j => by rw [he]; rfl
  unfold bootSet
  rw [← he]
  exact ⟨((ptpListen_keeps _).1.trans ((writeSwitches_keeps _).1.trans (divideStore_keeps e).1)).trans hface, fun i j h =>
    (((ptpListen_keeps _).2 i j h).trans (((writeSwitches_keeps _).2 i j).trans ((divideStore_keeps e).2 i j (by omega)))).trans (hg i j)⟩

/-- The device as its boot enters Standby (R463 to R465). -/
def bootEnd (d : Dev) (invalid pass : List Nat) (k : Nat) (fallback : Bool) : Dev := ((d.bootBase invalid pass k).bootSet.bootTold fallback k).enter .standby

theorem bootTold_keeps (d : Dev) (fallback : Bool) (k : Nat) : (d.bootTold fallback k).sys = d.sys ∧ (d.bootTold fallback k).pins.faultN = false ∧
    (∀ i j, eventKey (key i j) = false → (d.bootTold fallback k).g i j = d.g i j) ∧
    (d.bootTold fallback k).Lists 2 (evLevel 0) 0 0 0xFF (k % 2) ∧ (fallback = true → (d.bootTold fallback k).Lists 4 (evLevel 1) 1 0 0xFF 0) := by
  obtain ⟨e, he⟩ : ∃ e : Dev, e = (if fallback then d.raise 1 else d) := ⟨_, rfl⟩
  have hsys : e.sys = d.sys := by
    rw [he]
    split
    · exact raise_sys ..
    · rfl
  have hg : ∀ i j, eventKey (key i j) = false → e.g i j = d.g i j := fun i j h => by
    rw [he]
    split
    · exact g_raise _ _ _ _ _ (by decide) h
    · rfl
  have htold : d.bootTold fallback k = { e.raise 0 0 0xFF (k % 2) with pins := { (e.raise 0 0 0xFF (k % 2)).pins with faultN := false } } := by rw [he]; rfl
  rw [htold]
  refine ⟨(raise_sys ..).trans hsys, rfl, fun i j h => (g_raise e 0 0 0xFF (k % 2) (by decide) h).trans (hg i j h), ?_, fun hf => ?_⟩
  · have h := e.lists_raise 0 0 0xFF (k % 2)
    rw [Nat.mod_eq_of_lt (show k % 2 < 4294967296 by omega)] at h
    exact h.of_fl rfl
  · have h := (d.lists_raise 1 0 0xFF 0)
    have he' : e = d.raise 1 := he.trans (if_pos hf)
    rw [← he'] at h
    exact (h.raise (by decide) 0 0 0xFF (k % 2)).of_fl rfl

theorem enter_keeps (d : Dev) (st : DState) : (d.enter st).sys = { d.sys with st := st } ∧ (d.enter st).pins.faultN = d.pins.faultN ∧
    ∀ i j, eventKey (key i j) = false → (d.enter st).g i j = d.g i j := by
  obtain ⟨e, he⟩ : ∃ e : Dev, e = { d with sys := { d.sys with st := st } } := ⟨_, rfl⟩
  obtain ⟨x, hx⟩ : ∃ x, x = d.sys.st.code * 256 + st.code := ⟨_, rfl⟩
  have henter : d.enter st = e.raise 4 0 0xFF x := by rw [he, hx]; rfl
  obtain ⟨-, hf, -⟩ : _ ∧ _ ∧ _ := by simpa only [Prod.mk.injEq] using e.raise_outputs 4 0 0xFF x (by decide)
  rw [henter, hf, raise_sys]
  refine ⟨by rw [he], by rw [he], fun i j h => (g_raise _ _ _ _ _ (by decide) h).trans ?_⟩
  rw [he]
  rfl

/-- A boot that ends (R463 to R465). -/
theorem bootEnd_facts (d : Dev) (invalid pass : List Nat) (k : Nat) (fallback : Bool) {e : Dev} (he : e = d.bootEnd invalid pass k fallback) :
    e.sys.st = .standby ∧ e.sys.verified = true ∧ e.sys.bootFailed = false ∧ e.sys.slot = k % 2 ∧ e.sys.standbySince = d.t ∧ e.pins.faultN = false ∧
    (∃ x, e.sys.slots.find? (k % 2) = some x ∧ x.1 = 3) ∧ e.Lists 4 (evLevel 0) 0 0 0xFF (k % 2) ∧
    (fallback = true → e.Lists 6 (evLevel 1) 1 0 0xFF 0) := by
  obtain ⟨l, hl⟩ : ∃ l, l = invalid.filter (fun k => decide (k < 2)) := ⟨_, rfl⟩
  obtain ⟨-, h1, h2, h3, h4, h5⟩ := slotRuns_sys (l.foldl slotInvalid d) (k % 2)
  rw [t_slotInvalid] at h4
  have hbase : bootFace (d.bootBase invalid pass k) = bootFace ((l.foldl slotInvalid d).slotRuns (k % 2)) := by
    rw [hl]
    exact (bootFace_testEngines _ _).trans (bootFace_restoreNv _)
  have hset : (d.bootBase invalid pass k).bootSet.sys = ((l.foldl slotInvalid d).slotRuns (k % 2)).sys := by
    have h := (bootSet_keeps (d.bootBase invalid pass k)).1.trans hbase
    simp only [bootFace, Prod.mk.injEq] at h
    exact h.1
  obtain ⟨t1, t2, -, t4, t5⟩ := bootTold_keeps (d.bootBase invalid pass k).bootSet fallback k
  obtain ⟨e1, e2, -⟩ := enter_keeps ((d.bootBase invalid pass k).bootSet.bootTold fallback k) .standby
  unfold bootEnd at he
  rw [he, e1, e2, t1, hset]
  exact ⟨rfl, h1, h2, h3, h4, t2, h5, t4.enter (by decide) _, fun hf => (t5 hf).enter (by decide) _⟩

/-- A boot without records to restore (R465). -/
theorem bootEnd_plain {d e : Dev} (hs : d.nv.stored = []) (ht : d.nv.staged = []) (hm : d.tally.marked = []) (pass : List Nat) (k : Nat) (fallback : Bool)
    (he : e = d.bootEnd [] pass k fallback) : e.g 0x2101 2 = k % 2 ∧ e.g 0x2100 2 = d.g 0x2100 2 := by
  obtain ⟨r, hr⟩ : ∃ r, r = d.slotRuns (k % 2) := ⟨_, rfl⟩
  have hruns : r.g 0x2101 2 = k % 2 ∧ r.g 0x2100 2 = d.g 0x2100 2 ∧ r.nv = d.nv ∧ r.tally = d.tally := by
    rw [hr]
    unfold slotRuns
    extract_lets _ _ _ known slots _ ran image named
    have hknown : known.dict = d.dict ∧ known.product = d.product ∧ known.nv = d.nv ∧ known.tally = d.tally := by
      show (ite _ _ _ : Dev).dict = _ ∧ (ite _ _ _ : Dev).product = _ ∧ (ite _ _ _ : Dev).nv = _ ∧ (ite _ _ _ : Dev).tally = _
      split <;> exact ⟨rfl, rfl, rfl, rfl⟩
    obtain ⟨k1, k2, k3, k4⟩ := hknown
    have hran : ran.g 0x2100 2 = d.g 0x2100 2 ∧ ran.nv = d.nv ∧ ran.tally = d.tally := ⟨g_congr k2 (by show known.dict.regs.find? _ = _; rw [k1]), k3, k4⟩
    have hnamed : named.g 0x2100 2 = ran.g 0x2100 2 ∧ named.nv = ran.nv ∧ named.tally = ran.tally := by
      show (ite _ _ _ : Dev).g 0x2100 2 = _ ∧ (ite _ _ _ : Dev).nv = _ ∧ (ite _ _ _ : Dev).tally = _
      split
      · exact ⟨rfl, rfl, rfl⟩
      · exact ⟨g_put_ne _ _ (by decide), rfl, rfl⟩
    clear_value named ran
    obtain ⟨n1, n2, n3⟩ := hnamed
    obtain ⟨r1, r2, r3⟩ := hran
    exact ⟨g_put_self .., (g_put_ne _ _ (by decide)).trans (n1.trans r1), n2.trans r2, n3.trans r3⟩
  obtain ⟨r1, r2, r3, r4⟩ := hruns
  obtain ⟨v1, v2, v3⟩ := restoreNv_empty (d := r) (by rw [r3]; exact hs) (by rw [r3]; exact ht)
  have hbase : d.bootBase [] pass k = r.restoreNv := by
    rw [hr]
    refine if_pos ?_
    show (d.slotRuns (k % 2)).restoreNv.tally.marked.isEmpty = true
    rw [← hr, v3, r4, hm]
    rfl
  have hg : ∀ i j, key i j < 0x2202 * 256 → key i j ≠ key 0x1440 2 → e.g i j = r.g i j := fun i j h hne => by
    have hev : eventKey (key i j) = false := by
      simp only [eventKey, Bool.or_eq_false_iff, beq_eq_false_iff_ne]
      exact ⟨by omega, hne⟩
    rw [he, bootEnd, (enter_keeps _ _).2.2 i j hev, (bootTold_keeps _ _ _).2.2.1 i j hev, (bootSet_keeps _).2 i j (by omega), hbase]
    exact g_congr v2 (by rw [v1])
  exact ⟨(hg _ _ (by decide) (by decide)).trans r1, (hg _ _ (by decide) (by decide)).trans r2⟩

/-! ### Single records and the store -/

theorem restoreRec_cases (d : Dev) (r : NvRec) :
    (r.kind = 11 → d.restoreRec r = r.vals.foldl (fun d x => d.put (x.1 / 256) (x.1 % 256) x.2) d) ∧
    (r.kind = 9 → (d.restoreRec r).print.nextNum = r.val + 65536) ∧
    (r.kind = 2 → r.obj / 256 = 6 → (d.restoreRec r).therm.trims.find? (r.obj % 256) = some (toSigned 32 r.val)) ∧
    (r.kind = 5 → d.restoreRec r = d.put 0x260D 0 (leNat r.data)) := by
  refine ⟨fun h => ?_, fun h => ?_, fun h h6 => ?_, fun h => ?_⟩
  · simp only [restoreRec, h]
  · simp only [restoreRec, h]
  · simp only [restoreRec, h, h6, beq_self_eq_true, if_true]
    exact Table.find?_set_self ..
  · simp only [restoreRec, h]

/-- The store's shares (R114, Table 4.9). -/
theorem divideStore_shares {d e : Dev} {c : Nat} (hc : c = d.usable_ - 1073741824) (he : e = d.divideStore) :
    e.g 0x2A00 6 = c / 1048576 ∧ e.g 0x2A00 1 = c * 40 / 100 / 1048576 ∧ e.g 0x2A00 2 = c * 45 / 100 / 1048576 ∧
    e.g 0x2A00 3 = c * 4 / 100 / 1048576 ∧ e.g 0x2A00 4 = c * 6 / 100 / 1048576 ∧ e.g 0x2A00 5 = c * 5 / 100 / 1048576 := by
  have hput : e = (((((d.put 0x2A00 6 (c / 1048576)).put 0x2A00 1 (c * 40 / 100 / 1048576)).put 0x2A00 2 (c * 45 / 100 / 1048576)).put 0x2A00 3
      (c * 4 / 100 / 1048576)).put 0x2A00 4 (c * 6 / 100 / 1048576)).put 0x2A00 5 (c * 5 / 100 / 1048576) := by
    rw [he, hc]
    rfl
  have hne : ∀ f : Dev, ∀ a b v, a ≠ b → a < 7 → b < 7 → (f.put 0x2A00 a v).g 0x2A00 b = f.g 0x2A00 b := fun f a b v h ha hb =>
    g_put_ne _ _ (by simp only [key]; omega)
  rw [hput]
  refine ⟨?_, ?_, ?_, ?_, ?_, g_put_self ..⟩
  · rw [hne _ 5 6 _ (by decide) (by decide) (by decide), hne _ 4 6 _ (by decide) (by decide) (by decide), hne _ 3 6 _ (by decide) (by decide) (by decide),
      hne _ 2 6 _ (by decide) (by decide) (by decide), hne _ 1 6 _ (by decide) (by decide) (by decide), g_put_self]
  · rw [hne _ 5 1 _ (by decide) (by decide) (by decide), hne _ 4 1 _ (by decide) (by decide) (by decide), hne _ 3 1 _ (by decide) (by decide) (by decide),
      hne _ 2 1 _ (by decide) (by decide) (by decide), g_put_self]
  · rw [hne _ 5 2 _ (by decide) (by decide) (by decide), hne _ 4 2 _ (by decide) (by decide) (by decide), hne _ 3 2 _ (by decide) (by decide) (by decide),
      g_put_self]
  · rw [hne _ 5 3 _ (by decide) (by decide) (by decide), hne _ 4 3 _ (by decide) (by decide) (by decide), g_put_self]
  · rw [hne _ 5 4 _ (by decide) (by decide) (by decide), g_put_self]

end Dev

/-- A boot whose slot verifies (R463 to R465). -/
theorem bootComplete_runs {s : State} (hst : s.dev.sys.st = .boot) (hp : s.dev.pins.porst = false) (hs : s.dev.pins.sysrst = false)
    (hv : s.dev.sys.verified = false) (fallback : Bool) (invalid pass : List Nat) (k : Nat) :
    Runs (.bootComplete (some k) fallback invalid pass) s (fun t => t.dev.sys.verified = true ∧ t.dev.sys.bootFailed = false ∧
      t.dev.sys.slot = k % 2 ∧ t.dev.sys.standbySince = s.now ∧ t.dev.pins.faultN = false ∧
      (t.dev.sys.st = .standby ∨ t.dev.sys.st = .waking) ∧ (∃ x, t.dev.sys.slots.find? (k % 2) = some x ∧ x.1 = 3) ∧
      (∃ r ∈ t.dev.fl.log.take 8, r.says (evLevel 0) 0 0 0xFF (k % 2)) ∧ (fallback = true → ∃ r ∈ t.dev.fl.log.take 8, r.says (evLevel 1) 1 0 0xFF 0)) ∧
    (invalid = [] → s.dev.nv.stored = [] → s.dev.nv.staged = [] → s.dev.tally.marked = [] → Runs (.bootComplete (some k) fallback invalid pass) s (fun t =>
      t.dev.g 0x2101 2 = k % 2 ∧ t.dev.sys.st = if s.dev.g 0x2100 2 = 1 then .waking else .standby)) := by
  obtain ⟨e, he⟩ : ∃ e, e = s.begin_.bootEnd invalid pass k fallback := ⟨_, rfl⟩
  have hexec : exec (.bootComplete (some k) fallback invalid pass) s = s.done (if e.g 0x2100 2 = 1 then e.beginWake else e) := by
    rw [he]
    exact congrArg s.done (Dev.bootComplete_some (d := s.begin_) hst hp hs hv k fallback invalid pass)
  obtain ⟨e1, e2, e3, e4, e5, e6, e7, e8, e9⟩ := s.begin_.bootEnd_facts invalid pass k fallback he
  obtain ⟨w1, w2, w3, w4⟩ := e.beginWake_keeps
  refine ⟨?_, fun hi hst' hsg hm => ?_⟩
  · by_cases hw : e.g 0x2100 2 = 1
    · rw [if_pos hw] at hexec
      generalize e.beginWake = x at hexec w1 w2 w3 w4
      refine .of_done hexec ?_
      show x.sys.verified = true ∧ x.sys.bootFailed = false ∧ x.sys.slot = k % 2 ∧ x.sys.standbySince = s.now ∧ x.pins.faultN = false ∧
        (x.sys.st = .standby ∨ x.sys.st = .waking) ∧ (∃ y, x.sys.slots.find? (k % 2) = some y ∧ y.1 = 3) ∧ x.Lists 8 (evLevel 0) 0 0 0xFF (k % 2) ∧
        (fallback = true → x.Lists 8 (evLevel 1) 1 0 0xFF 0)
      rw [w1, w2]
      exact ⟨e2, e3, e4, e5, e6, .inr rfl, e7, (w4 _ _ _ _ _ _ (by decide) e8).mono (by decide), fun hf => w4 _ _ _ _ _ _ (by decide) (e9 hf)⟩
    · rw [if_neg hw] at hexec
      clear he w1 w2 w3 w4
      refine .of_done hexec ?_
      exact ⟨e2, e3, e4, e5, e6, .inl e1, e7, e8.mono (by decide), fun hf => (e9 hf).mono (by decide)⟩
  · subst hi
    obtain ⟨p1, p2⟩ := Dev.bootEnd_plain (d := s.begin_) hst' hsg hm pass k fallback he
    have p2 : e.g 0x2100 2 = s.dev.g 0x2100 2 := p2
    rw [p2] at hexec
    by_cases hw : s.dev.g 0x2100 2 = 1
    · rw [if_pos hw] at hexec ⊢
      have hg := w3 0x2101 2 (by decide) (by decide)
      generalize e.beginWake = x at hexec w1 hg
      exact .of_done hexec ⟨hg.trans p1, by show x.sys.st = _; rw [w1]⟩
    · rw [if_neg hw] at hexec ⊢
      clear he w1 w2 w3 w4
      exact .of_done hexec ⟨p1, e1⟩

/-- Settles O59: the restart is its record of what lasts with one event on top, and the boot is followed through slot, restore, tests, settings, report
and wake. ALERT_N and THERM_N outlive a reset (log 85), the saved configuration is restored first (log 69), and fractions of a MiB are dropped (log 102). -/
theorem resetsKeepWhatTheyKeepAndBootEndsInStandby : Obligations.ResetsKeepWhatTheyKeepAndBootEndsInStandby := by
  unfold Obligations.ResetsKeepWhatTheyKeepAndBootEndsInStandby
  refine ⟨reset_state, fun s i h => powerOff_runs h, fun s h => porstRelease_boots h, fun s => (porst_idle s).1, fun s i cause h => restart_runs h,
    fun s => (porst_idle s).2, fun s sess x hx hp hs => reboot_cases hx hp hs, fun s sess h => ?_, fun s => tooHot_iff s.dev, fun s => .done rfl,
    fun s fallback invalid pass d hst hp hs hv hd => ⟨.done ?_, fun k => (bootComplete_runs hst hp hs hv fallback invalid pass k).1,
      fun k h1 h2 h3 => (bootComplete_runs hst hp hs hv fallback [] pass k).2 rfl h1 h2 h3⟩,
    fun d k x hx => Dev.slotInvalid_eq hx, Dev.restoreRec_cases, fun d e c hc he => Dev.divideStore_shares hc he,
    fun s slot fallback invalid pass h => .done (congrArg s.done (Dev.bootComplete_idle (d := s.begin_) h slot fallback invalid pass))⟩
  · have hcode : s.begin_.rebootCode sess = none := by
      have h' : s.begin_.session? sess = none := h
      simp only [Dev.rebootCode, h']
    refine .done ?_
    simp only [exec, execReboot, hcode]
  · exact congrArg s.done (Dev.bootComplete_none (d := s.begin_) hst hp hs hv fallback hd)

end Sys2Proof.Machine
end

section
/-! PROOFS. The obligation on power commands, which fails where a slot of the session table is listed twice (R466). -/
namespace Sys2Proof.Machine

open Sys2Proof

/-- An open session of the service port on service data. -/
def usbSession (id : Nat) : Sess := { id := id, port := 0, via := 3, peer := 0, rxSeq := 0 }

/-- A device in Standby whose slot 1 is listed twice, for sessions 2 and 1: session 1 is found in the slot, whose first record names session 2. -/
def slotTwice : State :=
  { State.reset with dev := { State.reset.dev with
      sys := { st := .standby, verified := true }, com := { sess := [(1, usbSession 2), (1, usbSession 1)] } } }

theorem slotTwice_serves : slotTwice.Serves 1 0x2108 := ⟨usbSession 2, by decide +kernel⟩

/-- An image downloaded in session 1 starts a long operation of session 2. -/
theorem slotTwice_op : (slotTwice.begin_.write (usbSession 2) 0x2108 2 [0]).1.com.op.map Op.sess = some 2 := by decide +kernel

/-- Refutes O60: its clause on an accepted image says that the operation is that of the session named by the command, in every state; the model
takes the session from the slot's record, and in `slotTwice`, whose table lists a
slot twice (its keys do not rise strictly, as those of a table that `Table.set` writes do), they differ. -/
theorem not_powerCommandsMoveTheDeviceBetweenStates : ¬ Obligations.PowerCommandsMoveTheDeviceBetweenStates := by
  unfold Obligations.PowerCommandsMoveTheDeviceBetweenStates
  rintro ⟨-, -, -, -, -, -, hupdate, -⟩
  obtain ⟨-, -, -, -, haccepted⟩ := hupdate slotTwice 1 1 [0] slotTwice_serves
  obtain ⟨t, ht, -, hbody, -⟩ := haccepted _ (by decide) (.inr (by decide)) (by decide) (by decide) (by decide) rfl
  have hexec : exec (.firmwareUpdate 1 1 [0]) slotTwice =
      slotTwice.done ((slotTwice.begin_.write (usbSession 2) 0x2108 2 [0]).1.emit
        (.answer 1 (slotTwice.begin_.write (usbSession 2) 0x2108 2 [0]).2)) :=
    hostObject_served (s := slotTwice) (sess := 1) (idx := 0x2108) (sub := 2) (b := [0]) (x := usbSession 2) (by decide +kernel) rfl rfl rfl (by decide)
      (by decide)
  obtain rfl := Host.Outcome.next.inj (ht.symm.trans hexec)
  have hop : (slotTwice.begin_.write (usbSession 2) 0x2108 2 [0]).1.com.op.map Op.sess = some 1 :=
    congrArg (fun d : Dev => d.com.op.map Op.sess) hbody
  rw [slotTwice_op] at hop
  exact absurd hop (by decide)

end Sys2Proof.Machine
end
